-- ==== Sys2Proof/Word.lean ====
section
/-!
DEFINITION. The word types of the GZ-760: the native word has 20 bits (spec 00, Numbers and words),
a packet field 24 bits (R4), an energy register 60 bits (R5).
-/

namespace Sys2Proof

/-- The native word, 20 bits (00). -/
abbrev Word := BitVec 20

/-- One byte. -/
abbrev Byte := BitVec 8

/-- A packet field of 24 bits (00 R4, 04 R79). -/
abbrev Field := BitVec 24

end Sys2Proof
end

