-- ==== Sys2Proof/Syntax.lean ====
section
/-!
DEFINITION. The commands of the GZ-760: one constructor of `Instr` per row of spec/opcode_table.json, with the
operands the row takes from outside the part. An opcode row is the landing of a packet that has passed steps 1 to 7
of 04 R82; an event row is what the outside world, or time, does to the part.
-/

namespace Sys2Proof

/-- The three command ports (04, The three ports). -/
inductive PortId where
  | host
  | maint
  | chain
  deriving DecidableEq, Repr

/-- The two Vexvea links of a part (11): towards position 0 and away from it. -/
inductive Side where
  | up
  | dn
  deriving DecidableEq, Repr

/-- What a landing packet carries besides its parameters: the port it came by, its TAG and its NOREPLY flag
(04 R77, R78). -/
structure Land where
  port : PortId
  tag : Byte
  noreply : Bool
  deriving DecidableEq, Repr

/-- A rail of the panel and the level it stands at in mV (14 R325): 0 PAVDD, 1 VGL, 2 VGH, 3 VCOM. -/
structure RailRead where
  rail : Fin 4
  mv : Int
  deriving DecidableEq, Repr

/-- The voltages and the harvested power as PD1 measures them once in 1 ms (02 VRES_MEAS, HARV_POWER), and the core rail,
which the SLOW class watches (13 R287). -/
structure Supply where
  vresMv : Nat
  vauxMv : Nat
  vbcMv : Nat
  vcoreMv : Nat
  harvQmw : Nat
  deriving DecidableEq, Repr

/-- What the outside world gives the part over the tick that a TICK_BOUNDARY ends: the 512 modulator bits of each of
the eleven converters, newest in bit 0 (05 R111); a new measurement of the supplies when one fell in the tick; the
levels the board drives on GP0 to GP7 (15); the level of the TEST lead (18 R376). -/
structure TickIn where
  bits : List (BitVec 512)
  supply : Option Supply
  gp : BitVec 8
  test : Bool
  deriving DecidableEq, Repr

/-- A Vexvea frame as it arrives (11 R250, R254): the link it came by, its destination and source positions, its
link tag, its payload bytes, and whether its CRC passed. -/
structure RxFrame where
  side : Side
  dest : BitVec 2
  src : BitVec 2
  ltag : Byte
  payload : List Byte
  crcOk : Bool
  deriving DecidableEq, Repr

/-- One command per row of the table. -/
inductive Instr where
  -- opcodes (04 R86)
  | nop (l : Land)
  | rd (l : Land) (regs : List (BitVec 12))
  /-- `flip`: the disturbance of the bus integrity code on its way (04 R108). -/
  | wr (l : Land) (flip : BitVec 6) (pairs : List (BitVec 12 × Word))
  | rmw (l : Land) (flip : BitVec 6) (triples : List (BitVec 12 × Word × Word))
  | commit (l : Land) (groups : BitVec 5)
  | snap (l : Land) (regs : List (BitVec 12))
  | memRd (l : Land) (va : BitVec 24) (count : Nat)
  | memWr (l : Land) (va : BitVec 24) (data : List Byte)
  | fetchAdd (l : Land) (va : BitVec 24) (operand : BitVec 32)
  | swap (l : Land) (va : BitVec 24) (operand : BitVec 32)
  | cmpSwap (l : Land) (va : BitVec 24) (compare new : BitVec 32)
  | convertNow (l : Land) (entry : Word)
  | query (l : Land)
  | pause (l : Land)
  | resume (l : Land)
  | select (l : Land) (slice : BitVec 4)
  | recClear (l : Land)
  | recMark (l : Land) (p0 p1 p2 : Word)
  | dispRect (l : Land) (x0 y0 width height : Nat)
  | dispBlink (l : Land) (fields : List Field)
  | dispPowerUp (l : Land)
  | dispPowerDown (l : Land)
  | authChal (l : Land)
  /-- The 18 key bytes as sent, first byte highest, and the nonce of the packet (04 R104). -/
  | keyLoad (l : Land) (slot : Bool) (keyBytes : BitVec 144) (nonce : BitVec 72)
  | cfgSave (l : Land)
  | calSeal (l : Land)
  | energyPreset (l : Land) (q : BitVec 4) (value : BitVec 60)
  | chainEnum (l : Land)
  | resetSoft (l : Land) (key : Field)
  -- register writes with behaviour of their own
  | halt (p : PortId)
  | go (p : PortId)
  | saveNow (p : PortId)
  | arm (p : PortId)
  | force (p : PortId)
  | stop (p : PortId)
  | freeze (p : PortId) (on : Bool)
  | wakeCtrl (p : PortId) (v : Word)
  | recCursor (p : PortId) (v : Word)
  | lowResSel (p : PortId) (v : Word)
  | pwrCeil (p : PortId) (v : Word)
  /-- `arming`: TAMP_ARM when true, TAMP_EN when false. -/
  | tampCfg (p : PortId) (arming : Bool) (v : Word)
  | sealedRegisterWrite (p : PortId) (n : BitVec 12) (v : Word)
  | recStageCfg (p : PortId) (v : Word)
  | flEn (p : PortId) (v : Word)
  | domainReq (p : PortId) (v : Word)
  | procStart (p : PortId) (v : Word)
  | registerWrite (p : PortId) (n : BitVec 12) (v : Word)
  -- ports
  /-- The bytes that follow the frame code until HCS rises, and the cycle of the last HSCK edge of the CRC. -/
  | hostPacketWrite (cyc : Nat) (bytes : List Byte)
  /-- A reply read of `n` bytes. -/
  | replyRead (n : Nat)
  /-- The characters between two delimiters as samples of MRX, 16 to a bit, earliest in bit 0 (16 R366): of each character
  its start bit and its eight data bits, from the edge of the start bit on, and of each character its stop bit. -/
  | maintFrame (cyc : Nat) (chars : List (BitVec 144)) (stops : List (BitVec 16))
  | maintGapTimeout
  | pktFrame (cyc : Nat) (f : RxFrame)
  | rplFrame (f : RxFrame)
  | forwardTimeout (p : PortId)
  | deniedReply (p : PortId)
  /-- `now`: the 32.768 kHz oscillator's count of periods. -/
  | nonceStale (p : PortId) (now : Nat)
  | authLockEnd (now : Nat)
  | maintReplyTransmit
  | mtxRelease
  -- power
  | pd1Start (vresMv vauxMv : Nat)
  | coldStart (vresMv : Nat)
  | coreResetRelease (test : Bool)
  | pfail (vresMv : Nat)
  | hardOff (vresMv : Nat)
  | shuntOn (vresMv : Nat)
  | lowRes (vresMv : Nat)
  | autoSettleFullRequest (vresMv : Nat)
  | vauxUp (vauxMv : Nat)
  | vauxDown (vresMv : Nat)
  | vbcLow (vbcMv : Nat)
  | floorRevoke (vresMv : Nat)
  | domainRampEnd (d : Fin 12)
  | gaspBureauClose
  | gaspEnergySave
  | gaspPanelDischarge
  /-- The lowest VRES of the GASP. -/
  | gaspEnd (vresMinMv : Nat)
  -- sequencer
  | tickBoundary (e : TickIn)
  | coldEnd
  | loadEnd
  | holdRestore
  | orderlyStop
  | softResetApply
  | cfgMismatch
  | wake
  -- line, cycle, window
  | flywheelCrossing
  | nominalCrossing
  | acquireTimeout
  | halfCycleBoundary
  | cyclePublication
  | harmonicPublication
  | bgShort
  -- energy
  | periodicSave
  | energySaveDone (ok : Bool)
  | energySectorEraseDone
  | cfPulseStart (ch : Fin 4)
  | cfPulseEnd (ch : Fin 4)
  -- slices and Stool
  | stoolStepEnd
  | takeover
  | handback
  | takeoverAbandon
  | handbackStall
  | rotationDone
  | overrange (conv : Fin 11) (negative : Bool)
  /-- The HB1 sample that completes the qualification of guard `g`. -/
  | peak (g : Fin 6) (hb1 : Int)
  -- process loops
  | procTimerFire
  | trigEdge (rising : Bool) (cyc : Nat)
  | procDelayEnd
  | lineBoundary
  | fixedWindowClose
  | pwmTimeout
  /-- What the integrator measured: net packets, signed run-down count, window length in CCLK periods, saturation. -/
  | runDownEnd (pair : Fin 9) (integB : Bool) (net rd : Int) (w : Nat) (sat : Bool)
  | detBlockDone (d : Fin 4)
  | filtSettlingEnd (s : Fin 11)
  -- capture, memory
  | capQueueDrain
  | capDone
  | memoryRequest (r : Fin 8)
  | arbStarve (r : Fin 8)
  | bankInitDone (bank : Fin 2)
  | scrubStep
  | scrubYield
  -- chain
  | mrqFrame (f : RxFrame)
  | mrqService
  | mrsFrame (f : RxFrame)
  | mrqBusyRetry
  | remoteTimeout
  | enumFrame (f : RxFrame)
  | enumRspFrame (f : RxFrame)
  /-- Whether the upstream pair shows a peer's termination. -/
  | wiringTest (wired : Bool)
  | idleByte (side : Side) (b : Byte)
  | linkUp (side : Side)
  | linkDown (side : Side)
  -- Bureau
  | coalesceTimeout
  | hourRoll
  | recordStage
  | recordProgramDone (ok : Bool)
  | bureauEraseDone
  | timeStoreEntry (ok : Bool)
  -- tamper, cupboard, evidence, seal
  | loopTest (loop : Bool) (ohms : Nat) (now : Nat)
  | cell (now : Nat)
  | glitch (now : Nat)
  | slow (now : Nat)
  | tempRead (tempC : Int) (now : Nat)
  | shadowCompare (now : Nat)
  | evidenceProgramDone (ok : Bool)
  | sealCheck
  | cfgSaveDone
  | calSealDone
  | pd0PowerUp
  -- display
  | frameStart
  | rowRefresh
  | rectCopyStep
  | pavddOn
  | vglOn
  | vghOn
  | vcomOn
  | panelStart
  | railFault (r : RailRead)
  | crackTest (ohms : Nat)
  | discharge
  | dischargeEnd
  | flOn
  | dispTempRead (tempC : Int)
  | parkEnd (lead : Fin 8)
  | enumTimeout
  | chainCtrl (p : PortId) (v : Word)
  | auxCtrl (p : PortId) (v : Word)
  | aonSourceChange (vresMv vbcMv : Nat)
  | allSourcesLost
  | timeStoreEraseDone
  | maintReplySent
  deriving DecidableEq, Repr

end Sys2Proof
end

