-- ==== Sys2Proof/Decode.lean ====
section
/-!
DEFINITION. Commands that a word spells by the table's bits. The table gives no row any bits (log entry 23).
-/

namespace Sys2Proof

/-- No row of spec/opcode_table.json gives bits, so no word spells a command. -/
def decodeTableWord (_nbits _w : Nat) : Option Instr := none

end Sys2Proof
end

