-- ==== Sys2Proof/Config.lean ====
section
/-!
DEFINITION. What the spec leaves open and the model keeps free: constants without a body, so that no proof can
see a value of them. The constants the spec states stand beside the operations that use them.
-/

namespace Sys2Proof

/-- The nonce that AUTH_CHAL draws from the internal random source (04 R102), as a function of the State counter
`free` that dates the draw. Free value, log entry 5. -/
opaque Config.nonce : Nat → BitVec 72

/-- The front's fixed scale: 1/16 codes for one unit of the sinc³ sum (07 R156 fixes it by the full scale of R110, but
no chapter states the bit density of the modulator at full scale). It is below 64, since the front carries 21 integer
and 4 fraction bits. Free value, log entry 6. -/
opaque Config.sincGain : BitVec 6

/-- What a byte of a sector reads as whose erase was abandoned (02 R43: bits that read 0 before may read 0 or 1,
and differently on different reads), by NVM byte number and draw. Free value, log entry 7. -/
opaque Config.abandonedByte : Nat → Nat → Byte

/-- Which of several NVM users that are ready at one boundary starts first (no chapter orders them), by the number
of the draw. Free value, log entry 8. -/
opaque Config.nvmPick : Nat → Nat

/-- How far a CFG_SAVE, or a CAL_SEAL that erases first, has come when PFAIL or the hard off meets it (02 R43 says what
becomes of each of its steps, and no chapter says when a step ends): 0 the erase, k in 1 to 32 its k-th unit, above
that the verify. By the number of the draw. Free value, log entry 20. -/
opaque Config.saveProgress : Nat → Nat

/-- POL in a row without active pixels, by DISP_FRAME_CNT and row (14 R316 gives it by the row's first pixel, which such a row
has not). Free value, log entry 104. -/
opaque Config.blankPol : Nat → Nat → Bool

/-- What a byte holds whose program failed its verify (08 R187, 12 R274, 13 R300: the slot is left as it is), by NVM
byte number and draw. Free value, log entry 21. -/
opaque Config.failedByte : Nat → Nat → Byte

end Sys2Proof
end

