-- ==== Sys2Proof/Machine/Operands.lean ====
section
/-!
DEFINITION. Operand forms and arithmetic shared by every command: bit fields of words, sparse tables in canonical
form, the arithmetic of 00 R12 (sat20, wrap60, truncating division, arithmetic shift), isqrt (07 R169), the CRCs of
04 R81 and 13 R299, and the conversions between words and bytes.
-/

namespace Sys2Proof.Machine

/-! ### Bit fields -/

/-- The field of `len` bits at `lo` of a natural number. -/
def bitsOf (v lo len : Nat) : Nat := (v >>> lo) % 2 ^ len

/-- The field of `len` bits at `lo` of a word. -/
def fld (w : Word) (lo len : Nat) : Nat := bitsOf w.toNat lo len

/-- Bit `i` of a word. -/
def bitAt (w : Word) (i : Nat) : Bool := w.getLsbD i

/-- A natural number as a 20-bit word, modulo 2^20. -/
def wd (n : Nat) : Word := BitVec.ofNat 20 n

/-- An integer as a 20-bit two's complement word, modulo 2^20. -/
def wdI (i : Int) : Word := BitVec.ofInt 20 i

/-- The word with the field of `len` bits at `lo` replaced by `v`. -/
def setFld (w : Word) (lo len v : Nat) : Word :=
  wd (w.toNat - (fld w lo len) * 2 ^ lo + (v % 2 ^ len) * 2 ^ lo)

/-- A Boolean as a number. -/
def b2n (b : Bool) : Nat := if b then 1 else 0

/-- Mask `m` given as a number, as a word. -/
def maskAnd (w : Word) (m : Nat) : Word := w &&& wd m

/-- A counter field one higher, stopping at `top`. -/
def satInc (n top : Nat) : Nat := if n < top then n + 1 else top

/-- A signed value of `len` bits. -/
def signOf (v len : Nat) : Int := if v < 2 ^ (len - 1) then (v : Int) else (v : Int) - (2 ^ len : Nat)

/-! ### Lists of fixed length -/

/-- Element `i`, or the default. -/
def nth {α : Type} (l : List α) (i : Nat) (d : α) : α := l.getD i d

/-- The list with element `i` replaced. -/
def setNth {α : Type} (l : List α) (i : Nat) (a : α) : List α := l.set i a

/-- The list with element `i` changed by `f`. -/
def modNth {α : Type} (l : List α) (i : Nat) (f : α → α) : List α := l.modify i f

/-- `f` applied to each element with its position. -/
def mapIdxFrom {α β : Type} (f : Nat → α → β) : Nat → List α → List β
  | _, [] => []
  | i, a :: r => f i a :: mapIdxFrom f (i + 1) r

/-- `f` applied to each element with its position from 0. -/
def mapIx {α β : Type} (f : Nat → α → β) (l : List α) : List β := mapIdxFrom f 0 l

/-- The numbers 0 to n − 1. -/
def upto (n : Nat) : List Nat := List.range n

/-- The sum of a list of integers. -/
def sumI (l : List Int) : Int := l.foldl (· + ·) 0

/-- The sum of a list of natural numbers. -/
def sumN (l : List Nat) : Nat := l.foldl (· + ·) 0

/-! ### Sparse tables: entries in rising order of key, none equal to the default of its key -/

/-- The entry at key `k`, or its default. -/
def sget {α : Type} (d : Nat → α) : List (Nat × α) → Nat → α
  | [], k => d k
  | (j, a) :: r, k => if j = k then a else sget d r k

/-- The table with key `k` set to `v`, in canonical form. -/
def sset {α : Type} [DecidableEq α] (d : Nat → α) : List (Nat × α) → Nat → α → List (Nat × α)
  | [], k, v => if v = d k then [] else [(k, v)]
  | (j, a) :: r, k, v =>
    if j < k then (j, a) :: sset d r k v
    else if j = k then (if v = d k then r else (k, v) :: r)
    else if v = d k then (j, a) :: r else (k, v) :: (j, a) :: r

/-- The keys rise strictly from above `lo`, and no entry equals its default. -/
def swfFrom {α : Type} [DecidableEq α] (d : Nat → α) : Option Nat → List (Nat × α) → Bool
  | _, [] => true
  | lo, (j, a) :: r =>
    (match lo with | none => true | some l => decide (l < j)) && !decide (a = d j) && swfFrom d (some j) r

/-- The table is in canonical form. -/
def swf {α : Type} [DecidableEq α] (d : Nat → α) (m : List (Nat × α)) : Bool := swfFrom d none m

/-- Consecutive entries set from key `k` on. -/
def sputs {α : Type} [DecidableEq α] (d : Nat → α) (m : List (Nat × α)) (k : Nat) : List α → List (Nat × α)
  | [] => m
  | v :: r => sputs d (sset d m k v) (k + 1) r

/-- `n` consecutive entries from key `k`. -/
def sgets {α : Type} (d : Nat → α) (m : List (Nat × α)) (k n : Nat) : List α :=
  (upto n).map (fun i => sget d m (k + i))

/-- Entries whose key satisfies `p`, the others dropped (so that they read as default). -/
def sfilter {α : Type} (p : Nat → Bool) (m : List (Nat × α)) : List (Nat × α) := m.filter (fun e => p e.1)

/-! ### Arithmetic (00 R12) -/

/-- 2^19 − 1, the largest magnitude of a signed result (00 R3). -/
def maxCode : Int := 524287

/-- `x` limited to ±`m`. -/
def clampI (x m : Int) : Int := if x > m then m else if x < -m then -m else x

/-- sat20 of 00 R12. -/
def sat20 (x : Int) : Int := clampI x maxCode

/-- Whether sat20 clamps `x`. -/
def clamps20 (x : Int) : Bool := decide (x > maxCode) || decide (x < -maxCode)

/-- wrap60 of 00 R12. -/
def wrap60 (n : Nat) : Nat := n % 2 ^ 60

/-- Division truncating toward zero (00 R12). -/
def tdiv (a b : Int) : Int := Int.tdiv a b

/-- Arithmetic shift right, toward minus infinity (00 R12). -/
def asr (a : Int) (n : Nat) : Int := Int.fdiv a (2 ^ n : Nat)

/-- One bit step of the integer square root: the bit is kept when its square still fits. -/
def isqrtFrom (n : Nat) : Nat → Nat → Nat
  | 0, r => r
  | k + 1, r =>
    let c := r + 2 ^ k
    if c * c ≤ n then isqrtFrom n k c else isqrtFrom n k r

/-- The integer square root, rounded down (07 R169), of a number below 2^160. -/
def isqrt (n : Nat) : Nat := isqrtFrom n 80 0

/-- The nearest integer to a/b for b > 0, halves away from minus infinity. -/
def divNear (a : Int) (b : Nat) : Int := Int.fdiv (2 * a + b) (2 * b)

/-! ### Bytes and words -/

/-- Byte `i` (0 least significant) of a number. -/
def byteAt (v i : Nat) : Byte := BitVec.ofNat 8 (v / 2 ^ (8 * i))

/-- `n` bytes of a number, least significant first (04 R88). -/
def leBytes (v n : Nat) : List Byte := (upto n).map (byteAt v)

/-- `n` bytes of a number, most significant first (04 R79). -/
def beBytes (v n : Nat) : List Byte := (leBytes v n).reverse

/-- The number whose bytes these are, least significant first. -/
def ofLe : List Byte → Nat
  | [] => 0
  | b :: r => b.toNat + 256 * ofLe r

/-- The number whose bytes these are, most significant first. -/
def ofBe (l : List Byte) : Nat := l.foldl (fun a b => a * 256 + b.toNat) 0

/-- `n` copies of 0xFF. -/
def ffs (n : Nat) : List Byte := List.replicate n 0xFF

/-! ### Check codes -/

/-- One bit of CRC-16/CCITT (04 R81). -/
def crc16Bit (c : Nat) : Nat := if c < 32768 then c * 2 else (c * 2) % 65536 ^^^ 0x1021

/-- One byte of CRC-16/CCITT. -/
def crc16Byte (c : Nat) (b : Byte) : Nat :=
  crc16Bit (crc16Bit (crc16Bit (crc16Bit (crc16Bit (crc16Bit (crc16Bit (crc16Bit (c ^^^ (b.toNat * 256)))))))))

/-- CRC-16/CCITT of 04 R81: polynomial 0x1021, initial value 0xFFFF, most significant bit first. -/
def crc16 (l : List Byte) : Nat := l.foldl crc16Byte 0xFFFF

/-- One bit of the reflected CRC-32. -/
def crc32Bit (c : Nat) : Nat := if c % 2 = 1 then (c / 2) ^^^ 0xEDB88320 else c / 2

/-- One byte of the reflected CRC-32. -/
def crc32Byte (c : Nat) (b : Byte) : Nat :=
  crc32Bit (crc32Bit (crc32Bit (crc32Bit (crc32Bit (crc32Bit (crc32Bit (crc32Bit (c ^^^ b.toNat))))))))

/-- CRC-32 of 13 R299. -/
def crc32 (l : List Byte) : Nat := l.foldl crc32Byte 0xFFFFFFFF ^^^ 0xFFFFFFFF

/-! ### Sequence numbers -/

/-- A 20-bit number `b` is later than `a` (03 R54): the difference lies in 1 to 2^19 − 1. -/
def laterSeq (b a : Nat) : Bool :=
  let d := (b + 1048576 - a) % 1048576
  decide (1 ≤ d) && decide (d ≤ 524287)

end Sys2Proof.Machine
end

