-- ==== Sys2Proof/Machine/Aes.lean ====
section
/-!
DEFINITION. AES-128 and AES-128-CMAC, named by 00 (Standards and names) and used by 04 R103, R104 and 13 R304.
A block is a list of 16 numbers below 256, first byte first.
-/

namespace Sys2Proof.Machine

/-- The AES S-box as one number, entry x in bits [8x+7:8x]. -/
def aesBox : Nat :=
  0x16bb54b00f2d99416842e6bf0d89a18cdf2855cee9871e9b948ed9691198f8e19e1dc186b95735610ef6034866b53e708a8bbd4b1f74dde8c6b4a61c2e2578ba08ae7a65eaf4566ca94ed58d6d37c8e779e4959162acd3c25c2406490a3a32e0db0b5ede14b8ee4688902a22dc4f816073195d643d7ea7c41744975fec130ccdd2f3ff1021dab6bcf5389d928f40a351a89f3c507f02f94585334d43fbaaefd0cf584c4a39becb6a5bb1fc20ed00d153842fe329b3d63b52a05a6e1b1a2c830975b227ebe28012079a059618c323c7041531d871f1e5a534ccf73f362693fdb7c072a49cafa2d4adf04759fa7dc982ca76abd7fe2b670130c56f6bf27b777c63

/-- SubBytes of one byte. -/
def subByte (x : Nat) : Nat := (aesBox >>> (8 * x)) % 256

/-- Multiplication by x in GF(2^8). -/
def xtime (a : Nat) : Nat := if a < 128 then 2 * a else (2 * a) % 256 ^^^ 0x1B

/-- Byte-wise exclusive or. -/
def xorBlock : List Nat → List Nat → List Nat
  | a :: r, b :: q => (a ^^^ b) :: xorBlock r q
  | _, _ => []

/-- ShiftRows on a block in column order. -/
def shiftRows (b : List Nat) : List Nat :=
  [0, 5, 10, 15, 4, 9, 14, 3, 8, 13, 2, 7, 12, 1, 6, 11].map (fun i => nth b i 0)

/-- MixColumns on a block in column order. -/
def mixColumns : List Nat → List Nat
  | a :: b :: c :: d :: r =>
    let t := a ^^^ b ^^^ c ^^^ d
    (a ^^^ t ^^^ xtime (a ^^^ b)) :: (b ^^^ t ^^^ xtime (b ^^^ c)) ::
      (c ^^^ t ^^^ xtime (c ^^^ d)) :: (d ^^^ t ^^^ xtime (d ^^^ a)) :: mixColumns r
  | _ => []

/-- The next round key, with round constant `rc`. -/
def nextKey (rc : Nat) (k : List Nat) : List Nat :=
  let g := [13, 14, 15, 12].map (fun i => subByte (nth k i 0))
  let w0 := xorBlock (k.take 4) (xorBlock g [rc, 0, 0, 0])
  let w1 := xorBlock (k.drop 4) w0
  let w2 := xorBlock (k.drop 8) w1
  let w3 := xorBlock (k.drop 12) w2
  w0 ++ w1 ++ w2 ++ w3

/-- The rounds from the one with constant list `rcs` on: the last has no MixColumns. -/
def aesRounds : List Nat → List Nat → List Nat → List Nat
  | [], _, b => b
  | [rc], k, b => xorBlock (shiftRows (b.map subByte)) (nextKey rc k)
  | rc :: rcs, k, b =>
    let k' := nextKey rc k
    aesRounds rcs k' (xorBlock (mixColumns (shiftRows (b.map subByte))) k')

/-- AES-128 of a block under a key. -/
def aes (key block : List Nat) : List Nat :=
  aesRounds [1, 2, 4, 8, 16, 32, 64, 128, 27, 54] key (xorBlock key block)

/-- Doubling in GF(2^128), for the CMAC subkeys. -/
def dblBlock (b : List Nat) : List Nat :=
  let v := b.foldl (fun a x => a * 256 + x) 0
  let d := (2 * v) % 2 ^ 128
  let e := if v < 2 ^ 127 then d else d ^^^ 0x87
  (upto 16).map (fun i => (e >>> (8 * (15 - i))) % 256)

/-- The chaining of CMAC over the blocks of `m`; the last block is completed and masked with a subkey. -/
def cmacFrom (key k1 k2 : List Nat) : Nat → List Nat → List Nat → List Nat
  | 0, x, _ => x
  | fuel + 1, x, m =>
    if m.length ≤ 16 then
      let last :=
        if m.length = 16 then xorBlock m k1
        else xorBlock (m ++ 128 :: List.replicate (15 - m.length) 0) k2
      aes key (xorBlock x last)
    else cmacFrom key k1 k2 fuel (aes key (xorBlock x (m.take 16))) (m.drop 16)

/-- AES-128-CMAC of a message of at most 64 blocks. -/
def cmac (key msg : List Nat) : List Nat :=
  let l := aes key (List.replicate 16 0)
  let k1 := dblBlock l
  cmacFrom key k1 (dblBlock k1) 64 (List.replicate 16 0) msg

/-- The 16 bytes of a key, k0 first. -/
def keyBytes (k : BitVec 128) : List Nat :=
  (upto 16).map (fun i => (k.toNat >>> (8 * (15 - i))) % 256)

/-- The key made of 16 bytes, k0 first. -/
def keyOf (l : List Nat) : BitVec 128 := BitVec.ofNat 128 (l.foldl (fun a x => a * 256 + x) 0)

end Sys2Proof.Machine
end

