-- ==== Sys2Proof/Machine/RegTable.lean ====
section
/-!
DEFINITION. The register index (18 R374 to R376): every assigned register number with the bits of each access code
(00 R8), its reset value, whether PD0 retains it, and whether the settings image holds it (17 R370).
-/

namespace Sys2Proof.Machine

/-- A run of registers of one kind. Masks of the bits with access RW, SN, SH, W1C and WO; every other bit is RO or
reserved. -/
structure RegRow where
  lo : Nat
  hi : Nat
  rw : Nat := 0
  sn : Nat := 0
  sh : Nat := 0
  w1c : Nat := 0
  wo : Nat := 0
  reset : Nat := 0
  /-- Retained in PD0 AON (18 R375, marker ret.). -/
  ret : Bool := false
  /-- Saved in the settings image, where a field is RW, SN or SH (17 R370). -/
  img : Bool := true

/-- Banks 0x000 to 0x200: system, power, sequencer, ports (18). -/
def rowsSystem : List RegRow := [
  { lo := 0x000, hi := 0x003, w1c := 0xFFFFF },
  { lo := 0x004, hi := 0x00F, rw := 0xFFFFF },
  { lo := 0x010, hi := 0x010 },
  { lo := 0x100, hi := 0x104 },
  { lo := 0x108, hi := 0x108, sn := 0xFFF, reset := 0xA87 },
  { lo := 0x109, hi := 0x109 },
  { lo := 0x10A, hi := 0x10A, rw := 0x1F0, sn := 0x1, reset := 0x40 },
  { lo := 0x110, hi := 0x112 },
  { lo := 0x113, hi := 0x113, rw := 0xFFFFF, reset := 0x1E0 },
  { lo := 0x114, hi := 0x114, rw := 0xFFFFF, reset := 0x7D0 },
  { lo := 0x115, hi := 0x115, rw := 0x3F3F, reset := 0x2D0A },
  { lo := 0x116, hi := 0x116, rw := 0x33, reset := 0x23 },
  { lo := 0x118, hi := 0x118, ret := true },
  { lo := 0x180, hi := 0x181 },
  { lo := 0x182, hi := 0x182, wo := 0x3 },
  { lo := 0x183, hi := 0x183 },
  { lo := 0x184, hi := 0x184, sh := 0xFFF },
  { lo := 0x185, hi := 0x185, sh := 0x7FFF },
  { lo := 0x186, hi := 0x186, sh := 0x7FF },
  { lo := 0x187, hi := 0x187, sh := 0xFFF },
  { lo := 0x188, hi := 0x18F },
  { lo := 0x190, hi := 0x190, rw := 0xF },
  { lo := 0x191, hi := 0x194 },
  { lo := 0x196, hi := 0x196, rw := 0xFFFF },
  { lo := 0x197, hi := 0x197 },
  { lo := 0x200, hi := 0x200, rw := 0x3F0F, reset := 0x801 },
  { lo := 0x201, hi := 0x201 },
  { lo := 0x202, hi := 0x204, rw := 0xFFFFF, img := false },
  { lo := 0x208, hi := 0x209, ret := true }]

/-- Banks 0x280 to 0x380: slices and Stool, process, filters (18). -/
def rowsStreams : List RegRow := [
  { lo := 0x280, hi := 0x289, sn := 0x107 },
  { lo := 0x28A, hi := 0x28A, rw := 0xFF },
  { lo := 0x28B, hi := 0x28D },
  { lo := 0x290, hi := 0x299, sn := 0xFFFFF, reset := 0x80000 },
  { lo := 0x2A0, hi := 0x2A9, sn := 0xFFFFF },
  { lo := 0x2B0, hi := 0x2B9, sn := 0xFFFF },
  { lo := 0x2C0, hi := 0x2CA },
  { lo := 0x2D0, hi := 0x2DA },
  { lo := 0x2E0, hi := 0x2E9 },
  { lo := 0x2F0, hi := 0x2F1 },
  { lo := 0x2F2, hi := 0x2F2, sn := 0x1, reset := 0x1 },
  { lo := 0x2F3, hi := 0x2F6 },
  { lo := 0x2F7, hi := 0x2F7, w1c := 0x7FF },
  { lo := 0x2F8, hi := 0x2FD, sn := 0x7FFFF, reset := 0x7FFFF },
  { lo := 0x2FE, hi := 0x2FE, sn := 0x33F },
  { lo := 0x2FF, hi := 0x2FF, w1c := 0x3F },
  { lo := 0x300, hi := 0x300, sn := 0x1FF },
  { lo := 0x301, hi := 0x301 },
  { lo := 0x302, hi := 0x303, sn := 0xFFFFF },
  { lo := 0x304, hi := 0x305, rw := 0xFFFFF, img := false },
  { lo := 0x306, hi := 0x306, w1c := 0x1FFFF },
  { lo := 0x307, hi := 0x307 },
  { lo := 0x308, hi := 0x308, rw := 0xFFFFF, reset := 0x0F544 },
  { lo := 0x309, hi := 0x309, rw := 0xFFFFF, reset := 0x706A1 },
  { lo := 0x30A, hi := 0x30A },
  { lo := 0x30B, hi := 0x30B, rw := 0xFF },
  { lo := 0x30C, hi := 0x30C, rw := 0xFFFFF, img := false },
  { lo := 0x310, hi := 0x31F, sn := 0xFF3FF },
  { lo := 0x320, hi := 0x341 },
  { lo := 0x348, hi := 0x34F, sn := 0xFFFFF, reset := 0x10000 },
  { lo := 0x350, hi := 0x357, sn := 0xFFFFF },
  { lo := 0x358, hi := 0x358, rw := 0x3F },
  { lo := 0x359, hi := 0x35A },
  { lo := 0x380, hi := 0x389, sn := 0x17 },
  { lo := 0x390, hi := 0x39A },
  { lo := 0x3A0, hi := 0x3A9, sh := 0x1FF },
  { lo := 0x3B0, hi := 0x3BA },
  { lo := 0x3C0, hi := 0x3C0, w1c := 0x2 },
  { lo := 0x3C1, hi := 0x3C1, w1c := 0x7FF },
  { lo := 0x3C2, hi := 0x3C2 },
  { lo := 0x3C8, hi := 0x3CB, sn := 0x10F },
  { lo := 0x3CC, hi := 0x3CF, sn := 0xFFFF },
  { lo := 0x3D0, hi := 0x3D3, sn := 0xFFFF, reset := 0x40 },
  { lo := 0x3D4, hi := 0x3D7, sn := 0x7FFFF, reset := 0x7FFFF },
  { lo := 0x3D8, hi := 0x3DF },
  { lo := 0x3E0, hi := 0x3E0, w1c := 0xF0 }]

/-- Banks 0x400 and 0x500: metering and energy, harmonics, power quality, capture (18). -/
def rowsLine : List RegRow := [
  { lo := 0x400, hi := 0x400, sn := 0xFF13, reset := 0x1400 },
  { lo := 0x401, hi := 0x402 },
  { lo := 0x403, hi := 0x403, reset := 0xF },
  { lo := 0x404, hi := 0x404, reset := 0xC350 },
  { lo := 0x405, hi := 0x409 },
  { lo := 0x40A, hi := 0x40A, w1c := 0x7 },
  { lo := 0x40C, hi := 0x40C, rw := 0xFF002, wo := 0x1, reset := 0xF000 },
  { lo := 0x40D, hi := 0x40E },
  { lo := 0x410, hi := 0x411, w1c := 0xFFF },
  { lo := 0x412, hi := 0x412, sn := 0x1F },
  { lo := 0x413, hi := 0x413, sn := 0xFFFFF },
  { lo := 0x418, hi := 0x424 },
  { lo := 0x428, hi := 0x431 },
  { lo := 0x434, hi := 0x445 },
  { lo := 0x450, hi := 0x459 },
  { lo := 0x45C, hi := 0x468 },
  { lo := 0x470, hi := 0x4B7 },
  { lo := 0x4C0, hi := 0x4C3, sn := 0x3F, reset := 0x3 },
  { lo := 0x4C4, hi := 0x4C4, sn := 0xFFFFF },
  { lo := 0x4C5, hi := 0x4C5, sn := 0xFFFFF, reset := 1 },
  { lo := 0x4C6, hi := 0x4C6, sn := 0xFFFFF },
  { lo := 0x4C7, hi := 0x4C7, sn := 0xFFFFF, reset := 1 },
  { lo := 0x4C8, hi := 0x4C8, sn := 0xFFFFF },
  { lo := 0x4C9, hi := 0x4C9, sn := 0xFFFFF, reset := 1 },
  { lo := 0x4CA, hi := 0x4CA, sn := 0xFFFFF },
  { lo := 0x4CB, hi := 0x4CB, sn := 0xFFFFF, reset := 1 },
  { lo := 0x4CC, hi := 0x4CC, w1c := 0xF0 },
  { lo := 0x4CD, hi := 0x4CD, rw := 0xFFFFF, img := false },
  { lo := 0x500, hi := 0x500, sn := 0x1 },
  { lo := 0x501, hi := 0x501, sn := 0xFFFFF },
  { lo := 0x502, hi := 0x503 },
  { lo := 0x504, hi := 0x504, rw := 0x1FF },
  { lo := 0x505, hi := 0x506 },
  { lo := 0x508, hi := 0x50E },
  { lo := 0x510, hi := 0x516 },
  { lo := 0x520, hi := 0x520, sn := 0x77 },
  { lo := 0x521, hi := 0x521, sn := 0x7FFFF },
  { lo := 0x522, hi := 0x522, sn := 0x7FF, reset := 0x39A },
  { lo := 0x523, hi := 0x523, sn := 0x7FF, reset := 0x466 },
  { lo := 0x524, hi := 0x524, sn := 0x7FF, reset := 0x33 },
  { lo := 0x525, hi := 0x525, sn := 0x7FF, reset := 0x14 },
  { lo := 0x526, hi := 0x526 },
  { lo := 0x527, hi := 0x529, rw := 0xFFFFF, img := false },
  { lo := 0x530, hi := 0x53E },
  { lo := 0x540, hi := 0x540, wo := 0x7 },
  { lo := 0x541, hi := 0x541, sn := 0x3F },
  { lo := 0x542, hi := 0x544, sn := 0xFFFFF },
  { lo := 0x545, hi := 0x545, w1c := 0x2000 },
  { lo := 0x546, hi := 0x549 },
  { lo := 0x54A, hi := 0x54B, rw := 0xFFFFF, img := false }]

/-- Banks 0x600 to 0x880 and 0xF00: memory, Dresser and chain, Bureau, tamper, display, pins, identification (18). -/
def rowsMemory : List RegRow := [
  { lo := 0x600, hi := 0x600, w1c := 0x10 },
  { lo := 0x601, hi := 0x604, rw := 0xFFFFF, img := false },
  { lo := 0x605, hi := 0x606 },
  { lo := 0x608, hi := 0x608, rw := 0xFFF, reset := 0x3C },
  { lo := 0x609, hi := 0x609 },
  { lo := 0x60A, hi := 0x60B, rw := 0xFFFFF, img := false },
  { lo := 0x60C, hi := 0x60C },
  { lo := 0x610, hi := 0x617, sh := 0x3FF },
  { lo := 0x618, hi := 0x61F },
  { lo := 0x620, hi := 0x620, rw := 0x1 },
  { lo := 0x621, hi := 0x621 },
  { lo := 0x622, hi := 0x622, rw := 0xFFFFF, reset := 0xC000 },
  { lo := 0x623, hi := 0x623, w1c := 0xFF },
  { lo := 0x624, hi := 0x624, rw := 0xFFFFF, img := false },
  { lo := 0x628, hi := 0x62F, rw := 0xFFFFF, img := false },
  { lo := 0x680, hi := 0x680, rw := 0x1F },
  { lo := 0x681, hi := 0x683, sh := 0xFFFFF, img := false },
  { lo := 0x684, hi := 0x684, sh := 0x3F, img := false },
  { lo := 0x685, hi := 0x68A },
  { lo := 0x68B, hi := 0x68C, rw := 0xFFFFF, img := false },
  { lo := 0x690, hi := 0x690, rw := 0x3 },
  { lo := 0x691, hi := 0x691 },
  { lo := 0x692, hi := 0x693, sh := 0xFFFFF },
  { lo := 0x694, hi := 0x694, sh := 0xF7 },
  { lo := 0x695, hi := 0x697 },
  { lo := 0x698, hi := 0x698, rw := 0xFFFFF, img := false },
  { lo := 0x699, hi := 0x69A },
  { lo := 0x69B, hi := 0x69C, rw := 0xFFFFF, img := false },
  { lo := 0x700, hi := 0x700, rw := 0xFFF, reset := 0x3C },
  { lo := 0x701, hi := 0x701 },
  { lo := 0x703, hi := 0x703, rw := 0xFF },
  { lo := 0x704, hi := 0x704, rw := 0xFFFFF },
  { lo := 0x705, hi := 0x705, rw := 0xFFFFF, img := false },
  { lo := 0x706, hi := 0x70B },
  { lo := 0x70C, hi := 0x70E, rw := 0xFFFFF, img := false },
  { lo := 0x70F, hi := 0x70F, ret := true },
  { lo := 0x710, hi := 0x719 },
  { lo := 0x720, hi := 0x72F, rw := 0xFFFF, reset := 0xFFFF },
  { lo := 0x780, hi := 0x780, rw := 0x7F, reset := 0x7F, ret := true },
  { lo := 0x781, hi := 0x781, rw := 0x7F, ret := true },
  { lo := 0x782, hi := 0x782 },
  { lo := 0x783, hi := 0x783, w1c := 0x7F, ret := true },
  { lo := 0x784, hi := 0x786, ret := true },
  { lo := 0x788, hi := 0x78E, rw := 0xF0FFF, reset := 0x10001, ret := true },
  { lo := 0x790, hi := 0x796, rw := 0xFFFFF, ret := true },
  { lo := 0x798, hi := 0x798, ret := true },
  { lo := 0x79A, hi := 0x79B },
  { lo := 0x7A0, hi := 0x7A2 },
  { lo := 0x7A3, hi := 0x7A3, ret := true },
  { lo := 0x7A4, hi := 0x7A4 },
  { lo := 0x800, hi := 0x800, rw := 0x3F3D, reset := 0x18 },
  { lo := 0x801, hi := 0x801, rw := 0x1FFFF, reset := 0x140F0 },
  { lo := 0x802, hi := 0x802, rw := 0xFF, reset := 0x8 },
  { lo := 0x803, hi := 0x803, rw := 0xFFFFF, reset := 0x64118 },
  { lo := 0x804, hi := 0x804, rw := 0xFFFFF, reset := 0x40046 },
  { lo := 0x805, hi := 0x805, rw := 0xFF3FF, reset := 0x64000 },
  { lo := 0x806, hi := 0x807, rw := 0xFFFFF },
  { lo := 0x808, hi := 0x808, rw := 0x1F },
  { lo := 0x809, hi := 0x809, rw := 0x3FFFF, reset := 0xA036 },
  { lo := 0x80A, hi := 0x80A, rw := 0xFFFF, reset := 0x1124 },
  { lo := 0x80B, hi := 0x80D },
  { lo := 0x80E, hi := 0x80E, w1c := 0xF000 },
  { lo := 0x80F, hi := 0x80F, rw := 0xFFFFF, img := false },
  { lo := 0x810, hi := 0x810, rw := 0x1FF3F },
  { lo := 0x811, hi := 0x811 },
  { lo := 0x820, hi := 0x82F },
  { lo := 0x880, hi := 0x880, sh := 0xFFFFF },
  { lo := 0x881, hi := 0x881, sh := 0xFFF },
  { lo := 0x882, hi := 0x884 },
  { lo := 0x885, hi := 0x885, sn := 0xFF },
  { lo := 0x886, hi := 0x886 },
  { lo := 0xF00, hi := 0xF00, reset := 0x7600, img := false },
  { lo := 0xF01, hi := 0xF01, reset := 0x2, img := false },
  { lo := 0xF03, hi := 0xF03, img := false },
  { lo := 0xF04, hi := 0xF04, rw := 0xFFFFF, img := false }]

/-- The whole register index. -/
def regRows : List RegRow := rowsSystem ++ (rowsStreams ++ (rowsLine ++ rowsMemory))

/-- The row that assigns register number `n`, when one does. -/
def findRow (n : Nat) : List RegRow → Option RegRow
  | [] => none
  | r :: rs => if r.lo ≤ n ∧ n ≤ r.hi then some r else findRow n rs

/-- The row of register `n`; none where the number is unassigned (18 R374). -/
def regRow (n : Nat) : Option RegRow := findRow n regRows

/-- Register `n` is assigned. -/
def assigned (n : Nat) : Bool := (regRow n).isSome

/-- The reset value of register `n` (18 R375). -/
def regReset (n : Nat) : Word :=
  match regRow n with
  | some r => wd r.reset
  | none => 0

/-- Bits of register `n` that the settings image holds (17 R370): RW, SN and SH fields, and the blink windows. -/
def savedMask (r : RegRow) (n : Nat) : Nat :=
  if r.ret || !r.img then 0
  else if 0x820 ≤ n ∧ n ≤ 0x82F then 0xFFFFF
  else r.rw ||| r.sn ||| r.sh

/-- The register numbers of a row. -/
def rowNumbers (r : RegRow) : List Nat := (upto (r.hi - r.lo + 1)).map (fun i => r.lo + i)

/-- Every register number the settings image holds, with the mask of its saved bits, in ascending order. -/
def savedRegs : List (Nat × Nat) :=
  regRows.flatMap (fun r => ((rowNumbers r).map (fun n => (n, savedMask r n))).filter (fun e => e.2 ≠ 0))

end Sys2Proof.Machine
end

