-- ==== Sys2Proof/Machine/State.lean ====
section
/-!
DEFINITION. The machine's state as plain data: every piece of state the spec gives the GZ-760 (INVENTORY.md lists
them with rule and reset value), the reasons a step can stop, and the state right after reset.
-/

namespace Sys2Proof.Machine

/-- The sequencer's state (03 R52); `off` while PD2 CORE is off or held in reset. -/
inductive SeqSt where
  | off
  | cold
  | load
  | run
  | settle
  | gasp
  | hold
  deriving DecidableEq, Repr

/-- Where PD0 AON draws from (02 R26). -/
inductive AonSrc where
  | vres
  | vaux
  | vbc
  | none
  deriving DecidableEq, Repr

/-- The power manager and the domains (02). Voltages in mV. -/
structure Power where
  /-- VRES, VAUX, VBC as last known (02 R27). -/
  vres : Nat
  vaux : Nat
  vbc : Nat
  /-- The values shown in VRES_MEAS, VAUX_MEAS, VBC_MEAS, HARV_POWER. -/
  vresMeas : Nat
  vauxMeas : Nat
  vbcMeas : Nat
  harv : Nat
  vauxValid : Bool
  vbcOk : Bool
  shunt : Bool
  belowLow : Bool
  aonSrc : AonSrc
  /-- LOAD_SRC: the running load is drawn from VAUX (R24). -/
  loadAux : Bool
  /-- The current in mA that charges VRES from VAUX (R25). -/
  charge : Nat
  /-- The oscillator's time at which VBC was last seen to fall below 2.2 V (13 R285). -/
  vbcFell : Option Nat
  pd1 : Bool
  /-- A cold start is under way (R29, R33). -/
  coldStarting : Bool
  /-- DOMAIN_STATE (R31, R34). -/
  on : BitVec 12
  /-- Switch closed, ramp running. -/
  ramping : BitVec 12
  /-- At work since a tick boundary (R31). -/
  working : BitVec 12
  /-- The mode in force is Settle (R40). -/
  settle : Bool
  /-- AUTO_SETTLE requests Settle (R41). -/
  autoReq : Bool
  /-- GRANT_STATE (R37 to R39). -/
  granted : BitVec 10
  /-- Requests whose first refusal has been reported (R38). -/
  refused : BitVec 10
  /-- A request for Full was refused and reported (R40). -/
  modeRefused : Bool
  /-- PFAIL latched (R30). -/
  pfail : Bool
  /-- GASP stages (R43): a stage has ended, or was skipped; the panel discharge runs. -/
  gaspBureauEnded : Bool
  gaspEnergyEnded : Bool
  gaspPanelStarted : Bool
  gaspPanelEnded : Bool
  /-- TEST held CORE in reset at its release (18 R377); the level of TEST (18 R376). -/
  testHold : Bool
  testLevel : Bool
  deriving DecidableEq, Repr

/-- What foreground work leaves for item 16 to publish (03 R72). -/
inductive Pub where
  /-- register n takes the value -/
  | set (n : Nat) (v : Word)
  /-- register n takes the OR with the mask -/
  | or (n : Nat) (mask : Nat)
  /-- register n drops the bits of the mask -/
  | clear (n : Nat) (mask : Nat)
  /-- register n grows by k, saturating at 0xFFFFF -/
  | add (n : Nat) (k : Nat)
  /-- register n increments modulo 2^20 -/
  | incMod (n : Nat)
  /-- source s sets its status bit -/
  | irq (s : Nat)
  deriving DecidableEq, Repr

/-- Events that a row of the table names and that the present tick has brought already (the boundary then does not
bring them again). -/
inductive Did where
  | flywheel
  | nominal
  | acquireTimeout
  | half
  | cyclePub
  | harmPub
  | bgShort
  | wake
  | hour
  | procTimer
  | stoolStep
  | rotation
  | detBlock (d : Nat)
  | settled (s : Nat)
  | peak (g : Nat)
  | scrubYield
  | coalesce
  | timeBase
  | periodicSave
  /-- a state was entered: the tick that ends with it has had its boundary's end (03 R52) -/
  | entered
  deriving DecidableEq, Repr

/-- The frame sequencer (03). -/
structure Seq where
  st : SeqSt
  /-- Ticks spent in COLD or LOAD (R53, R54). -/
  stateTicks : Nat
  /-- TICK_COUNT. -/
  tick : BitVec 20
  /-- The present tick runs in Settle mode. -/
  slow : Bool
  /-- The first cycle of the tick at which the next packet can land (04 R83). -/
  cycle : Nat
  /-- The next foreground item to run, 1 to 17 (R64). -/
  item : Nat
  /-- Foreground results waiting for item 16 (R72), oldest first. -/
  pub : List Pub
  did : List Did
  holdCause : Nat
  soft : Bool
  loaded : Nat
  aValid : Bool
  bValid : Bool
  gen : Nat
  /-- The current image of 04 R90: copy (1 A, 2 B) and generation. -/
  image : Option (Nat × Nat)
  haltReq : Bool
  goReq : Bool
  resetReq : Bool
  /-- The orderly stop has begun (R58). -/
  stopping : Bool
  /-- The orderly stop has closed the Bureau (R58, R275). -/
  stopped : Bool
  /-- COLD ended with a bad trim region and the restore of 12 R266 has not been made. -/
  holdRestore : Bool
  /-- This start is a cold start, not RESET_SOFT (R58, 12 R266). -/
  coldStart : Bool
  /-- COMMIT groups waiting for the boundary, and that a COMMIT waits, be it of no group (R63). -/
  commitMask : BitVec 5
  commitReq : Bool
  /-- Mismatch counts of the pairs DOMAIN, SCHED, PINMUX, MODE (R74). -/
  mism : List Nat
  /-- The trim region failed its check (R53). -/
  trimBad : Bool
  deriving DecidableEq, Repr

/-- A command packet (04 R77). -/
structure Packet where
  opc : Byte
  tag : Byte
  flags : Byte
  params : List Field
  mac : List Byte
  deriving DecidableEq, Repr

/-- A reply (04 R80) with the tick and cycle from which it is ready. -/
structure Reply where
  tag : Byte
  status : Nat
  fields : List Field
  tick : BitVec 20
  cyc : Nat
  deriving DecidableEq, Repr

/-- A packet that has passed step 6 and waits for its landing tick or its DENIED reply (04 R83, R105, R106). -/
structure Exec where
  pkt : Packet
  /-- The cycle in which its CRC passed. -/
  cyc : Nat
  /-- Boundaries still to pass before the tick of its landing or reply begins. -/
  wait : Nat
  /-- `some failure`: step 7 refused it; failure tells whether the refusal counts as a failure (R107). -/
  denied : Option Bool
  /-- Step 7 was made: the opcode is authenticated (R86). -/
  auth : Bool
  /-- The nonce its port held (R102). -/
  nonce : BitVec 72
  deriving DecidableEq, Repr

/-- A nonce and the oscillator time of its issue (04 R102). -/
structure NonceRec where
  value : BitVec 72
  issued : Nat
  deriving DecidableEq, Repr

/-- A packet forwarded from this part's own port, awaiting its reply (04 R93). -/
structure Forward where
  port : PortId
  tag : Byte
  side : Side
  ltag : Byte
  ticks : Nat
  deriving DecidableEq, Repr

/-- The landing of a packet whose reply a later event completes (memory operations, CFG_SAVE, CAL_SEAL,
CHAIN_ENUM): on the CHAIN port also the link, source and link tag its reply goes back to. -/
structure Waiting where
  land : Land
  opc : Nat
  way : Option (Side × BitVec 2 × Byte) := none
  deriving DecidableEq, Repr

/-- What a memory access does (10 R217, 11 R246): read, write, or one of the atomics. -/
inductive AccKind where
  | read
  | write
  | fetchAdd
  | swap
  | cmpSwap
  deriving DecidableEq, Repr

/-- A translated access to the local physical map (11 R244): address, byte count, data of a write, operands of an
atomic. -/
structure Access where
  kind : AccKind
  pa : Nat
  count : Nat
  data : List Byte
  op1 : BitVec 32
  op2 : BitVec 32
  deriving DecidableEq, Repr

/-- The work of one of the part's own engines on memory: capture lines (09 R209), a harmonic copy (09 R199), a panel
row (14 R317), the reads and the writes of a rectangle step (14 R321), staging a record and fetching one (12 R273). -/
inductive Engine where
  | capture
  | harmonic
  | row
  | rectRead
  | rectWrite
  | stage
  | fetch
  deriving DecidableEq, Repr

/-- One line access of an engine (11 R238): context, virtual byte address, byte count, and the data of a write; a read
has none. `part`: it is a partial write, or the read that belongs to one (10 R217, 11 R239). -/
structure LineAcc where
  ctx : Nat
  va : Nat
  count : Nat
  data : Option (List Byte)
  part : Bool
  deriving DecidableEq, Repr

/-- What a requester waits for the Sideboard with (10 R227). -/
inductive MemOp where
  /-- requesters 4, 5 and the CHAIN port: a port's own access; the Dresser context, the virtual address and the segment it
  came by, and the cycles of its lookup -/
  | port (w : Waiting) (a : Access) (ctx va g look : Nat)
  /-- requester 6: an access from a peer (11 R249): the link, source and link tag to answer to -/
  | remote (a : Access) (side : Side) (src : BitVec 2) (ltag : Byte)
  | capture
  | harmonic
  | row
  | rect
  | stage
  /-- the rest of an engine's operation: the line accesses still to make and the data read so far -/
  | rest (e : Engine) (todo : List LineAcc) (got : List (List Byte))
  deriving DecidableEq, Repr

/-- A frame given to a transmitter (11 R254). -/
structure TxFrame where
  side : Side
  type : Nat
  dest : BitVec 2
  src : BitVec 2
  ltag : Byte
  payload : List Byte
  deriving DecidableEq, Repr

/-- One command port (04). -/
structure Port where
  exec : Option Exec
  /-- Operations in progress whose reply is to come: on the host and the maintenance port at most one. -/
  busy : List Waiting
  reply : Option Reply
  /-- The cycle of the present tick from which the reply is ready, while that lies ahead: EXEC stands until then (R96). -/
  due : Option Nat
  nonce : Option NonceRec
  /-- REC_CURSOR of the port and its ten window words (12 R277, R278). -/
  cursor : Word
  window : List Word
  /-- The cycle, counted from the present tick's start, from which the window follows REC_CURSOR as written (12 R278). -/
  look : Option Nat
  deriving DecidableEq, Repr

/-- The ports together. -/
structure Ports where
  host : Port
  maint : Port
  chain : Port
  /-- The link and tag on which the executing CHAIN packet came. -/
  chainFrom : Option (Side × BitVec 2 × Byte)
  /-- CHAIN packets queued in arrival order, each with the link, source and link tag it came by (R94). -/
  chainQ : List (Exec × (Side × BitVec 2 × Byte))
  /-- Replies to CHAIN packets that are not ready yet: the cycle, counted from the present tick's start, and the frame. -/
  chainOut : List (Nat × TxFrame)
  /-- Keys that take effect with the reply of their KEY_LOAD (R104): the cycle of the reply, the slot and the key. -/
  keysDue : List (Nat × Bool × BitVec 128)
  /-- A maintenance reply is being transmitted; consumer 9 is requested; the time since the last closing delimiter, while it
  counts towards the release (R101). Times of this port are counted in line-clock units (08), 98,304 to 125 µs; one below
  zero has still to begin. -/
  sending : Bool
  mtxReq : Bool
  idleUnits : Option Int
  /-- The time since the closing delimiter of the packet now being answered (R101). -/
  sinceDelim : Int
  /-- The time for which MRX is still ignored (R101: 1 ms after the closing delimiter). -/
  deaf : Nat
  forwards : List Forward
  /-- Operations on memory that wait for the end of an NVM operation (11 R245) or for requester 6. -/
  held : List MemOp
  deriving DecidableEq, Repr

/-- PD0 AON (13 R282): time base, Cupboard, retained registers and histories. -/
structure Aon where
  powered : Bool
  /-- Time in units of 1/4,096,000 s (125 units are one period of the 32.768 kHz oscillator). -/
  time : Nat
  /-- The retained registers (18 R375, marker ret.). -/
  regs : List (Nat × Word)
  /-- The Cupboard slots (13 R303). -/
  key0 : Option (BitVec 128)
  key1 : Option (BitVec 128)
  /-- Inverted shadow of AUTH_STATE[2:0] (13 R289). -/
  flagShadow : BitVec 3
  /-- Inverted shadows of TAMP_EN, TAMP_ARM, TAMP_QUAL0-6 (13 R289), by register number. -/
  regShadow : List (Nat × Word)
  /-- Times of the failures of the last 3,600 s, oldest first (04 R107), and their inverted shadow, the bitwise inverse
  of each (13 R289). -/
  fails : List Nat
  failShadow : List Int
  /-- End of the lockout (04 R107). -/
  lockUntil : Option Nat
  /-- Times of sensed events of each class (13 R290). -/
  hist : List (List Nat)
  /-- Sensed events of each class since its last qualification (13 R297). -/
  sinceQual : List Nat
  /-- Loop conditions of TMP0, TMP1: 0 OK, 1 OPEN, 2 SHORT, and runs of normal tests (13 R284). -/
  loop0 : Nat
  loop1 : Nat
  normal0 : Nat
  normal1 : Nat
  /-- TAMP_RAW COND. -/
  cond : BitVec 7
  /-- Since when every quantity that SLOW monitors has been measured inside its window (13 R287). -/
  slowBack : Option Nat
  /-- The previous temperature reading was out of range (13 R288); the last reading. -/
  tempOut : Bool
  tempC : Int
  /-- The time at which PD2 switched off or PD0 powered up (13 R294). -/
  darkFrom : Option Nat
  /-- The evidence queue: entries of 12 bytes (13 R300). -/
  evQueue : List (List Byte)
  /-- Entries lost since PD2 switched off (13 R300), and that the log is closed, as PD0 knows it. -/
  darkLost : Nat
  logClosed : Bool
  /-- Dark sensed counts per class and dark qualifications (13 R295). -/
  heldSense : List Nat
  heldQual : List (Option (Nat × Nat × Bool))
  /-- The time base at PD2 switch-off (13 R298): hours, second of hour, power-cycle count. -/
  heldHours : Nat
  heldSoh : Nat
  heldPcc : Nat
  /-- PD0 has powered up since the last LOAD (13 R296). -/
  aonLost : Bool
  /-- Retained selections of GP6 and GP7 (15 R344). -/
  sel6 : BitVec 4
  sel7 : BitVec 4
  deriving DecidableEq, Repr

/-- One converter with its filter front (05 R111, R112; 07 R155 to R159). -/
structure Conv where
  /-- The last 1,152 modulator bits, newest in bit 0: the delay line and the sinc³ span. -/
  bits : BitVec 1152
  /-- Input histories of the half bands, newest first. -/
  h1 : List Int
  h2 : List Int
  h3 : List Int
  /-- HB3 output, DC-block output of this and the previous tick. -/
  x16 : Int
  y16 : Int
  yPrev : Int
  /-- DC-block estimate, and its value before this tick. -/
  e : Int
  ePrev : Int
  /-- Ticks for which the front still delivers full scale (R112), and its sign. -/
  ovr : Nat
  ovrNeg : Bool
  deriving DecidableEq, Repr

/-- A peak guard (05 R129, R130). -/
structure Guard where
  count : Nat
  blocked : Bool
  thrRaw : Nat
  deriving DecidableEq, Repr

/-- A single-frequency detector (07 R169 to R171). -/
structure Det where
  s1 : Int
  s2 : Int
  n : Nat
  active : Bool
  deriving DecidableEq, Repr

/-- Streams, filters and detectors (05, 07). -/
structure Streams where
  conv : List Conv
  /-- Item-2 output of each converter before the Stool takes over (index 10 the Stool, with its match terms). -/
  yc : List Int
  /-- Item-2 output of the Stool before its match gain and offset; the same one tick before. -/
  xt : Int
  xtPrev : Int
  /-- Stage-7 and stage-8 output of each stream. -/
  y2 : List Int
  y8 : List Int
  /-- The 255 item-2 outputs before this tick's, newest first (R165). -/
  hist : List (List Int)
  /-- Ticks of settling left (R166). -/
  settling : List Nat
  /-- Streams in force in the previous tick. -/
  prevForce : BitVec 11
  /-- Ticks for which the stream repeats its last output (05 R128). -/
  rep : List Nat
  guards : List Guard
  dets : List Det
  deriving DecidableEq, Repr

/-- The Stool (05 R116 to R131). -/
structure Stool where
  /-- 0 OFF, 1 SELF, 2 OVERLAP, 3 CARRY, 4 HANDBACK, 5 IDLE. -/
  st : Nat
  step : Nat
  target : Nat
  left : Nat
  paused : Bool
  deferred : Bool
  cause : Nat
  carrying : Bool
  /-- The takeover switch of the current handover is due. -/
  due : Bool
  /-- Sums of R119 over the current step, and its tick count. -/
  n : Nat
  sed : Int
  sdd : Int
  sst : Int
  stt : Int
  sumT : Int
  sumS : Int
  /-- Means of ZERO, POS, NEG (R122): sum and count in progress, and the results. -/
  calSum : Int
  calN : Nat
  mZero : Int
  mPos : Int
  mNeg : Int
  /-- Match terms in use: delay (PU), gain (2^-24), offset (1/16 code). -/
  mDelay : Int
  mGain : Int
  mOffs : Int
  /-- Targets of HANDBACK.1, and the takeover terms they ramp from. -/
  tDelay : Int
  tGain : Int
  tOffs : Int
  fDelay : Int
  fGain : Int
  fOffs : Int
  /-- Match delay last found for each slice (R120). -/
  lastDelay : List Int
  /-- Latest reference reading of each converter, half16 (R120). -/
  refLevel : List (Option Nat)
  /-- The results of this handover are not in force: APPLY was 0 (R123). -/
  keep : Bool
  /-- tau_pu of OVERLAP.0, when measured (R122). -/
  tau : Option Int
  /-- A slice selected by SELECT for the next OVERLAP (R131); the slice after which the rotation goes on. -/
  selectNext : Option Nat
  /-- The slice from which the rotation goes on; 11 where a rotation has ended and SELF is next. -/
  nextSlice : Nat
  /-- Units of 125 µs since the boundary at which the present switch was first held back (R126). -/
  deferUnits : Int
  stalled : Bool
  /-- STOOL_CTRL actions waiting for the boundary (R131), oldest first: action and slice. -/
  actions : List (Nat × Nat)
  /-- FIELD results computed while APPLY was 0, by register number: shown and not in force (R123). -/
  view : List (Nat × Word)
  /-- A PAUSE waits for the end of the current SELF or handback. -/
  pauseReq : Bool
  /-- Units since the last |y| at or above 471,858, per stream (R125). -/
  hot : List Nat
  /-- SLICE_CFG of the slice served, as last taken (R127). -/
  servedCfg : Word
  deriving DecidableEq, Repr

/-- A process window result waiting for item 12 (06 R134, R147). -/
structure ProcHeld where
  /-- PROC_RES index, 16 for the urgent conversion. -/
  entry : Nat
  chan : Nat
  scale : Bool
  rate : Nat
  kind : Nat
  net : Int
  rd : Int
  w : Nat
  sat : Bool
  deriving DecidableEq, Repr

/-- An open process window (06 R136, R137), or one that is running down. -/
structure ProcWin where
  pair : Nat
  integB : Bool
  entry : Nat
  chan : Nat
  scale : Bool
  rate : Nat
  mode : Nat
  kind : Nat
  /-- The window has closed and its integrator runs down. -/
  closed : Bool
  deriving DecidableEq, Repr

/-- The process integrators (06). -/
structure Proc where
  running : Bool
  urgent : Bool
  delaying : Bool
  waiting : Bool
  /-- Index of the head entry of the current group. -/
  group : Nat
  /-- PROC_CTRL and PROC_SEQ as latched at the start. -/
  ctrl : Word
  entries : List Word
  urgentEntry : Word
  /-- DCLK cycles of the start delay. -/
  delay : Nat
  /-- Windows open or running down. -/
  wins : List ProcWin
  /-- The mode of the open group, its LEN, and 125 µs units since it opened. -/
  openMode : Nat
  openLen : Nat
  openUnits : Nat
  /-- The cycle of its tick in which the group opened. -/
  openCyc : Nat
  isOpen : Bool
  /-- The urgent FIXED window opens at the next boundary (R146). -/
  urgentPend : Bool
  /-- Results latched before this tick, for item 12, and those latched in this tick (R147). -/
  held : List ProcHeld
  fresh : List ProcHeld
  /-- The integrator (true: B) each channel uses next (R141). -/
  nextB : List Bool
  /-- Entries of the last group of a pass whose result is still to be published. -/
  outstanding : List Nat
  /-- Every group of the pass has closed and no further pass has started. -/
  passDone : Bool
  /-- Item 16 of this tick ends the sequence or the urgent conversion (R145). -/
  ending : Bool
  timerUnits : Nat
  startPrev : Nat
  /-- The CONVERT_NOW taken in this tick: its landing cycle, and what its reply needs (R146). -/
  urgentAt : Option (Nat × Waiting)
  loopLow : List Nat
  loopHigh : List Nat
  loopGood : List Nat
  /-- LINE boundaries that are due: instant on the line clock and kind of the crossing (R138). -/
  lineDue : List (Nat × Nat)
  /-- Item 12 was in the schedule in the previous tick. -/
  prevOn : Bool
  deriving DecidableEq, Repr
/-- Sums over ticks of a cycle or window (08 R176), and the sum of tick weights in 1/256 of 125 µs. -/
structure Sums where
  sq : List Int
  sm : List Int
  sp : List Int
  sqq : List Int
  spv : Int
  sbt : Int
  len : Int
  deriving DecidableEq, Repr

/-- What a cycle or window has met besides its sums: streams in force in every tick, settling seen (08 R176, R179),
its kind (0 GOOD, 1 FLYWHEEL, 2 FREERUN). -/
structure Span where
  sums : Sums
  force : BitVec 11
  settling : Bool
  kind : Nat
  deriving DecidableEq, Repr

/-- Results of a closed cycle that wait for the end of their fourth tail tick (03 R71): ticks left, register values,
classes of CYC_SAT, whether a window ends with them, s_sum for 08 R182. -/
structure Tail where
  left : Nat
  /-- Cycles of closure still to do (03 R67). -/
  work : Nat
  results : List (Nat × Word)
  sat : Nat
  window : Bool
  /-- Pg of a cycle measured at both ends (08 R179). -/
  period : Option Nat
  sSum : Int
  deriving DecidableEq, Repr

/-- The half-cycle sums of one half (08 R178). -/
structure Half where
  sq : List Int
  len : Int
  force : BitVec 11
  deriving DecidableEq, Repr

/-- Line tracking, cycles, windows and half cycles (08 R172 to R181). Instants on the line clock, in 1/16 of a Full
DCLK cycle. -/
structure Line where
  /-- 0 ACQUIRE, 1 LOCKED, 2 FLYWHEEL, 3 FREERUN. -/
  st : Nat
  flyCnt : Nat
  /-- Last reported crossing, last good period, expected end. -/
  last : Int
  pg : Int
  exp : Int
  /-- The line clock of the samples of this and the previous tick. -/
  clk : Int
  clkPrev : Int
  /-- Which of VA, VB and VC are armed (R172). -/
  armed : List Bool
  /-- The previous raw crossing. -/
  lastRaw : Option Int
  entered : Int
  /-- ACQUIRE's last provisional start (R175). -/
  provStart : Option Int
  /-- The reference's and item 4's presence in the previous tick, and an entry into ACQUIRE that is due: at the first
  tick of RUN or SETTLE, or because REF or NOM reached the snapshot (R175). -/
  refOn : Bool
  itemOn : Bool
  enter : Bool
  /-- The crossing reported in this tick: instant and kind; a provisional start found in this tick. -/
  cross : Option (Int × Nat)
  prov : Option Int
  /-- The cycle that is open has a measured or nominal start (R175). -/
  open_ : Bool
  /-- Kind of the crossing that opened the open cycle. -/
  openKind : Nat
  /-- This tick's quadrature values (R177). -/
  vq : List Int
  cyc : Span
  win : Span
  winCycles : Nat
  /-- Sum of the window's cycle lengths in line-clock units. -/
  winClock : Int
  winOpen : Bool
  tail : Option Tail
  /-- s_sum of the last published cycle (R182). -/
  sSum : Int
  halfPrev : Half
  halfCur : Half
  /-- The next half-cycle boundary inside the cycle. -/
  mid : Option Int
  /-- A half-cycle boundary fell in this tick (R178), and its HALF_RMS values, for item 8. -/
  halfNow : Bool
  halfVals : List Int
  /-- Stage-8 histories of VA, VB, VC, newest first (R177). -/
  quad : List (List Int)
  deriving DecidableEq, Repr

/-- The arrivals of a CF output within a tick (08 R189): the accumulator before the add, the increment, the threshold,
how many pulses fall due, and the number of the next one. -/
structure CfArr where
  a0 : Nat
  w : Nat
  thr : Nat
  n : Nat
  m : Nat
  deriving DecidableEq, Repr

/-- A CF output (08 R189, R190). Instants on the line clock. -/
structure CfOut where
  acc : Nat
  /-- Arrivals that item 10 of this tick has found for the next tick, and those of this tick. -/
  fresh : Option CfArr
  arr : Option CfArr
  /-- Instants at which the pending pulses fell due, oldest first. -/
  queue : List Int
  high : Bool
  /-- Start of the last pulse, and the end of the pulse that is high. -/
  lastStart : Option Int
  ends : Int
  deriving DecidableEq, Repr

/-- Energy registers, their store and the CF outputs (08 R182 to R190). -/
structure Energy where
  imp : List Nat
  exp : List Nat
  res : List Int
  /-- Increments of this tick (R185, R189). -/
  incImp : List Nat
  incExp : List Nat
  /-- Registers that this tick's adds have carried past 2^60 − 1 (R184). -/
  wrapImp : Nat
  wrapExp : Nat
  /-- The store (R186 to R188): slot and sequence last loaded or written, and the sequence of the next save. -/
  slot : Nat
  seq : Nat
  seqNext : Nat
  restored : Bool
  blank : Bool
  erasing : Bool
  cause : Nat
  /-- A save is requested. -/
  saveReq : Bool
  nextSlot : Nat
  /-- Units of 125 µs of operating time since the last save (R187). -/
  units : Nat
  /-- No slot of the store was valid at LOAD: the first save treats the store as blank (R188). -/
  rebuild : Bool
  cf : List CfOut
  deriving DecidableEq, Repr
/-- One tick in the harmonic sample RAM (09 R193): instant, the seven channels' samples, and which were in force. -/
structure HSample where
  t : Int
  xs : List Int
  force : BitVec 7
  deriving DecidableEq, Repr

/-- A window under analysis (09 R194 to R198). -/
structure HarmJob where
  /-- The crossings that bound its cycles, oldest first. -/
  bounds : List Int
  force : BitVec 7
  winCount : Word
  /-- Kind and SETTLING of the window's WIN_QUAL, and WIN_FREQ in mHz. -/
  qual : Nat
  freq : Nat
  /-- Cycles of datapath work left (03 R67). -/
  work : Nat
  /-- The channels the work was charged for. -/
  chans : BitVec 7
  /-- The mode of the window's ticks (R196). -/
  settle : Bool
  /-- Finished: item 16 of the next tick publishes (R197). -/
  ready : Bool
  deriving DecidableEq, Repr

/-- A copy of a publication into memory (09 R199): base virtual address, the 113 lines, the step 0 to 113. -/
structure HarmCopy where
  base : Nat
  blocks : List (List Byte)
  step : Nat
  deriving DecidableEq, Repr

/-- The harmonic engine (09 R193 to R199). -/
structure Harm where
  ram : List HSample
  /-- Bounds of the window in progress, newest first; what its ticks have met. -/
  bounds : List Int
  force : BitVec 7
  /-- The window in progress is not to be analysed (R198). -/
  spoilt : Bool
  /-- A window's end was reported in this tick: its job begins in the next tick. -/
  next : Option HarmJob
  job : Option HarmJob
  copy : Option HarmCopy
  g : List (List Nat)
  deriving DecidableEq, Repr

/-- One type of power-quality event in progress or not (09 R202). -/
structure PqEvent where
  active : Bool
  start : BitVec 20
  dur : Nat
  ext : Nat
  extPhase : Nat
  phases : BitVec 3
  deriving DecidableEq, Repr

/-- Power quality (09 R200 to R204). -/
structure Pq where
  belowSag : BitVec 3
  aboveSwell : BitVec 3
  belowIntr : BitVec 3
  sag : PqEvent
  swell : PqEvent
  intr : PqEvent
  /-- Types that started in this tick, for item 13 (R207). -/
  started : BitVec 3
  deriving DecidableEq, Repr

/-- A formatted line waiting in the capture queue (09 R209). -/
structure CapLine where
  /-- Virtual byte address in context 0. -/
  va : Nat
  bytes : List Byte
  /-- It is the last line of the last frame after the trigger (R208). -/
  last : Bool
  deriving DecidableEq, Repr

/-- The capture engine (09 R205 to R210). -/
structure Capture where
  /-- 0 IDLE, 1 ARMED, 2 TRIGGERED, 3 DONE, 4 FAULT. -/
  st : Nat
  cfg : Word
  vbase : Nat
  ring : Nat
  post : Nat
  capEn : BitVec 11
  flines : Nat
  /-- CAP_WR_LINE: next line to be formatted. -/
  wrLine : Nat
  queue : List CapLine
  /-- The last line after the trigger has been written, DONE is due (R208). -/
  written : Bool
  before : Nat
  left : Nat
  armReq : Bool
  forceReq : Bool
  stopReq : Bool
  /-- Triggers noted since the last item 13: PEAK, and DET as raised in the item 16 before. -/
  peakSeen : Bool
  detSeen : Bool
  source : Nat
  cause : Nat
  /-- CAP_STAT without GAP, and CAP_WR_LINE, as they read until item 16 publishes what item 13 has done (03 R72). -/
  shown : Option (Word × Nat)
  deriving DecidableEq, Repr
/-- A request (10 R228, R233): requester, operation, the first cycle of the present tick in which it is visible, wait
count and starvation count as the cycle stands that the Sideboard has reached, whether the starvation of this wait was
reported; `gone`: it has been withdrawn before the next decision (R230). -/
structure Req where
  r : Nat
  op : MemOp
  at_ : Nat
  wait : Nat
  starve : Nat
  reported : Bool
  gone : Bool
  deriving DecidableEq, Repr

/-- Capture memory, the Sideboard and the scrub engine (10). -/
structure Mem where
  /-- Bytes of 0x000000 to 0x0FFFFF; an unlisted byte reads 0x00 (R212). -/
  data : List Host.Cell
  /-- Tags by line index; an unlisted line has the valid tag of a zero line (R212, R214). -/
  tags : List (Nat × BitVec 9)
  ready : BitVec 2
  init : BitVec 2
  /-- Cycles for which each bank has been initialising (R212). -/
  initCyc : List Nat
  reqs : List Req
  /-- The cycle of this tick that the Sideboard has reached: every cycle before it has its owner. -/
  busy : Nat
  /-- The owner of the cycle before `busy`, whom the decision for `busy` leaves out (R229). -/
  owner : Option Nat
  /-- DRAINED as last reported (R232). -/
  drained : Bool
  scrubPos : Nat
  scrubUnits : Nat
  /-- Steps of the pass already counted (R223). -/
  scrubSteps : Nat
  backlog : Nat
  /-- Steps that fell due in this tick and were not taken (R225). -/
  scrubDue : Nat
  /-- A corrected line due to be written back, or a line due to be poisoned (R224, R220): index, and corrected data or the
  poison pattern. -/
  writeBack : Option (Nat × List Byte)
  poison : Option (Nat × BitVec 9)
  lagReported : Bool
  deriving DecidableEq, Repr
/-- A Vexvea link (11 R253). -/
structure Link where
  /-- 0 OFF, 1 TRAINING, 2 UP. -/
  st : Nat
  /-- Consecutive aligned bytes, and consecutive aligned idle bytes (saturating at 64). -/
  aligned : Nat
  idleRun : Nat
  /-- RXOK of the last idle byte received. -/
  rxok : Bool
  /-- Held in OFF by a CONFLICT (R256). -/
  held : Bool
  deriving DecidableEq, Repr

/-- Who waits for a remote operation (11 R243, R247): a port, or an engine with the accesses still to make and the data
read so far. -/
inductive RemoteUser where
  | port (w : Waiting)
  | engine (e : Engine) (todo : List LineAcc) (got : List (List Byte))
  deriving DecidableEq, Repr

/-- A remote operation awaiting its MRS (11 R247, R248). -/
structure Remote where
  user : RemoteUser
  acc : Access
  chip : BitVec 2
  side : Side
  ltag : Byte
  /-- The context, the virtual address and the segment it was translated by. -/
  ctx : Nat
  va : Nat
  g : Nat
  /-- Ticks until PKT_TMO expires. -/
  ticks : Nat
  /-- An MRS of status BUSY has come: the MRQ is to be sent again (R248). -/
  retry : Bool
  deriving DecidableEq, Repr

/-- A CHAIN_ENUM in progress (11 R257). -/
structure EnumRun where
  wait : Waiting
  waitUp : Bool
  waitDn : Bool
  heard : List (Nat × Word)
  ticks : Nat
  deriving DecidableEq, Repr

/-- The Vexvea side of the part (11 R247 to R257). -/
structure Chain where
  wired : Bool
  wiringDone : Bool
  posValid : Bool
  pos : BitVec 2
  conflict : Bool
  up : Link
  dn : Link
  /-- Frames given to the transmitters in this tick. -/
  sent : List TxFrame
  mrqs : List (Side × BitVec 2 × Byte × List Byte)
  remote : List Remote
  enum : Option EnumRun
  /-- The LTAG the next frame of this part takes. -/
  ltag : Byte
  deriving DecidableEq, Repr

/-- The Dresser (11 R235 to R243): shadow and in-force segments by (context × 4 + segment) × 4 + field (VBASE, LIMIT,
PBASE, ATTR), and per context the segment it last selected. -/
structure Dresser where
  shadow : List (Nat × Word)
  inForce : List (Nat × Word)
  cache : List (Option Nat)
  deriving DecidableEq, Repr
/-- An event on its way to the Bureau (12 R258, R259). -/
structure BEvent where
  code : Nat
  sev : Nat
  p0 : Nat
  p1 : Nat
  p2 : Nat
  rep : Nat
  deriving DecidableEq, Repr

/-- A Bureau record (12 R262). -/
structure BRec where
  code : Nat
  sev : Nat
  rep : Nat
  gasp : Bool
  sat : Bool
  seq : Nat
  soh : Nat
  hours : Nat
  pcc : Nat
  p0 : Nat
  p1 : Nat
  p2 : Nat
  deriving DecidableEq, Repr

/-- The Bureau (12). -/
structure Bureau where
  /-- Events delivered in this tick (R260). -/
  events : List BEvent
  open_ : Option BRec
  /-- Units of 125 µs since the open record opened (R268). -/
  openUnits : Nat
  /-- The held places of the write queue, oldest first (R272). -/
  queue : List BRec
  /-- Records staged in memory: index of the oldest in the ring, and how many (R273). -/
  stageHead : Nat
  staged : List BRec
  /-- Records on their way into staging. -/
  toStage : List BRec
  stageFault : Bool
  /-- Ring length and base in force (R273). -/
  stageLen : Nat
  stageBase : Nat
  nextSeq : Nat
  /-- The floor (R276, R281). -/
  floor : Nat
  /-- Records lost or hidden are counted in the registers; the time base (R264). -/
  hours : Nat
  soh : Nat
  pcc : Nat
  units : Nat
  /-- Hourly counts of the 32 groups (R270, R271). -/
  opened : List Nat
  suppressed : List Nat
  firstSup : List Nat
  /-- The next slot, and whether the head of the queue is being programmed (R274). -/
  nextSlot : Nat
  writing : Bool
  erasing : Bool
  /-- REC_MARKs of this tick with their events, and the number each was given (R280). -/
  marks : List (Waiting × BEvent × Option Nat)
  /-- Time store (R265): next entry, its sequence, the number of entries due. -/
  tsNext : Nat
  tsSeq : Nat
  tsDue : Nat
  /-- CHG has counted a change of the window of the port in this tick (R279). -/
  chgDone : List Bool
  deriving DecidableEq, Repr

/-- Evidence log and calibration seal (13 R298 to R307). -/
structure Evidence where
  next : Nat
  chain : BitVec 32
  full : Bool
  damaged : Bool
  writing : Bool
  /-- Entries lost in this tick (R300). -/
  lostNow : Nat
  /-- SEAL_STATE: 0 UNSEALED, 1 SEALED, 2 BROKEN, 3 UNVERIFIED; SEAL_CNT. -/
  sealSt : Nat
  sealCnt : Nat
  /-- Inverted shadows of the sealed set and of SEAL_STATE (R289). -/
  shadow : List (Nat × Word)
  sealShadow : Word
  /-- The check of R306 is due at the next boundary. -/
  checkDue : Bool
  deriving DecidableEq, Repr

/-- A program or erase of the NVM (03 R59). -/
inductive NvmOp where
  | energyProg (slot : Nat) (bytes : List Byte)
  | energyErase (sector : Nat)
  | bureauProg (slot : Nat)
  | bureauErase (sector : Nat)
  | timeProg (entry : Nat) (bytes : List Byte)
  | timeErase (sector : Nat)
  | evidProg (slot : Nat) (bytes : List Byte)
  /-- CFG_SAVE: copy 1 A or 2 B, generation, the 8,192 bytes of the copy, and who waits for the reply -/
  | cfgSave (copy gen : Nat) (image : List Byte) (w : Waiting)
  /-- CAL_SEAL: seal count, record slot, the 16 bytes, and who waits -/
  | calSeal (cnt slot : Nat) (bytes : List Byte) (eraseFirst : Bool) (w : Waiting)
  /-- the erase of a settings image copy, or of the seal records, whose erase was abandoned (02 R43) -/
  | imageErase (copy : Nat)
  | sealErase
  /-- the program in progress at PFAIL of an operation of several programs (02 R43): first byte and bytes -/
  | lastUnit (at_ : Nat) (bytes : List Byte)
  deriving DecidableEq, Repr

/-- The non-volatile memory. -/
structure Nvm where
  /-- Bytes 0x00000 to 0x1FFFF; an unlisted byte reads 0xFF, erased (R59). -/
  data : List Host.Cell
  /-- The operation in progress, and the units of 125 µs for which it has run. -/
  op : Option NvmOp
  units : Nat
  /-- Operations accepted or due that wait for the grant of consumer 3 and for the NVM. -/
  waiting : List NvmOp
  /-- Sectors whose erase was abandoned (02 R43): first byte and length. -/
  undef : List (Nat × Nat)
  deriving DecidableEq, Repr
/-- A rectangle slot (14 R319 to R321): 0 FREE, 1 WAIT, 2 TRANSIT, 3 COPY. -/
structure Rect where
  st : Nat
  x0 : Nat
  y0 : Nat
  w : Nat
  h : Nat
  /-- Order of acceptance, for R320. -/
  age : Nat
  /-- Frames of TRANSIT left. -/
  left : Nat
  /-- Next row and line within the row to copy. -/
  row : Nat
  line : Nat
  deriving DecidableEq, Repr

/-- The Hutch (14). -/
structure Hutch where
  /-- 0 OFF, 1 RISING, 2 CLEARING, 3 RUN, 4 FALLING, 5 FAULT, 6 DISCHARGE. -/
  st : Nat
  cause : Nat
  crack : Bool
  timBad : Bool
  bank : Nat
  bankNext : Nat
  temp : Int
  frame : BitVec 20
  /-- DISP_CTRL, DISP_SIZE, DISP_CLK, DISP_HTIM, DISP_VTIM, DISP_BUF_CUR, DISP_BUF_PREV in force (R311). -/
  ctrl : Word
  size : Word
  clk : Word
  htim : Word
  vtim : Word
  bufCur : Word
  bufPrev : Word
  /-- VGL_N, VGH_N and VCOM in force (R325). -/
  railSet : Word
  /-- Rails enabled. -/
  pavdd : Bool
  vgl : Bool
  vgh : Bool
  vcom : Bool
  /-- XDIS and PRST driven high. -/
  xdis : Bool
  /-- Phase of the power-up: 0 started, 1 PAVDD, 2 VGL, 3 VGH, 4 VCOM enabled. -/
  phase : Nat
  /-- FALLING: the clearing frame has begun; the discharge runs; what follows it: 0 OFF, else FAULT with that cause. -/
  clearing : Bool
  discharging : Bool
  after : Nat
  /-- PD10 is to go off when the discharge has ended (R332). -/
  offPending : Bool
  rects : List Rect
  ageNext : Nat
  /-- The next active line to refresh. -/
  row : Nat
  /-- Levels and POL driven in the last refreshed row. -/
  levels : List Nat
  pols : List Bool
  /-- Blink: windows waiting for the frame start (their register values, one or four), and whether an off phase has
  passed since each was enabled. -/
  blinkWait : List (Option (List Word))
  blinkOff : List Bool
  /-- The slot whose copy step is under way. -/
  copying : Option Nat
  /-- Frontlight: request raised, latched MA and DUTY, sink on (R328). -/
  flReq : Bool
  flMa : Nat
  flDuty : Nat
  flOn : Bool
  deriving DecidableEq, Repr

/-- The panel bus at one PCLK period (14 R309): true is high. -/
structure PanelBus where
  pdat : Byte
  /-- PCLK runs; otherwise it is low. -/
  pclk : Bool
  pvs : Bool
  phs : Bool
  pol : Bool
  /-- XDIS and PRST. -/
  xdis : Bool
  deriving DecidableEq, Repr

/-- The general leads (15): the levels the board drives, the latched levels, and the leads that are parked. -/
structure Pins where
  board : BitVec 8
  latched : BitVec 8
  parked : BitVec 8
  deriving DecidableEq, Repr

/-- No command of the GZ-760 ends in a fault: the part reports everything through its own state. -/
inductive Fault where
  /-- Raised by no command; the spec describes no stop of the part (safe). -/
  | none
  deriving DecidableEq, Repr

/-- Why a command has no meaning here. -/
inductive Refusal where
  /-- A row of the table without a meaning in this model; used by no arm (safe). -/
  | notModelled (mnemonic : String)
  deriving DecidableEq, Repr

/-- The whole machine: the queue of waiting commands and everything the spec gives the part. -/
structure State where
  /-- Commands waiting, first in first out (the model's own field). -/
  pending : List Instr
  /-- Draws of free values so far (the model's own field). -/
  free : Nat
  /-- The register file of PD2 (18 R374, R375): stored values, for SH fields the shadow copy; unlisted registers
  hold their reset value. -/
  regs : List (Nat × Word)
  /-- In-force copies of the SH registers (00 R8). -/
  inForce : List (Nat × Word)
  /-- The tick snapshot of the SN registers (00 R10). -/
  snap : List (Nat × Word)
  /-- FIR coefficient words by physical bank × 256 + word (07 R162, R163), and the physical bank in force. -/
  fir : List (Nat × Word)
  firActive : Bool
  /-- The overdrive tables (14 R313), by byte. -/
  od : List (Nat × Byte)
  power : Power
  seq : Seq
  aon : Aon
  ports : Ports
  streams : Streams
  stool : Stool
  proc : Proc
  line : Line
  energy : Energy
  harm : Harm
  pq : Pq
  cap : Capture
  mem : Mem
  dresser : Dresser
  chain : Chain
  bureau : Bureau
  evid : Evidence
  hutch : Hutch
  pins : Pins
  nvm : Nvm
  deriving DecidableEq, Repr

/-! ### The state right after reset

The part at the release of the CORE reset of its first cold start: the sequencer enters COLD (02 R33, 03 R52). Values
that no chapter states are those of log entry 1. -/

/-- One slice entry and one process entry of a unit trim (03 R61; log entry 4). -/
def unitSlice : List Byte := [0x00, 0x00, 0x08, 0x00, 0x00, 0x00, 0x00, 0x20, 0x00, 0x00, 0x20, 0x00]
def unitProc : List Byte := [0x00, 0x00, 0x08, 0x00, 0x00, 0x00]

/-- The trim region of the part as shipped: unit trim at every entry, with its CRC-32 (03 R61; log entry 4). -/
def factoryTrim : List Byte :=
  [0x5A, 0xC3, 0x76, 0x60] ++ (List.replicate 55 unitSlice).flatten ++ (List.replicate 40 unitProc).flatten
    ++ List.replicate 116 0xFF ++ [0x68, 0xE6, 0xDF, 0x41]

/-- The NVM of the part as shipped: all erased but the trim region (03 R59). -/
def factoryNvm : List Host.Cell :=
  ((List.range 1024).zip factoryTrim).filterMap (fun e => if e.2 = 0xFF then none else some (0xE000 + e.1, e.2))

/-- The board's supplies at the release of the CORE reset (log entry 1). -/
def Power.reset : Power :=
  { vres := 3600, vaux := 0, vbc := 0, vresMeas := 3600, vauxMeas := 0, vbcMeas := 0, harv := 0, vauxValid := false
    vbcOk := false, shunt := false, belowLow := false, aonSrc := .vres, loadAux := false, charge := 0, vbcFell := none, pd1 := true
    coldStarting := false, on := 0xA87, ramping := 0, working := 0xA87, settle := false, autoReq := false, granted := 0
    refused := 0, modeRefused := false, pfail := false, gaspBureauEnded := false, gaspEnergyEnded := false
    gaspPanelStarted := false, gaspPanelEnded := false, testHold := false, testLevel := false }

/-- The sequencer in the first tick of COLD. -/
def Seq.reset : Seq :=
  { st := .cold, stateTicks := 0, tick := 0, slow := false, cycle := 0, item := 1, pub := [], did := [], holdCause := 0, soft := false
    loaded := 0, aValid := false, bValid := false, gen := 0, image := none, haltReq := false, goReq := false
    resetReq := false, stopping := false, stopped := false, holdRestore := false, coldStart := true, commitMask := 0, commitReq := false
    mism := [0, 0, 0, 0], trimBad := false }

/-- A command port at rest. -/
def Port.reset : Port :=
  { exec := none, busy := [], reply := none, due := none, nonce := none, cursor := 0, window := List.replicate 10 0, look := none }

/-- The ports at rest. -/
def Ports.reset : Ports :=
  { host := Port.reset, maint := Port.reset, chain := Port.reset, chainFrom := none, chainQ := [], chainOut := [], keysDue := [], sending := false
    mtxReq := false, idleUnits := none, sinceDelim := 0, deaf := 0, forwards := [], held := [] }

/-- PD0 AON as it powers up from no source (13 R282). -/
def Aon.reset : Aon :=
  { powered := true, time := 0, regs := [], key0 := none, key1 := none, flagShadow := 7, regShadow := [], fails := []
    failShadow := [], lockUntil := none, hist := List.replicate 7 [], sinceQual := List.replicate 7 0, loop0 := 0
    loop1 := 0, normal0 := 0, normal1 := 0, cond := 0, slowBack := none, tempOut := false, tempC := 0, darkFrom := none, evQueue := []
    darkLost := 0, logClosed := false, heldSense := List.replicate 7 0, heldQual := List.replicate 7 none, heldHours := 0, heldSoh := 0
    heldPcc := 0, aonLost := true, sel6 := 0, sel7 := 0 }

/-- A converter at power-up (07 R159). -/
def Conv.reset : Conv :=
  { bits := 0, h1 := [], h2 := [], h3 := [], x16 := 0, y16 := 0, yPrev := 0, e := 0, ePrev := 0, ovr := 0, ovrNeg := false }

/-- The streams at rest. -/
def Streams.reset : Streams :=
  { conv := List.replicate 11 Conv.reset, yc := List.replicate 11 0, xt := 0, xtPrev := 0, y2 := List.replicate 11 0
    y8 := List.replicate 11 0, hist := List.replicate 11 [], settling := List.replicate 11 0, prevForce := 0
    rep := List.replicate 11 0, guards := List.replicate 6 { count := 0, blocked := false, thrRaw := 0 }
    dets := List.replicate 4 { s1 := 0, s2 := 0, n := 0, active := false } }

/-- The Stool at rest. -/
def Stool.reset : Stool :=
  { st := 0, step := 0, target := 0, left := 0, paused := false, deferred := false, cause := 0, carrying := false
    due := false, n := 0, sed := 0, sdd := 0, sst := 0, stt := 0, sumT := 0, sumS := 0, calSum := 0, calN := 0
    mZero := 0, mPos := 0, mNeg := 0, mDelay := 0, mGain := 16777216, mOffs := 0, tDelay := 0, tGain := 16777216
    tOffs := 0, fDelay := 0, fGain := 16777216, fOffs := 0, lastDelay := List.replicate 10 0, keep := false
    refLevel := List.replicate 11 none, tau := none, selectNext := none, nextSlice := 0, deferUnits := 0
    stalled := false, actions := [], view := [], pauseReq := false, hot := List.replicate 11 1000, servedCfg := 0 }

/-- The process integrators at rest. -/
def Proc.reset : Proc :=
  { running := false, urgent := false, delaying := false, waiting := false, group := 0, ctrl := 0, entries := []
    urgentEntry := 0, delay := 0, wins := [], openMode := 0, openLen := 0, openUnits := 0, openCyc := 0
    isOpen := false, urgentPend := false, held := [], fresh := [], nextB := List.replicate 10 false, outstanding := []
    passDone := false, ending := false, timerUnits := 0, startPrev := 0, urgentAt := none, loopLow := List.replicate 8 0
    loopHigh := List.replicate 8 0, loopGood := List.replicate 8 0, lineDue := [], prevOn := false }

/-- Sums of nothing. -/
def Sums.reset : Sums :=
  { sq := List.replicate 10 0, sm := [0, 0, 0], sp := [0, 0, 0], sqq := [0, 0, 0], spv := 0, sbt := 0, len := 0 }

/-- A span of nothing. -/
def Span.reset : Span := { sums := Sums.reset, force := 0, settling := false, kind := 0 }

/-- A half of nothing. -/
def Half.reset : Half := { sq := List.replicate 10 0, len := 0, force := 0x7FF }

/-- The line tracker in ACQUIRE, with the period of LINE_PERIOD's reset value (08). -/
def Line.reset : Line :=
  { st := 0, flyCnt := 0, last := 0, pg := 15728640, exp := 0, clk := 0, clkPrev := 0, armed := [false, false, false], lastRaw := none
    entered := 0, provStart := none, refOn := false, itemOn := false, enter := false, cross := none, prov := none
    open_ := false, openKind := 0, vq := [0, 0, 0], cyc := Span.reset, win := Span.reset
    winCycles := 0, winClock := 0, winOpen := false, tail := none, sSum := 0, halfPrev := Half.reset
    halfCur := Half.reset, mid := none, halfNow := false, halfVals := List.replicate 10 0
    quad := List.replicate 3 [] }

/-- The energy registers and their store before LOAD (08 R188). -/
def Energy.reset : Energy :=
  { imp := List.replicate 12 0, exp := List.replicate 12 0, res := List.replicate 12 0, incImp := List.replicate 12 0
    incExp := List.replicate 12 0, wrapImp := 0, wrapExp := 0, slot := 0, seq := 0, seqNext := 1, restored := false, blank := false
    erasing := false, cause := 0, saveReq := false, nextSlot := 0, units := 0, rebuild := false
    cf := List.replicate 4 { acc := 0, fresh := none, arr := none, queue := [], high := false, lastStart := none, ends := 0 } }

/-- The harmonic engine at rest. -/
def Harm.reset : Harm :=
  { ram := [], bounds := [], force := 0, spoilt := false, next := none, job := none, copy := none
    g := List.replicate 7 (List.replicate 64 0) }

/-- No event in progress. -/
def PqEvent.reset : PqEvent := { active := false, start := 0, dur := 0, ext := 0, extPhase := 0, phases := 0 }

/-- Power quality at rest. -/
def Pq.reset : Pq :=
  { belowSag := 0, aboveSwell := 0, belowIntr := 0, sag := PqEvent.reset, swell := PqEvent.reset, intr := PqEvent.reset
    started := 0 }

/-- The capture engine in IDLE. -/
def Capture.reset : Capture :=
  { st := 0, cfg := 0, vbase := 0, ring := 0, post := 0, capEn := 0, flines := 0, wrLine := 0, queue := []
    written := false, before := 0, left := 0, armReq := false, forceReq := false, stopReq := false, peakSeen := false
    detSeen := false, source := 0, cause := 0, shown := none }

/-- Capture memory of zeros with valid tags; bank 0 has just powered up and initialises (10 R212). -/
def Mem.reset : Mem :=
  { data := [], tags := [], ready := 0, init := 1, initCyc := [0, 0], reqs := [], busy := 0, owner := none, drained := false, scrubPos := 0
    scrubUnits := 0, scrubSteps := 0, backlog := 0, scrubDue := 0, writeBack := none, poison := none
    lagReported := false }

/-- No segment enabled, no copy held. -/
def Dresser.reset : Dresser := { shadow := [], inForce := [], cache := List.replicate 8 none }

/-- A link in OFF. -/
def Link.reset : Link := { st := 0, aligned := 0, idleRun := 0, rxok := false, held := false }

/-- The chain before the wiring test (11 R256). -/
def Chain.reset : Chain :=
  { wired := false, wiringDone := false, posValid := false, pos := 0, conflict := false, up := Link.reset
    dn := Link.reset, sent := [], mrqs := [], remote := [], enum := none, ltag := 0 }

/-- The Bureau before its restore. -/
def Bureau.reset : Bureau :=
  { events := [], open_ := none, openUnits := 0, queue := [], stageHead := 0, staged := [], toStage := []
    stageFault := false, stageLen := 0, stageBase := 0, nextSeq := 1, floor := 0, hours := 0, soh := 0, pcc := 0
    units := 0, opened := List.replicate 32 0, suppressed := List.replicate 32 0, firstSup := List.replicate 32 0
    nextSlot := 0, writing := false, erasing := false, marks := [], tsNext := 0, tsSeq := 1, tsDue := 0
    chgDone := [false, false, false] }

/-- The evidence log before its check, and no seal. -/
def Evidence.reset : Evidence :=
  { next := 0, chain := 0, full := false, damaged := false, writing := false, lostNow := 0, sealSt := 0, sealCnt := 0
    shadow := [], sealShadow := 0xFFFFF, checkDue := false }

/-- The Hutch in OFF, with the reset values of its registers latched. -/
def Hutch.reset : Hutch :=
  { st := 0, cause := 0, crack := false, timBad := false, bank := 0, bankNext := 0, temp := 0, frame := 0
    ctrl := 0x18, size := 0x140F0, clk := 0x8, htim := 0x64118, vtim := 0x40046, bufCur := 0, bufPrev := 0
    railSet := 0x64000, pavdd := false, vgl := false, vgh := false, vcom := false, xdis := false, phase := 0
    clearing := false, discharging := false, after := 0, offPending := false
    rects := List.replicate 4
      { st := 0, x0 := 0, y0 := 0, w := 0, h := 0, age := 0, left := 0, row := 0, line := 0 }
    ageNext := 0, row := 0, levels := [], pols := [], blinkWait := List.replicate 4 none
    blinkOff := List.replicate 4 false, copying := none, flReq := false, flMa := 0, flDuty := 0, flOn := false }

/-- The machine right after reset. -/
def State.reset : State :=
  { pending := [], free := 0, regs := [], inForce := [], snap := [], fir := [], firActive := false, od := []
    power := Power.reset, seq := Seq.reset, aon := Aon.reset, ports := Ports.reset, streams := Streams.reset
    stool := Stool.reset, proc := Proc.reset, line := Line.reset, energy := Energy.reset, harm := Harm.reset
    pq := Pq.reset, cap := Capture.reset, mem := Mem.reset, dresser := Dresser.reset, chain := Chain.reset
    bureau := Bureau.reset, evid := Evidence.reset, hutch := Hutch.reset
    pins := { board := 0, latched := 0, parked := 0 }
    nvm := { data := factoryNvm, op := none, units := 0, waiting := [], undef := [] } }

end Sys2Proof.Machine
end

