-- ==== Sys2Proof/Machine/Ops.lean ====
section
/-!
DEFINITION. The named operations over registers and the small questions every command asks of the state: register
reads and writes by number (00 R8, R10; 18 R375), the copies in force and in the snapshot, the sequencer's state, the
length of a tick.
-/

namespace Sys2Proof.Machine

/-! ### Registers -/

/-- The registers PD0 AON retains (18 R375, marker ret.), AUTH_STATE apart, which is computed. -/
def isRetained (n : Nat) : Bool :=
  n == 0x118 || n == 0x209 || n == 0x70F || n == 0x7A3 || (decide (0x780 ≤ n) && decide (n ≤ 0x798) && n != 0x782)

/-- The stored value of register `n`: of an SH field the shadow copy (00 R8). -/
def getReg (s : State) (n : Nat) : Word :=
  if isRetained n then sget regReset s.aon.regs n else sget regReset s.regs n

/-- Register `n` takes the stored value `v`. -/
def setReg (s : State) (n : Nat) (v : Word) : State :=
  if isRetained n then { s with aon := { s.aon with regs := sset regReset s.aon.regs n v } }
  else { s with regs := sset regReset s.regs n v }

/-- The stored value as a number. -/
def regN (s : State) (n : Nat) : Nat := (getReg s n).toNat

/-- The stored value as a signed number. -/
def regI (s : State) (n : Nat) : Int := (getReg s n).toInt

/-- The in-force copy of an SH register (00 R8). -/
def forceReg (s : State) (n : Nat) : Word := sget regReset s.inForce n

/-- Register `n` takes the in-force value `v`. -/
def setForce (s : State) (n : Nat) (v : Word) : State :=
  { s with inForce := sset regReset s.inForce n v }

/-- The snapshot's value of an SN register (00 R10). -/
def snapReg (s : State) (n : Nat) : Word := sget regReset s.snap n

/-- The snapshot's value as a number. -/
def snapN (s : State) (n : Nat) : Nat := (snapReg s n).toNat

/-- The snapshot's value as a signed number. -/
def snapI (s : State) (n : Nat) : Int := (snapReg s n).toInt

/-- Register `n` with the bits of `m` set. -/
def orReg (s : State) (n m : Nat) : State := setReg s n (getReg s n ||| wd m)

/-- Register `n` with the bits of `m` clear. -/
def clearReg (s : State) (n m : Nat) : State := setReg s n (getReg s n &&& ~~~(wd m))

/-- A counter register `k` higher, saturating at 0xFFFFF. -/
def addReg (s : State) (n k : Nat) : State := setReg s n (wd (min (regN s n + k) 0xFFFFF))

/-- A counter register one higher, saturating at 0xFFFFF. -/
def incReg (s : State) (n : Nat) : State := addReg s n 1

/-- A counter register one higher, modulo 2^20. -/
def incMod (s : State) (n : Nat) : State := setReg s n (getReg s n + 1)

/-- Consecutive registers from `n` take these values. -/
def setRegs (s : State) (n : Nat) : List Word → State
  | [] => s
  | v :: r => setRegs (setReg s n v) (n + 1) r

/-! ### The sequencer -/

/-- The sequencer runs the full schedule (03 R52). -/
def running (s : State) : Bool := decide (s.seq.st = .run) || decide (s.seq.st = .settle)

/-- The ports carry out every opcode (03 R52): RUN, SETTLE or HOLD. -/
def portsUp (s : State) : Bool := running s || decide (s.seq.st = .hold)

/-- The ports answer BUSY (03 R55): COLD or LOAD. -/
def starting (s : State) : Bool := decide (s.seq.st = .cold) || decide (s.seq.st = .load)

/-- PD2 CORE is at work: the sequencer is in some state. -/
def coreOn (s : State) : Bool := decide (s.seq.st ≠ .off)

/-- Units of 125 µs in a tick of the mode in force (00, Time). -/
def tickUnits (s : State) : Nat := if s.power.settle then 4 else 1

/-- Line-clock length of a tick of the mode in force (08, Time on the line clock). -/
def tickClock (s : State) : Nat := if s.power.settle then 393216 else 98304

/-- Line-clock length of a DCLK cycle of the mode in force. -/
def cycleClock (s : State) : Nat := if s.power.settle then 64 else 16

/-- A domain is at work (02 R31). -/
def works (s : State) (d : Nat) : Bool := s.power.working.getLsbD d

/-- Domain `d` is on (DOMAIN_STATE). -/
def domOn (s : State) (d : Nat) : Bool := s.power.on.getLsbD d

/-- The domain of stream `n` (03 R74). -/
def streamDomain (n : Nat) : Nat := if n ≤ 3 then 3 else if n ≤ 9 then 4 else 5

/-- This tick has brought event `d` already. -/
def did (s : State) (d : Did) : Bool := s.seq.did.contains d

/-- Note that this tick has brought event `d`. -/
def mark (s : State) (d : Did) : State := { s with seq := { s.seq with did := d :: s.seq.did } }

/-- A foreground result for item 16 (03 R72). -/
def publish (s : State) (p : Pub) : State := { s with seq := { s.seq with pub := s.seq.pub ++ [p] } }

/-- Several foreground results. -/
def publishAll (s : State) (ps : List Pub) : State := { s with seq := { s.seq with pub := s.seq.pub ++ ps } }

/-- The next draw of a free value. -/
def nextFree (s : State) : State := { s with free := s.free + 1 }

/-- The oscillator's count of periods (16 R358). -/
def oscNow (s : State) : Nat := s.aon.time / 125

/-- Whole seconds of the oscillator's time. -/
def secNow (s : State) : Nat := s.aon.time / 4096000

/-- The oscillator's time brought forward to `now` periods; it never runs back. -/
def atOsc (s : State) (now : Nat) : State :=
  { s with aon := { s.aon with time := max s.aon.time (now * 125) } }

/-! ### Status codes of a reply (04, Status codes) -/

def stOk : Nat := 0
def stBusy : Nat := 1
def stBadCrc : Nat := 2
def stBadOpc : Nat := 3
def stBadLen : Nat := 4
def stBadReg : Nat := 5
def stDenied : Nat := 6
def stSegFault : Nat := 7
def stMemPoison : Nat := 8
def stDropped : Nat := 9
def stRectWait : Nat := 10
def stChainDown : Nat := 11
def stTimeout : Nat := 12

end Sys2Proof.Machine
end

