-- ==== Sys2Proof/Machine/Flags.lean ====
section
/-!
DEFINITION. Status bits, their routes and the events they deliver: 03 R75, 12 R258, R259, R261. One operation sets a
source's status bit, and with the bit's rise delivers the source's event.
-/

namespace Sys2Proof.Machine

/-- Severity of source `src` (18 R378). -/
def srcSeverity (src : Nat) : Nat :=
  if src = 61 ∨ (72 ≤ src ∧ src ≤ 75) then 2 else 1

/-- Bureau code of source `src` (18 R378). -/
def srcCode (src : Nat) : Nat := 0x100 + 32 * (src / 20) + src % 20

/-- The source's event (12 R258). -/
def srcEvent (src : Nat) : BEvent :=
  { code := srcCode src, sev := srcSeverity src, p0 := 0, p1 := 0, p2 := 0, rep := 0 }

/-- An event joins those of the tick: a further rising of a source in the tick adds one to its repeat count
(12 R259). -/
def joinEvent (e : BEvent) : List BEvent → List BEvent
  | [] => [e]
  | a :: r => if a.code = e.code then { a with rep := a.rep + 1 } :: r else a :: joinEvent e r

/-- An event is delivered to the Bureau; after PFAIL it is discarded (12 R260). -/
def deliver (s : State) (e : BEvent) : State :=
  if s.seq.st = .off ∨ s.seq.st = .gasp then s
  else { s with bureau := { s.bureau with events := s.bureau.events ++ [e] } }

/-- An event of a source is delivered (12 R259). -/
def deliverSource (s : State) (src : Nat) : State :=
  { s with bureau := { s.bureau with events := joinEvent (srcEvent src) s.bureau.events } }

/-- Rises deliver events (12 R261, R266): in RUN, SETTLE, and in HOLD once the restore has been made. -/
def risesDeliver (s : State) : Bool := portsUp s && !s.seq.holdRestore

/-- The status bit of `src` as it stands. -/
def statusBit (s : State) (src : Nat) : Bool := bitAt (getReg s (src / 20)) (src % 20)

/-- The source is routed to the Bureau: its bit of IRQ_ROUTE_REC is 1 and it is none of 69 to 71 (12 R259). -/
def routedRec (s : State) (src : Nat) : Bool :=
  bitAt (getReg s (0x00C + src / 20)) (src % 20) && !(decide (69 ≤ src) && decide (src ≤ 71))

/-- Source `src` sets its status bit, whatever its mask and routes, and delivers its event when the bit rises
(03 R75). While PD2 is off there is no bit to set. -/
def raise (s : State) (src : Nat) : State :=
  if coreOn s then
    let rose := !statusBit s src
    let t := orReg s (src / 20) (2 ^ (src % 20))
    if rose && routedRec s src && risesDeliver s then deliverSource t src else t
  else s

/-- Several sources set their status bits. -/
def raiseAll (s : State) (srcs : List Nat) : State := srcs.foldl raise s

/-- `raise` where `c` holds. -/
def raiseIf (c : Bool) (src : Nat) (s : State) : State := if c then raise s src else s

/-- The outputs of domain `d` drive: it is at work, PD2 is out of reset, and there is no GASP. Otherwise each is in high
impedance (02 R48, 15 R335). -/
def outputsOn (s : State) (d : Nat) : Bool := coreOn s && works s d && decide (s.seq.st ≠ .gasp)

/-- An enabled source of a bank of routes (03 R75): those of IRQ at 0x004, of EVT at 0x008. In GASP both outputs carry
PFAIL alone (02 R48). -/
def routed (s : State) (bank : Nat) : Bool :=
  if s.seq.st = .gasp then bitAt (getReg s 0) 0 && bitAt (getReg s bank) 0
  else outputsOn s 11 && (upto 4).any (fun k => decide (getReg s k &&& getReg s (bank + k) ≠ 0))

/-- IRQ is driven low; otherwise it is in high impedance (03 R75; 15 R335). -/
def irqPin (s : State) : Bool := routed s 0x004

/-- The level EVT drives; none in high impedance (03 R75, 02 R48). -/
def evtPin (s : State) : Option Bool :=
  if routed s 0x008 then some true else if outputsOn s 11 then some false else none

/-- Sources by name (18 R378). -/
def srcPfail : Nat := 0
def srcLowRes : Nat := 1
def srcShuntOn : Nat := 2
def srcVauxUp : Nat := 3
def srcVauxDown : Nat := 4
def srcVbcLow : Nat := 5
def srcGrantRefused : Nat := 6
def srcGrantRevoked : Nat := 7
def srcModeChanged : Nat := 8
def srcRestarted : Nat := 9
def srcStateChanged : Nat := 10
def srcHoldEntered : Nat := 11
def srcImageFallback : Nat := 12
def srcLoadFailed : Nat := 13
def srcTrimBad : Nat := 14
def srcCommitApplied : Nat := 15
def srcCfgMismatch : Nat := 16
def srcBgShort : Nat := 17
def srcSchedShort : Nat := 18
def srcWake : Nat := 19
def srcHostReply : Nat := 20
def srcMaintRx : Nat := 21
def srcPortErr : Nat := 22
def srcAuthFail : Nat := 23
def srcAuthLock : Nat := 24
def srcKeyLoaded : Nat := 25
def srcPeak : Nat := 26
def srcOverrange : Nat := 27
def srcStoolSwitch : Nat := 28
def srcStoolDefer : Nat := 29
def srcStoolFault : Nat := 30
def srcRotationDone : Nat := 31
def srcSeqDone : Nat := 32
def srcUrgDone : Nat := 33
def srcProcOverrun : Nat := 34
def srcLoopFault : Nat := 35
def srcFirSwap : Nat := 36
def srcFirSat : Nat := 37
def srcDetDone : Nat := 38
def srcDetHit : Nat := 39
def srcCycleDone : Nat := 40
def srcWindowDone : Nat := 41
def srcLineFly : Nat := 42
def srcLineLost : Nat := 43
def srcLineLock : Nat := 44
def srcEnergyWrap : Nat := 45
def srcEsaveDone : Nat := 46
def srcEsaveFail : Nat := 47
def srcCfOver : Nat := 48
def srcResultSat : Nat := 49
def srcHarmDone : Nat := 50
def srcHarmSkip : Nat := 51
def srcHarmFault : Nat := 52
def srcSagStart : Nat := 53
def srcSwellStart : Nat := 54
def srcIntrStart : Nat := 55
def srcPqEnd : Nat := 56
def srcCapTrig : Nat := 57
def srcCapDone : Nat := 58
def srcCapFault : Nat := 59
def srcMemCe : Nat := 60
def srcMemUe : Nat := 61
def srcScrubPass : Nat := 62
def srcScrubLag : Nat := 63
def srcArbStarve : Nat := 64
def srcArbDrained : Nat := 65
def srcSegFault : Nat := 66
def srcLinkChange : Nat := 67
def srcChainReject : Nat := 68
def srcRecWritten : Nat := 69
def srcRecLimit : Nat := 70
def srcRecLoss : Nat := 71
def srcTampSense : Nat := 72
def srcTampQualified : Nat := 73
def srcCupboardErased : Nat := 74
def srcEvidence : Nat := 75
def srcDispReady : Nat := 76
def srcRectDone : Nat := 77
def srcDispFault : Nat := 78
def srcDispErr : Nat := 79

end Sys2Proof.Machine
end

