-- ==== Sys2Proof/Machine/Sched.lean ====
section
/-!
DEFINITION. The Trestle table: the in-force schedule with its domain masks (03 R74), the length and start of each
foreground item (R64 to R66), the background margins (R67 to R70), and FIR lengths (07 R161).
-/

namespace Sys2Proof.Machine

/-- A schedule: the four SCHED words and the FIR lengths of streams 0 to 9. -/
structure Sched where
  w0 : Word
  w1 : Word
  w2 : Word
  w3 : Word
  fir : List Nat
  deriving DecidableEq, Repr

/-- The number of the low `k` bits of `w` that are set. -/
def popW (w : Word) (k : Nat) : Nat := ((upto k).filter (fun i => bitAt w i)).length

/-- A word whose bit i is `f i`, for i < k. -/
def maskOf (k : Nat) (f : Nat → Bool) : Word :=
  wd ((upto k).foldl (fun a i => a + (if f i then 2 ^ i else 0)) 0)

/-- The domain of harmonic channel `c` (03 R74). -/
def harmDomain (c : Nat) : Nat := if c ≤ 2 then 3 else 4

/-- The stream of harmonic channel `c` (VA, VB, VC, IA, IB, IC, IN). -/
def harmStream (c : Nat) : Nat := if c ≤ 2 then c else c + 1

/-- The stream that DET_CFG selects in the snapshot (07). -/
def detStream (s : State) (d : Nat) : Nat := fld (snapReg s (0x3C8 + d)) 0 4

/-- SCHED_STATE0: masked by PD3, PD4, PD5 and PD6; the Stool stays while it carries (03 R74, 05 R128). -/
def schedState0 (s : State) : Word :=
  let r := forceReg s 0x184
  maskOf 12 (fun i =>
    if i ≤ 9 then bitAt r i && works s (streamDomain i)
    else if i = 10 then (bitAt r 10 || s.stool.carrying) && works s 5
    else bitAt r 11 && works s 6)

/-- SCHED_STATE1 (03 R74): HARM_EN, DET_EN, CF_EN. -/
def schedState1 (s : State) : Word :=
  let r := forceReg s 0x185
  maskOf 15 (fun i =>
    if i ≤ 6 then bitAt r i && works s (harmDomain i)
    else if i ≤ 10 then bitAt r i && works s (streamDomain (detStream s (i - 7)))
    else bitAt r i)

/-- SCHED_STATE2 (03 R74): CAP_EN. -/
def schedState2 (s : State) : Word :=
  let r := forceReg s 0x186
  maskOf 11 (fun i => bitAt r i && works s (streamDomain i))

/-- SCHED_STATE3: ENERGY_EN, never masked (03 R74). -/
def schedState3 (s : State) : Word := forceReg s 0x187

/-- Stream `n` (10 the Stool) is in force. -/
def inSched (s : State) (n : Nat) : Bool := bitAt (schedState0 s) n

/-- FIR length in force of working stream `n`. -/
def firLen (s : State) (n : Nat) : Nat := fld (forceReg s (0x3A0 + n)) 0 8

/-- The schedule in force. -/
def schedNow (s : State) : Sched :=
  { w0 := schedState0 s, w1 := schedState1 s, w2 := schedState2 s, w3 := schedState3 s,
    fir := (upto 10).map (firLen s) }

/-- The schedule a COMMIT of SCHED and FIR would bring into force, without domain masks (03 R70). -/
def schedReq (s : State) : Sched :=
  { w0 := getReg s 0x184, w1 := getReg s 0x185, w2 := getReg s 0x186, w3 := getReg s 0x187,
    fir := (upto 10).map (fun n => fld (getReg s (0x3A0 + n)) 0 8) }

/-- Working streams enabled, `w` of 03 R65. -/
def Sched.w (c : Sched) : Nat := popW c.w0 10

/-- Streams with the Stool, `u` of 03 R65. -/
def Sched.u (c : Sched) : Nat := c.w + b2n (bitAt c.w0 10)

/-- Phase `ph` has both V and I enabled. -/
def Sched.phase (c : Sched) (ph : Nat) : Bool := bitAt c.w0 ph && bitAt c.w0 (ph + 4)

/-- Phases with both V and I enabled, `p` of 03 R67. -/
def Sched.p (c : Sched) : Nat := ((upto 3).filter c.phase).length

/-- The FIR length of the Stool stream: the largest among the enabled working streams (03 R66). -/
def Sched.stoolLen (c : Sched) : Nat :=
  (upto 10).foldl (fun m n => if bitAt c.w0 n then max m (nth c.fir n 0) else m) 0

/-- Cycles of item 3 for one stream of length `n` (03 R65). -/
def firCost (n : Nat) : Nat := if n = 0 then 0 else 8 + (n + 1) / 2

/-- Length in cycles of item `m`, 1 to 16 (03 R65, R66). -/
def Sched.len (c : Sched) (m : Nat) : Nat :=
  match m with
  | 1 => 96
  | 2 => 40 * c.u
  | 3 => sumN ((upto 10).map (fun n => if bitAt c.w0 n then firCost (nth c.fir n 0) else 0))
      + (if bitAt c.w0 10 then firCost c.stoolLen else 0)
  | 4 => if c.w = 0 then 0 else 96
  | 5 => 136 * popW c.w0 3
  | 6 => 64 * c.p + (if bitAt c.w0 7 then 16 else 0)
      + (if bitAt c.w0 3 && bitAt c.w0 8 then 32 else 0) + (if bitAt c.w0 9 then 32 else 0)
  | 7 => 64 * c.w
  | 8 => 16 * c.w
  | 9 => 24 * popW c.w3 12
  | 10 => 32 * popW (c.w1 >>> 11) 4
  | 11 => 76 * popW (c.w1 >>> 7) 4
  | 12 => if bitAt c.w0 11 then 256 else 0
  | 13 => 8 * popW c.w2 11
  | 14 => if bitAt c.w0 10 then 128 else 0
  | 15 => 32 * popW c.w1 7
  | 16 => 96
  | _ => 0

/-- Start cycle of item `m`: the sum of the lengths before it (03 R64). -/
def Sched.start (c : Sched) (m : Nat) : Nat := sumN ((upto (m - 1)).map (fun i => c.len (i + 1)))

/-- F, the foreground total (03 R64). -/
def Sched.total (c : Sched) : Nat := c.start 17

/-- Whole ticks in the shortest line cycle (03 R69). -/
def pmin (settle nom60 : Bool) : Nat :=
  ((if settle then 2000 else 8000) * 100) / (115 * (if nom60 then 60 else 50))

/-- Cycles of cycle closure per line cycle (03 R67). -/
def Sched.closure (c : Sched) : Nat := 96 * c.w + 64 * c.p + 384

/-- The margin of 03 R69. -/
def Sched.margin (c : Sched) (settle nom60 : Bool) : Int :=
  let bg : Int := 6144 - (c.total : Int)
  let stool : Int := if bitAt c.w0 10 then 256 else 0
  (pmin settle nom60 : Int) * (bg - stool) - (c.closure : Int) - 4096 * (popW c.w1 7 : Int)

/-- The nominal frequency in force is 60 Hz (08 LINE_CFG NOM). -/
def nom60 (s : State) : Bool := bitAt (snapReg s 0x400) 4

/-- P0 in line-clock units (08, Time on the line clock). -/
def nominalP0 (s : State) : Int := if nom60 s then 13107200 else 15728640

end Sys2Proof.Machine
end

