-- ==== Sys2Proof/Machine/Power.lean ====
section
/-!
DEFINITION. The power manager (02): levels, sources and the charge of VRES (R24 to R27), costs, floors and ceilings of the grant
protocol (R35 to R39), the mode rule (R40, R41) and what the domains are asked to do (R34).
-/

namespace Sys2Proof.Machine

/-! ### Levels -/

/-- LOW_RES in mV (02 MODE_CTRL LOW_RES_SEL). -/
def lowResMv (s : State) : Nat :=
  let v := fld (getReg s 0x10A) 4 4
  3000 + 100 * (if v ≤ 3 then 3 else v)

/-- AUTO_SETTLE is 1. -/
def autoSettle (s : State) : Bool := bitAt (getReg s 0x10A) 8

/-- The class H floor in mV (02 GRANT_FLOORS). -/
def hvyFloor (s : State) : Nat := 3600 + 20 * fld (getReg s 0x115) 8 6

/-- The class O floor in mV. -/
def optFloor (s : State) : Nat := 3600 + 20 * fld (getReg s 0x115) 0 6

/-- VRES_BAND of PWR_STATUS (02). Codes 1 to 5 alone are used, and below 2.9 V no band is named; the
code then reads 1, the lowest (log entry 9). -/
def vresBand (s : State) : Nat :=
  let v := s.power.vres
  if v ≥ 5500 then 5
  else if v ≥ hvyFloor s then 4
  else if v ≥ optFloor s then 3
  else if v ≥ 3600 then 2
  else 1

/-- The source PD0 draws from (R26): by priority, not by voltage. VBC is present from 2.2 V on, where the table of sources
calls it valid (log entry 28). -/
def aonSource (vres : Nat) (vauxValid : Bool) (vbc : Nat) : AonSrc :=
  if vres ≥ 2600 then .vres else if vauxValid then .vaux else if vbc ≥ 2200 then .vbc else .none

/-! ### PD0 AON (R26, 13 R282) -/

/-- PD0 is unpowered: what it retains is lost. -/
def lostAon (s : State) : State := { s with aon := { Aon.reset with powered := false } }

/-- PD0 powers up: everything it retains takes its reset value, and the dark seconds start at 0 (13 R294). -/
def aonUp (s : State) : State :=
  { s with aon := { Aon.reset with darkFrom := if coreOn s then none else some 0 } }

/-- PD0 follows its sources: it is unpowered while none is present. -/
def aonFollow (s : State) : State :=
  if s.aon.powered && decide (s.power.aonSrc = .none) then lostAon s
  else if !s.aon.powered && decide (s.power.aonSrc ≠ .none) then aonUp s
  else s

/-! ### The load's source and the charge of VRES (R24, R25) -/

/-- The current of AUX_CHG_I in mA (02 AUX_CTRL). -/
def auxCurrent (s : State) : Nat :=
  match fld (getReg s 0x116) 4 2 with
  | 0 => 5
  | 1 => 10
  | _ => 20

/-- VRES is charged from VAUX: VAUX is valid, AUX_CHG is 1, and VRES stands below VAUX − 0.2 V and below 5.5 V (R25). -/
def chargesVres (s : State) : Bool :=
  s.power.vauxValid && bitAt (getReg s 0x116) 0 && decide (s.power.vres + 200 < s.power.vaux)
    && decide (s.power.vres < 5500)

/-- The charge current follows the voltages and AUX_CTRL (R25). -/
def chargeFollow (s : State) : State :=
  { s with power := { s.power with charge := if chargesVres s then auxCurrent s else 0 } }

/-- The running load's source and the charge of VRES follow VAUX and AUX_CTRL (R24, R25). -/
def chooseLoad (s : State) : State :=
  chargeFollow { s with power := { s.power with loadAux := s.power.vauxValid && bitAt (getReg s 0x116) 1 } }

/-! ### New voltages -/

/-- BELOW_LOW compared anew: its rise sets LOW_RES; while it is 1, AUTO_SETTLE without VAUX requests Settle (R27, R41). -/
def compareLow (s : State) : State :=
  let b := decide (s.power.vres < lowResMv s)
  let t : State := { s with power := { s.power with
    belowLow := b, autoReq := autoSettle s && (s.power.autoReq || (b && !s.power.vauxValid)) } }
  raiseIf (b && !s.power.belowLow) srcLowRes t

/-- BELOW_LOW as it stands, while no register file keeps its interrupt. -/
def levelLow (s : State) : State :=
  { s with power := { s.power with belowLow := decide (s.power.vres < lowResMv s) } }

/-- VRES takes a new value: what is decided on its level follows. -/
def setVres (s : State) (mv : Nat) : State :=
  aonFollow (compareLow (chargeFollow { s with power := { s.power with
    vres := mv
    shunt := s.power.shunt && decide (mv ≥ 5500)
    aonSrc := aonSource mv s.power.vauxValid s.power.vbc } }))

/-- VBC takes a new value; a fall below 2.2 V sets VBC_LOW (02, power interrupt bits) and dates the fall. -/
def setVbc (s : State) (mv : Nat) : State :=
  let ok := decide (mv ≥ 2200)
  let t : State := { s with power := { s.power with
    vbc := mv, vbcOk := ok, vbcFell := if s.power.vbcOk && !ok then some s.aon.time else s.power.vbcFell
    aonSrc := aonSource s.power.vres s.power.vauxValid mv } }
  aonFollow (raiseIf (s.power.vbcOk && !ok) srcVbcLow t)

/-! ### Grants: costs in units of 0.05 mW (R35) -/

/-- The cost of the always-on base. -/
def baseCost (settle : Bool) : Nat := if settle then 24 else 220

/-- fl_cost_q of R36, in qmW. -/
def flCost (ma duty : Nat) : Nat := (ma * 20 * duty + 254) / 255

/-- The cost of consumer `c` (R35, R36). -/
def cost (s : State) (settle : Bool) (c : Nat) : Nat :=
  match c with
  | 0 => if settle then 9 else 70
  | 1 => if settle then 15 else 110
  | 2 => if settle then 8 else 70
  | 3 => 120
  | 4 => if settle then 4 else 30
  | 5 => if settle then 2 else 20
  | 6 => 120
  | 7 => 80
  | 8 => 5 * flCost s.hutch.flMa s.hutch.flDuty
  | 9 => 1000
  | _ => 0

/-- Base plus the costs of the grants `g` (R37). -/
def grantSum (s : State) (settle : Bool) (g : BitVec 10) : Nat :=
  baseCost settle + sumN ((upto 10).map (fun c => if g.getLsbD c then cost s settle c else 0))

/-- The ceiling in force in units of 0.05 mW (R37). -/
def ceiling (s : State) : Nat := 5 * (if s.power.vauxValid then regN s 0x114 else regN s 0x113)

/-- The floor of consumer `c`'s class in mV (R35, R37). -/
def floorOf (s : State) (c : Nat) : Nat :=
  if c ≤ 3 then 3600 else if c ≤ 7 then optFloor s else hvyFloor s

/-- The NVM has something to program or erase (R35, consumer 3). -/
def nvmWants (s : State) : Bool :=
  s.nvm.op.isSome || !s.nvm.waiting.isEmpty
    || (portsUp s && ((!s.aon.evQueue.isEmpty && !s.evid.full) || (s.energy.saveReq && s.energy.restored)
        || !s.bureau.queue.isEmpty || decide (s.bureau.tsDue ≠ 0)))

/-- The panel is live (14 R332). -/
def panelLive (s : State) : Bool :=
  s.hutch.st == 1 || s.hutch.st == 2 || s.hutch.st == 3 || s.hutch.st == 4 || s.hutch.st == 6

/-- DOMAIN_REQ of the snapshot asks for domain `d`. -/
def domAsked (s : State) (d : Nat) : Bool := bitAt (snapReg s 0x108) d

/-- Consumer `c` requests power: the domains by DOMAIN_REQ, PD5 as long as the Stool carries (05 R128), PD10 until its
panel is down (14 R332), the NVM, the links (11 R252), the frontlight (14 R328), MTX (04 R101). -/
def requests (s : State) (c : Nat) : Bool :=
  match c with
  | 0 => domAsked s 3
  | 1 => domAsked s 4
  | 2 => domAsked s 6
  | 3 => nvmWants s
  | 4 => domAsked s 5 || s.stool.carrying
  | 5 => domAsked s 8
  | 6 => domAsked s 10 || (domOn s 10 && panelLive s)
  | 7 => decide (getReg s 0x690 ≠ 0)
  | 8 => s.hutch.flReq
  | 9 => s.ports.mtxReq
  | _ => false

/-- GRANT_PEND: requested and not granted (02). -/
def pendMask (s : State) : BitVec 10 :=
  BitVec.ofNat 10 ((upto 10).foldl
    (fun a c => if requests s c && !s.power.granted.getLsbD c then a + 2 ^ c else a) 0)

/-- One bit of a mask set or cleared. -/
def setBit10 (m : BitVec 10) (c : Nat) (b : Bool) : BitVec 10 :=
  if b then m ||| BitVec.ofNat 10 (2 ^ c) else m &&& ~~~(BitVec.ofNat 10 (2 ^ c))

/-- One bit of a domain mask set or cleared. -/
def setBit12 (m : BitVec 12) (d : Nat) (b : Bool) : BitVec 12 :=
  if b then m ||| BitVec.ofNat 12 (2 ^ d) else m &&& ~~~(BitVec.ofNat 12 (2 ^ d))

/-- Consumer `c` is evaluated (R37, R38): granted when the floor and the ceiling allow, else refused, which is
reported once until it is granted or withdrawn. A request that is no longer raised loses its grant. -/
def evalConsumer (s : State) (c : Nat) : State :=
  if !requests s c then
    { s with power := { s.power with
        granted := setBit10 s.power.granted c false, refused := setBit10 s.power.refused c false } }
  else if s.power.granted.getLsbD c then s
  else if s.power.vres ≥ floorOf s c ∧
      grantSum s s.power.settle s.power.granted + cost s s.power.settle c ≤ ceiling s then
    { s with power := { s.power with
        granted := setBit10 s.power.granted c true, refused := setBit10 s.power.refused c false } }
  else
    raiseIf (!s.power.refused.getLsbD c) srcGrantRefused
      { s with power := { s.power with refused := setBit10 s.power.refused c true } }

/-- One pass over the pending requests in ascending consumer number (R38). -/
def evaluateGrants (s : State) : State := (upto 10).foldl evalConsumer s

/-- The grant of consumer `c` is revoked: its request is then new (R39). -/
def dropGrant (s : State) (c : Nat) : State :=
  if s.power.granted.getLsbD c then
    raise { s with power := { s.power with
      granted := setBit10 s.power.granted c false, refused := setBit10 s.power.refused c false } } srcGrantRevoked
  else s

/-- Grants of classes O and H whose floor less 0.2 V stands above VRES are revoked together (R39 case 1). -/
def revokeFloors (s : State) : State :=
  [4, 5, 6, 7, 8, 9].foldl
    (fun t c => if decide (s.power.vres + 200 < floorOf s c) then dropGrant t c else t) s

/-- Grants are revoked in descending consumer number until the sum fits under the ceiling (R39 case 2). -/
def revokeCeiling (s : State) : State :=
  [9, 8, 7, 6, 5, 4, 3, 2, 1, 0].foldl
    (fun t c => if grantSum t t.power.settle t.power.granted > ceiling t then dropGrant t c else t) s

/-! ### Mode (R40, R41) -/

/-- Settle is requested: by AUTO_SETTLE, which overrides, or by MODE_REQ of the snapshot. -/
def wantsSettle (s : State) : Bool :=
  (autoSettle s && !s.power.vauxValid && (s.power.autoReq || s.power.belowLow)) || bitAt (snapReg s 0x10A) 0

/-- Full costs of the base and of every grant in force fit under the ceiling (R40). -/
def fullFits (s : State) : Bool := decide (grantSum s false s.power.granted ≤ ceiling s)

/-- The mode that comes into force at a boundary in RUN, SETTLE or HOLD (R40): Settle is always granted, Full when it
fits; a first refusal sets GRANT_REFUSED. -/
def decideMode (s : State) : State :=
  if wantsSettle s then
    let t : State := { s with power := { s.power with settle := true, modeRefused := false } }
    raiseIf (!s.power.settle) srcModeChanged t
  else if !s.power.settle then { s with power := { s.power with modeRefused := false } }
  else if fullFits s then
    raise { s with power := { s.power with settle := false, modeRefused := false } } srcModeChanged
  else
    raiseIf (!s.power.modeRefused) srcGrantRefused { s with power := { s.power with modeRefused := true } }

/-- The mode in force after LOAD (R33): Settle on MODE_REQ, or when AUTO_SETTLE finds VRES low without VAUX, whose request
then stands until Full is asked for (R41). It is no mode change. -/
def modeAfterLoad (s : State) : State :=
  let auto := autoSettle s && !s.power.vauxValid && s.power.belowLow
  { s with power := { s.power with autoReq := auto, settle := bitAt (getReg s 0x10A) 0 || auto } }

/-! ### Domains (R31, R32, R34) -/

/-- The consumer of domain `d`, for the domains that need a grant (R32). -/
def domConsumer (d : Nat) : Option Nat :=
  match d with
  | 3 => some 0
  | 4 => some 1
  | 6 => some 2
  | 5 => some 4
  | 8 => some 5
  | 10 => some 6
  | _ => none

/-- Domain `d` is to be on: asked for by DOMAIN_REQ (PD5 held on while the Stool carries, 05 R128), and granted where
it needs a grant (R32, R34). -/
def domWanted (s : State) (d : Nat) : Bool :=
  if d = 7 then domAsked s 7
  else
    match domConsumer d with
    | some c => (domAsked s d || (d == 5 && s.stool.carrying)) && s.power.granted.getLsbD c
    | none => true

end Sys2Proof.Machine
end

