-- ==== Sys2Proof/Machine/Streams.lean ====
section
/-!
DEFINITION. Slices, filter fronts, item 2, the programmable FIR, settling and the peak guards: 05 R109 to R116,
R129, R130; 07 R155 to R168.
-/

namespace Sys2Proof.Machine

/-! ### Trim (03 R61, 05 R113) -/

/-- A byte of NVM as stored (03 R59: an unlisted byte is erased). -/
def nvmByte (s : State) (i : Nat) : Byte := sget (fun _ => (0xFF : Byte)) s.nvm.data i

/-- `n` bytes of NVM from byte `i`. -/
def nvmBytes (s : State) (i n : Nat) : List Byte := (upto n).map (fun k => nvmByte s (i + k))

/-- A 20-bit value of the trim region at offset `off` (03 R61). -/
def trimRaw (s : State) (off : Nat) : Nat := ofLe (nvmBytes s (0xE000 + off) 3) % 2 ^ 20

/-- Offset of the slice trim of stream `n` at gain code `g` (03 R61). -/
def sliceTrimOff (n g : Nat) : Nat := 0x004 + 12 * (5 * n + g)

/-- Trim gain of stream `n` at gain code `g`; unit trim while the region is invalid (03 R53). -/
def trimGain (s : State) (n g : Nat) : Nat :=
  if s.seq.trimBad then 524288 else trimRaw s (sliceTrimOff n g)

/-- Trim offset, signed, in 1/16 code. -/
def trimOffs (s : State) (n g : Nat) : Int :=
  if s.seq.trimBad then 0 else signOf (trimRaw s (sliceTrimOff n g + 3)) 20

/-- Trim phase in PU for the mode. -/
def trimPhase (s : State) (settle : Bool) (n g : Nat) : Nat :=
  if s.seq.trimBad then 0 else trimRaw s (sliceTrimOff n g + (if settle then 9 else 6))

/-- Highest gain code that stream `n` accepts (05 R109). -/
def maxGain (n : Nat) : Nat := if n ≤ 2 then 0 else if n = 3 then 1 else 4

/-! ### What each converter is corrected with (05 R114 to R116) -/

/-- The slice the Stool serves, when it serves one. -/
def served (s : State) : Option Nat :=
  if (s.stool.st == 2 || s.stool.st == 3 || s.stool.st == 4) && decide (s.stool.target ≤ 9) then some s.stool.target
  else none

/-- The slice whose settings converter `c` applies: its own, or for the Stool those of the slice it serves (R116). Serving
none, in SELF and IDLE, the Stool has the settings of none: gain code 0, no INVERT, CAL_GAIN at 2^19, CAL_OFFS and
CAL_PHASE 0 (log entry 10). -/
def settingsOf (s : State) (c : Nat) : Option Nat := if c ≤ 9 then some c else served s

/-- Gain code of converter `c`. -/
def gainCode (s : State) (c : Nat) : Nat :=
  match settingsOf s c with
  | some n => fld (snapReg s (0x280 + n)) 0 3
  | none => 0

/-- The delay D of converter `c` in PU (R115, R116), within 0 to 131,071. -/
def delayOf (s : State) (c : Nat) : Nat :=
  let trim : Int := trimPhase s s.power.settle c (gainCode s c)
  let field : Int := if c ≤ 9 then regI s (0x2E0 + c) else s.stool.mDelay
  let cal : Int := match settingsOf s c with
    | some n => (snapN s (0x2B0 + n) : Int)
    | none => 0
  let d := trim + field + cal
  if d < 0 then 0 else min d.toNat 131071

/-- Coarse part of D in MCLK periods (R115). -/
def coarseOf (s : State) (c : Nat) : Nat :=
  if s.power.settle then delayOf s c / 1024 else delayOf s c / 256

/-- Fine part of D (R115). -/
def fineOf (s : State) (c : Nat) : Nat :=
  if s.power.settle then delayOf s c / 4 % 256 else delayOf s c % 256

/-- cal_offs of converter `c`. -/
def calOffs (s : State) (c : Nat) : Int :=
  match settingsOf s c with
  | some n => snapI s (0x2A0 + n)
  | none => 0

/-- offs of R114: trim, field and host offsets in 1/16 code. -/
def offsOf (s : State) (c : Nat) : Int :=
  trimOffs s c (gainCode s c) + regI s (0x2D0 + c) + calOffs s c

/-- g of R114. -/
def gainOf (s : State) (c : Nat) : Int :=
  asr ((trimGain s c (gainCode s c) : Int) * (16777216 + regI s (0x2C0 + c))) 24

/-- DCB_CFG that converter `c` applies; the Stool, while it serves no slice, runs in bypass (log entry 10). -/
def dcbCfg (s : State) (c : Nat) : Word :=
  match settingsOf s c with
  | some n => snapReg s (0x380 + n)
  | none => 0

/-- The coefficient a of R158. -/
def dcbCoef (settle : Bool) (corner : Nat) : Int :=
  match corner with
  | 0 => 0
  | 1 => if settle then 26333 else 6587
  | 2 => if settle then 52624 else 13172
  | 3 => if settle then 105084 else 26333
  | _ => if settle then 209509 else 52624

/-! ### The filter front (07 R155, R156) -/

/-- Weight of tap `k` of three cascaded running sums of 64 (R156). -/
def sincWeight (k : Nat) : Nat :=
  let t (m : Nat) : Nat := (m + 1) * (m + 2) / 2
  let a := t k
  let b := if k < 64 then 0 else 3 * t (k - 64)
  let c := if k < 128 then 0 else 3 * t (k - 128)
  a + c - b

/-- The sinc³ sum whose newest bit has position `i` in the bit record: the exact sum of the three running sums. -/
def sincAt (bits : BitVec 1152) (i : Nat) : Nat :=
  (upto 190).foldl (fun a k => if bits.getLsbD (i + k) then a + sincWeight k else a) 0

/-- A sinc³ sum on the front's one fixed scale, in 1/16 code: a bit counts +1 or -1, and as many ones as zeros give 0
(R156; log entry 6). -/
def sincCode (sum : Nat) : Int := (2 * (sum : Int) - 262144) * (Config.sincGain.toNat : Int)

/-- The eight sinc³ outputs of a tick, oldest first, after a delay of `coarse` MCLK periods. -/
def sincTick (bits : BitVec 1152) (coarse : Nat) : List Int :=
  (upto 8).map (fun j => sincCode (sincAt bits (64 * (7 - j) + coarse)))

/-- HB1's coefficients in units of 2^-9. -/
def hb1Coef : List Int := [3, 0, -25, 0, 150, 256, 150, 0, -25, 0, 3]

/-- HB2's coefficients in units of 2^-12. -/
def hb2Coef : List Int := [-5, 0, 49, 0, -245, 0, 1225, 2048, 1225, 0, -245, 0, 49, 0, -5]

/-- HB3's coefficients in units of 2^-20. -/
def hb3Coef : List Int :=
  [-63, 0, 847, 0, -5445, 0, 22869, 0, -76230, 0, 320166, 524288, 320166, 0, -76230, 0, 22869, 0, -5445, 0, 847,
   0, -63]

/-- The sum of products of two lists. -/
def dot : List Int → List Int → Int
  | a :: r, b :: q => a * b + dot r q
  | _, _ => 0

/-- A half-band stage over a tick: each pair of inputs gives one output, rounded half up (R156). Returns the history
and the outputs, oldest first. -/
def halfBand (coef : List Int) (sh : Nat) : List Int → List Int → List Int × List Int
  | a :: b :: r, h =>
    let h' := (b :: a :: h).take (coef.length - 1)
    let y := asr (dot coef (b :: a :: h) + 2 ^ (sh - 1)) sh
    let q := halfBand coef sh r h'
    (q.1, y :: q.2)
  | _, h => (h, [])

/-- sat24 of R158. -/
def sat24 (x : Int) : Int := clampI x 8388607

/-- The DC-block estimate stays within ±2^51 (R158). -/
def satEst (e : Int) : Int := clampI e 2251799813685248

/-- Converter `c` over one tick: stages 2 to 5. Returns the converter and its four HB1 samples. -/
def frontTick (s : State) (c : Nat) (v : Conv) (new : BitVec 512) : Conv × List Int :=
  let bits : BitVec 1152 := (v.bits <<< 512) ||| (new.setWidth 1152)
  let s1 := sincTick bits (coarseOf s c)
  let p1 := halfBand hb1Coef 9 s1 v.h1
  let p2 := halfBand hb2Coef 12 p1.2 v.h2
  let p3 := halfBand hb3Coef 20 p2.2 v.h3
  ({ v with bits := bits, h1 := p1.1, h2 := p2.1, h3 := p3.1, x16 := nth p3.2 0 v.x16 }, p1.2)

/-- Converter `c` in the tick that begins: stage 6, the offset subtraction and the DC block, with the snapshot and the
mode of that tick (05 R114, 07 R158, R159; log entry 46). Returns the converter and whether y16 was clamped. -/
def dcStep (s : State) (c : Nat) (v : Conv) : Conv × Bool :=
  let cfg := dcbCfg s c
  let corner := fld cfg 0 3
  let d := v.x16 - offsOf s c
  let raw := if corner = 0 then d else d - asr v.e 24
  let y := if corner = 0 then d else sat24 raw
  let full : Int := maxCode * 16
  let out := if v.ovr > 0 then (if v.ovrNeg then -full else full) else y
  let adapts := decide (corner ≠ 0) && !bitAt cfg 4 && decide (v.ovr = 0)
  ({ v with
      yPrev := v.y16, y16 := out
      e := if adapts then satEst (v.e + y * dcbCoef s.power.settle corner) else v.e
      ePrev := v.e
      ovr := v.ovr - 1 },
   decide (corner ≠ 0) && decide (raw ≠ y) && decide (v.ovr = 0))

/-- A converter that has just powered up (07 R159). -/
def freshConv : Conv :=
  { bits := 0, h1 := [], h2 := [], h3 := [], x16 := 0, y16 := 0, yPrev := 0, e := 0, ePrev := 0, ovr := 0, ovrNeg := false }

/-! ### Peak guards (05 R129, R130) -/

/-- The converter that feeds guard `g`: its slice, or the Stool while it carries the slice. -/
def guardConv (s : State) (g : Nat) : Nat :=
  if s.stool.carrying && s.stool.target == g + 4 then 10 else g + 4

/-- Consecutive samples needed. -/
def guardNeed (s : State) : Nat := fld (snapReg s 0x2FE) 8 2 + 1

/-- Guard `g` is enabled. -/
def guardOn (s : State) (g : Nat) : Bool := bitAt (snapReg s 0x2FE) g

/-- One HB1 sample, in 1/16 code (R156), meets a guard, whose threshold is in codes: the guard, and whether it qualifies
now. -/
def guardSample (need : Nat) (v : Guard) (x : Int) : Guard × Bool :=
  if x.natAbs < v.thrRaw * 16 then ({ v with count := 0, blocked := false }, false)
  else if v.blocked then (v, false)
  else if v.count + 1 ≥ need then ({ v with count := 0, blocked := true }, true)
  else ({ v with count := v.count + 1 }, false)

/-- The samples of a tick meet a guard. -/
def guardSamples (need : Nat) : Guard → List Int → Guard × Bool
  | v, [] => (v, false)
  | v, x :: r =>
    let p := guardSample need v x
    let q := guardSamples need p.1 r
    (q.1, p.2 || q.2)

/-- Guard `g` qualifies: PG_HIT and PEAK are set, and item 13 sees the trigger (R130, 09 R207). -/
def guardHit (s : State) (g : Nat) : State :=
  raise (orReg { s with cap := { s.cap with peakSeen := true } } 0x2FF (2 ^ g)) srcPeak

/-- The HB1 samples of converter `c` in this tick reach the guard it feeds. -/
def guardTick (s : State) (c : Nat) (xs : List Int) : State :=
  match (upto 6).find? (fun g => guardConv s g == c) with
  | none => s
  | some g =>
    if guardOn s g then
      let v := nth s.streams.guards g { count := 0, blocked := false, thrRaw := 0 }
      let p := guardSamples (guardNeed s) v xs
      let t : State := { s with streams := { s.streams with guards := setNth s.streams.guards g p.1 } }
      if p.2 && !did s (.peak g) then guardHit t g else t
    else s

/-- PEAK as a command: the sample that completes the qualification of guard `g`. -/
def peakEvent (s : State) (g : Nat) (x : Int) : State :=
  let v := nth s.streams.guards g { count := 0, blocked := false, thrRaw := 0 }
  let p := guardSample (guardNeed s) v x
  if coreOn s && guardOn s g && works s (streamDomain (guardConv s g)) && p.2 && !did s (.peak g) then
    mark (guardHit { s with streams := { s.streams with guards := setNth s.streams.guards g p.1 } } g) (.peak g)
  else s

/-- All filter fronts over the tick that ends (07 R155): those whose domain is at work. -/
def frontsTick (s : State) (bits : List (BitVec 512)) : State :=
  (upto 11).foldl (fun t c =>
    if works t (streamDomain c) then
      let p := frontTick t c (nth t.streams.conv c freshConv) (nth bits c 0)
      guardTick { t with streams := { t.streams with conv := setNth t.streams.conv c p.1 } } c p.2
    else t) s

/-- The DC blocks of all converters whose domain is at work, at the start of a tick (07 R155, R158). A clamp of y16
counts as a clamp of 05 R112. -/
def dcBlocksTick (s : State) : State :=
  (upto 11).foldl (fun t c =>
    if works t (streamDomain c) then
      let p := dcStep t c (nth t.streams.conv c freshConv)
      let t1 : State := { t with streams := { t.streams with conv := setNth t.streams.conv c p.1 } }
      if p.2 then raise (orReg t1 0x2F7 (2 ^ c)) srcOverrange else t1
    else t) s

/-- OVERRANGE: the modulator of converter `c` resets its integrators (05 R112): the front delivers full scale in this
tick and the 17 after it, and the estimate is held over the same ticks (07 R159). -/
def overrangeEvent (s : State) (c : Nat) (neg : Bool) : State :=
  if coreOn s && works s (streamDomain c) then
    let v := nth s.streams.conv c freshConv
    let t : State := { s with streams := { s.streams with
      conv := setNth s.streams.conv c
        { v with ovr := 17, ovrNeg := neg, y16 := if neg then -(maxCode * 16) else maxCode * 16, e := v.ePrev } } }
    raise (orReg t 0x2F7 (2 ^ c)) srcOverrange
  else s

/-! ### Item 2 (05 R114) -/

/-- Item 2 of converter `c`: its output before match terms, and whether sat20 clamps. -/
def item2Conv (s : State) (c : Nat) : Int × Bool :=
  let v := nth s.streams.conv c freshConv
  let x := v.y16 - asr ((v.y16 - v.yPrev) * (fineOf s c : Int)) 17
  let y1 := asr (x * gainOf s c) 23
  let n := settingsOf s c
  let cal : Int := match n with
    | some m => (snapN s (0x290 + m) : Int)
    | none => 524288
  let y2 := asr (y1 * cal) 19
  let inv := match n with
    | some m => bitAt (snapReg s (0x280 + m)) 8
    | none => false
  let y3 := if inv then -y2 else y2
  (sat20 y3, clamps20 y3)

/-- The Stool's output with its match gain and offset, before sat20 (05 R116, R119; log entry 11). In SELF and IDLE the
terms of the last handover stand (log entry 94). -/
def matched (s : State) (xt : Int) : Int := asr (asr (xt * 16 * s.stool.mGain) 24 + s.stool.mOffs) 4

/-- The item-2 output of stream `n`, given the converters' outputs: the Stool's while it carries, the last output
while the stream repeats it (05 R121, R128). -/
def streamOut (s : State) (yc : List Int) (n : Nat) : Int :=
  if !inSched s n then 0
  else if n ≤ 9 ∧ nth s.streams.rep n 0 > 0 then nth s.streams.y2 n 0
  else if n ≤ 9 ∧ s.stool.carrying ∧ s.stool.target = n then nth yc 10 0
  else nth yc n 0

/-- PG_THR on the raw scale of HB1 (05 R129). -/
def thrRaw (s : State) (g : Nat) : Nat :=
  let d := gainOf s (guardConv s g)
  if d ≤ 0 then 0 else ((snapN s (0x2F8 + g)) * 524288) / d.toNat

/-- Item 2: trim, gain, fine phase of every converter that is at work, the streams' outputs, and the guards' raw
thresholds. -/
def item2 (s : State) : State :=
  let outs := (upto 11).map (fun c => if works s (streamDomain c) then item2Conv s c else (0, false))
  let xt := (nth outs 10 (0, false)).1
  let ym := matched s xt
  let yc := ((outs.map (·.1)).take 10) ++ [sat20 ym]
  let clamp (c : Nat) : Bool := (nth outs c (0, false)).2 || (c == 10 && clamps20 ym)
  let ovr := (upto 11).foldl (fun a c => if clamp c && inSched s c then a + 2 ^ c else a) 0
  let t : State := { s with streams := { s.streams with
    yc := yc
    xt := xt
    xtPrev := s.streams.xt
    y2 := (upto 11).map (streamOut s yc)
    rep := s.streams.rep.map (· - 1)
    guards := mapIx (fun g v => { v with thrRaw := thrRaw s g }) s.streams.guards } }
  if ovr = 0 then t else publishAll t [.or 0x2F7 ovr, .irq srcOverrange]

/-! ### The programmable FIR (07 R160 to R165) -/

/-- Word `i` of the bank in force. -/
def firActiveWord (s : State) (i : Nat) : Int :=
  (sget (fun _ => (0 : Word)) s.fir (256 * b2n s.firActive + i)).toInt

/-- FIR length in force of stream `n`, the Stool's included (R161). -/
def firN (s : State) (n : Nat) : Nat := if n ≤ 9 then firLen s n else (schedNow s).stoolLen

/-- Coefficient set in force of stream `n` (R161). -/
def firSet (s : State) (n : Nat) : Nat :=
  if n ≤ 9 then fld (forceReg s (0x3A0 + n)) 8 1
  else match served s with
    | some m => fld (forceReg s (0x3A0 + m)) 8 1
    | none => 0

/-- The FIR of stream `n` over its samples, newest first (R160): output and clamp. -/
def firOut (s : State) (n : Nat) (xs : List Int) : Int × Bool :=
  let len := firN s n
  if len = 0 then (nth xs 0 0, false)
  else
    let m := (len - 1) / 2
    let base := 128 * firSet s n
    let acc := sumI (mapIx (fun i x =>
      firActiveWord s (base + (if i ≤ m then m - i else i - m)) * x) (xs.take len))
    let y := asr (acc + 131072) 18
    (sat20 y, clamps20 y)

/-- Item 3: the FIR of every stream in force; its history takes this tick's sample. -/
def item3 (s : State) : State :=
  let xs (n : Nat) : List Int := nth s.streams.y2 n 0 :: nth s.streams.hist n []
  let outs := (upto 11).map (fun n => if inSched s n then firOut s n (xs n) else (0, false))
  let sat := (upto 11).foldl (fun a n => if (nth outs n (0, false)).2 then a + 2 ^ n else a) 0
  let t : State := { s with streams := { s.streams with
    y8 := outs.map (·.1)
    hist := (upto 11).map (fun n => if inSched s n then (xs n).take 255 else []) } }
  if sat = 0 then t else publishAll t [.or 0x3C1 sat, .irq srcFirSat]

/-! ### Settling (07 R166) -/

/-- S of stream `n`. -/
def settleTicks (s : State) (n : Nat) : Nat := 17 + (firN s n - 1)

/-- The streams of `m` that are in force start their settling time. -/
def startSettling (s : State) (m : Nat → Bool) : State :=
  { s with streams := { s.streams with
    settling := (upto 11).map (fun n =>
      if !inSched s n then 0 else if m n then settleTicks s n else nth s.streams.settling n 0) } }

/-- FILT_SETTLING. -/
def settlingMask (s : State) : Word := maskOf 11 (fun n => decide (nth s.streams.settling n 0 > 0))

/-- FILT_SETTLING_END: the S-th tick of stream `n` is ending. -/
def settlingEnd (s : State) (n : Nat) : State :=
  if coreOn s && decide (nth s.streams.settling n 0 = 1) && !did s (.settled n) then
    mark { s with streams := { s.streams with settling := setNth s.streams.settling n 0 } } (.settled n)
  else s

/-- A tick of settling passes. -/
def settlingTick (s : State) : State :=
  let t := (upto 11).foldl settlingEnd s
  { t with streams := { t.streams with
    settling := mapIx (fun n k => if did t (.settled n) then k else k - 1) t.streams.settling } }

/-- Histories of streams that are not in force are clear, so that a stream that joins starts from zero (07 R165). -/
def clearHist (s : State) : State :=
  { s with streams := { s.streams with
    hist := mapIx (fun n h => if inSched s n then h else []) s.streams.hist } }

end Sys2Proof.Machine
end

