-- ==== Sys2Proof/Machine/Dets.lean ====
section
/-!
DEFINITION. The single-frequency detectors (07 R169 to R171).
-/

namespace Sys2Proof.Machine

/-- π × 2^64, rounded. -/
def piScaled : Nat := 0x3243f6a8885a308d3

/-- The Taylor sum of cos from term `t` (number `k`) on, all scaled by 2^64; `x2` is the square of the angle. -/
def cosTerms (x2 : Nat) : Nat → Nat → Nat → Int
  | 0, _, _ => 0
  | fuel + 1, k, t =>
    (if k % 2 = 0 then (t : Int) else -(t : Int))
      + cosTerms x2 fuel (k + 1) (((t * x2) >>> 64) / ((2 * k + 1) * (2 * k + 2)))

/-- The nearest integer to 2^sc × cos(2π × f / per), for whole f and per (R169, 09 R195). -/
def cosNear (sc f per : Nat) : Int :=
  let a := f % per
  let n := if 2 * a > per then per - a else a
  let flip := decide (4 * n > per)
  let num := if flip then per - 2 * n else 2 * n
  let x := piScaled * num / per
  let c := divNear (cosTerms ((x * x) >>> 64) 14 0 (2 ^ 64) * 2 ^ sc) (2 ^ 64)
  if flip then -c else c

/-- FREQ units in one turn of the tick rate: 16 × 8,000 in Full, 16 × 2,000 in Settle (R169). -/
def freqTurn (settle : Bool) : Nat := if settle then 32000 else 128000

/-- The coefficient of a FREQ code in a mode, limited to 2^19 − 1 (R169). -/
def detCoef (settle : Bool) (freq : Nat) : Int := clampI (cosNear 19 freq (freqTurn settle)) maxCode

/-- The tuning is usable in the mode: FREQ ≥ 16 and 2 f < rate (R171). -/
def detUsable (settle : Bool) (freq : Nat) : Bool := decide (16 ≤ freq) && decide (2 * freq < freqTurn settle)

/-- FREQ of detector `d` in the snapshot. -/
def detFreq (s : State) (d : Nat) : Nat := fld (snapReg s (0x3CC + d)) 0 16

/-- L of detector `d`. -/
def detLen (s : State) (d : Nat) : Nat := snapN s (0x3D0 + d)

/-- THR of detector `d`. -/
def detThr (s : State) (d : Nat) : Nat := snapN s (0x3D4 + d)

/-- Detector `d` is at work in this tick (R171). -/
def detOn (s : State) (d : Nat) : Bool :=
  running s && bitAt (schedState1 s) (7 + d) && inSched s (detStream s d)
    && detUsable s.power.settle (detFreq s d)

/-- The RANGE bits of DET_STAT (R171). -/
def detRange (s : State) : Nat :=
  (upto 4).foldl (fun a d => if detUsable s.power.settle (detFreq s d) then a else a + 2 ^ d) 0

/-- A detector at the start of a block. -/
def freshDet : Det := { s1 := 0, s2 := 0, n := 0, active := false }

/-- The sample detector `d` takes (R169). -/
def detInput (s : State) (d : Nat) : Int :=
  if bitAt (snapReg s (0x3C8 + d)) 8 then nth s.streams.y8 (detStream s d) 0 else nth s.streams.y2 (detStream s d) 0

/-- AMP of a finished block (R169). -/
def detAmp (coef s1 s2 : Int) (l : Nat) : Nat :=
  let p := s1 * s1 + s2 * s2 - asr (coef * s1) 18 * s2
  min ((isqrt p.toNat * 2) / l) 524287

/-- What the end of a block of detector `d` publishes (R170). -/
def detPublish (s : State) (d amp : Nat) : List Pub :=
  let thr := detThr s d
  let hit := bitAt (getReg s 0x3E0) d
  let rise := !hit && decide (amp ≥ thr)
  [.set (0x3D8 + d) (wd amp), .or 0x3E0 (2 ^ (4 + d)), .irq srcDetDone]
    ++ (if amp ≥ thr then [Pub.or 0x3E0 (2 ^ d)] else if amp < thr - thr / 8 then [Pub.clear 0x3E0 (2 ^ d)] else [])
    ++ (if rise then [Pub.irq srcDetHit] else [])

/-- One tick of detector `d` (R169 to R171). -/
def detTick (s : State) (d : Nat) : State :=
  let v := nth s.streams.dets d freshDet
  let put (t : State) (w : Det) : State :=
    { t with streams := { t.streams with dets := setNth t.streams.dets d w } }
  if !detOn s d then put s { freshDet with active := false }
  else
    let b := if v.active then v else freshDet
    let coef := regI s (0x3DC + d)
    let s0 := detInput s d + asr (coef * b.s1) 18 - b.s2
    let n := b.n + 1
    if n ≥ detLen s d then
      mark (publishAll (put s { freshDet with active := true })
        (detPublish s d (detAmp coef s0 b.s1 n))) (.detBlock d)
    else put s { s1 := s0, s2 := b.s1, n := n, active := true }

/-- Item 11. -/
def item11 (s : State) : State := (upto 4).foldl detTick s

/-- A detector restarts its block (R167, R168, R171). -/
def restartDet (s : State) (d : Nat) : State :=
  { s with streams := { s.streams with dets := setNth s.streams.dets d freshDet } }

/-- Detector `d` computes its coefficient for the snapshot's tuning and the mode in force (R169). -/
def retuneDet (s : State) (d : Nat) : State :=
  setReg s (0x3DC + d) (wdI (detCoef s.power.settle (detFreq s d)))

end Sys2Proof.Machine
end

