-- ==== Sys2Proof/Machine/Line.lean ====
section
/-!
DEFINITION. Line tracking, quadrature, cycle sums and closure, half cycles, windows and their publication:
08 R172 to R181, 03 R71.
-/

namespace Sys2Proof.Machine

/-! ### Tracking (R172 to R175) -/

/-- Stream of the reference voltage, REF. -/
def refStream (s : State) : Nat := fld (snapReg s 0x400) 0 2

/-- The stage-8 sample of the previous tick of voltage `n`. -/
def lastY8 (s : State) (n : Nat) : Int := nth (nth s.line.quad n []) 0 0

/-- `d` is at least P0 × 100/115 (R172, R173). -/
def longEnough (p0 d : Int) : Bool := decide (p0 * 100 ≤ d * 115)

/-- `d` is at most P0 × 100/85. -/
def shortEnough (p0 d : Int) : Bool := decide (d * 85 ≤ p0 * 100)

/-- The instant of the raw crossing found in this tick, when there is one (R172). -/
def rawCrossing (s : State) : Option Int :=
  let a := lastY8 s (refStream s)
  let b := nth s.streams.y8 (refStream s) 0
  if inSched s (refStream s) && nth s.line.armed (refStream s) false && decide (a < 0) && decide (0 ≤ b) then
    some (s.line.clkPrev + tdiv (-a * (s.line.clk - s.line.clkPrev)) (b - a))
  else none

/-- Which of VA, VB and VC have had a sample at or below −(HYST × 256) since the previous raw crossing; counting one disarms
(R172). -/
def armNext (s : State) (crossed : Bool) : List Bool :=
  let low (n : Nat) : Bool :=
    inSched s n && decide (nth s.streams.y8 n 0 ≤ -((fld (snapReg s 0x400) 8 8 : Int) * 256))
  (upto 3).map (fun n => (nth s.line.armed n false && !crossed) || low n)

/-- The window in progress is not to be analysed (09 R198); told once for a window. -/
def harmSpoils (s : State) : Bool := s.line.winOpen && !s.harm.spoilt

/-- A half of nothing. -/
def noHalf : Half := { sq := List.replicate 10 0, len := 0, force := 0x7FF }

/-- Entry into ACQUIRE in this tick (R175); the window in progress is skipped by the harmonic engine (09 R198). The grid of
half-cycle boundaries starts again; the half in progress goes on to the first of them (R178, log entry 24). -/
def enterAcquire (s0 : State) : State :=
  let s := if harmSpoils s0 then publishAll s0 [.add 0x506 1, .irq srcHarmSkip] else s0
  { s with
    line := { s.line with
      st := 0, flyCnt := 0, entered := s.line.clk, provStart := none, lastRaw := none
      winOpen := false, open_ := false, mid := some (s.line.clk + nominalP0 s / 2), enter := false }
    harm := { s.harm with spoilt := true } }

/-- A crossing at `m` of kind `k` is reported (R173): it ends the cycle; E follows by `e`; a LINE boundary falls two
ticks later (06 R138). -/
def report (s : State) (m : Int) (k : Nat) (e : Int) : State :=
  { s with
    line := { s.line with cross := some (m, k), last := m, exp := e }
    proc := { s.proc with lineDue := s.proc.lineDue ++ [((m + 2 * (tickClock s : Int)).toNat, k)] } }

/-- A measured crossing at `t` with period `pg` is accepted. -/
def acceptAt (s : State) (t pg : Int) : State :=
  let r := report s t 0 (t + pg)
  { r with line := { r.line with st := 1, flyCnt := 0, pg := pg } }

/-- The instant at which ACQUIRE runs out (R175): 1.5 P0 without a raw crossing, unless one comes before them in this tick,
or 4 P0 since entry. -/
def acquireEnds (s : State) (raw : Option Int) : Int :=
  let p0 := nominalP0 s
  let since := match s.line.provStart with
    | some t => max s.line.entered t
    | none => s.line.entered
  let quiet := since + p0 * 3 / 2
  let whole := s.line.entered + p0 * 4
  match raw with
  | some t => if t < quiet then whole else min quiet whole
  | none => min quiet whole

/-- The raw crossing at `t` is confirmed (R172). -/
def confirmed (s : State) (t : Int) : Bool :=
  match s.line.lastRaw with
  | some l => longEnough (nominalP0 s) (t - l) && shortEnough (nominalP0 s) (t - l)
  | none => false

/-- ACQUIRE goes to FREERUN with a nominal crossing at `m` (R175). -/
def acquireLost (s : State) (m : Int) : State :=
  let r := report s m 2 (m + nominalP0 s)
  mark (publishAll { r with line := { r.line with st := 3 } } [.irq srcLineLost]) .acquireTimeout

/-- ACQUIRE (R175): a confirmed crossing locks; its time runs out into FREERUN; any other crossing starts a cycle
provisionally. A confirmed crossing is accepted in the tick that finds it, as R173 has it in LOCKED (log entry 103). -/
def trackAcquire (s : State) (raw : Option Int) : State :=
  match raw with
  | some t =>
    if confirmed s t then acceptAt s t (t - s.line.lastRaw.getD 0)
    else if acquireEnds s raw ≤ s.line.clk then acquireLost s (acquireEnds s raw)
    else { s with line := { s.line with provStart := some t, prov := some t, mid := some (t + nominalP0 s / 2) } }
  | none => if acquireEnds s none ≤ s.line.clk then acquireLost s (acquireEnds s none) else s

/-- LOCKED (R173). -/
def trackLocked (s : State) (raw : Option Int) : State :=
  let p0 := nominalP0 s
  let fly (s : State) : State :=
    if s.line.exp ≤ s.line.clk then
      let e := s.line.exp
      let r := report s e 1 (e + s.line.pg)
      mark (publishAll { r with line := { r.line with st := 2, flyCnt := 1 } } [.irq srcLineFly]) .flywheel
    else s
  match raw with
  | some t =>
    if longEnough p0 (t - s.line.last) && shortEnough p0 (t - s.line.last) then acceptAt s t (t - s.line.last)
    else fly s
  | none => fly s

/-- FLYWHEEL and FREERUN (R173, R174). -/
def trackFree (s : State) (raw : Option Int) : State :=
  let p0 := nominalP0 s
  let due (s : State) : State :=
    if s.line.exp ≤ s.line.clk then
      let e := s.line.exp
      if s.line.st = 3 then mark (report s e 2 (e + p0)) .nominal
      else
        let c := s.line.flyCnt + 1
        if c ≥ 8 then
          let r := report s e 1 (e + p0)
          mark (publishAll { r with line := { r.line with st := 3, flyCnt := 8 } } [.irq srcLineLost]) .flywheel
        else
          let r := report s e 1 (e + s.line.pg)
          mark { r with line := { r.line with flyCnt := c } } .flywheel
    else s
  match raw, s.line.lastRaw with
  | some t, some l =>
    let i := t - l
    if longEnough p0 i && shortEnough p0 i then
      if longEnough p0 (t - s.line.last) then publishAll (acceptAt s t i) [.irq srcLineLock]
      else due { s with line := { s.line with exp := t + i } }
    else due s
  | _, _ => due s

/-- Item 4: tracking (R172 to R175). While no working stream is in force it is out of the schedule and the tracker is
suspended. -/
def item4 (s0 : State) : State :=
  let s : State := { s0 with line := { s0.line with cross := none, prov := none } }
  let itemOn := decide ((schedNow s).w ≠ 0)
  let refOn := inSched s (refStream s)
  if !itemOn then { s with line := { s.line with itemOn := false, refOn := false } }
  else
    let e := s.line.enter || !s.line.itemOn || (refOn && !s.line.refOn)
    let s := if e then enterAcquire s else s
    let raw := rawCrossing s
    let t :=
      if s.line.st = 0 then trackAcquire s raw
      else if s.line.st = 1 then trackLocked s raw
      else trackFree s raw
    let u : State := { t with line := { t.line with
      armed := armNext s raw.isSome
      lastRaw := match raw with | some x => some x | none => t.line.lastRaw
      itemOn := true, refOn := refOn } }
    publish u (.set 0x401 (wd (u.line.st + 16 * u.line.flyCnt)))

/-! ### Quadrature (R177) -/

/-- The quarter-period delay of a history whose newest sample is x[j] (R177). -/
def quadrature (pg : Int) (u : Nat) (xs : List Int) : Int :=
  let d := (pg * 256) / (4 * (u : Int))
  let n := (d / 256).toNat
  let a : Int := 256 - d % 256
  let w0 := tdiv (-(a * (a - 256) * (a - 512))) 6
  let w1 := tdiv ((a + 256) * (a - 256) * (a - 512)) 2
  let w2 := tdiv (-((a + 256) * a * (a - 512))) 2
  let w3 := tdiv ((a + 256) * a * (a - 256)) 6
  sat20 (asr (w0 * nth xs (n + 2) 0 + w1 * nth xs (n + 1) 0 + w2 * nth xs n 0 + w3 * nth xs (n - 1) 0) 24)

/-- Item 5: the quadrature values of the enabled voltages, and their histories. -/
def item5 (s : State) : State :=
  let pg := if s.line.st = 0 ∨ s.line.st = 3 then nominalP0 s else s.line.pg
  let hist (n : Nat) : List Int := (nth s.streams.y8 n 0 :: nth s.line.quad n []).take 64
  { s with line := { s.line with
    vq := (upto 3).map (fun n => if inSched s n then quadrature pg (tickClock s) (hist n) else 0)
    quad := (upto 3).map hist } }

/-! ### Cycle sums (R176) -/

/-- Sums of nothing. -/
def noSums : Sums :=
  { sq := List.replicate 10 0, sm := [0, 0, 0], sp := [0, 0, 0], sqq := [0, 0, 0], spv := 0, sbt := 0, len := 0 }

/-- Element-wise combination of two lists of one length. -/
def zip2 (f : Int → Int → Int) : List Int → List Int → List Int
  | a :: r, b :: q => f a b :: zip2 f r q
  | _, _ => []

/-- Element-wise combination of sums. -/
def Sums.zip (f : Int → Int → Int) (a b : Sums) : Sums :=
  { sq := zip2 f a.sq b.sq, sm := zip2 f a.sm b.sm, sp := zip2 f a.sp b.sp, sqq := zip2 f a.sqq b.sqq
    spv := f a.spv b.spv, sbt := f a.sbt b.sbt, len := f a.len b.len }

/-- The share of a tick's term that belongs to the ending cycle: (term × phi) / wt, and phi of its weight (R176). -/
def Sums.share (a : Sums) (phi wt : Int) : Sums :=
  let f (x : Int) : Int := tdiv (x * phi) wt
  { sq := a.sq.map f, sm := a.sm.map f, sp := a.sp.map f, sqq := a.sqq.map f
    spv := f a.spv, sbt := f a.sbt, len := phi }

/-- The weight of a tick: its length in 1/256 of 125 µs (R176). -/
def tickWeight (s : State) : Int := if s.power.settle then 1024 else 256

/-- The stage-8 value of stream `n`, 0 when it is not in force (R176). -/
def y8 (s : State) (n : Nat) : Int := if inSched s n then nth s.streams.y8 n 0 else 0

/-- vbt (R176): BT_VOLT, or the published PROC_RES of ENTRY. -/
def vbt (s : State) : Int :=
  let c := snapReg s 0x412
  if bitAt c 4 then regI s (0x320 + fld c 0 4) else snapI s 0x413

/-- Phase `ph` has both V and I in force. -/
def phaseOn (s : State) (ph : Nat) : Bool := inSched s ph && inSched s (ph + 4)

/-- The products of one tick, v × i and vq × i of a phase (R176, R182). -/
def prodP (s : State) (ph : Nat) : Int := if phaseOn s ph then y8 s ph * y8 s (ph + 4) else 0
def prodQ (s : State) (ph : Nat) : Int := if phaseOn s ph then nth s.line.vq ph 0 * y8 s (ph + 4) else 0

/-- The weighted terms of one tick (R176). -/
def tickTerm (s : State) : Sums :=
  let wt := tickWeight s
  { sq := (upto 10).map (fun n => wt * y8 s n * y8 s n)
    sm := [3, 8, 9].map (fun n => wt * y8 s n)
    sp := (upto 3).map (fun p => wt * prodP s p)
    sqq := (upto 3).map (fun p => wt * prodQ s p)
    spv := wt * y8 s 3 * y8 s 8
    sbt := wt * vbt s * y8 s 9
    len := wt }

/-- The streams in force now, as a mask. -/
def forceMask (s : State) : BitVec 11 := (maskOf 11 (fun n => inSched s n)).setWidth 11

/-- A stream in force has its settling bit set now (R179). -/
def settlingAny (s : State) : Bool :=
  (upto 11).any (fun n => inSched s n && decide (nth s.streams.settling n 0 > 0))

/-- A span that begins with this tick's sample. -/
def freshSpan (s : State) (sums : Sums) (kind : Nat) : Span :=
  { sums := sums, force := forceMask s, settling := settlingAny s, kind := kind }

/-- A span that this tick's sample joins. -/
def Span.join (a : Span) (s : State) (t : Sums) : Span :=
  { a with sums := a.sums.zip (· + ·) t, force := a.force &&& forceMask s, settling := a.settling || settlingAny s }

/-! ### Closure (R176) -/

/-- A value and whether sat20 clamped it. -/
def sat2 (x : Int) : Int × Bool := (sat20 x, clamps20 x)

/-- The results of a span: RMS of ten streams, means of VPV, IPV, IBT, then P, Q, S, PF of A, B, C and SUM, P_PV, P_BT;
and whether one that a cycle publishes was clamped, and one that a window publishes (P, Q and S alone, R180). -/
def spanResults (a : Span) : List Int × List Int × List Int × Bool × Bool :=
  let len := a.sums.len
  let ok (n : Nat) : Bool := a.force.getLsbD n
  let rms (n : Nat) : Int := if ok n then (isqrt (tdiv (nth a.sums.sq n 0) len).toNat : Int) else 0
  let mean (i n : Nat) : Int × Bool := if ok n then sat2 (tdiv (nth a.sums.sm i 0) len) else (0, false)
  let ph (p : Nat) : Bool := ok p && ok (p + 4)
  let pw (l : List Int) (p : Nat) : Int × Bool :=
    if ph p then sat2 (asr (tdiv (nth l p 0) len) 19) else (0, false)
  let sum (l : List Int) : Int × Bool :=
    let t := sumI ((upto 3).map (fun p => if ph p then nth l p 0 else 0))
    if (upto 3).any ph then sat2 (asr (tdiv t len) 19) else (0, false)
  let ap (p : Nat) : Int × Bool := if ph p then sat2 (asr (rms p * rms (p + 4)) 19) else (0, false)
  let pf (on : Bool) (p v : Int) : Int × Bool :=
    if !on then (0, false) else if v = 0 then (maxCode, false) else sat2 (tdiv (p * 524287) v)
  let ps := (upto 3).map (pw a.sums.sp)
  let qs := (upto 3).map (pw a.sums.sqq)
  let ss := (upto 3).map ap
  let pSum := sum a.sums.sp
  let qSum := sum a.sums.sqq
  let sSum := sat2 (sumI (ss.map (·.1)))
  let pfs := (upto 3).map (fun p => pf (ph p) (nth ps p (0, false)).1 (nth ss p (0, false)).1)
  let pfSum := pf ((upto 3).any ph) pSum.1 sSum.1
  let pPv := if ok 3 && ok 8 then sat2 (asr (tdiv a.sums.spv len) 19) else (0, false)
  let pBt := if ok 9 then sat2 (asr (tdiv a.sums.sbt len) 19) else (0, false)
  let means := [mean 0 3, mean 1 8, mean 2 9]
  let powers := ps ++ [pSum] ++ qs ++ [qSum] ++ ss ++ [sSum] ++ pfs ++ [pfSum] ++ [pPv, pBt]
  ((upto 10).map rms, means.map (·.1), powers.map (·.1), (means ++ powers).any (·.2),
    (powers.take 12).any (·.2))

/-- Registers from number `n` on take these values. -/
def regList (n : Nat) (l : List Int) : List (Nat × Word) := mapIx (fun i v => (n + i, wdI v)) l

/-- A frequency in mHz from a count of cycles and a line-clock length (R179, R180). -/
def freqMhz (cycles len : Nat) : Nat := if len = 0 then 0 else (cycles * 786432000000 + len / 2) / len

/-- What the closed cycle publishes (R179). -/
def cycleTail (s : State) (a : Span) : Tail :=
  let r := spanResults a
  { left := 4
    work := (schedNow s).closure
    results := regList 0x418 (r.1 ++ r.2.1) ++ regList 0x434 r.2.2.1
      ++ [(0x407, wdI a.sums.len), (0x406, wd (a.kind + 4 * b2n a.settling))]
    sat := b2n r.2.2.2.1
    window := false
    period := if a.kind = 0 then some s.line.pg.toNat else none
    sSum := nth r.2.2.1 11 0 }

/-- What the closed window adds to the publication of its last cycle (R180). -/
def windowResults (a : Span) (freq : Nat) : List (Nat × Word) × Bool :=
  let r := spanResults a
  (regList 0x450 r.1 ++ regList 0x45C (r.2.2.1.take 12)
    ++ [(0x468, wd freq), (0x409, wd (a.kind + 4 * b2n a.settling))], r.2.2.2.2)

/-- Cycles in a window (R180). -/
def windowCycles (s : State) : Nat := if nom60 s then 12 else 10

/-- Two spans one after the other. -/
def Span.add (a b : Span) : Span :=
  { sums := a.sums.zip (· + ·) b.sums, force := a.force &&& b.force
    settling := a.settling || b.settling, kind := max a.kind b.kind }

/-- The cycle `a` that has just ended at instant `m` is closed (R71, R176), joins its window (R180), and the window's
end hands the window to the harmonic engine (09 R194). -/
def closeCycle (s : State) (a : Span) (m : Int) : State :=
  let tail := cycleTail s a
  if !s.line.winOpen then { s with line := { s.line with tail := some tail } }
  else
    let w := if s.line.winCycles = 0 then a else s.line.win.add a
    let n := s.line.winCycles + 1
    let clock := s.line.winClock
    if n ≥ windowCycles s then
      let f := freqMhz n (m - clock).toNat
      let wr := windowResults w f
      { s with
        line := { s.line with
          tail := some { tail with
            results := tail.results ++ wr.1, sat := tail.sat + 2 * b2n wr.2, window := true }
          winCycles := 0, winClock := m }
        harm := { s.harm with
          next := if s.harm.spoilt then none else some
            { bounds := (m :: s.harm.bounds).reverse, force := s.harm.force
              winCount := getReg s 0x408 + 1, qual := w.kind + 4 * b2n w.settling, freq := f
              work := 0, chans := 0, settle := s.power.settle, ready := false }
          bounds := [m], force := 0x7F, spoilt := false } }
    else
      { s with
        line := { s.line with tail := some tail, win := w, winCycles := n }
        harm := { s.harm with bounds := m :: s.harm.bounds } }

/-- Item 6: this tick's terms, and the split at a crossing or provisional start (R176). -/
def item6 (s : State) : State :=
  let t := tickTerm s
  let wt := tickWeight s
  let u := s.line.clk - s.line.clkPrev
  let phi (m : Int) : Int := if u = 0 then 0 else tdiv ((m - s.line.clkPrev) * wt + u / 2) u
  match s.line.cross, s.line.prov with
  | some (m, k), _ =>
    let part := t.share (phi m) wt
    let rest := t.zip (· - ·) part
    let ended : Span := { s.line.cyc with
      sums := s.line.cyc.sums.zip (· + ·) part, kind := max s.line.openKind k }
    let s1 := if s.line.open_ || decide (s.line.provStart.isSome ∧ k = 0) then
        closeCycle s ended m
      else s
    let first := !s1.line.winOpen
    let s2 : State := { s1 with line := { s1.line with
      cyc := freshSpan s rest k, open_ := true, openKind := k, provStart := none
      winOpen := true
      winCycles := if first then 0 else s1.line.winCycles
      winClock := if first then m else s1.line.winClock } }
    if first then
      { s2 with harm := { s2.harm with bounds := [m], force := 0x7F, spoilt := false } }
    else s2
  | none, some m =>
    let part := t.share (phi m) wt
    { s with line := { s.line with cyc := freshSpan s (t.zip (· - ·) part) 0, openKind := 0 } }
  | none, none => { s with line := { s.line with cyc := s.line.cyc.join s t } }

/-! ### Half cycles (R178) -/

/-- HALF_RMS over the two most recent halves. -/
def halfRms (a b : Half) (n : Nat) : Int :=
  let l := a.len + b.len
  if l = 0 ∨ !(a.force &&& b.force).getLsbD n then 0
  else (isqrt (tdiv (nth a.sq n 0 + nth b.sq n 0) l).toNat : Int)

/-- Item 7 while it is in the schedule: a half-cycle boundary in this tick computes HALF_RMS of the two most recent
halves (R178); the tick's sample then joins the half it lies in. -/
def halfWork (s : State) : State :=
  let wt := tickWeight s
  let midDue := match s.line.mid with
    | some m => decide (m ≤ s.line.clk)
    | none => false
  let boundary := s.line.cross.isSome || s.line.prov.isSome || midDue
  let s1 : State :=
    if boundary then
      let vals := (upto 10).map (halfRms s.line.halfPrev s.line.halfCur)
      let sat := vals.any clamps20
      mark (publishAll { s with line := { s.line with
          halfPrev := s.line.halfCur, halfCur := noHalf, halfNow := true, halfVals := vals.map sat20
          mid := match s.line.cross with
            | some (m, _) => some (m + (s.line.exp - m) / 2)
            | none =>
              if s.line.prov.isSome then s.line.mid
              else if s.line.st = 0 then s.line.mid.map (· + nominalP0 s / 2)
              else none } }
        ((mapIx (fun i v => Pub.set (0x428 + i) (wdI (sat20 v))) vals)
          ++ (if sat then [Pub.or 0x40A 4, Pub.irq srcResultSat] else []))) .half
    else { s with line := { s.line with halfNow := false } }
  let h := s1.line.halfCur
  { s1 with line := { s1.line with halfCur :=
    { sq := zip2 (· + ·) h.sq ((upto 10).map (fun n => wt * y8 s n * y8 s n))
      len := h.len + wt, force := h.force &&& forceMask s } } }

/-- Item 7. While no working stream is in force it is out of the schedule with item 4 (03 R65, R175), and no stream is in
force in every tick of the half. -/
def item7 (s : State) : State :=
  if s.line.itemOn then halfWork s
  else
    let h := s.line.halfCur
    { s with line := { s.line with halfNow := false, halfCur := { h with force := h.force &&& forceMask s } } }

/-! ### Publication (R71, R179, R180) -/

/-- The cycle and window results that fall due are published together (R71, R179, R191). -/
def publishCycle (s : State) : State :=
  match s.line.tail with
  | none => s
  | some t =>
    let s1 := t.results.foldl (fun a e => setReg a e.1 e.2) { s with line := { s.line with tail := none, sSum := t.sSum } }
    let s2 := match t.period with
      | some p => setReg (setReg (setReg s1 0x402 (wd p)) 0x403 (wd (p / 2 ^ 20 % 1024))) 0x404 (wd (freqMhz 1 p))
      | none => s1
    let s3 := raise (incMod s2 0x405) srcCycleDone
    let s4 := if t.window then raise (incMod s3 0x408) srcWindowDone else s3
    if t.sat = 0 then s4 else raise (orReg s4 0x40A t.sat) srcResultSat

/-- CYCLE_PUBLICATION: the boundary that ends the fourth tail tick (R71). -/
def cyclePublicationDue (s : State) : Bool :=
  running s && (match s.line.tail with | some t => t.left == 1 | none => false)

/-- A tail tick passes. -/
def tailTick (s : State) : State :=
  if cyclePublicationDue s then publishCycle s
  else { s with line := { s.line with tail := s.line.tail.map (fun t => { t with left := t.left - 1 }) } }

end Sys2Proof.Machine
end

