-- ==== Sys2Proof/Machine/Energy.lean ====
section
/-!
DEFINITION. Energy accumulation, its presets and its publication (08 R182 to R185, R191), the image of a store slot
(R186), and the calibration pulse outputs (R189, R190).
-/

namespace Sys2Proof.Machine

/-! ### Accumulation -/

/-- The term of quantity `q` in one tick (R182). -/
def energyTerm (s : State) (q : Nat) : Int :=
  match q with
  | 0 => prodP s 0
  | 1 => prodP s 1
  | 2 => prodP s 2
  | 3 => prodP s 0 + prodP s 1 + prodP s 2
  | 4 => prodQ s 0
  | 5 => prodQ s 1
  | 6 => prodQ s 2
  | 7 => prodQ s 0 + prodQ s 1 + prodQ s 2
  | 8 => s.line.sSum * 524288
  | 9 => y8 s 3 * y8 s 8
  | 10 => vbt s * y8 s 9
  | 11 => y8 s 9 * 524288
  | _ => 0

/-- The band of the residue (R183). -/
def energyBand : Int := 8388608 * 524288

/-- A residue after a term: residue, import increment, export increment (R183). -/
def residue (r t : Int) : Int × Nat × Nat :=
  let a := r + t
  if a > energyBand then
    let w := asr (a - energyBand) 19
    (a - w * 524288, w.toNat, 0)
  else if a < -energyBand then
    let w := asr (-energyBand - a) 19
    (a + w * 524288, 0, w.toNat)
  else (a, 0, 0)

/-- Quantity `q` takes its term. -/
def energyStep (s : State) (q : Nat) : State :=
  if !bitAt (schedState3 s) q then s
  else
    let t := energyTerm s q * (if s.power.settle then 4 else 1)
    let p := residue (nth s.energy.res q 0) t
    let e := s.energy
    let i := nth e.imp q 0 + p.2.1
    let x := nth e.exp q 0 + p.2.2
    { s with energy := { e with
      res := setNth e.res q p.1
      imp := setNth e.imp q (wrap60 i), exp := setNth e.exp q (wrap60 x)
      incImp := setNth e.incImp q p.2.1, incExp := setNth e.incExp q p.2.2
      wrapImp := e.wrapImp ||| (if i ≥ 2 ^ 60 then 2 ^ q else 0)
      wrapExp := e.wrapExp ||| (if x ≥ 2 ^ 60 then 2 ^ q else 0) } }

/-- Twelve zeros. -/
def zeros12 : List Nat := List.replicate 12 0

/-- Item 9: the enabled quantities in ascending order (R183). -/
def item9 (s : State) : State :=
  (upto 12).foldl energyStep
    { s with energy := { s.energy with incImp := zeros12, incExp := zeros12, wrapImp := 0, wrapExp := 0 } }

/-- A 60-bit value into three registers, low word first (R5). -/
def putWide (s : State) (n v : Nat) : State :=
  setReg (setReg (setReg s n (wd v)) (n + 1) (wd (v / 2 ^ 20))) (n + 2) (wd (v / 2 ^ 40))

/-- The 60-bit value of three registers. -/
def getWide (s : State) (n : Nat) : Nat := regN s n + regN s (n + 1) * 2 ^ 20 + regN s (n + 2) * 2 ^ 40

/-- First register of the import (`ex` false) or export accumulator of quantity `q`. -/
def energyReg (q : Nat) (ex : Bool) : Nat := 0x470 + 6 * q + (if ex then 3 else 0)

/-- An accumulator becomes visible in its register. -/
def showWide (s : State) (n v : Nat) : State := if getWide s n = v then s else putWide s n v

/-- Item 16's part: the accumulators become visible, and wraps set their bits (R183 to R185). -/
def publishEnergy (s : State) : State :=
  let put (t : State) (q : Nat) : State :=
    showWide (showWide t (energyReg q false) (nth s.energy.imp q 0)) (energyReg q true) (nth s.energy.exp q 0)
  let t := (upto 12).foldl put s
  if s.energy.wrapImp = 0 ∧ s.energy.wrapExp = 0 then t
  else raise (orReg (orReg t 0x410 s.energy.wrapImp) 0x411 s.energy.wrapExp) srcEnergyWrap

/-- ENERGY_PRESET in its landing cycle (R185): the visible register takes the value; the accumulator takes it with this
tick's increment where item 9 has run, and a wrap that this brings is told by item 16, at once where that has run too; the
wrap bit clears, and RESTORED is set (R188). In HOLD item 9 does not run. -/
def energyPreset (s : State) (q v : Nat) : State :=
  let ex := bitAt (getReg s 0x40C) 1
  let ran := running s && decide (s.seq.item > 9)
  let inc := if ran then (if ex then nth s.energy.incExp q 0 else nth s.energy.incImp q 0) else 0
  let t := clearReg (putWide s (energyReg q ex) v) (if ex then 0x411 else 0x410) (2 ^ q)
  let e := t.energy
  let off (m : Nat) : Nat := if bitsOf m q 1 = 1 then m - 2 ^ q else m
  let wraps := decide (v + inc ≥ 2 ^ 60)
  let mark (m : Nat) : Nat := off m + (if wraps then 2 ^ q else 0)
  let u := if wraps && decide (s.seq.item > 16) then raise (orReg t (if ex then 0x411 else 0x410) (2 ^ q)) srcEnergyWrap else t
  { u with energy := { e with
    imp := if ex then e.imp else setNth e.imp q (wrap60 (v + inc))
    exp := if ex then setNth e.exp q (wrap60 (v + inc)) else e.exp
    wrapImp := if ex then e.wrapImp else mark e.wrapImp
    wrapExp := if ex then mark e.wrapExp else e.wrapExp
    restored := true } }

/-! ### The image of a slot (R186) -/

/-- NVM byte of the energy slot `n`. -/
def energySlotAt (n : Nat) : Nat := 0x4000 + 256 * n

/-- The 256 bytes of a slot with sequence `seq` and the registers as published. -/
def energySlot (s : State) (seq : Nat) : List Byte :=
  let accs := (upto 12).flatMap (fun q =>
    leBytes (getWide s (energyReg q false)) 8 ++ leBytes (getWide s (energyReg q true)) 8)
  let body := leBytes seq 4 ++ accs ++ leBytes (fld (getReg s 0x410) 0 12 + 4096 * fld (getReg s 0x411) 0 12) 4
    ++ ffs 52
  body ++ leBytes (crc16 body) 2 ++ [0xFF, 0xA5]

/-- The slot `n` read back is valid (R186). -/
def energySlotValid (b : List Byte) : Bool :=
  nth b 255 0 == 0xA5 && ofLe ((b.drop 252).take 2) == crc16 (b.take 252)

/-! ### Calibration pulses (R189, R190) -/

/-- Length of `c` DCLK cycles of Full, or `d` of Settle, on the line clock. -/
def cfSpan (s : State) (c d : Nat) : Int := if s.power.settle then (d * 64 : Nat) else (c * 16 : Nat)

/-- CF output `x` is enabled in force. -/
def cfOn (s : State) (x : Nat) : Bool := bitAt (schedState1 s) (11 + x)

/-- An output with nothing on it. -/
def noCf : CfOut := { acc := 0, fresh := none, arr := none, queue := [], high := false, lastStart := none, ends := 0 }

/-- CF output `x`. -/
def cfGet (s : State) (x : Nat) : CfOut := nth s.energy.cf x noCf

/-- CF output `x` replaced. -/
def cfPut (s : State) (x : Nat) (c : CfOut) : State :=
  { s with energy := { s.energy with cf := setNth s.energy.cf x c } }

/-- CF_THR of output `x`; 0 acts as 1. -/
def cfThr (s : State) (x : Nat) : Nat := max 1 (snapN s (0x4C4 + 2 * x) + snapN s (0x4C5 + 2 * x) * 2 ^ 20)

/-- The increment output `x` counts in this tick (R189). -/
def cfInc (s : State) (x : Nat) : Nat :=
  let c := snapReg s (0x4C0 + x)
  let q := fld c 0 4
  let dir := fld c 4 2
  let en := bitAt (schedState3 s) q
  (if en && dir != 1 then nth s.energy.incImp q 0 else 0) + (if en && dir != 0 then nth s.energy.incExp q 0 else 0)

/-- Item 10 of output `x`: the accumulator, and the pulses that fall due in the next tick. -/
def cfCount (s : State) (x : Nat) : State :=
  if !cfOn s x then s
  else
    let c := cfGet s x
    let w := cfInc s x
    let thr := cfThr s x
    let n := (c.acc + w) / thr
    cfPut s x { c with
      acc := c.acc + w - n * thr
      fresh := if n = 0 then none else some { a0 := c.acc, w := w, thr := thr, n := n, m := 1 } }

/-- Item 10. -/
def item10 (s : State) : State := (upto 4).foldl cfCount s

/-- Cycle of the tick at which pulse `m` falls due (R189). -/
def cfDue (a : CfArr) (m : Nat) : Nat := if m * a.thr ≤ a.a0 then 0 else ((m * a.thr - a.a0) * 6144 - 1) / a.w

/-- Instant of the next arrival of this tick. -/
def cfArrival (s : State) (c : CfOut) : Option Int :=
  match c.arr with
  | some a => if a.m ≤ a.n then some (s.line.clk + (cfDue a a.m * cycleClock s : Nat)) else none
  | none => none

/-- Instant at which the head of the queue can start (R190). -/
def cfStartAt (s : State) (c : CfOut) : Option Int :=
  match c.queue with
  | [] => none
  | d :: _ => some (match c.lastStart with | none => d | some l => max d (l + cfSpan s 2458 615))

/-- A pulse starts at `t`: 80 µs, or half the interval since the previous start when that is under 160 µs. Where two
pulses overlap the output is high while either lasts (log entry 12). -/
def cfStart (s : State) (c : CfOut) (t : Int) : CfOut :=
  let w := match c.lastStart with
    | some l => if t - l < cfSpan s 7864 1966 then
        tdiv (tdiv (t - l) (cycleClock s)) 2 * (cycleClock s : Int) else cfSpan s 3932 983
    | none => cfSpan s 3932 983
  { c with high := true, lastStart := some t, ends := if c.high then max c.ends (t + w) else t + w }

/-- The first instant after this tick. -/
def tickEnd (s : State) : Int := s.line.clk + (tickClock s : Nat)

/-- What happens next on a CF output in this tick: the pulse that is high ends, the head of the queue starts, or a
pulse falls due. -/
inductive CfEvent where
  | ends
  | start (t : Int)
  | due (t : Int)
  | none
  deriving DecidableEq, Repr

/-- The next event of an output before the end of the tick; at one instant an end comes before a start, and a start
before an arrival. -/
def cfNext (s : State) (c : CfOut) : CfEvent :=
  let q := match cfStartAt s c with
    | some t => if t < tickEnd s then some t else none
    | none => none
  let a := cfArrival s c
  let e := if c.high && decide (c.ends < tickEnd s) then some c.ends else none
  let upTo (t : Int) : Option Int → Bool
    | some u => decide (t ≤ u)
    | none => true
  match e, q, a with
  | some t, q, a => if upTo t q && upTo t a then .ends
    else match q, a with
      | some u, a => if upTo u a then .start u else match a with | some v => .due v | none => .none
      | none, some v => .due v
      | none, none => .none
  | none, some u, a => if upTo u a then .start u else match a with | some v => .due v | none => .none
  | none, none, some v => .due v
  | none, none, none => .none

/-- How many arrivals from number `m` on fall due before the queue next gives way at `t` (all of them when it does not
in this tick). -/
def cfDropCount (s : State) (a : CfArr) : Option Int → Nat
  | none => a.n + 1 - a.m
  | some t =>
    let tc := ((t - s.line.clk + (cycleClock s : Int) - 1) / (cycleClock s : Int)).toNat
    max 1 (min a.n ((a.a0 * 6144 + tc * a.w) / (6144 * a.thr)) + 1 - a.m)

/-- CF_LOST, the OVER bit and CF_OVER for `k` dropped pulses (R190). -/
def cfLose (s : State) (x k : Nat) : State := raise (orReg (addReg s 0x4CD k) 0x4CC (2 ^ (4 + x))) srcCfOver

/-- A pulse falls due at `t`: it starts when nothing is pending and the spacing allows, waits while fewer than 15 are
pending, and is dropped otherwise with all that fall due before the next start (R190). -/
def cfFallsDue (s : State) (x : Nat) (t : Int) : State :=
  let c := cfGet s x
  match c.arr with
  | none => s
  | some a =>
    let next (k : Nat) : Option CfArr := some { a with m := a.m + k }
    let free := match c.lastStart with | none => true | some l => decide (l + cfSpan s 2458 615 ≤ t)
    if c.queue.isEmpty && free then cfPut s x (cfStart s { c with arr := next 1 } t)
    else if c.queue.length < 15 then cfPut s x { c with arr := next 1, queue := c.queue ++ [t] }
    else
      let st := match cfStartAt s c with
        | some u => if u < tickEnd s then some u else none
        | none => none
      let k := cfDropCount s a st
      cfLose (cfPut s x { c with arr := next k }) x k

/-- One event of output `x` takes place. -/
def cfEvent (s : State) (x : Nat) : State :=
  let c := cfGet s x
  match cfNext s c with
  | .ends => cfPut s x { c with high := false }
  | .start t => cfPut s x (cfStart s { c with queue := c.queue.tail } t)
  | .due t => cfFallsDue s x t
  | .none => s

/-- A pulse of output `x` started or ended between two states. -/
def cfStarted (a b : CfOut) : Bool := decide (a.lastStart ≠ b.lastStart)
def cfEnded (a b : CfOut) : Bool := a.high && !b.high

/-- Events of output `x` until `stop` holds of one, at most `n`; none when it never does. -/
def cfUntil (stop : CfOut → CfOut → Bool) : Nat → State → Nat → Option State
  | 0, _, _ => none
  | n + 1, s, x =>
    match cfNext s (cfGet s x) with
    | .none => none
    | _ =>
      let t := cfEvent s x
      if stop (cfGet s x) (cfGet t x) then some t else cfUntil stop n t x

/-- Events that one output can see in a tick: a tick in Settle holds at most 11 starts and as many ends, and besides
them 15 and as many arrivals that join the queue, and a lump of losses for each start. -/
def cfFuel : Nat := 96

/-- CF_PULSE_START: the next pulse of output `x` in this tick starts. -/
def cfPulseStart (s : State) (x : Nat) : State :=
  if running s && cfOn s x then (cfUntil cfStarted cfFuel s x).getD s else s

/-- CF_PULSE_END: the pulse of output `x` that ends in this tick ends. -/
def cfPulseEnd (s : State) (x : Nat) : State :=
  if running s && cfOn s x then (cfUntil cfEnded cfFuel s x).getD s else s

/-- All events of output `x` up to the end of the tick. -/
def cfRun : Nat → State → Nat → State
  | 0, s, _ => s
  | n + 1, s, x =>
    match cfNext s (cfGet s x) with
    | .none => s
    | _ => cfRun n (cfEvent s x) x

/-- The tick ends: what is due happens on every output. -/
def cfFlush (s : State) : State :=
  (upto 4).foldl (fun t x => if running t && cfOn t x then cfRun cfFuel t x else t) s

/-- The output is driven low, pending pulses are discarded and the accumulator is kept (R190, 03 R56). -/
def cfStop (c : CfOut) : CfOut := { c with fresh := none, arr := none, queue := [], high := false }

/-- The new tick: the arrivals found in the last tick are this tick's; outputs out of force stop. -/
def cfTick (s : State) : State :=
  (upto 4).foldl (fun t x =>
    let c := cfGet t x
    if running t && cfOn t x then cfPut t x { c with arr := c.fresh, fresh := none } else cfPut t x (cfStop c)) s

/-- Every output stops (HOLD, PFAIL). -/
def cfStopAll (s : State) : State := { s with energy := { s.energy with cf := s.energy.cf.map cfStop } }

/-- CF_STAT PEND: outputs with pulses waiting. -/
def cfPend (s : State) : Nat :=
  (upto 4).foldl (fun a x => if (cfGet s x).queue.isEmpty then a else a + 2 ^ x) 0

end Sys2Proof.Machine
end

