-- ==== Sys2Proof/Machine/Mem.lean ====
section
/-!
DEFINITION. Capture memory and the Sideboard (10): line tags (R214 to R216), what a read finds (R215, R218, R220 to
R222), reads, writes and atomics of a requester (R217, R219), the scrub engine (R223 to R225), requests, waits and
starvation (R228 to R233).
-/

namespace Sys2Proof.Machine

/-! ### The tag (R214 to R216) -/

/-- col(j): the (j+1)-th integer from 3 up that is not a power of two (R214). -/
def col (j : Nat) : Nat :=
  if j < 1 then 3 else if j < 4 then j + 4 else if j < 11 then j + 5 else if j < 26 then j + 6
  else if j < 57 then j + 7 else if j < 120 then j + 8 else j + 9

/-- The check bits of a number of `n` bits whose bit 0 has column col(base). -/
def colXor (v base n : Nat) : Nat :=
  (upto n).foldl (fun a k => if v.testBit k then a ^^^ col (base + k) else a) 0

/-- The number of set bits among the low `n` bits, modulo 2. -/
def parity (v n : Nat) : Nat := ((upto n).filter (fun k => v.testBit k)).length % 2

/-- The check bits of a line at index `a`. -/
def checkBits (a : Nat) (d : List Byte) : Nat := colXor (ofLe d) 0 128 ^^^ colXor a 128 16

/-- The valid tag of a line at index `a` (R214). -/
def tagOf (a : Nat) (d : List Byte) : BitVec 9 :=
  let c := checkBits a d
  let p := (parity (ofLe d) 128 + parity a 16 + parity c 8) % 2
  BitVec.ofNat 9 (p * 256 + c)

/-- The poison pattern of a line at index `a` (R216). -/
def poisonTag (a : Nat) (d : List Byte) : BitVec 9 := tagOf a d ^^^ 0x0FF

/-- The valid tag of a line of zeros at index `a` (R212). -/
def zeroTag (a : Nat) : BitVec 9 :=
  let c := colXor a 128 16
  BitVec.ofNat 9 ((parity a 16 + parity c 8) % 2 * 256 + c)

/-- What a read makes of a line: class code 0 to 4, q, s, and the data to use (R215). -/
structure LineRead where
  cls : Nat
  q : Nat
  syn : Nat
  data : List Byte
  deriving DecidableEq, Repr

/-- The data bit whose column is `s`. -/
def bitOfCol (s : Nat) : Option Nat := (upto 144).find? (fun j => col j == s)

/-- Bit `j` of a line inverted. -/
def flipBit (d : List Byte) (j : Nat) : List Byte :=
  modNth d (j / 8) (fun b => b ^^^ BitVec.ofNat 8 (2 ^ (j % 8)))

/-- The classification of R215. -/
def classify (a : Nat) (d : List Byte) (tag : BitVec 9) : LineRead :=
  let c := tag.toNat % 256
  let s := c ^^^ checkBits a d
  let q := (tag.toNat / 256 + parity (ofLe d) 128 + parity a 16 + parity c 8) % 2
  if q = 0 then
    if s = 0 then { cls := 0, q := 0, syn := 0, data := d }
    else if s = 0xFF then { cls := 4, q := 0, syn := s, data := d }
    else { cls := 3, q := 0, syn := s, data := d }
  else if s = 0 ∨ s = 1 ∨ s = 2 ∨ s = 4 ∨ s = 8 ∨ s = 16 ∨ s = 32 ∨ s = 64 ∨ s = 128 then
    { cls := 1, q := 1, syn := s, data := d }
  else
    match bitOfCol s with
    | some j => if j ≤ 127 then { cls := 1, q := 1, syn := s, data := flipBit d j }
                else { cls := 2, q := 1, syn := s, data := d }
    | none => { cls := 3, q := 1, syn := s, data := d }

/-! ### Lines -/

/-- What a byte of capture memory reads as before anything is written (R212). -/
def zeroByte (_ : Nat) : Byte := 0

/-- The 16 bytes of line `i` as stored. -/
def lineBytes (s : State) (i : Nat) : List Byte := sgets zeroByte s.mem.data (16 * i) 16

/-- The stored tag of line `i`. -/
def lineTag (s : State) (i : Nat) : BitVec 9 := sget zeroTag s.mem.tags i

/-- Tag `t` stored for line `i`. -/
def putTag (s : State) (i : Nat) (t : BitVec 9) : State :=
  { s with mem := { s.mem with tags := sset zeroTag s.mem.tags i t } }

/-- Line `i` written with a valid tag; a scrub write-back of the line that is due is cancelled (R224). -/
def putLine (s : State) (i : Nat) (d : List Byte) : State :=
  { s with mem := { s.mem with
    data := sputs zeroByte s.mem.data (16 * i) (d.take 16)
    tags := sset zeroTag s.mem.tags i (tagOf i d)
    writeBack := match s.mem.writeBack with
      | some (j, c) => if j = i then none else some (j, c)
      | none => none } }

/-- The bank of a local address (R211). -/
def bankOf (pa : Nat) : Nat := if pa < 0x80000 then 0 else 1

/-- Bank `b` is powered. -/
def bankOn (s : State) (b : Nat) : Bool := domOn s (7 + b)

/-- Bank `b` is READY. -/
def bankReady (s : State) (b : Nat) : Bool := s.mem.ready.getLsbD b

/-- The event of a newly poisoned line (R220, 12 R258). -/
def poisonEvent (line req : Nat) (r : LineRead) : BEvent :=
  { code := 0x040, sev := 3, p0 := line, p1 := req, p2 := r.cls * 4096 + r.syn, rep := 0 }

/-- What every read leaves besides its data (R218, R220 to R222), the rewriting of the line apart. -/
def noteRead (s : State) (req line : Nat) (r : LineRead) : State :=
  if r.cls = 0 then s
  else
    let t := setReg (setReg s 0x605 (wd line)) 0x606 (wd (r.cls * 4096 + req * 512 + r.q * 256 + r.syn))
    if r.cls = 1 then raise (incReg t 0x601) srcMemCe
    else if r.cls = 4 then raise (incReg t 0x602) srcMemUe
    else
      let u := incReg (incReg t 0x602) 0x604
      let v := if r.cls = 2 then incReg u 0x603 else u
      deliver (raise v srcMemUe) (poisonEvent line req r)

/-- Requester `req` reads line `i`: the state after the read and a poisoning, and what was found. -/
def readLine (s : State) (req i : Nat) : State × LineRead :=
  let r := classify i (lineBytes s i) (lineTag s i)
  let t := noteRead s req i r
  if r.cls = 2 ∨ r.cls = 3 then (putTag t i (poisonTag i (lineBytes s i)), r) else (t, r)

/-- Cycles a read takes in its grant beyond the first: a write-back or a poisoning. -/
def extraCycles (r : LineRead) : Nat := if r.cls = 0 ∨ r.cls = 4 then 0 else 1

/-- What an operation of a requester comes to: the state, its cycles, the cycle of its grant (from 0) in which it ended or
was refused (04 R85), and its data unless it was refused for class 2 to 4. -/
structure MemResult where
  st : State
  cycles : Nat
  last : Nat
  data : Option (List Byte)

/-- What reading several lines comes to: the state, the reads made, the cycles of write-backs and of a poisoning, the
data unless a read was refused, and the lines to write back (R218). -/
structure Reading where
  st : State
  reads : Nat
  extra : Nat
  data : Option (List Byte)
  back : List (Nat × List Byte)

/-- The lines `i` to `i + n − 1` are read in ascending order; the read stops at the first line of class 2 to 4. Lines
of class 1 are listed for their write-back (R218). -/
def readLines (s : State) (req i : Nat) : Nat → Reading
  | 0 => { st := s, reads := 0, extra := 0, data := some [], back := [] }
  | n + 1 =>
    let p := readLine s req i
    if p.2.cls ≥ 2 then { st := p.1, reads := 1, extra := extraCycles p.2, data := none, back := [] }
    else
      let q := readLines p.1 req (i + 1) n
      { st := q.st, reads := q.reads + 1, extra := q.extra + extraCycles p.2
        data := q.data.map (fun d => p.2.data ++ d)
        back := (if p.2.cls = 1 then [(i, p.2.data)] else []) ++ q.back }

/-- Corrected lines are written back (R218). -/
def writeBacks (s : State) (l : List (Nat × List Byte)) : State := l.foldl (fun a w => putLine a w.1 w.2) s

/-- A read of `count` bytes from local address `pa` by requester `req` (R217, R219). -/
def memRead (s : State) (req pa count : Nat) : MemResult :=
  let i := pa / 16
  let n := (pa + count - 1) / 16 + 1 - i
  let p := readLines s req i n
  { st := writeBacks p.st p.back, cycles := p.reads + p.extra
    last := (if p.data.isSome then p.reads + p.extra else p.reads) - 1
    data := p.data.map (fun d => (d.drop (pa % 16)).take count) }

/-- Whole lines written from line `i` on. -/
def putLines (s : State) (i : Nat) : Nat → List Byte → State
  | 0, _ => s
  | n + 1, d => putLines (putLine s i (d.take 16)) (i + 1) n (d.drop 16)

/-- A write of `d` from local address `pa` by requester `req` (R219): partial first and last lines are read first;
where either is refused nothing is written. -/
def memWrite (s : State) (req pa : Nat) (d : List Byte) : MemResult :=
  let i := pa / 16
  let last := (pa + d.length - 1) / 16
  let n := last + 1 - i
  let headPart := decide (pa % 16 ≠ 0) || (decide (n = 1) && decide (d.length < 16))
  let tailPart := decide ((pa + d.length) % 16 ≠ 0) && decide (n > 1)
  let p := if headPart then readLine s req i else (s, { cls := 0, q := 0, syn := 0, data := [] })
  if p.2.cls ≥ 2 then { st := p.1, cycles := 1 + extraCycles p.2, last := 0, data := none }
  else
    let q := if tailPart then readLine p.1 req last else (p.1, { cls := 0, q := 0, syn := 0, data := [] })
    let used := b2n headPart + b2n tailPart
    if q.2.cls ≥ 2 then { st := q.1, cycles := used + extraCycles q.2, last := used - 1, data := none }
    else
      let pre := if headPart then p.2.data.take (pa % 16) else []
      let endOff := (pa + d.length) % 16
      let post := if endOff = 0 then []
        else if n = 1 then p.2.data.drop endOff else q.2.data.drop endOff
      { st := putLines q.1 i n (pre ++ d ++ post), cycles := used + n, last := used + n - 1, data := some [] }

/-- A partial write whose 16 bytes have been merged bit by bit (R217): the line is read and checked first. -/
def memMerge (s : State) (req pa : Nat) (d : List Byte) : MemResult :=
  let i := pa / 16
  let p := readLine s req i
  if p.2.cls ≥ 2 then { st := p.1, cycles := 1 + extraCycles p.2, last := 0, data := none }
  else { st := putLine p.1 i d, cycles := 2, last := 1, data := some [] }

/-- The new word of an atomic (11 R246). -/
def atomicNew (k : AccKind) (old op1 op2 : BitVec 32) : BitVec 32 :=
  match k with
  | .fetchAdd => old + op1
  | .swap => op1
  | .cmpSwap => if old = op1 then op2 else old
  | _ => old

/-- An atomic on the 4-byte word at `pa` by requester `req` (R217, 11 R246): the answer is the old word, least
significant byte first. -/
def memAtomic (s : State) (req pa : Nat) (k : AccKind) (op1 op2 : BitVec 32) : MemResult :=
  let i := pa / 16
  let o := pa % 16
  let p := readLine s req i
  if p.2.cls ≥ 2 then { st := p.1, cycles := 1 + extraCycles p.2, last := 0, data := none }
  else
    let old := (p.2.data.drop o).take 4
    let w := atomicNew k (BitVec.ofNat 32 (ofLe old)) op1 op2
    { st := putLine p.1 i (p.2.data.take o ++ leBytes w.toNat 4 ++ p.2.data.drop (o + 4)), cycles := 2, last := 1
      data := some old }

/-! ### Requests (R227 to R233) -/

/-- FREEZE is 1. -/
def frozen (s : State) : Bool := bitAt (getReg s 0x620) 0

/-- The Sideboard works: PD2 is at work and PFAIL has not stopped it (R234). -/
def boardUp (s : State) : Bool := coreOn s && decide (s.seq.st ≠ .gasp)

/-- Requester `r` has its request raised. -/
def requesting (s : State) (r : Nat) : Bool := s.mem.reqs.any (fun q => q.r == r && !q.gone)

/-- Requester `r` raises its request in cycle `c` of the present tick: it is visible from the next cycle on (R229). A
requester has one request; an operation that goes on takes the place of what it asked for. -/
def raiseAt (s : State) (r : Nat) (op : MemOp) (c : Nat) : State :=
  if requesting s r then
    match op with
    | .rest _ _ _ => { s with mem := { s.mem with
        reqs := s.mem.reqs.map (fun q => if q.r == r && !q.gone then { q with op := op } else q) } }
    | _ => s
  else
    let w := s.mem.busy - (c + 1)
    { s with mem := { s.mem with
      reqs := s.mem.reqs ++ [{ r := r, op := op, at_ := c + 1, wait := w, starve := if frozen s then 0 else w
                               reported := false, gone := false }] } }

/-- Requester `r` raises its request in the cycle that the Sideboard, or the landing of packets, has reached. -/
def raiseReq (s : State) (r : Nat) (op : MemOp) : State := raiseAt s r op (max s.seq.cycle s.mem.busy)

/-- Requester `r`'s request is served: it is absent again. -/
def endReq (s : State) (r : Nat) : State :=
  { s with mem := { s.mem with reqs := s.mem.reqs.filter (fun q => q.r != r || q.gone) } }

/-- Requester `r` withdraws its request (R230): the next decision may already have named it. -/
def withdrawReq (s : State) (r : Nat) : State :=
  { s with mem := { s.mem with reqs := s.mem.reqs.map (fun q => if q.r = r then { q with gone := true } else q) } }

/-- Withdrawn requests are forgotten: a decision has been made after them. -/
def forgetGone (s : State) : State :=
  { s with mem := { s.mem with reqs := s.mem.reqs.filter (fun q => !q.gone) } }

/-- The effective age of a request with wait count `w` (R228). -/
def effAge (s : State) (q : Req) (w : Nat) : Nat := min w 1023 + fld (forceReg s (0x610 + q.r)) 0 10

/-- The first cycle that request `q` can own: it was visible in the cycle before, and another owned that one (R229). -/
def firstOwn (s : State) (q : Req) : Nat :=
  if q.wait > 0 then (if s.mem.owner = some q.r then s.mem.busy + 1 else s.mem.busy) else max s.mem.busy q.at_ + 1

/-- The wait count of `q` at the start of the cycle before `c`, in which the owner of `c` is decided. -/
def ageWait (s : State) (q : Req) (c : Nat) : Nat := q.wait + (c - max q.at_ s.mem.busy) - 1

/-- The winner of the decision for cycle `c` among requests (R229): the largest effective age, equal ages to the lower
index. -/
def bestReq (s : State) (c : Nat) : List Req → Option Req
  | [] => none
  | q :: l =>
    match bestReq s c l with
    | none => some q
    | some b =>
      let x := effAge s q (ageWait s q c)
      let y := effAge s b (ageWait s b c)
      if x > y ∨ (x = y ∧ q.r < b.r) then some q else some b

/-- The least of a list of cycles. -/
def leastOf : List Nat → Option Nat
  | [] => none
  | a :: l => match leastOf l with | none => some a | some b => some (min a b)

/-- ARB_STARVE: the count of requester `r`'s request, `slack` cycles on, exceeds STARVE_LIM (R233). -/
def starveCheck (s : State) (r slack : Nat) : State :=
  let lim := regN s 0x622
  if decide (lim ≠ 0) && !frozen s
      && s.mem.reqs.any (fun q => q.r == r && !q.gone && !q.reported && decide (q.starve + (slack - (q.at_ - s.mem.busy)) > lim))
  then raise (orReg { s with mem := { s.mem with
      reqs := s.mem.reqs.map (fun q => if q.r = r then { q with reported := true } else q) } } 0x623 (2 ^ r)) srcArbStarve
  else s

/-- ARB_MAXWAIT of requester `q.r` takes in its count (R233). -/
def noteWait (s : State) (q : Req) : State :=
  if q.starve > regN s (0x628 + q.r) then setReg s (0x628 + q.r) (wd q.starve) else s

/-- The Sideboard comes to cycle `c`: every request counts the cycles in which it was visible (R228, R233). -/
def boardTo (s : State) (c : Nat) : State :=
  if c ≤ s.mem.busy then s
  else
    let b := s.mem.busy
    let fz := frozen s
    let t : State := { s with mem := { s.mem with
      busy := c, owner := none
      reqs := s.mem.reqs.map (fun q =>
        let k := c - max q.at_ b
        { q with wait := q.wait + k, starve := if fz then q.starve else min (q.starve + k) 0xFFFFF }) } }
    (upto 8).foldl (fun u r => starveCheck u r 0) (t.mem.reqs.foldl noteWait t)

/-- Cycles of this tick that the Sideboard has still to come to. -/
def idleCycles (s : State) : Nat := 6144 - s.mem.busy

/-- FREEZE as written: DRAINED becomes 1 when no requester owns a grant (R232); a grant is one step here. -/
def drainCheck (s : State) : State :=
  let d := frozen s
  raiseIf (d && !s.mem.drained) srcArbDrained { s with mem := { s.mem with drained := d } }

/-! ### The scrub engine (R223 to R225) -/

/-- SCRUB_INT. -/
def scrubInt (s : State) : Nat := fld (getReg s 0x608) 0 12

/-- The steps that fall due at a boundary join the backlog (R223, R225). -/
def scrubDueTick (s : State) : State :=
  if scrubInt s = 0 then { s with mem := { s.mem with scrubDue := 0 } }
  else
    let u := s.mem.scrubUnits + tickUnits s
    let due := u * 65536 / (scrubInt s * 8000) - s.mem.scrubSteps
    let b := min (s.mem.backlog + due) 0xFFFFF
    let t : State := { s with mem := { s.mem with
      scrubUnits := u, scrubSteps := s.mem.scrubSteps + due, backlog := b, scrubDue := due
      lagReported := s.mem.lagReported || decide (b > 64) } }
    raiseIf (decide (b > 64) && !s.mem.lagReported) srcScrubLag t

/-- The scrub engine has something to do: what it is due to write, or a step while SCRUB_INT is not 0. -/
def scrubWork (s : State) : Bool :=
  s.mem.poison.isSome || s.mem.writeBack.isSome || (decide (s.mem.backlog > 0) && decide (scrubInt s ≠ 0))

/-- The walk goes on to the next line; a pass that ends is counted (R223). -/
def scrubAdvance (s : State) : State :=
  let b := s.mem.backlog - 1
  let t : State := { s with mem := { s.mem with
    backlog := b, lagReported := s.mem.lagReported && decide (b > 64) } }
  if s.mem.scrubPos ≥ 65535 then
    raise (incMod { t with mem := { t.mem with scrubPos := 0, scrubUnits := 0, scrubSteps := 0 } } 0x60A) srcScrubPass
  else { t with mem := { t.mem with scrubPos := t.mem.scrubPos + 1 } }

/-- One step of the scrub engine on the next line (R223, R224). -/
def scrubTake (s : State) : State :=
  let i := s.mem.scrubPos
  let b := bankOf (16 * i)
  if bankOn s b && bankReady s b then
    let d := lineBytes s i
    let r := classify i d (lineTag s i)
    let t := boardTo (noteRead s 7 i r) (s.mem.busy + 1)
    scrubAdvance { t with mem := { t.mem with
      writeBack := if r.cls = 1 then some (i, r.data) else t.mem.writeBack
      poison := if r.cls = 2 ∨ r.cls = 3 then some (i, poisonTag i d) else t.mem.poison } }
  else scrubAdvance s

/-- The scrub engine uses the cycle that the Sideboard has reached, for which no grant is decided: a due poisoning or
write-back, else the next step (R224, R220). -/
def scrubCycle (s : State) : State :=
  match s.mem.poison with
  | some (i, t) =>
    let u := putTag s i t
    boardTo { u with mem := { u.mem with poison := none } } (s.mem.busy + 1)
  | none =>
    match s.mem.writeBack with
    | some (i, d) =>
      let u := putLine s i d
      boardTo { u with mem := { u.mem with writeBack := none } } (s.mem.busy + 1)
    | none => scrubTake s

/-- The scrub engine in the free cycles before cycle `c`, at most `n` times. -/
def scrubRun : Nat → State → Nat → State
  | 0, s, _ => s
  | n + 1, s, c =>
    if scrubWork s && !frozen s && boardUp s && decide (s.mem.busy < c) then scrubRun n (scrubCycle s) c else s

/-- No grant is decided for the cycles before `c`: the scrub engine uses them. -/
def idleTo (s : State) (c : Nat) : State := boardTo (scrubRun (2 * s.mem.backlog + 2) s c) c

/-- The tick ends for the scrub engine: the free cycles are used, and each step that fell due in this tick and was not
taken is a yield (R225), counted once. -/
def scrubTickEnd (s : State) : State :=
  if did s .scrubYield then s
  else
    let t := idleTo s 6144
    let left := min t.mem.scrubDue t.mem.backlog
    if left = 0 then t else mark (addReg t 0x60B left) .scrubYield

/-- SCRUB_YIELD: a step that fell due in this tick is not taken by its end. -/
def scrubYieldOp (s : State) : State :=
  if did s .scrubYield then s
  else
    let t := scrubTickEnd s
    if did t .scrubYield then t else s

/-- The reads of capture memory are all zero with valid tags for the lines of bank `b` (R212); what was due to be written
in it is not (R234). -/
def clearBank (s : State) (b : Nat) : State :=
  { s with mem := { s.mem with
    data := sfilter (fun k => decide (bankOf k ≠ b)) s.mem.data
    tags := sfilter (fun k => decide (bankOf (16 * k) ≠ b)) s.mem.tags
    writeBack := s.mem.writeBack.filter (fun w => decide (bankOf (16 * w.1) ≠ b))
    poison := s.mem.poison.filter (fun w => decide (bankOf (16 * w.1) ≠ b)) } }

/-- Bank `b` powers up and begins to write its lines (R212). -/
def bankPowerUp (s : State) (b : Nat) : State :=
  let t := clearBank s b
  { t with mem := { t.mem with
    initCyc := setNth t.mem.initCyc b 0, init := t.mem.init ||| BitVec.ofNat 2 (2 ^ b), ready := t.mem.ready &&& ~~~(BitVec.ofNat 2 (2 ^ b)) } }

/-- Bank `b` powers down: its content is lost (02 R32). -/
def bankPowerDown (s : State) (b : Nat) : State :=
  let t := clearBank s b
  { t with mem := { t.mem with
    init := t.mem.init &&& ~~~(BitVec.ofNat 2 (2 ^ b)), ready := t.mem.ready &&& ~~~(BitVec.ofNat 2 (2 ^ b)) } }

/-- Bank `b` has written its last line (R212). -/
def bankReadyNow (s : State) (b : Nat) : State :=
  { s with mem := { s.mem with
    init := s.mem.init &&& ~~~(BitVec.ofNat 2 (2 ^ b)), ready := s.mem.ready ||| BitVec.ofNat 2 (2 ^ b) } }

/-- Bank `b` writes its last line in the present tick: it writes one line per cycle, 32,768 of them, since its domain
works (R212, 02 R31). -/
def bankInitDue (s : State) (b : Nat) : Bool :=
  s.mem.init.getLsbD b && works s (7 + b) && decide (nth s.mem.initCyc b 0 + 6144 ≥ 32768)

/-- BANK_INIT_DONE. -/
def bankInitDone (s : State) (b : Nat) : State := if bankInitDue s b then bankReadyNow s b else s

/-- The initialisation of bank `b` goes on through the tick that ends. -/
def bankInitTick (s : State) (b : Nat) : State :=
  if s.mem.init.getLsbD b && works s (7 + b) then
    { s with mem := { s.mem with initCyc := setNth s.mem.initCyc b (nth s.mem.initCyc b 0 + 6144) } }
  else s

end Sys2Proof.Machine
end

