-- ==== Sys2Proof/Machine/Harm.lean ====
section
/-!
DEFINITION. The harmonic engine (09 R193 to R199; 03 R67, R68) and power-quality events (09 R200 to R204).
-/

namespace Sys2Proof.Machine

/-! ### The harmonic engine -/

/-- HARM_EN in force. -/
def harmEn (s : State) : Nat := fld (schedState1 s) 0 7

/-- Harmonic channel `c` is in force with its stream. -/
def harmOn (s : State) (c : Nat) : Bool := bitAt (schedState1 s) c && inSched s (harmStream c)

/-- A window has ended in this tick: its last cycle's results have just been formed. -/
def windowEndsNow (s : State) : Bool :=
  match s.line.tail with
  | some t => t.window && t.left == 4
  | none => false

/-- The window still under analysis when the next has ended is abandoned (03 R68). -/
def harmDeadline (s : State) : State :=
  match s.harm.job with
  | some j =>
    if windowEndsNow s && !j.ready && !did s .bgShort then
      mark (raise (incReg { s with harm := { s.harm with job := none } } 0x194) srcBgShort) .bgShort
    else s
  | none => s

/-- Item 15: the deadline of the window before, and this tick's samples into the RAM (R193). -/
def item15 (s0 : State) : State :=
  let s := harmDeadline s0
  let f : BitVec 7 := (maskOf 7 (fun c => harmOn s c)).setWidth 7
  if harmEn s = 0 then { s with harm := { s.harm with force := 0 } }
  else
    { s with harm := { s.harm with
      force := s.harm.force &&& f
      ram := ({ t := s.line.clk, xs := (upto 7).map (fun c => if harmOn s c then y8 s (harmStream c) else 0), force := f }
        :: s.harm.ram).take 4096 } }

/-- Cycles that cycle closure takes in the background of this tick (03 R67): what it has left to do, in its tail ticks. -/
def closureCycles (s : State) : Nat :=
  match s.line.tail with
  | some t => min (6144 - (schedNow s).total) t.work
  | none => 0

/-- Cycles that remain to the harmonic engine in the background of this tick (03 R67): cycle closure comes first, then 256 c
for the Stool while it is in force (log entry 13). -/
def harmCycles (s : State) : Nat :=
  let c := schedNow s
  6144 - c.total - closureCycles s - (if bitAt c.w0 10 then 256 else 0)

/-- Cycle closure has had its cycles of this tick. -/
def closureTick (s : State) : State :=
  { s with line := { s.line with tail := s.line.tail.map (fun t => { t with work := t.work - closureCycles s }) } }

/-- The harmonic engine takes up a window that ended in an earlier tick (R197). -/
def harmTakeUp (s : State) : State :=
  match s.harm.job, s.harm.next with
  | none, some j =>
    if windowEndsNow s then s
    else
      let en := harmEn s
      { s with harm := { s.harm with
        next := none
        job := some { j with
          chans := BitVec.ofNat 7 en
          work := 4096 * popW (wd en) 7 * (j.bounds.length - 1) } } }
  | _, _ => s

/-- The background of a tick (03 R67, R197): cycle closure, and the work on the window under analysis. -/
def harmBackground (s : State) : State :=
  let s1 := harmTakeUp s
  closureTick (match s1.harm.job with
    | some j =>
      if j.ready then s1
      else
        let w := j.work - harmCycles s1
        { s1 with harm := { s1.harm with job := some { j with work := w, ready := decide (w = 0) } } }
    | none => s1)

/-- The four samples around instant `tau`: x[a−1], x[a], x[a+1], x[a+2] with t[a] ≤ tau < t[a+1], from a list newest
first; `n1`, `n2` are the two samples before its head. -/
def harmAround (tau : Int) : HSample → HSample → List HSample → HSample × HSample × HSample × HSample
  | n2, n1, a :: r =>
    if a.t ≤ tau then (r.headD a, a, n1, n2) else harmAround tau n1 a r
  | n2, n1, [] => (n1, n1, n1, n2)

/-- The point of channel `c` at instant `tau` (R194). -/
def harmPoint (ram : List HSample) (c : Nat) (tau : Int) : Int :=
  match ram with
  | n2 :: n1 :: r =>
    let q := harmAround tau n2 n1 r
    let f := ((tau - q.2.1.t) * 256) / (q.2.2.1.t - q.2.1.t)
    let w0 := tdiv (-(f * (f - 256) * (f - 512))) 6
    let w1 := tdiv ((f + 256) * (f - 256) * (f - 512)) 2
    let w2 := tdiv (-((f + 256) * f * (f - 512))) 2
    let w3 := tdiv ((f + 256) * f * (f - 256)) 6
    let x (h : HSample) : Int := nth h.xs c 0
    sat20 (asr (w0 * x q.1 + w1 * x q.2.1 + w2 * x q.2.2.1 + w3 * x q.2.2.2) 24)
  | _ => 0

/-- C[k] and S[k] (R195). -/
def harmC (k : Nat) : Int := cosNear 18 (k % 128) 128
def harmS (k : Nat) : Int := cosNear 18 ((k + 96) % 128) 128

/-- The 128 points of the cycle from `lc` to `lc1` (R194). -/
def harmPoints (ram : List HSample) (c : Nat) (lc lc1 : Int) : List Int :=
  (upto 128).map (fun (j : Nat) => harmPoint ram c (lc + tdiv ((j : Int) * (lc1 - lc)) 128))

/-- e[c][h] of one cycle (R195). -/
def harmEnergy (pts : List Int) (h : Nat) : Int :=
  let re := asr (sumI (mapIx (fun j x => x * harmC (h * j)) pts)) 18
  let im := asr (sumI (mapIx (fun j x => x * harmS (h * j)) pts)) 18
  re * re + im * im

/-- Pairs of neighbours. -/
def pairs : List Int → List (Int × Int)
  | a :: b :: r => (a, b) :: pairs (b :: r)
  | _ => []

/-- HTOP (R196). -/
def harmTop (settle : Bool) (freq : Nat) : Nat := min 63 ((if settle then 900000 else 3600000) / freq)

/-- G[0] to G[63] of channel `c` over a window (R195, R196, R198). -/
def harmChannel (ram : List HSample) (j : HarmJob) (c : Nat) : List Nat :=
  if !((j.chans &&& j.force).getLsbD c) then List.replicate 64 0
  else
    let cycles := (pairs j.bounds).map (fun p => harmPoints ram c p.1 p.2)
    let n := cycles.length
    let top := harmTop j.settle j.freq
    (upto 64).map (fun h =>
      if h > top then 0
      else isqrt ((sumI (cycles.map (fun p => harmEnergy p h))).toNat / (n * (if h = 0 then 16384 else 8192))))

/-- THD of one channel (R196). -/
def harmThd (top : Nat) (g : List Nat) : Nat :=
  let g1 := nth g 1 0
  if g1 = 0 then 0
  else
    let ss := sumN ((upto 64).map (fun h => if 2 ≤ h ∧ h ≤ min 40 top then nth g h 0 * nth g h 0 else 0))
    min 0x7FFFF (isqrt ss * 524288 / g1)

/-- The 16-byte line of four values. -/
def harmLine (l : List Nat) : List Byte := l.flatMap (fun v => leBytes v 4)

/-- The 114 lines of a copy in the order of their writes (R199). -/
def harmBlocks (s : State) (g : List (List Nat)) : List (List Byte) :=
  let head := leBytes (regN s 0x503) 4 ++ leBytes (regN s 0x502 + 16) 4 ++ leBytes (harmEn s) 4 ++ [0, 0, 0]
  let body := (upto 7).flatMap (fun c => (upto 16).map (fun k =>
    harmLine ((upto 4).map (fun i => nth (nth g c []) (4 * k + i) 0))))
  [head ++ [0x00]] ++ body ++ [head ++ [0xA5]]

/-- CAUSE of HARM_STAT with HARM_FAULT (R199). -/
def harmFault (s : State) (cause : Nat) : State :=
  raise (setReg s 0x502 (setFld (getReg s 0x502) 18 2 cause)) srcHarmFault

/-- An engine's remote operation is given up: a later answer to it is discarded. -/
def dropEngine (s : State) (es : List Engine) : State :=
  { s with chain := { s.chain with remote := s.chain.remote.filter (fun r =>
      match r.user with
      | .engine e _ _ => !es.contains e
      | .port _ => true) } }

/-- A copy still in progress at a publication is abandoned with cause 3 (R199). -/
def harmCopyDrop (s : State) : State :=
  if s.harm.copy.isSome then
    let t := harmFault s 3
    dropEngine (withdrawReq { t with harm := { t.harm with copy := none } } 1) [.harmonic]
  else s

/-- The copy of a publication begins (R199). -/
def harmCopyStart (s0 : State) (g : List (List Nat)) : State :=
  let s := harmCopyDrop s0
  if !bitAt (snapReg s 0x500) 0 then s
  else
    let base := (snapN s 0x501 * 16 + 2048 * (regN s 0x503 % 2)) % 2 ^ 24
    raiseReq { s with harm := { s.harm with
      copy := some { base := base, blocks := harmBlocks s g, step := 0 } } } 1 .harmonic

/-- HARMONIC_PUBLICATION, in item 16 of the tick after the work ended (R197). -/
def harmPublish (s : State) : State :=
  match s.harm.job with
  | some j =>
    if !j.ready then s
    else
      let g := (upto 7).map (harmChannel s.harm.ram j)
      let top := harmTop j.settle j.freq
      let s1 : State := { s with harm := { s.harm with job := none, g := g } }
      let s2 := (upto 7).foldl (fun t c =>
        setReg (setReg t (0x508 + c) (wd (nth (nth g c []) 1 0))) (0x510 + c) (wd (harmThd top (nth g c [])))) s1
      let s3 := setReg s2 0x503 j.winCount
      let s4 := setReg s3 0x502 (wd (fld (getReg s3 0x502) 18 2 * 262144 + top * 256 + j.qual))
      mark (harmCopyStart (raise s4 srcHarmDone) g) .harmPub
  | none => s

/-- The window in progress will not be analysed: the mode changed or HOLD was entered (R198). -/
def harmSkip (s : State) : State :=
  if harmSpoils s then
    raise (incReg { s with harm := { s.harm with spoilt := true } } 0x506) srcHarmSkip
  else s

/-! ### Power quality (R200 to R204) -/

/-- PHASE and the phases that take part (R200). -/
def pqTaking (s : State) : List Nat :=
  (upto 3).filter (fun p => bitAt (snapReg s 0x520) p && inSched s p)

/-- DECL. -/
def pqDecl (s : State) : Nat := snapN s 0x521

/-- A level of R200: (DECL × f) >> 10. -/
def pqLevel (s : State) (f : Int) : Int := asr ((pqDecl s : Int) * f) 10

/-- The fraction registers. -/
def pqFrac (s : State) (n : Nat) : Int := (snapN s (0x522 + n) : Nat)

/-- A flag of a phase (R201): set, cleared or kept. -/
def pqFlag (m : BitVec 3) (p : Nat) (setIt clearIt : Bool) : BitVec 3 :=
  if setIt then m ||| BitVec.ofNat 3 (2 ^ p) else if clearIt then m &&& ~~~(BitVec.ofNat 3 (2 ^ p)) else m

/-- HALF_RMS of phase `p` as item 7 has just computed it. -/
def pqVal (s : State) (p : Nat) : Int := nth s.line.halfVals p 0

/-- The flags of phase `p` (R201). -/
def pqFlags (s : State) (p : Nat) : State :=
  if decide (nth s.streams.settling p 0 > 0) then s
  else
    let v := pqVal s p
    let h := pqFrac s 3
    let q := s.pq
    { s with pq := { q with
      belowSag := pqFlag q.belowSag p (decide (v < pqLevel s (pqFrac s 0))) (decide (v ≥ pqLevel s (pqFrac s 0 + h)))
      aboveSwell := pqFlag q.aboveSwell p (decide (v > pqLevel s (pqFrac s 1)))
        (decide (v ≤ pqLevel s (pqFrac s 1 - h)))
      belowIntr := pqFlag q.belowIntr p (decide (v < pqLevel s (pqFrac s 2)))
        (decide (v ≥ pqLevel s (pqFrac s 2 + h))) } }

/-- The event of type `t`: 0 sag, 1 swell, 2 interruption. -/
def pqGet (s : State) (t : Nat) : PqEvent := if t = 0 then s.pq.sag else if t = 1 then s.pq.swell else s.pq.intr

/-- The event of type `t` replaced. -/
def pqPut (s : State) (t : Nat) (e : PqEvent) : State :=
  if t = 0 then { s with pq := { s.pq with sag := e } }
  else if t = 1 then { s with pq := { s.pq with swell := e } } else { s with pq := { s.pq with intr := e } }

/-- The flags that type `t` is judged on. -/
def pqMask (s : State) (t : Nat) : BitVec 3 :=
  if t = 0 then s.pq.belowSag else if t = 1 then s.pq.aboveSwell else s.pq.belowIntr

/-- Type `t` is enabled. -/
def pqEnabled (s : State) (t : Nat) : Bool := bitAt (snapReg s 0x520) (4 + t)

/-- The condition of type `t` holds (R201). -/
def pqHolds (s : State) (t : Nat) : Bool :=
  let ps := pqTaking s
  if t = 2 then !ps.isEmpty && ps.all (fun p => (pqMask s t).getLsbD p) else ps.any (fun p => (pqMask s t).getLsbD p)

/-- No event of a type. -/
def noPq : PqEvent := { active := false, start := 0, dur := 0, ext := 0, extPhase := 0, phases := 0 }

/-- The extreme of an event takes in phase `p`'s value (R202). -/
def pqExtreme (s : State) (t : Nat) (first : Bool) (e : PqEvent) (p : Nat) : PqEvent :=
  let v := (pqVal s p).toNat
  let better := if t = 1 then decide (v > e.ext) else decide (v < e.ext)
  if first || better then { e with ext := v, extPhase := p } else e

/-- The extremes and flags of this tick join an event. -/
def pqTrack (s : State) (t : Nat) (isNew : Bool) (e : PqEvent) : PqEvent :=
  let ps := pqTaking s
  let step (a : PqEvent × Bool) (p : Nat) : PqEvent × Bool := (pqExtreme s t a.2 a.1 p, false)
  let r := (ps.foldl step (e, isNew)).1
  { r with phases := r.phases ||| (pqMask s t &&& BitVec.ofNat 3 (ps.foldl (fun a p => a + 2 ^ p) 0)) }

/-- The last-event registers of type `t` (R202). -/
def pqLast (t : Nat) (e : PqEvent) (cut : Bool) : List (Nat × Word) :=
  let n := 0x530 + 5 * t
  [(n, wd (e.phases.toNat + 16 * e.extPhase + 256 * b2n cut)), (n + 1, wd e.ext), (n + 2, wd e.dur),
   (n + 3, wd (e.dur / 2 ^ 20)), (n + 4, e.start)]

/-- PQ_ACTIVE. -/
def pqActive (s : State) : Word :=
  wd (s.pq.belowSag.toNat + 8 * s.pq.aboveSwell.toNat + 64 * b2n s.pq.sag.active + 128 * b2n s.pq.swell.active
    + 256 * b2n s.pq.intr.active + 512 * s.pq.belowIntr.toNat)

/-- One type is judged (R201, R202): it starts, goes on, ends or rests. -/
def pqJudge (s : State) (t : Nat) : State :=
  let e := pqGet s t
  if !pqEnabled s t then s
  else if pqHolds s t then
    if e.active then pqPut s t (pqTrack s t false e)
    else
      let n := pqPut s t (pqTrack s t true { noPq with active := true, start := s.seq.tick })
      publishAll { n with pq := { n.pq with started := n.pq.started ||| BitVec.ofNat 3 (2 ^ t) } }
        [.add (0x527 + t) 1, .irq (srcSagStart + t)]
  else if e.active then
    publishAll (pqPut s t { e with active := false })
      ((pqLast t e false).map (fun r => Pub.set r.1 r.2) ++ [.irq srcPqEnd])
  else s

/-- Item 8 (R201). -/
def item8 (s0 : State) : State :=
  let s : State := { s0 with pq := { s0.pq with started := 0 } }
  if !s.line.halfNow || decide (pqDecl s = 0) then s
  else
    let f := (pqTaking s).foldl pqFlags s
    let j := (upto 3).foldl pqJudge f
    publish j (.set 0x526 (pqActive j))

/-- Durations grow by the tick that ends (R202). -/
def pqTick (s : State) : State :=
  let grow (e : PqEvent) : PqEvent := if e.active then { e with dur := min (e.dur + tickUnits s) 0xFFFFFFFFFF } else e
  { s with pq := { s.pq with sag := grow s.pq.sag, swell := grow s.pq.swell, intr := grow s.pq.intr } }

/-- An active event of type `t` ends at a boundary with CUT (R203). -/
def pqCutOne (s : State) (t : Nat) : State :=
  let e := pqGet s t
  if e.active then
    raise ((pqLast t e true).foldl (fun a r => setReg a r.1 r.2) (pqPut s t { e with active := false })) srcPqEnd
  else s

/-- R203 at a boundary: at entry to HOLD, without a taking phase, or with its enable bit cleared an event is cut. -/
def pqCuts (s : State) (hold : Bool) : State :=
  let cut (t : Nat) : Bool := hold || (pqTaking s).isEmpty || !pqEnabled s t
  let r := (upto 3).foldl (fun a t => if cut t then pqCutOne a t else a) s
  if pqActive r = pqActive s then r else setReg r 0x526 (pqActive r)

end Sys2Proof.Machine
end

