-- ==== Sys2Proof/Machine/Capture.lean ====
section
/-!
DEFINITION. Waveform capture (09 R205 to R210): frames, triggers, the capture queue; the drain through the Sideboard
stands with the other memory services.
-/

namespace Sys2Proof.Machine

/-- Lines of a frame of the streams in `en` (R205). -/
def frameLines (en : BitVec 11) : Nat := (popW (en.setWidth 20) 11 + 4) / 5

/-- A sample in 24 bits, least significant byte first, bit 19 copied upwards (R205). -/
def sampleBytes (x : Int) : List Byte := leBytes (BitVec.ofInt 24 x).toNat 3

/-- The sample of stream `n` at the capture tap. -/
def capSample (s : State) (n : Nat) : Int :=
  if bitAt s.cap.cfg 0 then nth s.streams.y8 n 0 else nth s.streams.y2 n 0

/-- Line `i` of a frame (R205). -/
def frameLine (s : State) (xs : List Int) (i : Nat) : List Byte :=
  let five := (xs.drop (5 * i)).take 5
  let d := five.flatMap sampleBytes
  d ++ List.replicate (15 - d.length) 0 ++ [BitVec.ofNat 8 (i * 64 + s.seq.tick.toNat % 64)]

/-- The lines of this tick's frame. -/
def frameBytes (s : State) : List (List Byte) :=
  let xs := ((upto 11).filter (fun n => s.cap.capEn.getLsbD n)).map (capSample s)
  (upto s.cap.flines).map (frameLine s xs)

/-- Frames of the ring, R (R206). -/
def ringFrames (s : State) : Nat := s.cap.ring / s.cap.flines

/-- CAP_STAT without GAP. -/
def capView (c : Capture) : Word := wd (c.st + 16 * c.cause + 128 * c.source + 32768 * c.flines)

/-- The capture is in FAULT: queued lines are discarded, and a write that is out on the chain is given up (R210). -/
def capDrop (s : State) (cause : Nat) : State :=
  dropEngine (withdrawReq { s with cap := { s.cap with st := 4, cause := cause, queue := [], written := false } } 0) [.capture]

/-- The capture goes to FAULT (R210) by a write, or at a boundary. -/
def capFault (s : State) (cause : Nat) : State :=
  let t := capDrop s cause
  raise { t with cap := { t.cap with shown := none } } srcCapFault

/-- ARM takes effect (R206). Lines of an earlier capture that are still queued are written, and end nothing (log entry
88). -/
def capArm (s : State) : State :=
  let en : BitVec 11 := (schedState2 s).setWidth 11
  let f := frameLines en
  let lines := snapN s 0x543
  let ring := lines - lines % f
  let post := min (snapN s 0x544) (ring / f - 1)
  let t : State := { s with cap := { s.cap with
    cfg := snapReg s 0x541, vbase := snapN s 0x542, capEn := en, flines := f, ring := ring, post := post
    st := 1, wrLine := 0, before := 0, left := 0, source := 0, written := false
    queue := s.cap.queue.map (fun l => { l with last := false }) } }
  if f = 0 ∨ ring < 2 * f then publish (capDrop t 1) (.irq srcCapFault) else t

/-- The sources seen in this item 13, in the order of SOURCE (R207). -/
def capSources (s : State) : Nat :=
  let en (i : Nat) : Bool := bitAt s.cap.cfg (1 + i)
  b2n (en 0 && s.pq.started.getLsbD 0) + 2 * b2n (en 1 && s.pq.started.getLsbD 1)
    + 4 * b2n (en 2 && s.pq.started.getLsbD 2) + 8 * b2n (en 3 && s.cap.peakSeen)
    + 16 * b2n (en 4 && s.cap.detSeen) + 32 * b2n s.cap.forceReq

/-- A trigger is taken in ARMED, or counted in any other state (R207). -/
def capTrigger (s : State) : State :=
  let src := capSources s
  if src = 0 then s
  else if s.cap.st = 1 then
    let pre := min s.cap.before (ringFrames s - 1 - s.cap.post)
    let t : State := { s with cap := { s.cap with st := 2, source := src, left := s.cap.post + 1 } }
    publishAll t [.set 0x547 (wd s.cap.wrLine), .set 0x548 s.seq.tick, .set 0x549 (wd pre), .irq srcCapTrig]
  else publish s (.add 0x54B (popW (wd src) 6))

/-- This tick's frame enters the queue, or is dropped whole when it does not fit (R209). After the trigger frame POST
further frames are formatted; `left` counts the trigger frame and those (R208). -/
def capFrame (s : State) : State :=
  let c := s.cap
  if c.st = 1 ∨ (c.st = 2 ∧ c.left > 0) then
    if c.queue.length + c.flines > 64 then
      let t := publishAll s [.or 0x545 0x2000, .add 0x54A 1]
      if c.st = 2 ∧ c.left = c.post + 1 then
        { t with cap := { t.cap with
          left := c.post
          queue := if c.post = 0 then mapIx (fun i l => if i + 1 = c.queue.length then { l with last := true } else l) c.queue
            else c.queue } }
      else t
    else
      let fin := c.st = 2 ∧ c.left = 1
      let lines := mapIx (fun i b =>
        { va := (c.vbase * 16 + 16 * (c.wrLine + i)) % 2 ^ 24, bytes := b, last := decide (fin ∧ i + 1 = c.flines) : CapLine })
        (frameBytes s)
      raiseReq { s with cap := { c with
        queue := c.queue ++ lines
        wrLine := if c.wrLine + c.flines ≥ c.ring then 0 else c.wrLine + c.flines
        before := c.before + b2n (c.st == 1)
        left := c.left - b2n (c.st == 2) } } 0 .capture
  else s

/-- STOP takes effect (R208): IDLE; frames already formatted are still written. -/
def capStop (s : State) : State :=
  { s with cap := { s.cap with
    st := 0, written := false, queue := s.cap.queue.map (fun l => { l with last := false }) } }

/-- Item 13: STOP, ARM, triggers, this tick's frame. What it does to the registers is seen from item 16 on (03 R72). -/
def item13 (s0 : State) : State :=
  let s : State := { s0 with cap := { s0.cap with shown := some (capView s0.cap, s0.cap.wrLine) } }
  let s1 := if s.cap.stopReq then capStop s else if s.cap.armReq then capArm s else s
  let s2 := capTrigger s1
  let s3 := capFrame s2
  { s3 with cap := { s3.cap with
    stopReq := false, armReq := false, forceReq := false, peakSeen := false, detSeen := false } }

/-- CAP_CTRL as written (09 CAP_CTRL): ARM, FORCE, STOP; STOP wins over ARM. -/
def capCtrl (s : State) (v : Word) : State :=
  { s with cap := { s.cap with
    armReq := (s.cap.armReq || bitAt v 0) && !bitAt v 2
    forceReq := s.cap.forceReq || bitAt v 1
    stopReq := s.cap.stopReq || bitAt v 2 } }

/-- CAP_DONE: the last frame after the trigger has been written to memory in this tick (R208). -/
def capDoneOp (s : State) : State :=
  if s.cap.written && s.cap.st == 2 then
    raise { s with cap := { s.cap with st := 3, written := false } } srcCapDone
  else s

/-- R210 at a boundary: a change of the CAP_EN in force, or entry into HOLD, ends an active capture. -/
def capBoundary (s : State) (hold : Bool) : State :=
  let en : BitVec 11 := (schedState2 s).setWidth 11
  let act := s.cap.st == 1 || s.cap.st == 2
  if act && hold then capFault s 4
  else if act && decide (en ≠ s.cap.capEn) then capFault s 3
  else s

/-- CAP_STAT: GAP is held by its register. -/
def capStat (s : State) : Word :=
  ((s.cap.shown.map (·.1)).getD (capView s.cap)) ||| maskAnd (getReg s 0x545) 0x2000

/-- CAP_WR_LINE. -/
def capWrLine (s : State) : Nat := (s.cap.shown.map (·.2)).getD s.cap.wrLine

end Sys2Proof.Machine
end

