-- ==== Sys2Proof/Machine/Pins.lean ====
section
/-!
DEFINITION. The general leads GP0 to GP7 (15 R337 to R344): functions in force, levels, and the park of a lead that is
switched.
-/

namespace Sys2Proof.Machine

/-- The function field of lead `n` in a pair of PINMUX words. -/
def leadField (a b : Word) (n : Nat) : Nat := if n ≤ 4 then fld a (4 * n) 4 else fld b (4 * (n - 5)) 4

/-- The function in force of lead `n` (R337). -/
def leadFunc (s : State) (n : Nat) : Nat := leadField (forceReg s 0x880) (forceReg s 0x881) n

/-- The lead that supplies TRIG: the lowest that carries it (R339). -/
def trigLead (s : State) : Option Nat := (upto 8).find? (fun n => leadFunc s n == 5)

/-- General leads have their functions: not in COLD and LOAD, when each is in high impedance but for a tamper loop's
(R344). -/
def leadsOn (s : State) : Bool := outputsOn s 11 && !starting s

/-- A lead with an input function: TRIG or GPI. -/
def leadInput (s : State) (n : Nat) : Bool := leadsOn s && (leadFunc s n == 5 || leadFunc s n == 6)

/-- The level of an output function on lead `n`, when it has one: a CF output or GPO. -/
def leadOutput (s : State) (n : Nat) : Option Bool :=
  let f := leadFunc s n
  if !leadsOn s then none
  else if 1 ≤ f ∧ f ≤ 4 then some (cfGet s (f - 1)).high
  else if f = 7 then some (bitAt (snapReg s 0x885) n)
  else none

/-- The level lead `n` drives; none in high impedance: with no output function, while parked (R341), and where its domain's
outputs do not drive (02 R48). -/
def leadDrives (s : State) (n : Nat) : Option Bool := if s.pins.parked.getLsbD n then none else leadOutput s n

/-- The level the input synchroniser of lead `n` holds (R341): 0 where the digital input buffer is off. -/
def leadLevel (s : State) (n : Nat) : Bool :=
  if leadInput s n then s.pins.board.getLsbD n else (leadOutput s n).getD false

/-- PIN_IN. -/
def pinIn (s : State) : Word :=
  maskOf 8 (fun n =>
    if s.pins.parked.getLsbD n then s.pins.latched.getLsbD n else leadInput s n && s.pins.board.getLsbD n)

/-- PIN_STAT. -/
def pinStat (s : State) : Word :=
  wd (s.pins.parked.toNat + (match trigLead s with | some n => 2048 + 256 * n | none => 0))

/-- One bit of a mask of leads set or cleared. -/
def setBit8 (m : BitVec 8) (n : Nat) (b : Bool) : BitVec 8 :=
  if b then m ||| BitVec.ofNat 8 (2 ^ n) else m &&& ~~~(BitVec.ofNat 8 (2 ^ n))

/-- The word of PINMUX_REQ_B that comes into force: a field that would take a tamper loop off its lead while its class
is enabled stays (R343). -/
def pinmuxB (s : State) : Word :=
  let old := forceReg s 0x881
  let v := getReg s 0x881
  let keep (w : Word) (lo code i : Nat) : Word :=
    if fld old lo 4 = code ∧ fld v lo 4 ≠ code ∧ bitAt (getReg s 0x780) i then setFld w lo 4 code else w
  keep (keep v 4 8 0) 8 9 1

/-- The function lead `n` has had: in COLD and LOAD a tamper loop that PD0 holds, and otherwise none (R344). -/
def heldFunc (s : State) (n : Nat) : Nat :=
  if !starting s then leadFunc s n
  else if n = 6 ∧ s.aon.sel6 = 8 then 8
  else if n = 7 ∧ s.aon.sel7 = 9 then 9
  else 0

/-- The functions `a`, `b` come into force: each lead that changes is parked with its latched level (R341), and PD0 holds
the selections of GP6 and GP7 (R344). -/
def applyPinmux (s : State) (a b : Word) : State :=
  let changed (n : Nat) : Bool := decide (heldFunc s n ≠ leadField a b n)
  let t := setForce (setForce s 0x880 a) 0x881 b
  { t with
    pins := (upto 8).foldl (fun p n =>
      if changed n then { p with parked := setBit8 p.parked n true, latched := setBit8 p.latched n (leadLevel s n) }
      else p) t.pins
    aon := { t.aon with sel6 := BitVec.ofNat 4 (fld b 4 4), sel7 := BitVec.ofNat 4 (fld b 8 4) } }

end Sys2Proof.Machine
end

