-- ==== Sys2Proof/Machine/Proc.lean ====
section
/-!
DEFINITION. The process integrators (06): sequences and groups, windows, urgent conversions, conversion and publication
of results, loop checks, aborts; and the end of a lead's park (15 R342), whose edge reaches them.
-/

namespace Sys2Proof.Machine

/-! ### Entries and groups (R140 to R142) -/

def entryWith (e : Word) : Bool := bitAt e 19
def entryScale (e : Word) : Bool := bitAt e 18
def entryMode (e : Word) : Nat := fld e 16 2
def entryChan (e : Word) : Nat := fld e 12 4
def entryLen (e : Word) : Nat := fld e 0 10

/-- The integrator pair of a channel (R133). -/
def pairOf (chan : Nat) : Nat := min chan 8

/-- A group head that is not skipped (R142). -/
def headOk (e : Word) : Bool :=
  decide (entryMode e ≤ 2) && decide (entryChan e ≤ 9)
    && (decide (entryMode e ≠ 1) || (decide (1 ≤ entryLen e) && decide (entryLen e ≤ 1000)))

/-- The indices of the groups, each a list with its head first (R139). -/
def groupsFrom : Nat → List Word → List (List Nat)
  | _, [] => []
  | i, _ :: r =>
    match groupsFrom (i + 1) r with
    | [] => [[i]]
    | g :: gs =>
      match r with
      | e :: _ => if entryWith e then (i :: g) :: gs else [i] :: g :: gs
      | [] => [i] :: g :: gs

/-- Entry `i` of the sequence that runs. -/
def seqEntry (s : State) (i : Nat) : Word := if i = 16 then s.proc.urgentEntry else nth s.proc.entries i 0

/-- The entries of a group that take part: channels above 9, and pairs an earlier entry of the group uses, are skipped
(R142). -/
def groupMembers (es : Nat → Word) : List Nat → List Nat → List Nat
  | _, [] => []
  | used, i :: r =>
    let c := entryChan (es i)
    if c > 9 ∨ used.contains (pairOf c) then groupMembers es used r
    else i :: groupMembers es (pairOf c :: used) r

/-- The groups of the running sequence. -/
def seqGroups (s : State) : List (List Nat) := groupsFrom 0 s.proc.entries

/-- The first group from entry `from_` on whose head is not skipped. -/
def nextGroup (s : State) (from_ : Nat) : Option (List Nat) :=
  (seqGroups s).find? (fun g => match g with
    | h :: _ => decide (from_ ≤ h) && headOk (seqEntry s h)
    | [] => false)

/-- The entries the sequence takes part with. -/
def seqTaken (s : State) : List Nat :=
  (seqGroups s).flatMap (fun g => match g with
    | h :: _ => if headOk (seqEntry s h) then groupMembers (seqEntry s) [] g else []
    | [] => [])

/-- QUAL of entry `i` (16 urgent) takes a code, its SAT and WIN kept. -/
def setQual (s : State) (i code : Nat) : State :=
  let n := if i = 16 then 0x341 else 0x330 + i
  setReg s n (setFld (getReg s n) 17 3 code)

/-! ### Starting -/

/-- Item 12 is in the schedule: PROC_EN in force (03 R74). -/
def procOn (s : State) : Bool := running s && bitAt (schedState0 s) 11

/-- START of the snapshot. -/
def procStartSel (s : State) : Nat := fld (snapReg s 0x300) 0 2

/-- A sequence takes its settings from `rd` (R142); skipped entries read INVALID. -/
def latchSeq (s : State) (rd : Nat → Word) : State :=
  let c := rd 0x300
  let n := fld c 2 4 + 1
  let t : State := { s with proc := { s.proc with
    ctrl := c, delay := (rd 0x303).toNat, entries := (upto n).map (fun i => rd (0x310 + i)) } }
  let taken := seqTaken t
  (upto n).foldl (fun a i => if taken.contains i then a else setQual a i 5) t

/-- The rate number of a window (R152). -/
def procRate (s : State) : Nat := 2 * b2n s.power.settle + b2n (bitAt s.proc.ctrl 8)

/-- The entries of the group whose head is `h`; entry 16 stands alone. -/
def groupOf (s : State) (h : Nat) : List Nat :=
  if h = 16 then [16]
  else match (seqGroups s).find? (fun g => match g with | a :: _ => a == h | [] => false) with
    | some g => groupMembers (seqEntry s) [] g
    | none => []

/-- DCLK cycles of a CCLK period (R151): SLOW is that of the sequence or urgent conversion. A tick holds a whole number of
CCLK periods, and one begins at its c0 (log entry 98). -/
def cclk (s : State) : Nat := if bitAt s.proc.ctrl 8 then 16 else 4

/-- The CCLK edge at or before a cycle (R138). -/
def cclkDown (s : State) (cyc : Nat) : Nat := cyc / cclk s * cclk s

/-- The CCLK edge at or after a cycle, that of c0 of the next tick among them (R136, R144). -/
def cclkUp (s : State) (cyc : Nat) : Nat := (cyc + cclk s - 1) / cclk s * cclk s

/-- Integrator `b` of a pair is running down (R134): it accepts no new window. -/
def runsDown (s : State) (pair : Nat) (b : Bool) : Bool :=
  s.proc.wins.any (fun w => w.closed && w.pair == pair && w.integB == b)

/-- The integrator on which a window of channel `c` opens: the channel's next (R141), and the other of the pair while that
one is running down for another channel (log entry 99). -/
def integratorOf (s : State) (c : Nat) : Bool :=
  let b := nth s.proc.nextB c false
  if runsDown s (pairOf c) b && !runsDown s (pairOf c) (!b) then !b else b

/-- The windows of the current group open on the CCLK edge `cyc` (R136, R141); `kind` is the kind of the LINE boundary that
opens them, 0 otherwise. -/
def openWindows (s : State) (cyc kind : Nat) : State :=
  let h := s.proc.group
  let e := seqEntry s h
  let ids := groupOf s h
  let win (i : Nat) : ProcWin :=
    let c := entryChan (seqEntry s i)
    { pair := pairOf c, integB := i ≠ 16 && integratorOf s c, entry := i, chan := c
      scale := entryScale (seqEntry s i), rate := procRate s, mode := entryMode e, kind := kind, closed := false }
  let ws := ids.map win
  { s with proc := { s.proc with
    wins := s.proc.wins.filter (fun w => !ws.any (fun v => v.pair == w.pair && v.integB == w.integB)) ++ ws
    nextB := mapIx (fun c b => if h ≠ 16 && ids.any (fun i => entryChan (seqEntry s i) == c) then !integratorOf s c else b)
      s.proc.nextB
    isOpen := true, waiting := false, delaying := false
    openMode := entryMode e, openLen := entryLen e, openUnits := 0, openCyc := cyc } }

/-- The current group opens when its mode allows (R144): FIXED on the next CCLK edge, LINE at the next LINE boundary, PWM at
the next edge. -/
def openGroup (s : State) (cyc : Nat) : State :=
  if entryMode (seqEntry s s.proc.group) = 1 then openWindows s (cclkUp s cyc) 0
  else { s with proc := { s.proc with waiting := true, delaying := false, isOpen := false } }

/-- Integrators of a fresh sequence: every channel starts with A. -/
def allA : List Bool := List.replicate 10 false

/-- A sequence starts; its first group waits `delay` cycles from c0 of this tick (R143, R144). A sequence without any
group to run ends at once (log entry 14). -/
def startSeq (s : State) (rd : Nat → Word) (delay : Option Nat) : State :=
  let t := latchSeq { s with proc := { s.proc with nextB := allA, passDone := false } } rd
  match nextGroup t 0 with
  | none => t
  | some g =>
    let u : State := { t with proc := { t.proc with running := true, group := g.headD 0, waiting := false, isOpen := false } }
    match delay with
    | some d => { u with proc := { u.proc with delaying := true, delay := d } }
    | none => openGroup u 0

/-- The run of a pass whose last group has just closed starts again under CONT, on the same edge (R143). -/
def restartSeq (s : State) (cyc kind : Nat) : State :=
  let t := latchSeq s (snapReg s)
  match nextGroup t 0 with
  | none => { t with proc := { t.proc with isOpen := false, passDone := true } }
  | some g => openWindows { t with proc := { t.proc with group := g.headD 0 } } cyc kind

/-- An open group closes on the CCLK edge `cyc` with crossing kind `kind` (3: PWM timeout): its integrators run down, and the next
group, or the next pass, opens on the same edge (R136, R139, R143). -/
def closeGroup (s : State) (cyc kind : Nat) : State :=
  let p := s.proc
  let close (w : ProcWin) : ProcWin :=
    if w.closed then w
    else { w with closed := true, kind := if kind = 3 then 3 else if w.mode = 0 then max w.kind kind else 0 }
  let ids := (p.wins.filter (fun w => !w.closed)).map (·.entry)
  let t : State := { s with proc := { p with wins := p.wins.map close, isOpen := false } }
  let line := if kind = 3 then 0 else if p.openMode = 0 then kind else 0
  if p.urgent then { t with proc := { t.proc with outstanding := ids, passDone := true } }
  else
    match nextGroup t (p.group + 1) with
    | some g => openWindows { t with proc := { t.proc with group := g.headD 0 } } cyc line
    | none =>
      let u : State := { t with proc := { t.proc with outstanding := t.proc.outstanding ++ ids } }
      if procStartSel s = 3 then restartSeq u cyc line
      else { u with proc := { u.proc with passDone := true } }

/-! ### Triggers -/

/-- A trigger is ignored (R145). -/
def procOverrun (s : State) : State := raise (incReg s 0x304) srcProcOverrun

/-- A sequence or an urgent conversion is running. -/
def procBusy (s : State) : Bool := s.proc.running || s.proc.urgent

/-- The timer fires at the boundary that ends this tick (R143): the delay counts from c0 of the next tick. -/
def procTimerFire (s : State) : State :=
  let due := s.proc.timerUnits + tickUnits s
  if procOn s && decide (procStartSel s = 1) && decide (snapN s 0x302 ≠ 0) && decide (due ≥ 8 * snapN s 0x302)
      && !did s .procTimer then
    let t := mark s .procTimer
    if procBusy t then procOverrun t
    else startSeq t (getReg t) (some (regN t 0x303 + 6144))
  else s

/-- An edge has the polarity that a PROC_CTRL word selects. -/
def edgeMatches (c : Word) (rising : Bool) : Bool :=
  let e := fld c 6 2
  e == 2 || (if e = 1 then !rising else rising)

/-- Cycles since the open group opened. -/
def openCycles (s : State) (cyc : Nat) : Nat := s.proc.openUnits / tickUnits s * 6144 + cyc - s.proc.openCyc

/-- Cycles of 1 ms in the mode in force. -/
def msCycles (s : State) : Nat := if s.power.settle then 12288 else 49152

/-! ### What falls due within a tick, in the order of its cycles -/

/-- Events of the block within a tick. -/
def evDelay : Nat := 0
def evLine : Nat := 1
def evFixed : Nat := 2
def evPwm : Nat := 3

/-- The events that are due in this tick, each with its cycle: the end of the start delay (R144), the earliest LINE boundary
(R138), the end of a FIXED window and the time-out of a PWM window (R137). -/
def procEvents (s : State) : List (Nat × Nat) :=
  let p := s.proc
  let open_ (m k : Nat) : Bool := procOn s && procBusy s && p.isOpen && decide (p.openMode = m) && decide (p.openUnits ≥ k)
  (if procOn s && p.delaying && decide (p.delay < 6144) then [(p.delay, evDelay)] else [])
    ++ (match p.lineDue with
      | (t, _) :: _ =>
        if (t : Int) < tickEnd s then [(cclkDown s (((t : Int) - s.line.clk).toNat / cycleClock s), evLine)] else []
      | [] => [])
    ++ (if open_ 1 (8 * p.openLen) then [(p.openCyc, evFixed)] else [])
    ++ (if open_ 2 8000 then [(p.openCyc, evPwm)] else [])

/-- The earliest of a list of events; of those in one cycle, the first listed. -/
def earliest : List (Nat × Nat) → Option (Nat × Nat)
  | [] => none
  | a :: r => match earliest r with
    | some b => if a.1 ≤ b.1 then some a else some b
    | none => some a

/-- A LINE boundary falls on the CCLK edge `cyc` (R138): an open LINE window closes, a waiting LINE group opens. -/
def lineFalls (s : State) (cyc : Nat) : State :=
  match s.proc.lineDue with
  | [] => s
  | (_, k) :: r =>
    let u : State := { s with proc := { s.proc with lineDue := r } }
    if procOn s && procBusy s then
      if u.proc.isOpen && decide (u.proc.openMode = 0) then closeGroup u cyc k
      else if u.proc.waiting && decide (entryMode (seqEntry u u.proc.group) = 0) then openWindows u cyc k
      else u
    else u

/-- An event happens. -/
def procHappens (s : State) (e : Nat × Nat) : State :=
  if e.2 = evDelay then openGroup s e.1
  else if e.2 = evLine then lineFalls s e.1
  else closeGroup s e.1 (if e.2 = evPwm then 3 else 0)

/-- At most `n` events, those up to and with cycle `c`. -/
def procRun : Nat → State → Nat → State
  | 0, s, _ => s
  | n + 1, s, c =>
    match earliest (procEvents s) with
    | some e => if e.1 ≤ c then procRun n (procHappens s e) c else s
    | none => s

/-- More events than a tick can hold. -/
def procFuel (s : State) : Nat := s.proc.lineDue.length + 8

/-- The events of the tick up to and with cycle `c`: they come before a TRIG edge of that cycle (log entry 98). -/
def procTo (s : State) (c : Nat) : State := procRun (procFuel s) s c

/-- Events up to and with the first of kind `k`. -/
def procUntil (k : Nat) : Nat → State → State
  | 0, s => s
  | n + 1, s =>
    match earliest (procEvents s) with
    | some e => if e.2 = k then procHappens s e else procUntil k n (procHappens s e)
    | none => s

/-- A row brings an event of kind `k`, where one is due in this tick, after those that come before it. -/
def procRow (k : Nat) (s : State) : State :=
  if (procEvents s).any (fun e => e.2 == k) then procUntil k (procFuel s) s else s

/-- PROC_DELAY_END: the start delay ends in this tick, and the first group opens (R144). -/
def procDelayEnd (s : State) : State := procRow evDelay s

/-- LINE_BOUNDARY: the earliest boundary due in this tick falls (R138). -/
def lineBoundaryOp (s : State) : State := procRow evLine s

/-- FIXED_WINDOW_CLOSE: the open FIXED window ends in this tick (R137). -/
def fixedCloseOp (s : State) : State := procRow evFixed s

/-- PWM_TIMEOUT: no edge has come for 1,000 ms (R137). -/
def pwmTimeoutOp (s : State) : State := procRow evPwm s

/-! ### TRIG edges and CONVERT_NOW -/

/-- A TRIG edge that no window takes (R143, R145): it starts a sequence, or is ignored and counted, while a sequence runs
whatever its polarity. -/
def trigStart (s : State) (rising : Bool) (cyc : Nat) : State :=
  if procStartSel s ≠ 2 then s
  else if s.proc.running then procOverrun s
  else if !edgeMatches (snapReg s 0x300) rising then s
  else if s.proc.urgent then procOverrun s
  else startSeq s (snapReg s) (some (snapN s 0x303 + cyc))

/-- A TRIG edge (R137, R143, R145): in PWM it opens or closes a window, on the next CCLK edge; otherwise it starts a sequence
or is ignored and counted. -/
def trigEdge (s0 : State) (rising : Bool) (cyc : Nat) : State :=
  if procOn s0 && (trigLead s0).isSome then
    let s := procTo s0 cyc
    let takes := procBusy s && edgeMatches s.proc.ctrl rising
    if takes && s.proc.waiting && decide (entryMode (seqEntry s s.proc.group) = 2) then openWindows s (cclkUp s cyc) 0
    else if takes && s.proc.isOpen && decide (s.proc.openMode = 2) && decide (openCycles s cyc ≥ msCycles s) then
      closeGroup s (cclkUp s cyc) 0
    else trigStart s rising cyc
  else s0

/-- CONVERT_NOW (R146): dropped, or refused as BAD_LEN, or taken. The status code of the reply comes with the state. -/
def convertNowOp (s : State) (e : Word) : State × Nat :=
  if entryWith e || !headOk e then (s, stBadLen)
  else if procBusy s || !procOn s then (raise (incReg s 0x305) srcProcOverrun, stDropped)
  else
    let t : State := { s with proc := { s.proc with
      urgent := true, urgentEntry := e, ctrl := snapReg s 0x300, group := 16, passDone := false
      isOpen := false, delaying := false
      waiting := decide (entryMode e ≠ 1), urgentPend := decide (entryMode e = 1) } }
    (t, stOk)

/-! ### Windows -/

/-- RUN_DOWN_END: the integrator latches what it measured (R134). -/
def runDownEndOp (s : State) (pair : Nat) (b : Bool) (net rd : Int) (w : Nat) (sat : Bool) : State :=
  match s.proc.wins.find? (fun v => v.closed && v.pair == pair && v.integB == b) with
  | none => s
  | some v =>
    { s with proc := { s.proc with
      wins := s.proc.wins.filter (fun u => !(u.closed && u.pair == pair && u.integB == b))
      fresh := s.proc.fresh ++ [{ entry := v.entry, chan := v.chan, scale := v.scale, rate := v.rate, kind := v.kind
                                  net := net, rd := rd, w := w, sat := sat }] } }

/-! ### Item 12 (R135, R147 to R150) -/

/-- Offset of the process trim of channel `c` at rate `r` in the trim region (03 R61). -/
def procTrimOff (c r : Nat) : Nat := 0x298 + 6 * (4 * c + r)

/-- Trim gain and offset of channel `c` at rate `r`; unit trim while the region is invalid (03 R53). -/
def procTrimGain (s : State) (c r : Nat) : Int := if s.seq.trimBad then 524288 else trimRaw s (procTrimOff c r)
def procTrimOffs (s : State) (c r : Nat) : Int := if s.seq.trimBad then 0 else signOf (trimRaw s (procTrimOff c r + 3)) 20

/-- The trimmed result of a window, the value to publish, and whether anything was clamped. -/
def procConvert (s : State) (h : ProcHeld) : Int × Int × Bool :=
  let q := h.net * 64 + h.rd
  let raw := sat2 (tdiv (q * 524287) ((h.w : Int) * 64))
  let t := sat2 (asr ((raw.1 * 16 - procTrimOffs s h.chan h.rate) * procTrimGain s h.chan h.rate) 23)
  if h.scale && decide (h.chan ≤ 7) then
    let v := sat2 (asr ((t.1 - snapI s (0x350 + h.chan)) * snapI s (0x348 + h.chan)) 16)
    (t.1, v.1, raw.2 || t.2 || v.2 || h.sat)
  else (t.1, t.1, raw.2 || t.2 || h.sat)

/-- The loop check of PL channel `c` with trimmed result `t` (R150). A channel whose LOOP_EN bit is 0 keeps its counts and
its bits as they stand (log entry 100). -/
def loopCheck (s : State) (c : Nat) (t : Int) : State :=
  if c > 7 ∨ !bitAt (getReg s 0x30B) c then s
  else
    let lo := regI s 0x308
    let hi := regI s 0x309
    let nl := if t < lo then nth s.proc.loopLow c 0 + 1 else 0
    let nh := if t > hi then nth s.proc.loopHigh c 0 + 1 else 0
    let ng := if lo + 2048 ≤ t ∧ t ≤ hi - 2048 then nth s.proc.loopGood c 0 + 1 else 0
    let s1 : State := { s with proc := { s.proc with
      loopLow := setNth s.proc.loopLow c (min nl 3), loopHigh := setNth s.proc.loopHigh c (min nh 3)
      loopGood := setNth s.proc.loopGood c (min ng 2) } }
    let st := getReg s 0x307
    let open_ := decide (nl ≥ 3)
    let short := decide (nh ≥ 3)
    let rise := (open_ && !bitAt st c) || (short && !bitAt st (c + 8))
    publishAll s1 ((if open_ then [Pub.or 0x307 (2 ^ c)] else []) ++ (if short then [Pub.or 0x307 (2 ^ (c + 8))] else [])
      ++ (if ng ≥ 2 then [Pub.clear 0x307 (2 ^ c + 2 ^ (c + 8))] else []) ++ (if rise then [Pub.irq srcLoopFault] else []))

/-- One latched window is converted, and its result waits for item 16 (R147). -/
def procResult (s : State) (h : ProcHeld) : State :=
  let r := procConvert s h
  let urg := decide (h.entry = 16)
  let nRes := if urg then 0x340 else 0x320 + h.entry
  let nQual := if urg then 0x341 else 0x330 + h.entry
  let qual := wd (h.kind * 131072 + b2n r.2.2 * 65536 + (fld (getReg s nQual) 0 16 + 1) % 65536)
  let left := s.proc.outstanding.erase h.entry
  let last := s.proc.outstanding.contains h.entry && left.isEmpty
  let s1 : State := { s with proc := { s.proc with
    outstanding := left, ending := s.proc.ending || (last && s.proc.passDone) } }
  publishAll (loopCheck s1 h.chan r.1)
    ([.set nRes (wdI r.2.1), .set nQual qual, .or 0x306 (2 ^ h.entry)]
      ++ (if last then (if urg then [Pub.irq srcUrgDone] else [Pub.irq srcSeqDone, Pub.incMod 0x30A]) else []))

/-- Item 12: every window whose run-down ended before c0 of this tick. -/
def item12 (s : State) : State :=
  if procOn s then
    s.proc.held.foldl procResult { s with proc := { s.proc with held := [], ending := false } }
  else s

/-- Item 16's part: the sequence or urgent conversion whose last result is published has ended (R145). -/
def procEnded (s : State) : State :=
  if s.proc.ending then { s with proc := { s.proc with running := false, urgent := false, ending := false } } else s

/-! ### Aborts (R153, R154) -/

/-- The entries whose windows are open. -/
def openEntries (s : State) : List Nat := (s.proc.wins.filter (fun w => !w.closed)).map (·.entry)

/-- Open windows are abandoned: QUAL reads ABORTED, and each is counted. -/
def abortWindows (s : State) : State :=
  let ids := openEntries s
  let t := ids.foldl (fun a i => setQual a i 4) s
  addReg { t with proc := { t.proc with
    wins := t.proc.wins.filter (·.closed), isOpen := false
    nextB := mapIx (fun c b => if ids.any (fun i => i ≠ 16 && entryChan (seqEntry t i) == c) then !b else b) t.proc.nextB } }
    0x30C ids.length

/-- The mode in force has changed (R153): the group reopens in the new mode. -/
def procModeChange (s : State) : State :=
  if s.proc.isOpen then
    let t := abortWindows s
    openGroup t 0
  else s

/-- Nothing runs and nothing waits: the block is as at the start. -/
def procClear (s : State) : State :=
  { s with proc := { s.proc with
    running := false, urgent := false, delaying := false, waiting := false, isOpen := false, urgentPend := false
    wins := [], held := [], fresh := [], outstanding := [], passDone := false, ending := false, timerUnits := 0 } }

/-- HALT (R154): what is open is abandoned as at a mode change, and the sequence ends. -/
def procHalt (s : State) : State := procClear (abortWindows s)

/-- The boundary before the snapshot: the timer fires or counts, the start delay and open windows count the tick that
ends, latched windows become due for item 12. -/
def procTickEnd (s : State) : State :=
  let t := procTimerFire s
  let fired := did t .procTimer
  { t with proc := { t.proc with
    timerUnits := if procOn s && decide (procStartSel s = 1) && decide (snapN s 0x302 ≠ 0) && !fired then t.proc.timerUnits + tickUnits s else 0
    delay := if t.proc.delaying then t.proc.delay - 6144 else t.proc.delay
    openUnits := if t.proc.isOpen then t.proc.openUnits + tickUnits s else 0
    held := t.proc.held ++ t.proc.fresh, fresh := [] } }

/-- The boundary after the snapshot: START, the schedule, the delay that ends at c0, the urgent window. -/
def procNewTick (s : State) : State :=
  let on := procOn s
  let s1 :=
    if on && !s.proc.prevOn then procClear s
    else if !on && s.proc.prevOn then procClear s
    else if procStartSel s = 1 ∧ s.proc.startPrev ≠ 1 then { s with proc := { s.proc with timerUnits := 0 } }
    else s
  let s2 : State := { s1 with proc := { s1.proc with prevOn := on, startPrev := procStartSel s } }
  let s3 := if on && s2.proc.delaying && decide (s2.proc.delay = 0) then openGroup s2 0 else s2
  let s4 := if on && s3.proc.urgentPend then openWindows { s3 with proc := { s3.proc with urgentPend := false } } 0 0 else s3
  if on && decide (procStartSel s = 3) && !procBusy s4 then startSeq s4 (snapReg s4) none else s4

/-- What falls due by the end of the tick. -/
def procFlush (s : State) : State := procTo s 6144

/-- PROC_STATUS. -/
def procStatus (s : State) : Word :=
  wd ((if s.proc.group = 16 then 0 else s.proc.group) + 16 * b2n s.proc.delaying + 32 * b2n s.proc.running
    + 64 * b2n s.proc.urgent + 128 * b2n s.proc.waiting)

/-! ### The end of a lead's park (15 R341, R342) -/

/-- The cycle in which a park ends. -/
def parkCycles (s : State) : Nat := if s.power.settle then 13 else 50

/-- PARK_END of lead `n`: the lead takes its new function; the first level seen is compared with the latch, which gives
a TRIG edge; a lead that takes a tamper loop passes to PD0 with its loop state at OK (15 R343). The board's levels are
those the latest TICK_BOUNDARY has brought (log entry 101). -/
def parkEndOp (s : State) (n : Nat) : State :=
  if s.pins.parked.getLsbD n then
    let t : State := { s with pins := { s.pins with parked := setBit8 s.pins.parked n false } }
    let lvl := s.pins.board.getLsbD n
    if trigLead t = some n ∧ lvl ≠ s.pins.latched.getLsbD n then trigEdge t lvl (parkCycles t)
    else if leadFunc t n = 8 then { t with aon := { t.aon with loop0 := 0, normal0 := 0 } }
    else if leadFunc t n = 9 then { t with aon := { t.aon with loop1 := 0, normal1 := 0 } }
    else t
  else s

/-- Every park ends within its tick. -/
def parkFlush (s : State) : State := (upto 8).foldl parkEndOp s

/-- The parks are over by cycle `c` where it lies at or past their end; those of a state entered with this tick's end begin
with the next. -/
def parksBy (s : State) (c : Nat) : State := if parkCycles s ≤ c && !did s .entered then parkFlush s else s

/-- The TRIG lead sees its edges: it is not parked (15 R342). -/
def trigSeen (s : State) : Bool :=
  match trigLead s with
  | some n => !s.pins.parked.getLsbD n
  | none => false

/-- TRIG_EDGE in cycle `cyc`. No edge is dated within a park (15 R342). -/
def trigEdgeOp (s0 : State) (rising : Bool) (cyc : Nat) : State :=
  let s := parksBy s0 cyc
  if trigSeen s then trigEdge s rising cyc else s

end Sys2Proof.Machine
end

