-- ==== Sys2Proof/Machine/RecSlots.lean ====
section
/-!
DEFINITION. The regions of NVM as stored bytes: blank ranges (03 R59), Bureau records and their slots (12 R262, R263),
time-store entries (12 R265), evidence entries (13 R298, R299), seal records (13 R305).
-/

namespace Sys2Proof.Machine

/-- Every NVM byte reads 0xFF unless it is listed. -/
def erasedByte (_ : Nat) : Byte := 0xFF

/-- The `n` bytes of NVM from byte `i` are erased. -/
def nvmBlank (s : State) (i n : Nat) : Bool :=
  s.nvm.data.all (fun e => decide (e.1 < i) || decide (i + n ≤ e.1))
    && !s.nvm.undef.any (fun u => decide (u.1 < i + n) && decide (i < u.1 + u.2))

/-- Bytes programmed into NVM from byte `i`. -/
def nvmPut (s : State) (i : Nat) (d : List Byte) : State :=
  { s with nvm := { s.nvm with data := sputs erasedByte s.nvm.data i d } }

/-- The `n` bytes from byte `i` erased. -/
def nvmErase (s : State) (i n : Nat) : State :=
  { s with nvm := { s.nvm with
    data := sfilter (fun k => decide (k < i) || decide (i + n ≤ k)) s.nvm.data
    undef := s.nvm.undef.filter (fun u => !(decide (i ≤ u.1) && decide (u.1 + u.2 ≤ i + n))) } }

/-- A byte of NVM as the part reads it: what a sector whose erase was abandoned holds is not known (02 R43). -/
def nvmRead (s : State) (i : Nat) : Byte :=
  if s.nvm.undef.any (fun u => decide (u.1 ≤ i) && decide (i < u.1 + u.2)) then
    nvmByte s i ||| (Config.abandonedByte i s.free)
  else nvmByte s i

/-- `n` bytes of NVM as the part reads them. -/
def nvmReads (s : State) (i n : Nat) : List Byte := (upto n).map (fun k => nvmRead s (i + k))

/-! ### Bureau records -/

/-- The 32 bytes of a record (R262). -/
def recBytes (r : BRec) : List Byte :=
  let body := leBytes (r.code + r.sev * 2 ^ 10 + r.rep * 2 ^ 12 + b2n r.gasp * 2 ^ 24 + b2n r.sat * 2 ^ 25) 4
    ++ leBytes (r.seq + r.soh * 2 ^ 20) 4 ++ leBytes r.hours 4 ++ leBytes r.pcc 4
    ++ leBytes r.p0 4 ++ leBytes r.p1 4 ++ leBytes r.p2 4
  body ++ leBytes (crc16 body) 2 ++ [0xFF, 0x5A]

/-- Word `i` of a list of bytes. -/
def word32 (b : List Byte) (i : Nat) : Nat := ofLe ((b.drop (4 * i)).take 4)

/-- The record that 32 bytes hold, when its mark and CRC say it is valid (R263). -/
def parseRec (b : List Byte) : Option BRec :=
  if nth b 31 0 = 0x5A ∧ ofLe ((b.drop 28).take 2) = crc16 (b.take 28) then
    let w := word32 b 0
    some { code := bitsOf w 0 10, sev := bitsOf w 10 2, rep := bitsOf w 12 12
           gasp := w.testBit 24, sat := w.testBit 25
           seq := bitsOf (word32 b 1) 0 20, soh := bitsOf (word32 b 1) 20 12
           hours := bitsOf (word32 b 2) 0 20, pcc := bitsOf (word32 b 3) 0 20
           p0 := bitsOf (word32 b 4) 0 20, p1 := bitsOf (word32 b 5) 0 20, p2 := bitsOf (word32 b 6) 0 20 }
  else none

/-- NVM byte of Bureau slot `i`. -/
def recSlotAt (i : Nat) : Nat := 0x5000 + 32 * i

/-- Slot `i` is erased. -/
def recSlotBlank (s : State) (i : Nat) : Bool := nvmBlank s (recSlotAt i) 32

/-- The valid record of slot `i`. -/
def recSlot (s : State) (i : Nat) : Option BRec :=
  if recSlotBlank s i then none else parseRec (nvmReads s (recSlotAt i) 32)

/-- The valid records of the region with their slots, in slot order. -/
def recSlots (s : State) : List (Nat × BRec) :=
  (upto 1024).filterMap (fun i => (recSlot s i).map (fun r => (i, r)))

/-- The Bureau sector that is being erased. -/
def erasingSector (s : State) : Option Nat :=
  match s.nvm.op with
  | some (.bureauErase k) => some k
  | _ => none

/-- The valid records that are held: those of a sector that is being erased are gone (12 Corners). -/
def recHeld (s : State) : List (Nat × BRec) := (recSlots s).filter (fun e => decide (erasingSector s ≠ some (e.1 / 32)))

/-- The later of two by the sequence rule of 03 R54; the first wins a tie. -/
def laterBy {α : Type} (seq : α → Nat) : Option α → α → Option α
  | none, b => some b
  | some a, b => if laterSeq (seq b) (seq a) then some b else some a

/-- The newest of a list by the sequence rule. -/
def newestBy {α : Type} (seq : α → Nat) (l : List α) : Option α := l.foldl (laterBy seq) none

/-- The oldest of a list by the sequence rule. -/
def oldestBy {α : Type} (seq : α → Nat) (l : List α) : Option α :=
  l.foldl (fun o b => match o with
    | none => some b
    | some a => if laterSeq (seq a) (seq b) then some b else some a) none

/-! ### The time store (R265) -/

/-- NVM byte of time-store entry `i` (0 to 127). -/
def timeAt (i : Nat) : Nat := 0x1E800 + 16 * i

/-- The 16 bytes of an entry. -/
def timeBytes (hours soh pcc seq : Nat) : List Byte :=
  let body := leBytes (hours + soh * 2 ^ 20) 4 ++ leBytes pcc 4 ++ leBytes seq 4
  body ++ leBytes (crc16 body) 2 ++ [0xFF, 0xA5]

/-- A time-store entry. -/
structure TimeEntry where
  hours : Nat
  soh : Nat
  pcc : Nat
  seq : Nat
  deriving DecidableEq, Repr

/-- The valid entry of place `i`. -/
def timeEntry (s : State) (i : Nat) : Option TimeEntry :=
  if nvmBlank s (timeAt i) 16 then none
  else
    let b := nvmReads s (timeAt i) 16
    if nth b 15 0 = 0xA5 ∧ ofLe ((b.drop 12).take 2) = crc16 (b.take 12) then
      some { hours := bitsOf (word32 b 0) 0 20, soh := bitsOf (word32 b 0) 20 12, pcc := bitsOf (word32 b 1) 0 20
             seq := bitsOf (word32 b 2) 0 20 }
    else none

/-- The valid entries with their places. -/
def timeEntries (s : State) : List (Nat × TimeEntry) :=
  (upto 128).filterMap (fun i => (timeEntry s i).map (fun e => (i, e)))

/-! ### The evidence log (13 R298, R299) -/

/-- NVM byte of evidence slot `i`. -/
def evidAt (i : Nat) : Nat := 0xD000 + 16 * i

/-- The chain word of an entry's first 12 bytes after chain word `prev` (R299). -/
def chainWord (prev : BitVec 32) (d : List Byte) : BitVec 32 := BitVec.ofNat 32 (crc32 (leBytes prev.toNat 4 ++ d.take 12))

/-- What a check of the log from slot `i` on finds: next slot, chain word, damaged slots. -/
def evidScan (s : State) : Nat → Nat → BitVec 32 → List Nat → Nat × BitVec 32 × List Nat
  | 0, i, prev, bad => (i, prev, bad)
  | n + 1, i, prev, bad =>
    if nvmBlank s (evidAt i) 16 then (i, prev, bad)
    else
      let b := nvmReads s (evidAt i) 16
      let c := BitVec.ofNat 32 (word32 b 3)
      evidScan s n (i + 1) c (if chainWord prev b = c then bad else bad ++ [i])

/-! ### Seal records (13 R305) -/

/-- NVM byte of seal record `i` (0 to 63). -/
def sealAt (i : Nat) : Nat := 0xE400 + 16 * i

/-- The 16 bytes of a seal record. -/
def sealBytes (cnt : Nat) (mac : List Byte) : List Byte :=
  let body := leBytes cnt 4 ++ mac.take 8
  body ++ leBytes (crc16 body) 2 ++ [0xFF, 0xA5]

/-- The valid seal record of place `i`: count and seal. -/
def sealRec (s : State) (i : Nat) : Option (Nat × List Byte) :=
  if nvmBlank s (sealAt i) 16 then none
  else
    let b := nvmReads s (sealAt i) 16
    if nth b 15 0 = 0xA5 ∧ ofLe ((b.drop 12).take 2) = crc16 (b.take 12) then
      some (bitsOf (word32 b 0) 0 20, (b.drop 4).take 8)
    else none

/-- The newest valid seal record. -/
def newestSeal (s : State) : Option (Nat × List Byte) := newestBy (·.1) ((upto 64).filterMap (sealRec s))

end Sys2Proof.Machine
end

