-- ==== Sys2Proof/Machine/Stool.lean ====
section
/-!
DEFINITION. The Stool (05 R117 to R128, R131): rotation, matching, calibration, the switches and their deferral,
STOOL_CTRL.
-/

namespace Sys2Proof.Machine

/-- States of STOOL_STATUS. -/
def stoolOff : Nat := 0
def stoolSelf : Nat := 1
def stoolOverlap : Nat := 2
def stoolCarry : Nat := 3
def stoolHandback : Nat := 4
def stoolIdle : Nat := 5

/-- Units of 125 µs in a step (R118). -/
def stepUnits : Nat := 8000

/-- The Stool stream is in force and the schedule runs: its steps count, its item and its switches are made. In HOLD it
rests as it stands (log entry 16). -/
def stoolOn (s : State) : Bool := running s && inSched s 10

/-- STOOL_STATUS. -/
def stoolStatus (s : State) : Word :=
  let o := s.stool
  wd (o.st + 16 * o.target + 256 * o.step + 4096 * b2n o.carrying + 8192 * b2n o.deferred + 16384 * b2n o.paused
    + 65536 * o.cause)

/-- STOOL_FAULT with its cause. -/
def stoolFault (s : State) (cause : Nat) : State :=
  raise { s with stool := { s.stool with cause := cause } } srcStoolFault

/-- Step `step` of state `st` begins, with nothing accumulated. -/
def stoolStep (s : State) (st step : Nat) : State :=
  { s with stool := { s.stool with
    st := st, step := step, left := stepUnits, n := 0, sed := 0, sdd := 0, sst := 0, stt := 0, sumT := 0, sumS := 0
    calSum := 0, calN := 0, due := false, deferred := false, deferUnits := 0, stalled := false } }

/-- SELF begins. -/
def startSelf (s : State) : State :=
  stoolStep { s with stool := { s.stool with target := 10, paused := false, nextSlice := 0 } } stoolSelf 0

/-- OVERLAP with slice `n` begins: trial terms of identity, and the DC-block estimate loaded from the slice. -/
def startOverlap (s : State) (n : Nat) : State :=
  let e := (nth s.streams.conv n freshConv).e
  let t : State := { s with
    stool := { s.stool with
      target := n, mDelay := 0, mGain := 16777216, mOffs := 0, tau := none, paused := false
      servedCfg := snapReg s (0x280 + n), nextSlice := n + 1 }
    streams := { s.streams with conv := modNth s.streams.conv 10 (fun c => { c with e := e, ePrev := e }) } }
  stoolStep t stoolOverlap 0

/-- The slice of the rotation whose turn is next, when its stream is in force; none where SELF is next. A `nextSlice`
of 11 stands for a rotation that has ended. -/
def nextServed (s : State) : Option Nat :=
  if s.stool.nextSlice = 11 then none
  else (upto 10).find? (fun k => decide (s.stool.nextSlice ≤ k) && inSched s k)

/-- The rotation is complete where none of its slices is left (R117): told once. -/
def rotationEnd (s : State) : State :=
  if s.stool.nextSlice ≠ 11 ∧ nextServed s = none then
    let t : State := { s with stool := { s.stool with nextSlice := 11 } }
    mark (raise (incMod t 0x2F6) srcRotationDone) .rotation
  else s

/-- The next slice in order, and SELF at the start of a rotation. -/
def serveNext (s : State) : State :=
  match nextServed s with
  | some n => startOverlap s n
  | none => startSelf (rotationEnd s)

/-- The slice that SELECT has chosen is served, or SELF; a slice whose stream is no longer in force is skipped, as R117
has it, and the rotation goes on after it (log entry 95). -/
def serveSelected (s : State) (n : Nat) : State :=
  let t : State := { s with stool := { s.stool with selectNext := none } }
  if n = 10 then startSelf t
  else if inSched t n then startOverlap t n
  else serveNext { t with stool := { t.stool with nextSlice := n } }

/-- The rotation goes on after a SELF, a handback or an abandoned slice (R117, R131): it ends where no slice is left,
PAUSE holds it, SELECT chooses the next, otherwise the next slice in order. -/
def stoolAdvance (s : State) : State :=
  let t := rotationEnd s
  if t.stool.pauseReq then
    { t with stool := { t.stool with
      st := stoolIdle, step := 0, left := 0, paused := true, pauseReq := false, due := false, deferred := false } }
  else
    match t.stool.selectNext with
    | some n => serveSelected t n
    | none => serveNext t

/-! ### Matching (R119, R120) -/

/-- The level the reference gives at the output of converter `c`, from its latest reading; nominal where it has none. -/
def refOut (s : State) (c : Nat) : Int :=
  match nth s.stool.refLevel c none with
  | some h => (trimGain s c (gainCode s c) : Int) * (16777216 + regI s (0x2C0 + c)) * (h : Int)
  | none => 524288 * 16777216 * 6710880

/-- The predicted match gain for slice `n` in units of 2^-24 (R120; log entry 15). -/
def predictedGain (s : State) (n : Nat) : Int :=
  let d := refOut s 10
  if d = 0 then 16777216 else tdiv (refOut s n * 16777216) d

/-- The delay measured over a step, when the signal allows (R119, R120). -/
def measuredDelay (s : State) : Option Int :=
  let o := s.stool
  if o.sdd < (o.n : Int) * 4096 then none else some (-(tdiv (o.sed * 131072) o.sdd))

/-- Gain, offset and whether the measured gain was rejected (R119, R120). -/
def measuredGain (s : State) : Int × Int × Bool :=
  let o := s.stool
  let n : Int := o.n
  let pred := predictedGain s o.target
  let var := n * o.stt - o.sumT * o.sumT
  let offs (g : Int) : Int := tdiv ((o.sumS - asr (g * o.sumT) 24) * 16) n
  if var < n * n * 27489049 ∨ var = 0 then (pred, offs pred, false)
  else
    let g := tdiv ((n * o.sst - o.sumS * o.sumT) * 16777216) var
    if ((g - pred).natAbs : Int) * 500 > pred then (pred, offs pred, true) else (g, offs g, false)

/-- Stool terms within a HANDBACK.1 of `total` ticks after `k` of them (R119). -/
def rampTerm (a b : Int) (k total : Nat) : Int := if total ≤ k then b else a + tdiv ((b - a) * (k : Int)) (total : Int)

/-- Ticks of a step in the mode in force. -/
def stepTicks (s : State) : Nat := stepUnits / tickUnits s

/-- The value R122 averages for converter `c`: the DC-block input, cal_offs excluded. -/
def calInput (s : State) (c : Nat) : Int :=
  (nth s.streams.conv c freshConv).x16 - (offsOf s c - calOffs s c)

/-- The converter that the reference is switched to in this step. -/
def calConv (s : State) : Nat := if s.stool.st = 1 then 10 else s.stool.target

/-- Item 14: what the present step accumulates in this tick (R119, R122). -/
def item14 (s : State) : State :=
  if !stoolOn s then s
  else
    let o := s.stool
    let n := o.n + 1
    let xs := nth s.streams.yc o.target 0
    let xt := s.streams.xt
    let d := xt - s.streams.xtPrev
    let delaySums (q : Stool) : Stool := { q with sed := q.sed + (xs - xt) * d, sdd := q.sdd + d * d }
    let gainSums (q : Stool) : Stool :=
      { q with sumT := q.sumT + xt, sumS := q.sumS + xs, stt := q.stt + xt * xt, sst := q.sst + xs * xt }
    let cal (q : Stool) : Stool :=
      if q.step ≤ 2 ∧ n * tickUnits s > 2000 then
        { q with calSum := q.calSum + calInput s (calConv s), calN := q.calN + 1 }
      else q
    let base : Stool := { o with n := n }
    let q : Stool :=
      if o.left = 0 then o
      else if o.st = 2 then (if o.step = 0 then delaySums base else gainSums base)
      else if o.st = 4 then
        (if o.step = 0 then gainSums (delaySums base)
         else { base with
          mDelay := rampTerm o.fDelay o.tDelay n (stepTicks s)
          mGain := rampTerm o.fGain o.tGain n (stepTicks s)
          mOffs := rampTerm o.fOffs o.tOffs n (stepTicks s) })
      else if o.st = 1 ∨ o.st = 3 then cal base
      else o
    { s with stool := q }

/-! ### Calibration results (R122 to R124) -/

/-- A field term within ±`m`, and whether it was clamped. -/
def clampTerm (x m : Int) : Int × Bool := (clampI x m, decide (clampI x m ≠ x))

/-- A field term is stored: in force with APPLY at 1, otherwise shown only. What is shown stays until the next result of
that term (log entry 96). -/
def putField (apply : Bool) (s : State) (n : Nat) (v : Int) : State :=
  let view := s.stool.view.filter (fun e => e.1 != n)
  if apply then setReg { s with stool := { s.stool with view := view } } n (wdI v)
  else { s with stool := { s.stool with view := (n, wdI v) :: view, cause := 0 } }

/-- The new field terms of converter `c` (R122, R123). -/
def calibrate (s : State) (c : Nat) : State :=
  let o := s.stool
  let half := tdiv (o.mPos - o.mNeg) 2
  let apply := bitAt (snapReg s 0x2F2) 0
  if ((half - 6710880).natAbs : Int) * 50 > 6710880 then stoolFault s 6
  else
    let offs := clampTerm (regI s (0x2D0 + c) + o.mZero) maxCode
    let gain := clampTerm (tdiv (419430 * 524288 * 16777216 * 16) ((trimGain s c (gainCode s c) : Int) * half) - 16777216) maxCode
    let s1 : State := { s with stool := { o with refLevel := setNth o.refLevel c (some half.toNat) } }
    let s2 := putField apply (putField apply s1 (0x2D0 + c) offs.1) (0x2C0 + c) gain.1
    let ph : State × Bool :=
      match o.tau with
      | some t => if c ≤ 9 then
          let p := clampTerm (regI s (0x2E0 + c) - t) 8192
          (putField apply s2 (0x2E0 + c) p.1, p.2)
        else (s2, false)
      | none => (s2, false)
    if offs.2 || gain.2 || ph.2 then stoolFault ph.1 2 else ph.1

/-- The mean of a step is taken (R122). -/
def takeMean (s : State) : State :=
  let o := s.stool
  let m := if o.calN = 0 then 0 else tdiv o.calSum (o.calN : Int)
  { s with stool :=
    if o.step = 0 then { o with mZero := m } else if o.step = 1 then { o with mPos := m } else { o with mNeg := m } }

/-- A slice is abandoned without a takeover; `counted` where the rule counts it. -/
def abandonSlice (s : State) (counted : Bool) : State :=
  stoolAdvance (if counted then addReg s 0x2F4 1 else s)

/-! ### Ends of steps (R118) -/

/-- The present step ends: what follows it (R117 to R124). -/
def stoolStepEnd (s : State) : State :=
  let o := s.stool
  if o.st = 1 then
    if o.step ≤ 2 then stoolStep (takeMean s) 1 (o.step + 1) else stoolAdvance (calibrate s 10)
  else if o.st = 2 then
    if o.step = 0 then
      let m := measuredDelay s
      let d := m.getD (nth o.lastDelay o.target 0)
      stoolStep { s with stool := { o with
        tau := m, mDelay := d
        lastDelay := if m.isSome then setNth o.lastDelay o.target d else o.lastDelay } } 2 1
    else
      let m := measuredGain s
      if m.2.2 then abandonSlice (stoolFault s 1) true
      else { s with stool := { o with mGain := m.1, mOffs := m.2.1, left := 0, due := true } }
  else if o.st = 3 then
    if o.step ≤ 2 then stoolStep (takeMean s) 3 (o.step + 1)
    else
      let t := calibrate s o.target
      stoolStep { t with stool := { t.stool with keep := !bitAt (snapReg s 0x2F2) 0 } } 4 0
  else if o.st = 4 then
    if o.step = 0 ∧ o.keep = true then
      stoolStep { s with stool := { o with
        tDelay := o.mDelay, tGain := o.mGain, tOffs := o.mOffs
        fDelay := o.mDelay, fGain := o.mGain, fOffs := o.mOffs } } 4 1
    else if o.step = 0 then
      let m := measuredDelay s
      let g := measuredGain s
      let d := match m with
        | some x => o.mDelay + x
        | none => nth o.lastDelay o.target 0
      let t : State := { s with stool := { o with
        tDelay := d, tGain := g.1, tOffs := g.2.1, fDelay := o.mDelay, fGain := o.mGain, fOffs := o.mOffs
        lastDelay := if m.isSome then setNth o.lastDelay o.target d else o.lastDelay } }
      stoolStep (if g.2.2 then stoolFault t 1 else t) 4 1
    else { s with stool := { o with left := 0, due := true } }
  else s

/-- The step's time is up at the boundary that ends this tick. -/
def stepDue (s : State) : Bool :=
  stoolOn s && decide (s.stool.left ≠ 0) && decide (s.stool.left ≤ tickUnits s) && decide (1 ≤ s.stool.st)
    && decide (s.stool.st ≤ 4) && !did s .stoolStep

/-- STOOL_STEP_END. -/
def stoolStepEndOp (s : State) : State := if stepDue s then mark (stoolStepEnd s) .stoolStep else s

/-! ### The switches (R121, R125, R126) -/

/-- Units since the last sample of stream `n` near full scale, at the boundary that ends this tick (R125). -/
def hotAge (s : State) (n : Nat) : Nat :=
  if running s ∧ (nth s.streams.y2 n 0).natAbs ≥ 471858 then 0 else min (nth s.stool.hot n 1000 + tickUnits s) 1000

/-- The conditions of R125 hold a switch back. -/
def switchBlocked (s : State) : Bool :=
  s.pq.sag.active || s.pq.swell.active || s.pq.intr.active || decide (hotAge s s.stool.target < 160)

/-- STOOL_STEP and STOOL_SWITCH; the guard of the slice changes converter and starts its count anew. -/
def switchMade (s : State) : State :=
  let n := s.stool.target
  let diff := (nth s.streams.yc 10 0 - nth s.streams.yc n 0).natAbs
  let t : State := { s with streams := { s.streams with
    guards := mapIx (fun g v => if g + 4 = n then { v with count := 0 } else v) s.streams.guards } }
  raise (setReg t 0x2F5 (wd diff)) srcStoolSwitch

/-- A takeover is due at this boundary. -/
def takeoverDue (s : State) : Bool := stoolOn s && s.stool.due && s.stool.st == 2

/-- A handback is due at this boundary. -/
def handbackDue (s : State) : Bool := stoolOn s && s.stool.due && s.stool.st == 4

/-- The takeover switch. -/
def takeoverMade (s : State) : State :=
  let t := switchMade s
  stoolStep { t with stool := { t.stool with carrying := true } } stoolCarry 0

/-- The handback switch: the slice takes the Stool's DC-block estimate, and the rotation goes on. -/
def handbackMade (s : State) : State :=
  let t := switchMade s
  let e := (nth t.streams.conv 10 freshConv).e
  stoolAdvance { t with
    stool := { t.stool with carrying := false, due := false }
    streams := { t.streams with conv := modNth t.streams.conv t.stool.target (fun c => { c with e := e, ePrev := e }) } }

/-- A switch is held back: told once for each (R125). Its 60 s begin at this boundary, so the tick that ends here does
not count. -/
def deferSwitch (s : State) : State :=
  if s.stool.deferred then s
  else
    let t : State := { s with stool := { s.stool with deferred := true, deferUnits := -(tickUnits s : Int) } }
    raise (addReg t 0x2F3 1) srcStoolDefer

/-- TAKEOVER. -/
def takeoverOp (s : State) : State :=
  if takeoverDue s then (if switchBlocked s then deferSwitch s else takeoverMade s) else s

/-- HANDBACK. -/
def handbackOp (s : State) : State :=
  if handbackDue s then (if switchBlocked s then deferSwitch s else handbackMade s) else s

/-- 60 s of deferral have passed by the boundary that ends this tick (R126). -/
def deferralOver (s : State) : Bool :=
  s.stool.deferred && switchBlocked s && decide (s.stool.deferUnits + tickUnits s ≥ 480000)

/-- TAKEOVER_ABANDON. -/
def takeoverAbandonOp (s : State) : State :=
  if takeoverDue s && deferralOver s then abandonSlice (stoolFault s 3) true else s

/-- HANDBACK_STALL. -/
def handbackStallOp (s : State) : State :=
  if handbackDue s && deferralOver s && !s.stool.stalled then
    stoolFault { s with stool := { s.stool with stalled := true } } 4
  else s

/-- The boundary for the Stool before the snapshot: the step, the switches, samples near full scale. -/
def stoolTickEnd (s : State) : State :=
  let s2 := stoolStepEndOp s
  let s3 := if did s2 .stoolStep then s2
    else { s2 with stool := { s2.stool with left := if stoolOn s2 then s2.stool.left - tickUnits s2 else s2.stool.left } }
  let s4 := handbackOp (takeoverOp s3)
  let s5 := handbackStallOp (takeoverAbandonOp s4)
  { s5 with stool := { s5.stool with
    hot := (upto 11).map (hotAge s5)
    deferUnits := if !s5.stool.deferred then 0
      else if stoolOn s5 then s5.stool.deferUnits + tickUnits s5 else s5.stool.deferUnits } }

/-- ROTATION_DONE: the step that ends with this tick completes the rotation. -/
def rotationDoneOp (s : State) : State :=
  let t := takeoverAbandonOp (handbackOp (stoolStepEndOp s))
  if did t .rotation && !did s .rotation then mark t .stoolStep else s

/-! ### Changes from outside (R118, R127, R128, R131) -/

/-- The mode in force has changed, be it in HOLD: the present step begins again (R118). HANDBACK.1 ramps from the terms it
has reached; a switch that is due stays due (log entry 16). -/
def stoolModeChange (s : State) : State :=
  let o := s.stool
  if o.due ∨ o.st = 0 ∨ o.st = 5 then s
  else
    let t := stoolStep s o.st o.step
    { t with stool := { t.stool with fDelay := o.mDelay, fGain := o.mGain, fOffs := o.mOffs } }

/-- PD5 goes off while the Stool carries stream s (R128). -/
def carryBroken (s : State) : State :=
  if s.stool.carrying then
    let n := s.stool.target
    stoolFault { s with
      stool := { s.stool with carrying := false, due := false, deferred := false, st := stoolOff, step := 0, left := 0 }
      streams := { s.streams with rep := setNth s.streams.rep n 16 } } 5
  else s

/-- A waiting STOOL_CTRL action takes effect (R131). RESUME and SELECT leave a PAUSE that has not taken effect as it
stands (log entry 97). -/
def stoolAct (s : State) (a : Nat × Nat) : State :=
  let o := s.stool
  if a.1 = 1 then
    if o.st = 2 then stoolAdvance { s with stool := { o with pauseReq := true } }
    else if o.st = 5 then { s with stool := { o with paused := true } }
    else { s with stool := { o with pauseReq := true } }
  else if a.1 = 2 then (if o.st = 5 then stoolAdvance s else s)
  else if a.1 = 3 then
    let t : State := { s with stool := { o with selectNext := some a.2 } }
    if o.st = 5 then stoolAdvance t else t
  else s

/-- The boundary for the Stool after the snapshot: whether it is in force, changes of SLICE_CFG, waiting actions. A
rotation begins where the schedule runs. A slice chosen by SELECT stays chosen while the Stool is out of force (log
entry 97). -/
def stoolNewTick (s : State) : State :=
  if !inSched s 10 then
    if s.stool.st = 0 then { s with stool := { s.stool with actions := [] } }
    else { s with stool := { s.stool with
      st := stoolOff, step := 0, left := 0, due := false, deferred := false, paused := false, pauseReq := false
      carrying := false, actions := [] } }
  else
    let s1 := if running s && s.stool.st == 0 then startSelf s else s
    let o := s1.stool
    let cfg := snapReg s1 (0x280 + o.target)
    let s2 :=
      if o.st = 2 ∧ !inSched s1 o.target then abandonSlice s1 false
      else if (o.st = 2 ∨ o.st = 3 ∨ o.st = 4) ∧ o.target ≤ 9 ∧ cfg ≠ o.servedCfg then
        let t := addReg { s1 with stool := { o with servedCfg := cfg } } 0x2F4 1
        if o.st = 2 then startOverlap t o.target else stoolStep t 3 0
      else s1
    let acts := s2.stool.actions
    acts.foldl stoolAct { s2 with stool := { s2.stool with actions := [] } }

/-- STOOL_CTRL in its landing cycle (R131): status code of the reply; the action waits for the boundary. -/
def stoolCtrl (s : State) (action slice : Nat) : State × Nat :=
  if action > 3 ∨ slice > 10 then (s, stBadLen)
  else if action = 0 then (s, stOk)
  else if !inSched s 10 then (s, stBusy)
  else if action = 3 ∧ slice ≤ 9 ∧ !inSched s slice then (s, stBusy)
  else ({ s with stool := { s.stool with actions := s.stool.actions ++ [(action, slice)] } }, stOk)

end Sys2Proof.Machine
end

