-- ==== Sys2Proof/Machine/ReadReg.lean ====
section
/-!
DEFINITION. Reading a register (00 R7, R8; the field tables of every chapter): what each live register shows, and the
stored value of every other.
-/

namespace Sys2Proof.Machine

/-- The state code of SEQ_STATE (03, Sequencer states); PD2 off shows as COLD, and no port reads it then. -/
def seqCode (s : State) : Nat :=
  match s.seq.st with
  | .off => 0
  | .cold => 0
  | .load => 1
  | .run => 2
  | .settle => 3
  | .gasp => 4
  | .hold => 5

/-- PWR_STATUS. -/
def pwrStatus (s : State) : Word :=
  let src := match s.power.aonSrc with
    | .vres => 0
    | .vaux => 1
    | .vbc => 2
    | .none => 3
  wd (vresBand s + 16 * b2n s.power.belowLow + 32 * b2n s.power.settle + 64 * b2n s.power.loadAux + 128 * src
    + 512 * b2n s.power.vauxValid + 1024 * b2n s.power.vbcOk + 2048 * b2n s.power.shunt)

/-- Seconds of lockout left, rounded up (04 AUTH_STATE). -/
def lockLeft (s : State) : Nat :=
  match s.aon.lockUntil with
  | some t => (t - s.aon.time + 4095999) / 4096000
  | none => 0

/-- Lockout is in force. -/
def locked (s : State) : Bool := s.aon.lockUntil.isSome

/-- Failures within the last 3,600 s (04 R107). -/
def recentFails (s : State) : List Nat := s.aon.fails.filter (fun t => decide (s.aon.time ≤ t + 3600 * 4096000))

/-- AUTH_STATE. -/
def authState (s : State) : Word :=
  wd (b2n s.aon.key0.isSome + 2 * b2n s.aon.key1.isSome + 4 * b2n (locked s) + 8 * min (recentFails s).length 5
    + 64 * lockLeft s)

/-- A command port. -/
def portOf (s : State) (p : PortId) : Port :=
  match p with
  | .host => s.ports.host
  | .maint => s.ports.maint
  | .chain => s.ports.chain

/-- A command port replaced. -/
def putPort (s : State) (p : PortId) (q : Port) : State :=
  match p with
  | .host => { s with ports := { s.ports with host := q } }
  | .maint => { s with ports := { s.ports with maint := q } }
  | .chain => { s with ports := { s.ports with chain := q } }

/-- EXEC of a port: a packet is being checked or executed, its reply is not yet ready, or it was forwarded and awaits its
reply (04 R96). -/
def portExec (s : State) (p : PortId) : Bool :=
  (p == .chain && !s.ports.chainOut.isEmpty) || (portOf s p).exec.isSome || !(portOf s p).busy.isEmpty || (portOf s p).due.isSome || s.ports.forwards.any (fun f => f.port == p)

/-- The port's reply is ready in its buffer. -/
def hostReady (s : State) : Bool := s.ports.host.reply.isSome && s.ports.host.due.isNone

/-- PORT_STAT. -/
def portStat (s : State) : Word :=
  wd (b2n (portExec s .host) + 2 * b2n (hostReady s) + 4 * b2n (portExec s .maint)
    + 8 * b2n (s.ports.mtxReq && !s.power.granted.getLsbD 9 && s.ports.maint.reply.isSome)
    + 16 * b2n (portExec s .chain) + 32 * s.ports.chainQ.length)

/-- SEQ_STATE. -/
def seqState (s : State) : Word :=
  wd (seqCode s + 8 * s.seq.holdCause + 64 * b2n s.seq.aValid + 128 * b2n s.seq.bValid + 256 * s.seq.loaded
    + 1024 * b2n s.seq.soft)

/-- Code of a link's state. -/
def chainStat (s : State) : Word :=
  wd (s.chain.dn.st + 8 * s.chain.up.st + 128 * b2n s.chain.wired + 256 * s.chain.pos.toNat + 1024 * b2n s.chain.posValid
    + 2048 * b2n s.chain.conflict)

/-- Index of a segment field in the Dresser's tables. -/
def segKey (sel field : Nat) : Nat := 4 * sel + field

/-- The segment that SEG_SEL selects. -/
def segSel (s : State) : Nat := fld (getReg s 0x680) 0 5

/-- The default of every segment field. -/
def segZero (_ : Nat) : Word := 0

/-- REC_STAT. -/
def recStat (s : State) : Word :=
  let b := s.bureau
  wd (16 * b2n b.open_.isSome + 32 * b2n b.writing + 64 * b2n b.erasing + 128 * b2n b.stageFault
    + 512 * b.queue.length + 4096 * min b.staged.length 255)

/-- Record `seq` is not hidden: its number is not below the floor (12 R276, R281). -/
def recShown (s : State) (seq : Nat) : Bool := decide (seq = s.bureau.floor) || laterSeq seq s.bureau.floor

/-- REC_NEWEST: the number last given; 0 before the first. -/
def recNewest (s : State) : Nat := (s.bureau.nextSeq + 1048575) % 1048576

/-- The records held outside NVM: queued, staged, on their way to staging, open. -/
def recWaiting (s : State) : List BRec :=
  s.bureau.queue ++ s.bureau.staged ++ s.bureau.toStage ++ s.bureau.open_.toList

/-- REC_OLDEST: the oldest record that is held and not hidden; 0 when there is none. -/
def recOldest (s : State) : Nat :=
  match oldestBy (·.seq) (((recHeld s).map (·.2) ++ recWaiting s).filter (fun r => recShown s r.seq)) with
  | some r => r.seq
  | none => 0

/-- EV_STAT. -/
def evStat (s : State) : Word :=
  wd (s.evid.next + 512 * b2n s.evid.full + 1024 * b2n s.evid.damaged + 2048 * s.aon.evQueue.length
    + 32768 * b2n s.evid.writing)

/-- TAMP_RAW. -/
def tampRaw (s : State) : Word := wd (s.aon.cond.toNat + 256 * s.aon.loop0 + 1024 * s.aon.loop1)

/-- DISP_STAT. -/
def dispStat (s : State) : Word :=
  let h := s.hutch
  wd (h.st + 8 * h.bank + 32 * b2n h.timBad + 64 * b2n h.crack + 256 * h.cause)

/-- DISP_RECT_STAT: the stored ERR bits and the slots. -/
def rectStat (s : State) : Word :=
  maskAnd (getReg s 0x80E) 0xF000
    ||| wd ((nth (s.hutch.rects.map (·.st)) 0 0) + 8 * (nth (s.hutch.rects.map (·.st)) 1 0)
      + 64 * (nth (s.hutch.rects.map (·.st)) 2 0) + 512 * (nth (s.hutch.rects.map (·.st)) 3 0))

/-- FL_STAT. -/
def flStat (s : State) : Word :=
  let h := s.hutch
  wd (h.flMa + 256 * h.flDuty + 65536 * b2n (h.flReq && !s.power.granted.getLsbD 8) + 131072 * b2n h.flOn)

/-- ESTORE_STAT. -/
def estoreStat (s : State) : Word :=
  let e := s.energy
  wd (e.cause + 16 * b2n (e.saveReq || (match s.nvm.op with | some (.energyProg _ _) => true | _ => false))
    + 32 * b2n e.erasing + 64 * b2n e.blank + 128 * b2n e.restored + 256 * e.slot)

/-- DET_STAT: HIT and NEW as stored, RANGE live (07 R171). -/
def detStat (s : State) : Word := maskAnd (getReg s 0x3E0) 0xFF ||| wd (256 * detRange s)

/-- The registers of the system, power, sequencer and port banks that are live. -/
def liveSystem (s : State) (n : Nat) : Option Word :=
  if n = 0x010 then some (maskOf 4 (fun k => decide (getReg s k &&& getReg s (4 + k) ≠ 0)))
  else if n = 0x100 then some (pwrStatus s)
  else if n = 0x101 then some (wd s.power.vresMeas)
  else if n = 0x102 then some (wd s.power.vauxMeas)
  else if n = 0x103 then some (wd s.power.vbcMeas)
  else if n = 0x104 then some (wd s.power.harv)
  else if n = 0x109 then some (wd s.power.on.toNat)
  else if n = 0x110 then some (wd (pendMask s).toNat)
  else if n = 0x111 then some (wd s.power.granted.toNat)
  else if n = 0x112 then some (wd ((grantSum s s.power.settle s.power.granted + 4) / 5))
  else if n = 0x180 then some (seqState s)
  else if n = 0x181 then some s.seq.tick
  else if n = 0x183 then some (wd s.seq.gen)
  else if n = 0x188 then some (schedState0 s)
  else if n = 0x189 then some (schedState1 s)
  else if n = 0x18A then some (schedState2 s)
  else if n = 0x18B then some (schedState3 s)
  else if n = 0x18C then some (wd (schedNow s).total)
  else if n = 0x18D then some (wd (schedReq s).total)
  else if n = 0x18E then some (wdI (asr ((schedReq s).margin false (nom60 s)) 4))
  else if n = 0x18F then some (wdI (asr ((schedReq s).margin true (nom60 s)) 4))
  else if n = 0x191 then some (wd ((schedNow s).start (fld (getReg s 0x190) 0 4 + 1)))
  else if n = 0x192 then some (wd ((schedNow s).len (fld (getReg s 0x190) 0 4 + 1)))
  else if n = 0x201 then some (portStat s)
  else if n = 0x208 then some (authState s)
  else none

/-- The live registers of the slice, process and filter banks. -/
def liveStreams (s : State) (n : Nat) : Option Word :=
  let sel := getReg s 0x28A
  let st := min (fld sel 0 4) 10
  let g := fld sel 4 3
  let psel := getReg s 0x358
  let pc := min (fld psel 0 4) 9
  if n = 0x28A then some (setFld sel 0 4 st)
  else if n = 0x28B then some (wd (trimRaw s (sliceTrimOff st g)))
  else if n = 0x28C then some (wd (trimRaw s (sliceTrimOff st g + 3)))
  else if n = 0x28D then some (wd (trimRaw s (sliceTrimOff st g + (if bitAt sel 7 then 9 else 6))))
  else if 0x2C0 ≤ n ∧ n ≤ 0x2E9 then (s.stool.view.find? (fun e => e.1 == n)).map (·.2)
  else if n = 0x2F0 then some (stoolStatus s)
  else if n = 0x2F1 then some (wd s.stool.left)
  else if n = 0x301 then some (procStatus s)
  else if n = 0x358 then some (setFld psel 0 4 pc)
  else if n = 0x359 then some (wd (trimRaw s (procTrimOff pc (fld psel 4 2))))
  else if n = 0x35A then some (wd (trimRaw s (procTrimOff pc (fld psel 4 2) + 3)))
  else if 0x390 ≤ n ∧ n ≤ 0x39A then some (wdI (sat20 (asr (nth s.streams.conv (n - 0x390) freshConv).e 28)))
  else if 0x3B0 ≤ n ∧ n ≤ 0x3BA then some (wd (firN s (n - 0x3B0) + 256 * firSet s (n - 0x3B0)))
  else if n = 0x3C0 then some (maskAnd (getReg s 0x3C0) 2 ||| wd (b2n s.firActive))
  else if n = 0x3C2 then some (settlingMask s)
  else if n = 0x3E0 then some (detStat s)
  else none

/-- The live registers of the metering, harmonic, power-quality and capture banks. -/
def liveLine (s : State) (n : Nat) : Option Word :=
  if n = 0x40D then some (estoreStat s)
  else if n = 0x40E then some (wd s.energy.seq)
  else if n = 0x4CC then some (maskAnd (getReg s 0x4CC) 0xF0 ||| wd (cfPend s))
  else if n = 0x502 then some (maskAnd (getReg s 0x502) 0xFFFEF ||| wd (16 * b2n s.harm.copy.isSome))
  else if n = 0x505 then some (wd (nth (nth s.harm.g (fld (getReg s 0x504) 6 3) []) (fld (getReg s 0x504) 0 6) 0))
  else if n = 0x545 then some (capStat s)
  else if n = 0x546 then some (wd (capWrLine s))
  else none

/-- A requester owns the cycle that the landing of packets has reached: a grant is taken whole, to its last cycle. -/
def ownedBy (s : State) : Option Nat := if s.seq.cycle < s.mem.busy then s.mem.owner else none

/-- ARB_STAT: the requests visible in the cycle that the landing of packets has reached, its owner, DRAINED. -/
def arbStat (s : State) : Word :=
  let seen := s.mem.reqs.filter (fun q => !q.gone && decide (q.at_ ≤ s.seq.cycle))
  wd (seen.foldl (fun a q => a + 2 ^ q.r) 0 + 256 * (ownedBy s).getD 0 + 2048 * b2n (ownedBy s).isSome
    + 4096 * b2n (frozen s && (ownedBy s).isNone))

/-- The live registers of the memory, Dresser, Bureau, tamper, display, pin and identification banks, as port `p` reads
them. -/
def liveMemory (s : State) (p : PortId) (n : Nat) : Option Word :=
  let sel := segSel s
  if n = 0x600 then some (maskAnd (getReg s 0x600) 0x10 ||| wd (s.mem.ready.toNat + 4 * s.mem.init.toNat))
  else if n = 0x609 then some (wd s.mem.scrubPos)
  else if n = 0x60C then some (wd s.mem.backlog)
  else if 0x618 ≤ n ∧ n ≤ 0x61F then some (forceReg s (n - 8))
  else if n = 0x621 then
    some (arbStat s)
  else if 0x681 ≤ n ∧ n ≤ 0x684 then some (sget segZero s.dresser.shadow (segKey sel (n - 0x681)))
  else if 0x685 ≤ n ∧ n ≤ 0x688 then some (sget segZero s.dresser.inForce (segKey sel (n - 0x685)))
  else if n = 0x691 then some (chainStat s)
  else if 0x695 ≤ n ∧ n ≤ 0x697 then some (forceReg s (n - 3))
  else if n = 0x701 then some (recStat s)
  else if n = 0x705 then some (portOf s p).cursor
  else if n = 0x706 then some (wd (recNewest s))
  else if n = 0x707 then some (wd (recOldest s))
  else if n = 0x708 then some (wd s.bureau.floor)
  else if n = 0x709 then some (wd s.bureau.hours)
  else if n = 0x70A then some (wd s.bureau.soh)
  else if n = 0x70B then some (wd s.bureau.pcc)
  else if 0x710 ≤ n ∧ n ≤ 0x719 then some (nth (portOf s p).window (n - 0x710) 0)
  else if n = 0x782 then some (tampRaw s)
  else if n = 0x79A then some (wd s.evid.sealSt)
  else if n = 0x79B then some (wd s.evid.sealCnt)
  else if n = 0x7A0 then some (evStat s)
  else if n = 0x7A1 then some (wd (s.evid.chain.toNat % 65536))
  else if n = 0x7A2 then some (wd (s.evid.chain.toNat / 65536))
  else if n = 0x80B then some (dispStat s)
  else if n = 0x80C then some (wdI s.hutch.temp)
  else if n = 0x80D then some s.hutch.frame
  else if n = 0x80E then some (rectStat s)
  else if n = 0x811 then some (flStat s)
  else if n = 0x882 then some (forceReg s 0x880)
  else if n = 0x883 then some (forceReg s 0x881)
  else if n = 0x884 then some (pinIn s)
  else if n = 0x886 then some (pinStat s)
  else if n = 0xF03 then some (wd (b2n s.power.testLevel))
  else none

/-- What register `n` shows to port `p`; unassigned numbers show zero (18 R374). -/
def readReg (s : State) (p : PortId) (n : Nat) : Word :=
  if !assigned n then 0
  else
    let v := if n < 0x280 then liveSystem s n else if n < 0x400 then liveStreams s n
      else if n < 0x600 then liveLine s n else liveMemory s p n
    v.getD (getReg s n)

end Sys2Proof.Machine
end

