-- ==== Sys2Proof/Machine/Replies.lean ====
section
/-!
DEFINITION. Replies and frames: the bytes of a reply (04 R80), what is noted when one is made ready on its port
(04 R84, R91, R97, R101), the error counters of the ports, routing along the chain (11 R247, R256) and frames given to
a transmitter (11 R254).
-/

namespace Sys2Proof.Machine

/-! ### Routing along the chain -/

/-- The position the part takes as its own (11 R256). -/
def ownPos (s : State) : BitVec 2 := if s.chain.posValid then s.chain.pos else 0

/-- The link of a side. -/
def linkOf (s : State) (d : Side) : Link :=
  match d with
  | .up => s.chain.up
  | .dn => s.chain.dn

/-- The link of a side replaced. -/
def putLink (s : State) (d : Side) (l : Link) : State :=
  match d with
  | .up => { s with chain := { s.chain with up := l } }
  | .dn => { s with chain := { s.chain with dn := l } }

/-- A frame of this part can leave by side `d`: the link is up and the own position valid (11 R256). -/
def linkReady (s : State) (d : Side) : Bool := s.chain.posValid && decide ((linkOf s d).st = 2)

/-- The side on which position `q` lies (04 R93, 11 R247). -/
def sideTo (s : State) (q : BitVec 2) : Side := if ownPos s < q then .dn else .up

/-- A frame is given to the transmitter of its side. -/
def sendFrame (s : State) (f : TxFrame) : State :=
  if decide ((linkOf s f.side).st = 2) then { s with chain := { s.chain with sent := s.chain.sent ++ [f] } } else s

/-- The link tag of the next frame of this part, and the state after it is taken. -/
def takeLtag (s : State) : State × Byte :=
  ({ s with chain := { s.chain with ltag := s.chain.ltag + 1 } }, s.chain.ltag)

/-! ### Bytes -/

/-- The bytes of a reply (04 R80). -/
def replyBytes (r : Reply) : List Byte :=
  let body := [r.tag, BitVec.ofNat 8 r.status, BitVec.ofNat 8 r.fields.length] ++ r.fields.flatMap (fun f => beBytes f.toNat 3)
  body ++ beBytes (crc16 body) 2

/-- Fields from bytes, three to a field, most significant first. -/
def fieldsOf : List Byte → List Field
  | a :: b :: c :: r => BitVec.ofNat 24 (a.toNat * 65536 + b.toNat * 256 + c.toNat) :: fieldsOf r
  | _ => []

/-- Bytes into fields, three to a field, the lowest address in bits [23:16], unused bytes zero (04 R88). -/
def packFields : Nat → List Byte → List Field
  | 0, _ => []
  | n + 1, d =>
    if d.isEmpty then []
    else BitVec.ofNat 24 (ofBe ((d ++ [0, 0, 0]).take 3)) :: packFields n (d.drop 3)

/-- A 32-bit word in two fields, bits [31:16] first (04 R88). -/
def wordFields (w : Nat) : List Field := [BitVec.ofNat 24 (w / 65536 % 65536), BitVec.ofNat 24 (w % 65536)]

/-- The runs of registers whose field tables say signed. -/
def signedRegs : List (Nat × Nat) :=
  [(0x18E, 0x18F), (0x28C, 0x28C), (0x2A0, 0x2A9), (0x2C0, 0x2CA), (0x2D0, 0x2DA), (0x2E0, 0x2E9), (0x308, 0x309),
   (0x320, 0x32F), (0x340, 0x340), (0x348, 0x357), (0x35A, 0x35A), (0x390, 0x39A), (0x3DC, 0x3DF), (0x413, 0x413),
   (0x418, 0x424), (0x428, 0x431), (0x434, 0x445), (0x450, 0x459), (0x45C, 0x467), (0x80C, 0x80C)]

/-- A register value in a field: bits [23:20] copy bit 19 where the field is signed, and are zero otherwise (00 R4). -/
def fieldOfReg (n : Nat) (v : Word) : Field :=
  if signedRegs.any (fun r => decide (r.1 ≤ n) && decide (n ≤ r.2)) then v.signExtend 24 else v.setWidth 24

/-! ### Counters and making a reply ready -/

/-- PORT_STAT's error counter register of a port. -/
def errReg (p : PortId) : Nat := match p with | .host => 0x202 | .maint => 0x203 | .chain => 0x204

/-- The port's code in authentication and records (04, The three ports). -/
def portCode (p : PortId) : Nat := match p with | .host => 1 | .maint => 2 | .chain => 3

/-- The port's Sideboard requester and Dresser context. -/
def portReq (p : PortId) : Nat := match p with | .host => 4 | .maint => 5 | .chain => 6

/-- A ten-bit field of a register one higher, saturating at 0x3FF. -/
def incTen (s : State) (n lo : Nat) : State := setReg s n (setFld (getReg s n) lo 10 (satInc (fld (getReg s n) lo 10) 0x3FF))

/-- A packet or frame is discarded without a reply (04 R98, R100). -/
def portLost (s : State) (p : PortId) : State := raise (incTen s (errReg p) 0) srcPortErr

/-- `k` cycles after cycle `c` of the present tick, as tick and cycle. -/
def stampAt (s : State) (c k : Nat) : BitVec 20 × Nat :=
  if c + k < 6144 then (s.seq.tick, c + k) else (s.seq.tick + 1, c + k - 6144)

/-- What PORT_ERR and the BAD_CRC count note of a status (04, counters and interrupt bits). -/
def noteStatus (s : State) (p : PortId) (status : Nat) : State :=
  let t := if status = stBadCrc then incTen s (errReg p) 10 else s
  if status = stBadCrc ∨ status = stBadOpc ∨ status = stBadLen then raise t srcPortErr else t

/-- The mark in `due` of a packet that is being executed. -/
def executing : Nat := 65536

/-- The cycle, counted from the present tick's start, at which a packet being executed is done: its reply stands from
then on, and EXEC ends (04 R84, R96). -/
def setDue (s : State) (p : PortId) (c : Nat) : State :=
  if (portOf s p).due.isSome then putPort s p { portOf s p with due := some c } else s

/-- The reply of port `p` has become ready: EXEC ends, and on the host port HOST_REPLY rises (04 R97). -/
def replyReady (s : State) (p : PortId) : State :=
  if (portOf s p).due.isNone then s
  else
    let t := putPort s p { portOf s p with due := none }
    match p with
    | .host => raiseIf t.ports.host.reply.isSome srcHostReply t
    | _ => t

/-- The CHAIN replies that are ready before cycle `c` leave (04 R93). -/
def chainReplies (s : State) (c : Nat) : State :=
  (s.ports.chainOut.filter (fun r => decide (r.1 < c))).foldl (fun t r => sendFrame t r.2)
    { s with ports := { s.ports with chainOut := s.ports.chainOut.filter (fun r => decide (c ≤ r.1)) } }

/-- The replies that are ready before cycle `c`. -/
def repliesDue (s : State) (c : Nat) : State :=
  chainReplies ([PortId.host, .maint, .chain].foldl (fun t p =>
    match (portOf t p).due with
    | some d => if d < c then replyReady t p else t
    | none => t) s) c

/-- A tick passes for replies that are not ready yet. -/
def duesPass (s : State) : State :=
  let f (q : Port) : Port := { q with due := q.due.map (· - 6144), look := q.look.map (· - 6144) }
  { s with ports := { s.ports with
    host := f s.ports.host, maint := f s.ports.maint, chain := f s.ports.chain
    chainOut := s.ports.chainOut.map (fun r => (r.1 - 6144, r.2))
    keysDue := s.ports.keysDue.map (fun r => (r.1 - 6144, r.2)) } }

/-- A reply is made on its port (04 R97, R101, R93): the host's buffer, with HOST_REPLY where it is ready now; the
maintenance reply with its request for consumer 9; or an RPL frame back the way its packet came, which leaves when the
reply is ready. -/
def giveReply (s : State) (p : PortId) (r : Reply) : State :=
  let t := putPort s p { portOf s p with reply := some r }
  match p with
  | .host => raiseIf t.ports.host.due.isNone srcHostReply t
  | .maint => { t with ports := { t.ports with mtxReq := true, idleUnits := none } }
  | .chain =>
    match s.ports.chainFrom with
    | some (d, q, g) =>
      let f : TxFrame := { side := d, type := 2, dest := q, src := ownPos s, ltag := g, payload := replyBytes r }
      match t.ports.chain.due with
      | some c => { t with ports := { t.ports with
          chainFrom := none, chain := { t.ports.chain with due := none }, chainOut := t.ports.chainOut ++ [(c, f)] } }
      | none => sendFrame { t with ports := { t.ports with chainFrom := none } } f
    | none => t

/-- The reply of a packet with TAG `tag`: nothing where the status is OK and NOREPLY was set (04 R91). -/
def answerAt (s : State) (p : PortId) (tag : Byte) (noreply : Bool) (status : Nat) (fs : List Field) (c k : Nat) : State :=
  let t := setDue (noteStatus s p status) p (c + k)
  if noreply && decide (status = stOk) then t
  else
    let at_ := stampAt t c k
    giveReply t p { tag := tag, status := status, fields := fs, tick := at_.1, cyc := at_.2 }

/-- The reply of a landing packet, ready 8 c after cycle `c` (04 R84). -/
def answer (s : State) (l : Land) (c status : Nat) (fs : List Field) : State :=
  answerAt s l.port l.tag l.noreply status fs c 8

/-- The operation `w` is under way on port `l.port`: a CHAIN packet's reply will go back the way the packet came. -/
def waitOf (s : State) (l : Land) (opc : Nat) : Waiting :=
  { land := l, opc := opc, way := if l.port = .chain then s.ports.chainFrom else none }

/-- The operation `w` has ended: its reply is ready 8 c after cycle `c` of the present tick (04 R84, R85). -/
def finishAt (s : State) (w : Waiting) (c status : Nat) (fs : List Field) : State :=
  let p := w.land.port
  let t := putPort s p { portOf s p with busy := (portOf s p).busy.erase w, due := some executing }
  let u := if p = .chain then { t with ports := { t.ports with chainFrom := w.way } } else t
  let v := answer u w.land c status fs
  if p = .chain ∧ w.way ≠ s.ports.chainFrom then { v with ports := { v.ports with chainFrom := s.ports.chainFrom } } else v

/-- The operation `w` ends now. -/
def finish (s : State) (w : Waiting) (status : Nat) (fs : List Field) : State :=
  finishAt s w (min s.seq.cycle 6143) status fs

/-- The port is busy with an operation whose reply is to come. -/
def setBusy (s : State) (w : Waiting) : State :=
  putPort s w.land.port { portOf s w.land.port with busy := (portOf s w.land.port).busy ++ [w] }

end Sys2Proof.Machine
end

