-- ==== Sys2Proof/Machine/Tamper.lean ====
section
/-!
DEFINITION. Tamper monitors, the Cupboard, the evidence queue and the calibration seal (13 R282 to R307); failures and
the lock (04 R107).
-/

namespace Sys2Proof.Machine

/-! ### Shadows (R289) -/

/-- AUTH_STATE [2:0]. -/
def authFlags (s : State) : BitVec 3 :=
  BitVec.ofNat 3 (b2n s.aon.key0.isSome + 2 * b2n s.aon.key1.isSome + 4 * b2n (locked s))

/-- The bitwise inverse of each time of a history. -/
def inverse (l : List Nat) : List Int := l.map (fun t => -1 - (t : Int))

/-- The shadow of the flags and of the failure history is written with them. -/
def syncFlags (s : State) : State :=
  { s with aon := { s.aon with flagShadow := ~~~(authFlags s), failShadow := inverse s.aon.fails } }

/-- The PD0 registers that have inverted shadows. -/
def shadowed : List Nat := [0x780, 0x781, 0x788, 0x789, 0x78A, 0x78B, 0x78C, 0x78D, 0x78E]

/-- The shadow of register `n` as it stands at reset. -/
def shadowReset (n : Nat) : Word := ~~~(regReset n)

/-- The shadow of a PD0 register is written with it. -/
def syncShadow (s : State) (n : Nat) : State :=
  if shadowed.contains n then
    { s with aon := { s.aon with regShadow := sset shadowReset s.aon.regShadow n (~~~(getReg s n)) } }
  else s

/-- The sealed set (R304). -/
def sealedSet : List Nat :=
  ((upto 10).map (0x280 + ·)) ++ ((upto 10).map (0x290 + ·)) ++ ((upto 10).map (0x2A0 + ·)) ++ ((upto 10).map (0x2B0 + ·))
    ++ ((upto 12).map (0x4C0 + ·))

/-- The shadow of a register of the sealed set is written with it. -/
def syncSealed (s : State) (n : Nat) : State :=
  if sealedSet.contains n then
    { s with evid := { s.evid with shadow := sset shadowReset s.evid.shadow n (~~~(getReg s n)) } }
  else s

/-- SEAL_STATE takes a value, and its shadow with it. -/
def setSeal (s : State) (v : Nat) : State := { s with evid := { s.evid with sealSt := v, sealShadow := ~~~(wd v) } }

/-! ### The evidence queue (R298, R300) -/

/-- PD2 is off. -/
def dark (s : State) : Bool := decide (s.seq.st = .off)

/-- Dark seconds (R294). -/
def darkSecs (s : State) : Nat :=
  match s.aon.darkFrom with
  | some t => min ((s.aon.time - t) / 4096000) 0xFFFFF
  | none => 0

/-- Bytes 0 to 11 of an entry (R298). -/
def evidEntry (s : State) (code sev param : Nat) (erased : Bool) : List Byte :=
  let d := dark s
  let h := if d then s.aon.heldHours else s.bureau.hours
  let m := if d then s.aon.heldSoh else s.bureau.soh
  let c := if d then s.aon.heldPcc else s.bureau.pcc
  leBytes (code + sev * 2 ^ 10 + param * 2 ^ 12) 4 ++ leBytes (h + m * 2 ^ 20) 4
    ++ leBytes (c + b2n d * 2 ^ 20 + b2n erased * 2 ^ 21) 4

/-- `k` entries are lost (R300): EV_LOST and EVIDENCE; the event of the tick, or of the dark, follows later. -/
def loseEvidence (s : State) (k : Nat) : State :=
  let t := addReg s 0x7A3 k
  if dark s then { t with aon := { t.aon with darkLost := t.aon.darkLost + k } }
  else raise { t with evid := { t.evid with lostNow := t.evid.lostNow + k } } srcEvidence

/-- An entry is queued, or lost where the queue is full or the log closed. -/
def queueEvidence (s : State) (e : List Byte) : State :=
  if s.evid.full || s.aon.logClosed || decide (s.aon.evQueue.length ≥ 8) then loseEvidence s 1
  else { s with aon := { s.aon with evQueue := s.aon.evQueue ++ [e] } }

/-- An event with a severity and three parameters. -/
def bEvent (code sev p0 p1 p2 : Nat) : BEvent := { code := code, sev := sev, p0 := p0, p1 := p1, p2 := p2, rep := 0 }

/-! ### The Cupboard (R292, R303) -/

/-- A packet whose MAC is being compared is refused for an absent key (R293); a refusal already made stands (04 R107). -/
def Exec.refused (e : Exec) : Exec := if e.auth && e.denied.isNone then { e with denied := some false } else e

/-- The Cupboard is erased (R292); an erase of slot 1 moves SEALED to UNVERIFIED (R306). -/
def eraseCupboard (s : State) : State :=
  let p := s.ports
  let t := syncFlags { s with
    aon := { s.aon with key0 := none, key1 := none }
    ports := { p with
      host := { p.host with exec := p.host.exec.map Exec.refused }, maint := { p.maint with exec := p.maint.exec.map Exec.refused }
      chainQ := p.chainQ.map (fun a => (a.1.refused, a.2)), keysDue := [] } }
  let u := if t.evid.sealSt = 1 then setSeal t 3 else t
  raise (addReg u 0x798 1) srcCupboardErased

/-- The key of a slot. -/
def keySlot (s : State) (slot : Bool) : Option (BitVec 128) := if slot then s.aon.key1 else s.aon.key0

/-- A key is installed (R303). -/
def installKey (s : State) (slot : Bool) (k : BitVec 128) : State :=
  syncFlags { s with aon := if slot then { s.aon with key1 := some k } else { s.aon with key0 := some k } }

/-! ### Sensing and qualification (R290, R291, R295) -/

/-- Class `c` senses. -/
def classOn (s : State) (c : Nat) : Bool := bitAt (getReg s 0x780) c

/-- A class's event at the present time qualifies (R290). -/
def qualifies (s : State) (c : Nat) : Bool :=
  if c = 2 ∨ c = 6 then true
  else
    let q := getReg s (0x788 + c)
    let n := max 1 (fld q 16 4)
    let w := fld q 0 12
    let before := (nth s.aon.hist c []).take (n - 1)
    decide (before.length = n - 1) && (n == 1 || decide (s.aon.time ≤ before.getLastD 0 + w * 4096000))

/-- Class `c` qualifies (R291, R292, R295). -/
def qualify (s : State) (c : Nat) : State :=
  let armed := bitAt (getReg s 0x781) c
  let d := dark s
  let secs := if d then darkSecs s else 0
  let cnt := min (nth s.aon.sinceQual c 0) 0xFFFFF
  let sev := if armed then 3 else 2
  let s1 := if armed then eraseCupboard s else s
  let s2 : State := { s1 with aon := { s1.aon with
    hist := setNth s1.aon.hist c [], sinceQual := setNth s1.aon.sinceQual c 0 } }
  let s3 :=
    if d then
      { s2 with aon := { s2.aon with heldQual := modNth s2.aon.heldQual c (fun q => match q with
          | some (t, k, e) => some (t, k, e || armed)
          | none => some (secs, cnt, armed)) } }
    else deliver (raise s2 srcTampQualified) (bEvent (0x188 + c) sev secs cnt (b2n armed))
  if bitAt (getReg s3 0x783) c then s3
  else queueEvidence (orReg s3 0x783 (2 ^ c)) (evidEntry s3 (0x188 + c) sev secs armed)

/-- Class `c` senses an event at the present time (R283, R290, R291, R295). -/
def sense (s : State) (c : Nat) : State :=
  if !s.aon.powered || !classOn s c then s
  else
    let s1 := addReg s (0x790 + c) 1
    let q := qualifies s1 c
    let s2 : State := { s1 with aon := { s1.aon with
      hist := modNth s1.aon.hist c (fun h => (s1.aon.time :: h).take 14)
      sinceQual := modNth s1.aon.sinceQual c (· + 1) } }
    let s3 :=
      if dark s then
        orReg { s2 with aon := { s2.aon with heldSense := modNth s2.aon.heldSense c (· + 1) } } 0x784 (2 ^ c)
      else deliver (raise s2 srcTampSense) (bEvent (0x180 + c) 1 0 0 0)
    if q then qualify s3 c else s3

/-- COND bit `c`. -/
def setCond (s : State) (c : Nat) (b : Bool) : State :=
  { s with aon := { s.aon with
    cond := if b then s.aon.cond ||| BitVec.ofNat 7 (2 ^ c) else s.aon.cond &&& ~~~(BitVec.ofNat 7 (2 ^ c)) } }

/-- The glitch, excursion and logic classes run (R282). -/
def fastClasses (s : State) : Bool := portsUp s

/-- A logic fault (R108, R289). -/
def logicFault (s : State) : State := if fastClasses s then sense s 6 else s

/-- The lead of loop `l` (false TMP0 on GP6, true TMP1 on GP7) carries it and has passed to PD0 (R284, 15 R343). -/
def loopSelected (s : State) (l : Bool) : Bool :=
  if l then decide (s.aon.sel7 = 9) && !s.pins.parked.getLsbD 7 else decide (s.aon.sel6 = 8) && !s.pins.parked.getLsbD 6

/-- The next state of a loop after a test of `ohms` (R284): state and run of normal tests. -/
def loopNext (st normal ohms : Nat) : Nat × Nat :=
  if ohms > 40000 then (1, 0)
  else if ohms < 2000 then (2, 0)
  else if 3000 ≤ ohms ∧ ohms ≤ 30000 then (if normal ≥ 1 then (0, 2) else (st, normal + 1))
  else (st, 0)

/-- LOOP_TEST (R284). -/
def loopTestOp (s0 : State) (l : Bool) (ohms now : Nat) : State :=
  if !s0.aon.powered || !loopSelected s0 l then s0
  else
    let s := atOsc s0 now
    let st := if l then s.aon.loop1 else s.aon.loop0
    let p := loopNext st (if l then s.aon.normal1 else s.aon.normal0) ohms
    let c := b2n l
    let t : State := { s with aon :=
      if l then { s.aon with loop1 := p.1, normal1 := p.2 } else { s.aon with loop0 := p.1, normal0 := p.2 } }
    let u := setCond t c (decide (p.1 ≠ 0))
    if st = 0 ∧ p.1 ≠ 0 then sense u c else u

/-- TEMP_READ (R288, 14 R314): the sensor reads `t` degrees. -/
def tempReadOp (s0 : State) (t : Int) (now : Nat) : State :=
  if !s0.aon.powered then s0
  else
    let s := atOsc s0 now
    let out := decide (t < -45) || decide (t > 95)
    let stood := s.aon.cond.getLsbD 5
    let u : State := { s with aon := { s.aon with tempC := t, tempOut := out } }
    if stood then (if -42 ≤ t ∧ t ≤ 92 then setCond u 5 false else u)
    else if out && s.aon.tempOut then sense (setCond u 5 true) 5
    else u

/-- GLITCH (R286). -/
def glitchOp (s : State) (now : Nat) : State :=
  if s.aon.powered && fastClasses s then sense (atOsc s now) 3 else s

/-- SLOW (R287): the condition begins; it is sensed once for as long as it stands. -/
def slowOp (s : State) (now : Nat) : State :=
  if s.aon.powered && fastClasses s && !s.aon.cond.getLsbD 4 then
    let t := setCond (atOsc s now) 4 true
    sense { t with aon := { t.aon with slowBack := none } } 4
  else s

/-- Every quantity that SLOW monitors is inside its window (R287): VRES, VCORE, VAUX, VBC. -/
def supplyInside (s : State) (vcoreMv : Nat) : Bool :=
  decide (s.power.vres ≤ 5900) && decide (1050 ≤ vcoreMv) && decide (vcoreMv ≤ 1350) && decide (s.power.vaux ≤ 6000)
    && decide (s.power.vbc ≤ 3900)

/-- The conditions of classes 2 and 4 as the measured supplies show them (log entry 17): SLOW ends when every quantity
has been back inside its window for 10 ms (R287). -/
def supplyConds (s : State) (vcoreMv : Nat) : State :=
  let t := if s.power.vbc ≥ 2200 then setCond s 2 false else s
  if !supplyInside t vcoreMv then { t with aon := { t.aon with slowBack := none } }
  else
    match t.aon.slowBack with
    | none => { t with aon := { t.aon with slowBack := some t.aon.time } }
    | some k => if decide (k + 40960 ≤ t.aon.time) then setCond t 4 false else t

/-! ### Shadow comparison (R289) -/

/-- One PD0 register meets its shadow. -/
def compareOne (s : State) (n : Nat) : State :=
  if sget shadowReset s.aon.regShadow n = ~~~(getReg s n) then s
  else sense (syncShadow (setReg s 0x786 (wd n)) n) 6

/-- The slot-present flags and the lock bit meet their shadow: they are AUTH_STATE [2:0]. -/
def compareFlags (s : State) : State :=
  if s.aon.flagShadow = ~~~(authFlags s) then s
  else sense { setReg s 0x786 0x208 with aon := { (setReg s 0x786 0x208).aon with flagShadow := ~~~(authFlags s) } } 6

/-- The failure history meets its shadow: it has no register number. -/
def compareHistory (s : State) : State :=
  if s.aon.failShadow = inverse s.aon.fails then s
  else sense { setReg s 0x786 0xFFF with aon := { (setReg s 0x786 0xFFF).aon with failShadow := inverse s.aon.fails } } 6

/-- SHADOW_COMPARE: the PD0 registers, then the flags and the failure history. -/
def shadowCompareOp (s0 : State) (now : Nat) : State :=
  if s0.aon.powered && fastClasses s0 then
    compareHistory (compareFlags (shadowed.foldl compareOne (atOsc s0 now)))
  else s0

/-- One PD2 register meets its shadow. -/
def compareSealed (s : State) (n : Nat) : State :=
  if sget shadowReset s.evid.shadow n = ~~~(getReg s n) then s
  else sense (syncSealed (setReg s 0x786 (wd n)) n) 6

/-- The comparison of every boundary: the sealed set and SEAL_STATE. -/
def sealedCompare (s0 : State) : State :=
  if fastClasses s0 then
    let s := sealedSet.foldl compareSealed s0
    if s.evid.sealShadow = ~~~(wd s.evid.sealSt) then s
    else sense (setSeal (setReg s 0x786 0x79A) s.evid.sealSt) 6
  else s0

/-! ### The calibration seal (R304 to R307) -/

/-- The seal message with count `cnt` (R304). -/
def sealMessage (s : State) (cnt : Nat) : List Nat :=
  let be3 (v : Nat) : List Nat := [v / 65536 % 256, v / 256 % 256, v % 256]
  0x53 :: be3 cnt ++ sealedSet.flatMap (fun n => be3 (regN s n))

/-- The seal with count `cnt` under key `k`. -/
def sealOf (s : State) (k : BitVec 128) (cnt : Nat) : List Byte :=
  ((cmac (keyBytes k) (sealMessage s cnt)).take 8).map (BitVec.ofNat 8)

/-- SEAL_STATE becomes BROKEN, with its event and entry (R306, R307): register number or 0x01000, and port code or 0. -/
def breakSeal (s : State) (reg port : Nat) : State :=
  let t := setSeal s 2
  queueEvidence (deliver t (bEvent 0x191 2 reg port 0)) (evidEntry t 0x191 2 reg false)

/-- SEAL_STATE is decided (R306). -/
def decideSeal (s : State) : State :=
  match newestSeal s with
  | none => setSeal { s with evid := { s.evid with sealCnt := 0 } } 0
  | some (cnt, mac) =>
    let t : State := { s with evid := { s.evid with sealCnt := cnt } }
    match s.aon.key1 with
    | none => setSeal t 3
    | some k => if sealOf t k cnt = mac then setSeal t 1 else breakSeal t 0x1000 0

/-- SEAL_CHECK: the check of R306 that a KEY_LOAD into slot 1 has called for. -/
def sealCheckOp (s : State) : State :=
  if s.evid.checkDue && portsUp s then decideSeal { s with evid := { s.evid with checkDue := false } } else s

/-! ### Failures and the lock (04 R107) -/

/-- A failure enters the history and the counters: AUTH_FAIL_CNT, and the lock where it is the fifth within 3,600 s. -/
def authFailure (s : State) : State :=
  let now := s.aon.time
  let before := (s.aon.fails.reverse.take 4).reverse
  let t : State := { addReg s 0x209 1 with aon := { (addReg s 0x209 1).aon with fails := before ++ [now] } }
  let lock := !locked s && decide (before.length = 4) && decide (now ≤ before.headD 0 + 3600 * 4096000)
  if lock then
    raise (syncFlags { t with aon := { t.aon with lockUntil := some (now + 600 * 4096000) } }) srcAuthLock
  else syncFlags t

/-- The lock ends when its 600 s have passed. -/
def lockEnd (s : State) : State :=
  match s.aon.lockUntil with
  | some t => if t ≤ s.aon.time then syncFlags { s with aon := { s.aon with lockUntil := none } } else s
  | none => s

/-- AUTH_LOCK_END. -/
def authLockEndOp (s : State) (now : Nat) : State := lockEnd (atOsc s now)

/-- A nonce 60 s old is stale (04 R102). -/
def staleNonce (s : State) (p : PortId) : State :=
  match (portOf s p).nonce with
  | some n => if n.issued + 60 * 4096000 ≤ s.aon.time then putPort s p { portOf s p with nonce := none } else s
  | none => s

/-- NONCE_STALE. -/
def nonceStaleOp (s : State) (p : PortId) (now : Nat) : State := staleNonce (atOsc s now) p

end Sys2Proof.Machine
end

