-- ==== Sys2Proof/Machine/Bureau.lean ====
section
/-!
DEFINITION. The Bureau (12): the time base and WAKE (R264, 03 R76), the events of a tick (R260), the open record and
coalescing (R267 to R269), limits and summaries (R270, R271), the queue and staging (R272, R273), the windows (R277 to
R279), and what a start restores (R266, R276).
-/

namespace Sys2Proof.Machine

/-! ### The time base (R264) and WAKE (03 R76) -/

/-- A second of operating time completes with the tick that ends. -/
def secondRolls (s : State) : Bool :=
  running s && (if did s .timeBase then decide (s.bureau.units < tickUnits s)
    else decide (s.bureau.units + tickUnits s ≥ 8000))

/-- The time base advances by the tick that ends; every 360 s a time-store entry falls due (R265). -/
def timeAdvance (s : State) : State :=
  if did s .timeBase || !running s then s
  else
    let b := s.bureau
    let u := b.units + tickUnits s
    let t := mark s .timeBase
    if u < 8000 then { t with bureau := { b with units := u } }
    else
      let roll := decide (b.soh ≥ 3599)
      let soh := if roll then 0 else b.soh + 1
      let hours := if roll then satInc b.hours 0xFFFFF else b.hours
      { t with bureau := { b with
        units := u - 8000, soh := soh, hours := hours
        tsDue := b.tsDue + b2n (decide ((hours * 3600 + soh) % 360 = 0)) } }

/-- The operating hour rolls with the tick that ends. -/
def hourRolls (s : State) : Bool :=
  secondRolls s && (if did s .timeBase then decide (s.bureau.soh = 0) else decide (s.bureau.soh ≥ 3599))

/-- WAKE: WAKE_LEFT counts the second that completes; at 0 it sets WAKE and is reloaded. -/
def wakeOp (s : State) : State :=
  if did s .wake || !secondRolls s || decide (regN s 0x197 = 0) then s
  else
    let t := mark s .wake
    let k := regN t 0x197 - 1
    if k = 0 then raise (setReg t 0x197 (getReg t 0x196)) srcWake else setReg t 0x197 (wd k)

/-! ### Closing and queueing (R268, R272) -/

/-- A record is lost (R272). -/
def recLost (s : State) : State := raise (addReg s 0x70C 1) srcRecLoss

/-- A record joins the tail of the write queue: one of the four held places, else the staging ring, else it is lost. -/
def enqueueRec (s : State) (r : BRec) : State :=
  let b := s.bureau
  if b.queue.length < 4 ∧ b.staged = [] ∧ b.toStage = [] then { s with bureau := { b with queue := b.queue ++ [r] } }
  else if b.stageFault || decide (b.staged.length + b.toStage.length ≥ b.stageLen) then recLost s
  else raiseReq { s with bureau := { b with toStage := b.toStage ++ [r] } } 7 .stage

/-- The open record closes and joins the queue. -/
def closeOpen (s : State) : State :=
  match s.bureau.open_ with
  | some r => enqueueRec { s with bureau := { s.bureau with open_ := none } } r
  | none => s

/-- The coalescing time of the open record runs out with the tick that ends (R268). -/
def coalesceDue (s : State) : Bool :=
  portsUp s && s.bureau.open_.isSome && !did s .coalesce
    && decide (s.bureau.openUnits + tickUnits s ≥ fld (getReg s 0x700) 0 12 * 8000)

/-- COALESCE_TIMEOUT. -/
def coalesceOp (s : State) : State := if coalesceDue s then mark (closeOpen s) .coalesce else s

/-! ### Events (R258 to R260, R267, R270) -/

/-- The code coalesces (R258, 13 R297). -/
def codeCoalesces (c : Nat) : Bool :=
  !(c == 2 || c == 4 || c == 5 || (decide (0x188 ≤ c) && decide (c ≤ 0x195)))

/-- The code closes at once. -/
def closesAtOnce (c : Nat) : Bool := c == 4 || c == 5

/-- Hourly limit of group `g` (R270); none where there is no limit. -/
def groupLimit (s : State) (g : Nat) : Option Nat :=
  let v := fld (getReg s (0x720 + g / 2)) (8 * (g % 2)) 8
  if g = 0 ∨ v = 0xFF then none else some v

/-- The event is folded into the open record (R267). -/
def folds (e : BEvent) (r : BRec) : Bool :=
  r.code == e.code && r.p0 == e.p0 && r.p1 == e.p1 && r.p2 == e.p2 && codeCoalesces e.code && decide (r.rep < 4095)

/-- Numbers of shown records: in NVM, waiting, open. -/
def shownSeqs (s : State) : List Nat :=
  (((recHeld s).map (fun e => e.2.seq)) ++ (recWaiting s).map (·.seq)).filter (recShown s)

/-- The first REC_MARK of this tick that waits with these parameters takes the number `n` (R280). -/
def numberMark (e : BEvent) (n : Nat) : List (Waiting × BEvent × Option Nat) → List (Waiting × BEvent × Option Nat)
  | [] => []
  | (l, m, k) :: r =>
    if k.isNone && decide (m = e) then (l, m, some n) :: r else (l, m, k) :: numberMark e n r

/-- A record opens for event `e` with the next number and the time base as it stands (R269). -/
def openRecord (s0 : State) (e : BEvent) : State :=
  let s := closeOpen s0
  let b := s.bureau
  let g := e.code / 32
  let rep := min e.rep 4095
  let hidden := if e.code = 2 then min (shownSeqs s).length 0xFFFFF else e.p1
  let r : BRec := { code := e.code, sev := e.sev, rep := rep, gasp := false, sat := decide (rep = 4095), seq := b.nextSeq
                    soh := b.soh, hours := b.hours, pcc := b.pcc, p0 := e.p0, p1 := hidden, p2 := e.p2 }
  let t : State := { s with bureau := { b with
    nextSeq := (b.nextSeq + 1) % 1048576
    opened := modNth b.opened g (· + 1)
    marks := if e.code = 5 then numberMark e b.nextSeq b.marks else b.marks
    floor := if e.code = 2 then b.nextSeq else b.floor
    openUnits := 0 } }
  if closesAtOnce e.code then enqueueRec t r
  else
    let u : State := { t with bureau := { t.bureau with open_ := some r } }
    if r.sat || s.seq.stopping then closeOpen u else u

/-- An event of a group at its limit is suppressed (R270). It is not coalesced, so the open record closes (R268). -/
def suppress (s0 : State) (e : BEvent) : State :=
  let s := closeOpen s0
  let g := e.code / 32
  let b := s.bureau
  let first := decide (nth b.suppressed g 0 = 0)
  raiseIf first srcRecLimit (addReg { s with bureau := { b with
    suppressed := modNth b.suppressed g (fun n => satInc n 0xFFFFF)
    firstSup := if first then setNth b.firstSup g e.code else b.firstSup } } 0x70D 1)

/-- One event is taken (R267, R270). -/
def takeEvent (s : State) (e : BEvent) : State :=
  match s.bureau.open_ with
  | some r =>
    if folds e r then
      let n := min 4095 (r.rep + e.rep + 1)
      let t : State := { s with bureau := { s.bureau with open_ := some { r with rep := n, sat := decide (n = 4095) } } }
      if n = 4095 then closeOpen t else t
    else
      match groupLimit s (e.code / 32) with
      | some k => if nth s.bureau.opened (e.code / 32) 0 ≥ k then suppress s e else openRecord s e
      | none => openRecord s e
  | none =>
    match groupLimit s (e.code / 32) with
    | some k => if nth s.bureau.opened (e.code / 32) 0 ≥ k then suppress s e else openRecord s e
    | none => openRecord s e

/-- The order of events in a boundary (R260). -/
def eventBefore (a b : BEvent) : Bool :=
  if a.code ≠ b.code then decide (a.code < b.code)
  else if a.p0 ≠ b.p0 then decide (a.p0 < b.p0)
  else if a.p1 ≠ b.p1 then decide (a.p1 < b.p1)
  else decide (a.p2 ≤ b.p2)

/-- An event put into an ordered list, behind its equals. -/
def insertEvent (e : BEvent) : List BEvent → List BEvent
  | [] => [e]
  | a :: r => if eventBefore a e then a :: insertEvent e r else e :: a :: r

/-- Events in the order of R260. -/
def sortEvents (l : List BEvent) : List BEvent := l.foldl (fun a e => insertEvent e a) []

/-- Summaries of an hour that has rolled, in ascending group order, and the counts of the new hour (R271). -/
def makeSummaries (s : State) : State :=
  let t := (upto 32).foldl (fun a g =>
    let n := nth s.bureau.suppressed g 0
    if n = 0 then a else openRecord a (bEvent 4 1 g n (nth s.bureau.firstSup g 0))) s
  { t with bureau := { t.bureau with
    opened := List.replicate 32 0, suppressed := List.replicate 32 0, firstSup := List.replicate 32 0 } }

/-- HOUR_ROLL: at the boundary that ends this tick, after the coalescing time-out (R260). -/
def hourRollOp (s : State) : State :=
  if did s .hour || !hourRolls s then s
  else mark (makeSummaries (coalesceOp (timeAdvance s))) .hour

/-- A ring that has emptied takes the written staging settings (R273). -/
def stageSettings (s : State) : State :=
  if s.bureau.staged = [] ∧ s.bureau.toStage = [] then
    { s with bureau := { s.bureau with stageLen := fld (getReg s 0x703) 0 8, stageBase := regN s 0x704 } }
  else s

/-- The entries lost in this tick deliver their event (13 R300). -/
def lostEvent (s : State) : State :=
  if s.evid.lostNow = 0 then s
  else deliver { s with evid := { s.evid with lostNow := 0 } } (bEvent 0x196 2 (min s.evid.lostNow 0xFFFFF) 0 0)

/-- The REC_MARKs whose records have their numbers are answered, ready at c8 of the new tick (R280); before the restore of
R266 a record has no number yet. -/
def answerMarks (s : State) : State :=
  s.bureau.marks.foldl (fun t m =>
    match m.2.2 with
    | some n => finishAt t m.1 0 stOk [BitVec.ofNat 24 n]
    | none => t)
    { s with bureau := { s.bureau with marks := s.bureau.marks.filter (fun m => m.2.2.isNone) } }

/-- The events of the tick are taken in their order. -/
def takeEvents (s : State) : State :=
  (sortEvents s.bureau.events).foldl takeEvent { s with bureau := { s.bureau with events := [] } }

/-- The Bureau at the boundary that ends a tick in RUN, SETTLE or HOLD (R260). -/
def bureauBoundary (s0 : State) : State :=
  let s1 := wakeOp (timeAdvance s0)
  let s2 := hourRollOp (coalesceOp s1)
  let s3 : State := { s2 with bureau := { s2.bureau with openUnits := s2.bureau.openUnits + tickUnits s0 } }
  stageSettings (takeEvents (lostEvent s3))

/-! ### The windows (R277 to R279) -/

/-- The fields of a record as the window shows them, REC_W_SEQ to REC_W_P2. -/
def recFields (r : BRec) : List Word :=
  [wd r.seq, wd (b2n r.sat * 8192 + b2n r.gasp * 4096 + r.sev * 1024 + r.code), wd r.rep, wd r.hours, wd r.soh, wd r.pcc,
   wd r.p0, wd r.p1, wd r.p2]

/-- Nine zeros. -/
def noFields : List Word := List.replicate 9 0

/-- The record that the window is to show is being read from NVM, or, `staged`, from staging: the read waits for the end of
an NVM operation, and one from staging for the Sideboard (R278; log entry 43). -/
def fetching (s : State) (staged : Bool) : Bool := s.nvm.op.isSome || (staged && frozen s)

/-- State and fields of the record with number `c`; `was` is what the window shows: a record shown as OPEN, PENDING or
CLOSED is not read anew (R278). -/
def windowOf (s : State) (c : Nat) (was : List Word) : Nat × List Word :=
  let b := s.bureau
  let known := [1, 2, 3].contains (fld (nth was 0 0) 17 3) && nth was 1 0 == wd c
  if laterSeq b.floor c then (4, noFields)
  else
    match b.open_.toList.find? (fun r => r.seq == c) with
    | some r => (2, recFields r)
    | none =>
      match (b.queue ++ b.toStage).find? (fun r => r.seq == c) with
      | some r => (3, recFields r)
      | none =>
        match b.staged.find? (fun r => r.seq == c) with
        | some r => if fetching s true && !known then (5, noFields) else (3, recFields r)
        | none =>
          match (recHeld s).find? (fun e => e.2.seq == c) with
          | some e => if fetching s false && !known then (5, noFields) else (1, recFields e.2)
          | none => (0, noFields)

/-- The place of a port in the list of changes. -/
def portIx (p : PortId) : Nat := match p with | .host => 0 | .maint => 1 | .chain => 2

/-- The window of port `p` takes what it shows now. A window changes once in a tick, and CHG counts it (R279): a further
change waits for the next tick (log entry 43). While a cursor as written is not followed yet (R278), nothing changes. -/
def showWindow (s : State) (p : PortId) : State :=
  let q := portOf s p
  let v := windowOf s q.cursor.toNat q.window
  let stat := nth q.window 0 0
  if nth s.bureau.chgDone (portIx p) false || q.look.isSome || (fld stat 17 3 == v.1 && q.window.tail == v.2) then s
  else
    let t := putPort s p { q with window := wd (v.1 * 131072 + (fld stat 0 8 + 1) % 256) :: v.2 }
    { t with bureau := { t.bureau with chgDone := setNth t.bureau.chgDone (portIx p) true } }

/-- A change of what the records are reaches the windows. -/
def showWindows (s : State) : State := [PortId.host, PortId.maint, PortId.chain].foldl showWindow s

/-- REC_CURSOR of port `p` is written in cycle `c`: the window follows 8 c later (R278). -/
def putCursor (s : State) (p : PortId) (v : Word) (c : Nat) : State :=
  putPort s p { portOf s p with cursor := v, look := some (c + 8) }

/-- The windows follow the cursors whose 8 c have passed by cycle `c`. -/
def cursorsBy (s : State) (c : Nat) : State :=
  [PortId.host, PortId.maint, PortId.chain].foldl (fun t p =>
    match (portOf t p).look with
    | some d => if d ≤ c then showWindow (putPort t p { portOf t p with look := none }) p else t
    | none => t) s

/-- The windows at the start of a tick. -/
def freshWindows (s : State) : State :=
  showWindows { s with bureau := { s.bureau with chgDone := [false, false, false] } }

/-! ### Restore (R266, R269, R276) -/

/-- The newest valid record with its slot. -/
def newestSlot (s : State) : Option (Nat × BRec) := newestBy (·.2.seq) (recSlots s)

/-- Slots from `i` on, modulo 1,024. -/
def slotsAfter (i n : Nat) : List Nat := (upto n).map (fun k => (i + k) % 1024)

/-- Slots before the first erased one in a list. -/
def untilBlank (s : State) (l : List Nat) : List Nat := l.takeWhile (fun i => !recSlotBlank s i)

/-- A sector is wholly valid. -/
def sectorValid (s : State) (k : Nat) : Bool := (upto 32).all (fun i => (recSlot s (32 * k + i)).isSome)

/-- A sector is wholly erased. -/
def sectorBlank (s : State) (k : Nat) : Bool := nvmBlank s (0x5000 + 1024 * k) 1024

/-- The records are restored (R276): next number, next slot, floor, damaged slots, the sector ahead. -/
def restoreRecords (s : State) : State :=
  match newestSlot s with
  | none =>
    let bad := (upto 1024).filter (fun i => !recSlotBlank s i)
    let next := match (upto 1024).find? (recSlotBlank s) with | some i => i | none => 0
    addReg { s with bureau := { s.bureau with nextSeq := 1, nextSlot := next, floor := 0 } } 0x70E
      (bad.filter (fun i => decide (i < next))).length
  | some (i, r) =>
    let gap := untilBlank s (slotsAfter (i + 1) 1023)
    let next := (i + 1 + gap.length) % 1024
    let damaged := (gap.filter (fun k => (recSlot s k).isNone)).length
    let recs := (recSlots s).map (·.2)
    let floor := match newestBy (·.seq) (recs.filter (fun q => q.code == 2)) with
      | some q => q.seq
      | none => match oldestBy (·.seq) recs with
        | some q => q.seq
        | none => 0
    let ahead := if next % 32 = 0 then next / 32 else (next / 32 + 1) % 32
    let again := !sectorBlank s ahead && !sectorValid s ahead
    addReg { s with
      bureau := { s.bureau with nextSeq := (r.seq + 1) % 1048576, nextSlot := next, floor := floor }
      nvm := if again then { s.nvm with waiting := s.nvm.waiting ++ [.bureauErase ahead] } else s.nvm } 0x70E damaged

/-- One time is later than another: hours, then second-of-hour. -/
def laterTime (a b : Nat × Nat) : Bool := decide (a.1 > b.1) || (decide (a.1 = b.1) && decide (a.2 > b.2))

/-- The time base is restored (R266): the later of the two times, the larger power-cycle count, one more at a cold
start; then the next place of the time store. -/
def restoreTime (s : State) : State :=
  let te := newestBy (fun e : Nat × TimeEntry => e.2.seq) (timeEntries s)
  let rc := newestSlot s
  let t1 : Nat × Nat := match te with | some e => (e.2.hours, e.2.soh) | none => (0, 0)
  let t2 : Nat × Nat := match rc with | some r => (r.2.hours, r.2.soh) | none => (0, 0)
  let tm := if laterTime t2 t1 then t2 else t1
  let p1 := match te with | some e => e.2.pcc | none => 0
  let p2 := match rc with | some r => r.2.pcc | none => 0
  let pcc := max p1 p2 + b2n s.seq.coldStart
  let next := match te with
    | some e => (e.1 + 1) % 128
    | none => 0
  { s with bureau := { s.bureau with
    hours := tm.1, soh := tm.2, pcc := pcc % 1048576, units := 0
    tsNext := next, tsSeq := match te with | some e => (e.2.seq + 1) % 1048576 | none => 1
    tsDue := s.bureau.tsDue + b2n s.seq.coldStart } }

/-- The restore of R266 and R276 as a whole. -/
def restoreBureau (s : State) : State := restoreTime (restoreRecords s)

/-! ### What the start delivers (R261, 13 R295, R296) -/

/-- Status bits that are set and routed are delivered as rises. -/
def deliverSet (s : State) : State :=
  (upto 80).foldl (fun t src => if statusBit t src && routedRec t src then deliverSource t src else t) s

/-- The dark events of class `c` are delivered (R295). -/
def deliverDark (s : State) (c : Nat) : State :=
  let k := nth s.aon.heldSense c 0
  let s1 := if k = 0 then s
    else deliver (raise s srcTampSense) { bEvent (0x180 + c) 1 0 0 0 with rep := k - 1 }
  match nth s.aon.heldQual c none with
  | some (secs, cnt, er) =>
    let t := raiseIf er srcCupboardErased (raise s1 srcTampQualified)
    deliver t (bEvent (0x188 + c) (if er then 3 else 2) secs cnt (b2n er + 2))
  | none => s1

/-- The events of a start: POWER_UP, PENDING_LOST, AON_LOST, the dark events, the losses in the dark, and the rises of
R261. -/
def startEvents (s0 : State) : State :=
  let s1 := deliver s0 (bEvent 1 0 (regN s0 0x118) (regN s0 0x785) s0.seq.gen)
  let lost := regN s1 0x70F
  let s2 := if lost = 0 then s1 else setReg (deliver s1 (bEvent 3 2 lost 0 0)) 0x70F 0
  let s3 : State := { s2 with aon := { s2.aon with aonLost := false } }
  let s4 := if s2.aon.aonLost && decide (s2.evid.next > 0) then
      let e := evidEntry s3 0x190 2 0 false
      let t := deliver s3 (bEvent 0x190 2 0 0 0)
      if t.aon.evQueue.length ≥ 8 ∨ t.evid.full then loseEvidence t 1
      else { t with aon := { t.aon with evQueue := e :: t.aon.evQueue } }
    else s3
  let s5 := (upto 7).foldl deliverDark s4
  let s6 : State := setReg { s5 with aon := { s5.aon with
    heldSense := List.replicate 7 0, heldQual := List.replicate 7 none } } 0x784 0
  let s7 := if s6.aon.darkLost = 0 then s6
    else
      deliver (raise { s6 with aon := { s6.aon with darkLost := 0 } } srcEvidence)
        (bEvent 0x196 2 (min s6.aon.darkLost 0xFFFFF) 0 0)
  deliverSet s7

end Sys2Proof.Machine
end

