-- ==== Sys2Proof/Machine/Dresser.lean ====
section
/-!
DEFINITION. The Dresser (11 R235 to R243), the local physical map and the configuration path (R244, R245; 07 R163; 14
R313), local accesses with the refusals of 10 R213, and sending an operation to a peer (R247).
-/

namespace Sys2Proof.Machine

/-! ### Segments (R236, R237, R242) -/

/-- Field `f` (0 VBASE, 1 LIMIT, 2 PBASE, 3 ATTR) of the in-force segment `g` of context `c`. -/
def seg (s : State) (c g f : Nat) : Nat := (sget segZero s.dresser.inForce (segKey (4 * c + g) f)).toNat

/-- Segment `g` of context `c` contains a virtual granule. -/
def segHas (s : State) (c g gr : Nat) : Bool :=
  let b := seg s c g 0
  decide (b ≤ gr) && decide (gr ≤ min (b + seg s c g 1) 0xFFFFF)

/-- Segment `g` of context `c` takes part in lookup. -/
def segEn (s : State) (c g : Nat) : Bool := (seg s c g 3).testBit 0

/-- The lowest-numbered enabled segment that contains a granule. -/
def segFind (s : State) (c gr : Nat) : Option Nat := (upto 4).find? (fun g => segEn s c g && segHas s c g gr)

/-- The kind of an access as the fault registers code it: 0 read, 1 write, 2 atomic. -/
def kindCode (k : AccKind) : Nat :=
  match k with
  | .read => 0
  | .write => 1
  | _ => 2

/-- What steps 1 to 4 of R237 find. -/
inductive Found where
  | at_ (chip : BitVec 2) (pa : Nat) (g : Nat)
  | fault (cause : Nat) (g : Option Nat)
  deriving DecidableEq, Repr

/-- Steps 1 to 4 of R237 for bytes `va` to `vz`. -/
def translate (s : State) (c : Nat) (k : AccKind) (va vz : Nat) : Found :=
  match segFind s c (va / 16) with
  | none => .fault 1 none
  | some g =>
    let attr := seg s c g 3
    if !attr.testBit (1 + kindCode k) then .fault 2 (some g)
    else if !segHas s c g (vz / 16) then .fault 3 (some g)
    else
      let base := seg s c g 2 * 16
      let off := seg s c g 0 * 16
      if base + (vz - off) > 0xFFFFFF then .fault 7 (some g)
      else .at_ (BitVec.ofNat 2 (bitsOf attr 4 2)) (base + (va - off)) g

/-- The lookup of a granule: the context's copy when it holds it, 1 c, else the central table, 3 c, counted in
DR_MISS_CNT; the copy takes the segment selected (R242). -/
def lookupTime (s : State) (c gr : Nat) : State × Nat :=
  let hit := match nth s.dresser.cache c none with
    | some g => segHas s c g gr
    | none => false
  let t := if hit then s else addReg s 0x68C 1
  ({ t with dresser := { t.dresser with
      cache := setNth t.dresser.cache c ((segFind s c gr).or (nth s.dresser.cache c none)) } }, if hit then 1 else 3)

/-- A refused operation of this chip's context `c` is reported (R243). -/
def segFault (s : State) (c va : Nat) (k : AccKind) (cause : Nat) (g : Option Nat) : State :=
  let info := c * 2 ^ 17 + b2n g.isSome * 2 ^ 16 + g.getD 0 * 2 ^ 14 + cause * 2 ^ 11 + kindCode k * 2 ^ 9 + va % 16
  raise (addReg (setReg (setReg s 0x689 (wd info)) 0x68A (wd (va / 16))) 0x68B 1) srcSegFault

/-! ### The local map (R244) -/

/-- Regions of the local map. -/
inductive Region where
  | capture
  | fir
  | od
  | nvm
  | regs
  deriving DecidableEq, Repr

/-- The region of an address. -/
def regionOf (a : Nat) : Option Region :=
  if a < 0x100000 then some .capture
  else if 0x800000 ≤ a ∧ a < 0x800800 then some .fir
  else if 0x810000 ≤ a ∧ a < 0x810400 then some .od
  else if 0x820000 ≤ a ∧ a < 0x840000 then some .nvm
  else if 0xF00000 ≤ a ∧ a < 0xF04000 then some .regs
  else none

/-- Step 5 of R237 for `n` bytes from `a`: the region, or the cause of the refusal. -/
def mapCheck (k : AccKind) (a n : Nat) : Option Region × Nat :=
  match regionOf a with
  | none => (none, 4)
  | some r =>
    if regionOf (a + n - 1) ≠ some r then (none, 4)
    else
      let ok := match r, kindCode k with
        | .capture, _ => true
        | _, 0 => true
        | .fir, 1 => true
        | .od, 1 => true
        | _, _ => false
      if ok then (some r, 0) else (none, 5)

/-! ### The configuration path (R245) -/

/-- A coefficient word's 32 bits as they are read (07 R163). -/
def firWord (s : State) (k : Nat) : Nat := ((sget (fun _ => (0 : Word)) s.fir k).signExtend 32).toNat

/-- The key of the coefficient word at offset `o` of the FIR window. -/
def firKey (s : State) (o : Nat) : Nat :=
  if o < 0x400 then 256 * b2n (!s.firActive) + o / 4 else 256 * b2n s.firActive + (o - 0x400) / 4

/-- A byte of the configuration path as port `p` reads it. -/
def cfgByte (s : State) (p : PortId) (a : Nat) : Byte :=
  match regionOf a with
  | some .fir => byteAt (firWord s (firKey s (a - 0x800000))) (a % 4)
  | some .od => sget zeroByte s.od (a - 0x810000)
  | some .nvm => nvmRead s (a - 0x820000)
  | some .regs => byteAt (readReg s p ((a - 0xF00000) / 4)).toNat (a % 4)
  | _ => 0

/-- A byte written on the configuration path: the shadow bank of the FIR, an overdrive entry; a write to the in-force
bank sets LIVE_WR. -/
def cfgPut (s : State) (a : Nat) (b : Byte) : State :=
  match regionOf a with
  | some .fir =>
    let o := a - 0x800000
    if o < 0x400 then
      let k := firKey s o
      let w := firWord s k
      let v := w - bitsOf w (8 * (a % 4)) 8 * 2 ^ (8 * (a % 4)) + b.toNat * 2 ^ (8 * (a % 4))
      { s with fir := sset (fun _ => (0 : Word)) s.fir k (wd v) }
    else orReg s 0x3C0 2
  | some .od => { s with od := sset zeroByte s.od (a - 0x810000) (b &&& 0x3F) }
  | _ => s

/-- Bytes written on the configuration path in ascending order. -/
def cfgPuts (s : State) (a : Nat) : List Byte → State
  | [] => s
  | b :: r => cfgPuts (cfgPut s a b) (a + 1) r

/-- Words that `n` bytes from `a` touch. -/
def cfgWords (a n : Nat) : Nat := (a + n - 1) / 4 + 1 - a / 4

/-! ### Local accesses -/

/-- What a local access comes to: the state, its cycles, the cycle of them (from 0) in which it ended or was refused, a
status code, the cause with SEG_FAULT, and the data. -/
structure Served where
  st : State
  cycles : Nat
  last : Nat
  status : Nat
  cause : Nat
  data : List Byte

/-- A memory result as an answer. -/
def ofMem (r : MemResult) : Served :=
  match r.data with
  | some d => { st := r.st, cycles := r.cycles, last := r.last, status := stOk, cause := 0, data := d }
  | none => { st := r.st, cycles := r.cycles, last := r.last, status := stMemPoison, cause := 0, data := [] }

/-- The refusal of R213: OFF_ACC and cause 4. -/
def offAcc (s : State) (k : Nat) : Served :=
  { st := orReg s 0x600 0x10, cycles := k, last := k, status := stSegFault, cause := 4, data := [] }

/-- An access to capture memory whose banks are on. -/
def memAccess (s : State) (req : Nat) (a : Access) : Served :=
  match a.kind with
  | .read => ofMem (memRead s req a.pa a.count)
  | .write => ofMem (memWrite s req a.pa a.data)
  | k => ofMem (memAtomic s req a.pa k a.op1 a.op2)

/-- An access to capture memory: the accesses before the first one to a bank that is off are made, that one is not
(10 R213). -/
def captureAccess (s : State) (req : Nat) (a : Access) : Served :=
  let last := a.pa + a.count - 1
  if !bankOn s (bankOf a.pa) then offAcc s 0
  else if bankOn s (bankOf last) then memAccess s req a
  else
    let n0 := 0x80000 - a.pa
    let first :=
      match a.kind with
      | .read => memRead s req a.pa n0
      | _ =>
        if (last + 1) % 16 = 0 then memWrite s req a.pa (a.data.take n0)
        else if a.pa % 16 = 0 then { st := s, cycles := 0, last := 0, data := some [] }
        else
          let r := readLine s req (a.pa / 16)
          { st := r.1, cycles := 1 + extraCycles r.2, last := 0, data := if r.2.cls ≥ 2 then none else some [] }
    match first.data with
    | none => ofMem first
    | some _ => offAcc first.st first.cycles

/-- The port whose view a memory read of the register file has (12 R277). -/
def viewOf (ctx : Nat) : PortId := if ctx = 5 then .maint else if ctx = 6 then .chain else .host

/-- A read draws anew what the sectors of an abandoned erase hold (02 R43). -/
def drawNvm (s : State) (a n : Nat) : State :=
  if s.nvm.undef.any (fun r => decide (a < 0x820000 + r.1 + r.2) && decide (0x820000 + r.1 < a + n)) then nextFree s else s

/-- A local access by requester `req`, through context `ctx` (8: none), its region checked at step 5. -/
def localAccess (s : State) (req ctx : Nat) (a : Access) : Served :=
  match mapCheck a.kind a.pa a.count with
  | (none, c) => { st := s, cycles := 0, last := 0, status := stSegFault, cause := c, data := [] }
  | (some .capture, _) => captureAccess s req a
  | (some _, _) =>
    let k := cfgWords a.pa a.count
    match a.kind with
    | .read => { st := drawNvm s a.pa a.count, cycles := k, last := k - 1, status := stOk, cause := 0
                 data := (upto a.count).map (fun i => cfgByte s (viewOf ctx) (a.pa + i)) }
    | _ => { st := cfgPuts s a.pa a.data, cycles := k, last := k - 1, status := stOk, cause := 0, data := [] }

/-- The access can be made at once: its banks, where they are on, are READY; an NVM read waits for the end of an NVM
operation (R245, 10 R212). -/
def accessReady (s : State) (a : Access) : Bool :=
  match mapCheck a.kind a.pa a.count with
  | (some .capture, _) =>
    let ok (b : Nat) : Bool := !bankOn s b || bankReady s b
    ok (bankOf a.pa) && ok (bankOf (a.pa + a.count - 1))
  | (some .nvm, _) => s.nvm.op.isNone
  | _ => true

/-- The access is served through the Sideboard. -/
def usesSideboard (a : Access) : Bool :=
  match mapCheck a.kind a.pa a.count with
  | (some .capture, _) => true
  | _ => false

/-! ### Remote operations (R247, R254) -/

/-- The op byte of an MRQ. -/
def opByte (k : AccKind) : Byte :=
  match k with
  | .read => 0
  | .write => 1
  | .fetchAdd => 2
  | .swap => 3
  | .cmpSwap => 4

/-- The kind an op byte names. -/
def opKind (b : Byte) : Option AccKind :=
  match (b &&& 7).toNat with
  | 0 => some .read
  | 1 => some .write
  | 2 => some .fetchAdd
  | 3 => some .swap
  | 4 => some .cmpSwap
  | _ => none

/-- The payload of an MRQ. -/
def mrqPayload (a : Access) : List Byte :=
  opByte a.kind :: beBytes a.pa 3 ++ [BitVec.ofNat 8 a.count] ++
    (match a.kind with
     | .read => []
     | .write => a.data
     | .cmpSwap => beBytes a.op1.toNat 4 ++ beBytes a.op2.toNat 4
     | _ => beBytes a.op1.toNat 4)

/-- The access an MRQ's payload asks for. -/
def mrqAccess (p : List Byte) : Option Access :=
  match opKind (nth p 0 0) with
  | none => none
  | some k =>
    let d := p.drop 5
    some { kind := k, pa := ofBe ((p.drop 1).take 3)
           count := (match k with | .read => (nth p 4 0).toNat | .write => (nth p 4 0).toNat | _ => 4)
           data := (match k with | .write => d | _ => [])
           op1 := BitVec.ofNat 32 (ofBe (d.take 4)), op2 := BitVec.ofNat 32 (ofBe ((d.drop 4).take 4)) }

/-- PKT_TMO in ticks (04 PORT_CTRL; 0 acts as 1). -/
def pktTicks (s : State) : Nat := 8 * max 1 (fld (getReg s 0x200) 8 6)

/-- The operation is sent as one MRQ (R247); none when the link in its direction is not up. -/
def sendMrq (s : State) (u : RemoteUser) (a : Access) (chip : BitVec 2) (ctx va g : Nat) : Option State :=
  let d := sideTo s chip
  if linkReady s d then
    let p := takeLtag s
    let t := sendFrame p.1 { side := d, type := 3, dest := chip, src := ownPos s, ltag := p.2, payload := mrqPayload a }
    some { t with chain := { t.chain with remote := t.chain.remote ++
      [{ user := u, acc := a, chip := chip, side := d, ltag := p.2, ctx := ctx, va := va, g := g, ticks := pktTicks s, retry := false }] } }
  else none

end Sys2Proof.Machine
end

