-- ==== Sys2Proof/Machine/Hutch.lean ====
section
/-!
DEFINITION. The Hutch display engine (14 R308 to R332): states, timing, temperature banks, the levels of a row,
the panel bus, blink windows, rectangles, power-up, power-off and discharge, the frontlight, the crack test.
-/

namespace Sys2Proof.Machine

/-- The Hutch replaced. -/
def putHutch (s : State) (h : Hutch) : State := { s with hutch := h }

/-! ### Timing and formats (R311, R312) -/

/-- Bits per pixel of a DISP_CTRL word. -/
def bppOf (ctrl : Word) : Nat := match fld ctrl 2 2 with | 0 => 1 | 1 => 2 | _ => 4

/-- WIDTH and HEIGHT of a DISP_SIZE word. -/
def widthOf (w : Word) : Nat := fld w 8 9
def heightOf (w : Word) : Nat := fld w 0 8

/-- The timing of these words is valid (R311). -/
def timingOk (size clk htim vtim : Word) : Bool :=
  let n := fld clk 0 8 * fld htim 10 10 * fld vtim 10 10
  decide (fld htim 5 5 + fld htim 0 5 + widthOf size ≤ fld htim 10 10)
    && decide (fld vtim 5 5 + fld vtim 0 5 + heightOf size ≤ fld vtim 10 10)
    && decide (15 * n ≤ 24576000) && decide (24576000 ≤ 60 * n)

/-- The stored timing is valid. -/
def storedTimingOk (s : State) : Bool := timingOk (getReg s 0x801) (getReg s 0x802) (getReg s 0x803) (getReg s 0x804)

/-- PITCH in lines of the format in force. -/
def pitch (h : Hutch) : Nat := (widthOf h.size * bppOf h.ctrl + 127) / 128

/-- Virtual address of line `i` of row `y` of a buffer. -/
def bufLine (h : Hutch) (base : Word) (y i : Nat) : Nat := (base.toNat * 16 + 16 * pitch h * y + 16 * i) % 2 ^ 24

/-- The 4-bit index of pixel `x` in the bytes of a row. -/
def pixel (bpp : Nat) (row : List Byte) (x : Nat) : Nat :=
  let v := bitsOf (nth row (x * bpp / 8) 0).toNat (x * bpp % 8) bpp
  if bpp = 1 then 15 * v else if bpp = 2 then 5 * v else v

/-! ### Rectangles (R319, R320) -/

/-- A free slot. -/
def freeRect : Rect := { st := 0, x0 := 0, y0 := 0, w := 0, h := 0, age := 0, left := 0, row := 0, line := 0 }

/-- A slot. -/
def rectAt (h : Hutch) (i : Nat) : Rect := nth h.rects i freeRect

/-- Two rectangles share a pixel. -/
def overlaps (a b : Rect) : Bool :=
  decide (a.x0 < b.x0 + b.w) && decide (b.x0 < a.x0 + a.w) && decide (a.y0 < b.y0 + b.h) && decide (b.y0 < a.y0 + a.h)

/-- A pixel lies in a rectangle. -/
def inRect (r : Rect) (x y : Nat) : Bool :=
  decide (r.x0 ≤ x) && decide (x < r.x0 + r.w) && decide (r.y0 ≤ y) && decide (y < r.y0 + r.h)

/-- The pixel lies in a rectangle of one of the states `st`. -/
def inState (h : Hutch) (sts : List Nat) (x y : Nat) : Bool := h.rects.any (fun r => sts.contains r.st && inRect r x y)

/-- od frames of bank `b` (R320). -/
def odFrames (s : State) (b : Nat) : Nat := fld (getReg s 0x80A) (4 * b) 4

/-- The copy step under way is given up. -/
def dropCopy (s : State) : State :=
  dropEngine (withdrawReq (putHutch s { s.hutch with copying := none }) 3) [.rectRead, .rectWrite]

/-- The slot `i` ends in error (R322, R330). -/
def rectError (s : State) (i : Nat) : State :=
  let t := putHutch s { s.hutch with rects := setNth s.hutch.rects i freeRect }
  let u := if t.hutch.copying = some i then dropCopy t else t
  raise (orReg u 0x80E (2 ^ (12 + i))) srcDispErr

/-- Every held rectangle is freed with its ERR bit set. -/
def freeRects (s : State) : State :=
  (upto 4).foldl (fun t i => if (rectAt t.hutch i).st = 0 then t else rectError t i) s

/-- A rectangle accepted before slot `i`'s is held and overlaps it. -/
def blocked (h : Hutch) (i : Nat) : Bool :=
  (upto 4).any (fun j => let r := rectAt h j
    decide (r.st ≠ 0) && decide (r.age < (rectAt h i).age) && overlaps r (rectAt h i))

/-- A slot at a frame start (R320). -/
def rectFrame (s : State) (h0 : Hutch) (i : Nat) : Rect :=
  let r := rectAt h0 i
  if r.st = 2 then
    if r.left ≤ 1 then { r with st := 3, left := 0, row := 0, line := 0 } else { r with left := r.left - 1 }
  else if r.st = 1 ∧ !blocked h0 i then
    let k := odFrames s h0.bank
    { r with st := 2, left := k }
  else r

/-! ### Blink windows (R323, R324) -/

/-- The BLK register `k` of window `w`. -/
def blk (s : State) (w k : Nat) : Word := getReg s (0x820 + 4 * w + k)

/-- Window `w` is enabled. -/
def blkOn (s : State) (w : Nat) : Bool := bitAt (blk s w 0) 8

/-- Window `w` contains a pixel. -/
def blkHas (s : State) (w x y : Nat) : Bool :=
  let x0 := fld (blk s w 1) 8 9
  let y0 := fld (blk s w 1) 0 8
  decide (x0 ≤ x) && decide (x < x0 + fld (blk s w 2) 8 9) && decide (y0 ≤ y) && decide (y < y0 + fld (blk s w 2) 0 8)

/-- The place of frame `f` in window `w`'s period. -/
def blkPlace (s : State) (w : Nat) (f : Nat) : Nat := f % max 1 (fld (blk s w 3) 8 8)

/-- Window `w` is in its off phase in the present frame. -/
def blkOff (s : State) (w : Nat) : Bool := decide (blkPlace s w s.hutch.frame.toNat ≥ fld (blk s w 3) 0 8)

/-- Frames since the window's phase began. -/
def blkK (s : State) (w : Nat) : Nat :=
  let p := blkPlace s w s.hutch.frame.toNat
  if blkOff s w then p - fld (blk s w 3) 0 8 else p

/-- A waiting window's registers take their values at a frame start; a window that is newly enabled has no off phase
behind it. -/
def blkTake (s : State) (w : Nat) : State :=
  match nth s.hutch.blinkWait w none with
  | none => s
  | some vs =>
    let was := blkOn s w
    let t := setRegs s (0x820 + 4 * w) vs
    putHutch t { t.hutch with
      blinkWait := setNth t.hutch.blinkWait w none
      blinkOff := if was then t.hutch.blinkOff else setNth t.hutch.blinkOff w false }

/-- A window that does not lie within a panel is disabled (R322). -/
def blkFit (s : State) (w : Nat) : State :=
  let x1 := fld (blk s w 1) 8 9 + fld (blk s w 2) 8 9
  let y1 := fld (blk s w 1) 0 8 + fld (blk s w 2) 0 8
  if blkOn s w && (decide (x1 > widthOf s.hutch.size) || decide (y1 > heightOf s.hutch.size)) then
    setReg s (0x820 + 4 * w) (setFld (blk s w 0) 8 1 0)
  else s

/-- The frame that ends was an off phase of window `w`. -/
def blkPast (s : State) (w : Nat) : State :=
  if blkOn s w && blkOff s w then putHutch s { s.hutch with blinkOff := setNth s.hutch.blinkOff w true } else s

/-! ### Levels of a row (R313, R315, R316) -/

/-- od[b][p][n]. -/
def odLevel (s : State) (b p n : Nat) : Nat := (sget zeroByte s.od (256 * b + 16 * p + n)).toNat % 64

/-- The level of pixel (x, y) from its indices in the previous and current buffers (R315). -/
def level (s : State) (x y p n : Nat) : Nat :=
  let h := s.hutch
  let b := h.bank
  let q := if inState h [2, 3] x y then n else p
  let src := if inState h [2] x y then p else q
  match (upto 4).find? (fun w => blkOn s w && blkHas s w x y) with
  | some w =>
    let bi := fld (blk s w 0) 4 4
    let k := blkK s w
    if blkOff s w then (if k < odFrames s b then odLevel s b q bi else odLevel s b bi bi)
    else if k < odFrames s b ∧ nth h.blinkOff w false then odLevel s b bi q
    else odLevel s b src q
  | none => odLevel s b src q

/-- POL of pixel x of line y (R316). -/
def polOf (h : Hutch) (x y : Nat) : Bool :=
  let f := h.frame.toNat.testBit 0
  match fld h.ctrl 4 2 with
  | 0 => f
  | 1 => xor f (y.testBit 0)
  | _ => xor (xor f (y.testBit 0)) (x.testBit 0)

/-- PDAT of a level (R315). -/
def pdatOf (lvl : Nat) : Byte := BitVec.ofNat 8 (lvl * 4 + lvl / 16)

/-- The row that carries active line `y` (R310). -/
def lineRow (h : Hutch) (y : Nat) : Nat := fld h.vtim 5 5 + fld h.vtim 0 5 + y

/-- The active line that row `v` carries. -/
def activeLine (h : Hutch) (v : Nat) : Option Nat :=
  if lineRow h 0 ≤ v ∧ v < lineRow h (heightOf h.size) then some (v - lineRow h 0) else none

/-- The pixel that period `i` of an active row carries (R310). -/
def activePixel (h : Hutch) (i : Nat) : Option Nat :=
  let x0 := fld h.htim 5 5 + fld h.htim 0 5
  if x0 ≤ i ∧ i < x0 + widthOf h.size then some (i - x0) else none

/-- The bus in period `i` of row `v` of a frame (R310, R316). The pixels of an active row are those of the line last
refreshed; outside them POL holds the value for the row's first pixel. -/
def rowBus (h : Hutch) (v i : Nat) : PanelBus :=
  let px := (activeLine h v).bind (fun _ => activePixel h i)
  { pclk := true, pvs := decide (fld h.vtim 5 5 ≤ v), phs := decide (fld h.htim 5 5 ≤ i), xdis := h.xdis
    pdat := match px with
      | some x => pdatOf (nth h.levels x 0)
      | none => 0
    pol := match activeLine h v, px with
      | some y, some x => nth h.pols x (polOf h x y)
      | some y, none => polOf h 0 y
      | none, _ => Config.blankPol h.frame.toNat v }

/-- Frames run: CLEARING, RUN, and FALLING until its discharge. -/
def framesRun (h : Hutch) : Bool := h.st == 2 || h.st == 3 || (h.st == 4 && !h.discharging)

/-- The panel bus; none in high impedance (R308, 02 R48). Where no frame runs everything is low but XDIS and PRST, which
follow the power-up and the discharge (R326, R331). -/
def panelBus (s : State) (v i : Nat) : Option PanelBus :=
  let h := s.hutch
  if !outputsOn s 10 then none
  else if framesRun h then some (rowBus h v i)
  else some { pdat := 0, pclk := false, pvs := false, phs := false, pol := false, xdis := h.xdis }

/-- The row is driven with these levels. -/
def driveRow (s : State) (y : Nat) (ls : List Nat) : State :=
  putHutch s { s.hutch with levels := ls, pols := (upto ls.length).map (fun x => polOf s.hutch x y) }

/-- CLR_LVL. -/
def clrLevel (h : Hutch) : Nat := fld h.ctrl 8 6

/-- The row is driven with CLR_LVL. -/
def clearRow (s : State) (y : Nat) : State := driveRow s y (List.replicate (widthOf s.hutch.size) (clrLevel s.hutch))

/-- A row of RUN whose lines were all read: the previous buffer's row, and the current buffer's where it was read. -/
def showRow (s : State) (y : Nat) (prev cur : List Byte) : State :=
  let b := bppOf s.hutch.ctrl
  driveRow s y ((upto (widthOf s.hutch.size)).map (fun x => level s x y (pixel b prev x) (pixel b cur x)))

/-- A row fails (R318). -/
def failRow (s : State) (y : Nat) : State := raise (addReg (clearRow s y) 0x80F 1) srcDispErr

/-- Line y meets a rectangle in TRANSIT or COPY (R317). -/
def lineInRect (h : Hutch) (y : Nat) : Bool :=
  h.rects.any (fun r => (r.st == 2 || r.st == 3) && decide (r.y0 ≤ y) && decide (y < r.y0 + r.h))

/-- The reads of row `y` (R317). -/
def rowReads (h : Hutch) (y : Nat) : List LineAcc :=
  let rd (base : Word) : List LineAcc :=
    (upto (pitch h)).map (fun i => { ctx := 2, va := bufLine h base y i, count := 16, data := none, part := false })
  rd h.bufPrev ++ (if lineInRect h y then rd h.bufCur else [])

/-! ### Rectangle steps (R321) -/

/-- First and last line of a rectangle within a row. -/
def rectLines (h : Hutch) (r : Rect) : Nat × Nat :=
  let b := bppOf h.ctrl
  (r.x0 * b / 128, (r.x0 + r.w - 1) * b / 128)

/-- Lines of the next step: the first and how many. -/
def stepLines (h : Hutch) (r : Rect) : Nat × Nat :=
  let p := rectLines h r
  let l := p.1 + r.line
  (l, min 4 (p.2 + 1 - l))

/-- Bits of line `l` that belong to the rectangle: first and one past the last, within 0 to 128. -/
def rectBits (h : Hutch) (r : Rect) (l : Nat) : Nat × Nat :=
  let b := bppOf h.ctrl
  (max (r.x0 * b) (128 * l) - 128 * l, min ((r.x0 + r.w) * b) (128 * l + 128) - 128 * l)

/-- The line's edge falls inside a byte. -/
def splitsByte (p : Nat × Nat) : Bool := decide (p.1 % 8 ≠ 0) || decide (p.2 % 8 ≠ 0)

/-- A byte whose bits `lo` to `hi − 1` come from `a`, the others from `b`. -/
def mixByte (lo hi : Nat) (a b : Byte) : Byte :=
  let m := BitVec.ofNat 8 (2 ^ hi - 2 ^ lo)
  (a &&& m) ||| (b &&& ~~~m)

/-- The bytes that a partial write stores: the rectangle's bits from `cur`, the others of its first and last byte from
`old`. -/
def mergeLine (p : Nat × Nat) (cur old : List Byte) : Nat × List Byte :=
  let b0 := p.1 / 8
  let b1 := (p.2 + 7) / 8
  (b0, (upto (b1 - b0)).map (fun i =>
    let k := b0 + i
    mixByte (max p.1 (8 * k) - 8 * k) (min p.2 (8 * k + 8) - 8 * k) (nth cur k 0) (nth old k 0)))

/-- What line `i` of capture memory holds, corrected where it can be, without an access that counts. -/
def peekLine (s : State) (i : Nat) : List Byte := (classify i (lineBytes s i) (lineTag s i)).data

/-- The previous buffer's line as a partial write meets it; none where it is a peer's. -/
def oldLine (s : State) (va : Nat) : Option (List Byte) :=
  match translate s 3 .write va (va + 15) with
  | .at_ chip pa _ => if chip = ownPos s then some (peekLine s (pa / 16 % 65536)) else none
  | .fault _ _ => some []

/-- The reads of a step: the current buffer's lines; of a previous buffer at a peer also the lines whose edges fall
inside a byte, as part of its partial write (log entry 18). -/
def rectReads (s : State) (r : Rect) : List LineAcc :=
  let h := s.hutch
  let p := stepLines h r
  let y := r.y0 + r.row
  let ls := (upto p.2).map (p.1 + ·)
  let rd (base : Word) (part : Bool) (l : Nat) : LineAcc :=
    { ctx := 3, va := bufLine h base y l, count := 16, data := none, part := part }
  ls.map (rd h.bufCur false)
    ++ (ls.filter (fun l => splitsByte (rectBits h r l) && (oldLine s (bufLine h h.bufPrev y l)).isNone)).map (rd h.bufPrev true)

/-- The writes of a step, from the lines read. -/
def rectWritesFrom (s : State) (r : Rect) (ls : List Nat) (cur more : List (List Byte)) : List LineAcc :=
  match ls, cur with
  | l :: ls', c :: cur' =>
    let h := s.hutch
    let va := bufLine h h.bufPrev (r.y0 + r.row) l
    let p := rectBits h r l
    if p = (0, 128) then { ctx := 3, va := va, count := 16, data := some c, part := false } :: rectWritesFrom s r ls' cur' more
    else
      let old := oldLine s va
      let need := splitsByte p && old.isNone
      let m := mergeLine p c (if need then more.headD [] else old.getD [])
      { ctx := 3, va := va + m.1, count := m.2.length, data := some m.2, part := true }
        :: rectWritesFrom s r ls' cur' (if need then more.tail else more)
  | _, _ => []

/-- The writes of a step. -/
def rectWrites (s : State) (r : Rect) (got : List (List Byte)) : List LineAcc :=
  let p := stepLines s.hutch r
  rectWritesFrom s r ((upto p.2).map (p.1 + ·)) (got.take p.2) (got.drop p.2)

/-- The slot whose copy goes on next: the one accepted first. -/
def copySlot (h : Hutch) : Option Nat :=
  (upto 4).foldl (fun o i =>
    if (rectAt h i).st = 3 then
      match o with
      | some j => if (rectAt h i).age < (rectAt h j).age then some i else o
      | none => some i
    else o) none

/-- A step of slot `i` has ended: the copy goes on, or the slot is freed with RECT_DONE. -/
def rectStepDone (s : State) (i : Nat) : State :=
  let h := s.hutch
  let r := rectAt h i
  let p := rectLines h r
  let line := r.line + 4
  let put (q : Rect) : State := putHutch s { h with copying := none, rects := setNth h.rects i q }
  if p.1 + line ≤ p.2 then put { r with line := line }
  else if r.row + 1 < r.h then put { r with line := 0, row := r.row + 1 }
  else raise (put freeRect) srcRectDone

/-! ### The frontlight (R328) -/

/-- The frontlight's request is withdrawn and the sink off. -/
def flDrop (s : State) : State :=
  { s with
    hutch := { s.hutch with flReq := false, flOn := false }
    power := { s.power with granted := setBit10 s.power.granted 8 false, refused := setBit10 s.power.refused 8 false } }

/-- The request is raised when EN is 1 and the engine is in RUN; MA and DUTY are latched. -/
def flRaise (s : State) : State :=
  let c := getReg s 0x810
  if bitAt c 16 && decide (s.hutch.st = 3) && !s.hutch.flReq then
    putHutch s { s.hutch with flReq := true, flMa := fld c 0 6, flDuty := fld c 8 8 }
  else s

/-- The sink is on in step `k` of the 255 of a PWM period (R328): the first DUTY of them (log entry 105). -/
def flStep (s : State) (k : Nat) : Bool := outputsOn s 10 && s.hutch.flOn && decide (k < s.hutch.flDuty)

/-- The request follows FL_CTRL as written. -/
def flFollow (s : State) : State := if bitAt (getReg s 0x810) 16 then flRaise s else flDrop s

/-- The grant of consumer 8 has been revoked: the sink is off and the request is raised again as new. -/
def flRevoked (s : State) : State :=
  let t := putHutch s { s.hutch with flReq := false, flOn := false }
  flRaise t

/-- FL_ON: the first PWM period after the grant is in force. -/
def flOnOp (s : State) : State :=
  if coreOn s && s.hutch.flReq && s.power.granted.getLsbD 8 then putHutch s { s.hutch with flOn := true } else s

/-! ### Power-up, power-off, discharge (R326 to R331) -/

/-- The engine enters FAULT (14, display interrupt bits). -/
def hutchFault (s : State) (cause : Nat) : State := raise (putHutch s { s.hutch with st := 5, cause := cause }) srcDispFault

/-- The discharge starts (R331): VCOM is driven to 0 V, XDIS is low, PCLK stops. -/
def startDischarge (s : State) (st after : Nat) : State :=
  let t := flDrop (freeRects s)
  dropEngine (withdrawReq (putHutch t { t.hutch with
    st := st, after := after, clearing := false, discharging := true, vcom := false, xdis := false }) 2) [.row]

/-- The power-up sequence begins (R326, R311). -/
def hutchUp (s : State) : State :=
  if !storedTimingOk s then hutchFault s 6
  else putHutch s { s.hutch with
    st := 1, phase := 0, xdis := false, clearing := false, discharging := false, offPending := false, after := 0
    railSet := getReg s 0x805 }

/-- The orderly power-off begins (R330): what follows its discharge is OFF, or FAULT with a cause. -/
def hutchDown (s : State) (after : Nat) : State :=
  let t := flDrop (freeRects s)
  dropEngine (withdrawReq (putHutch t { t.hutch with st := 4, after := after, clearing := false, discharging := false }) 2) [.row]

/-- The orderly power-off where it applies: RUN and CLEARING. In RISING no frame runs, and the discharge begins at once (R330,
R332; log entry 106); in FALLING and DISCHARGE the state goes on. -/
def hutchStop (s : State) : State :=
  if s.hutch.st = 2 ∨ s.hutch.st = 3 then hutchDown s 0 else if s.hutch.st = 1 then startDischarge s 4 0 else s

/-- AUTO powers the panel up (R326). -/
def hutchAuto (s : State) : State :=
  if bitAt (getReg s 0x800) 0 && domOn s 10 && decide (s.hutch.st = 0) && !s.hutch.offPending then hutchUp s else s

/-- The setting of a rail in mV (R325): 0 PAVDD, 1 VGL, 2 VGH, 3 VCOM. -/
def railSetting (h : Hutch) (rail : Nat) : Int :=
  match rail with
  | 0 => 5000
  | 1 => -6000 - 500 * (fld h.railSet 12 4 : Int)
  | 2 => 12000 + 500 * (fld h.railSet 16 4 : Int)
  | _ => 10 * signOf (fld h.railSet 0 10) 10

/-- A rail that stands at `mv` is good (R325). -/
def railGood (h : Hutch) (rail : Nat) (mv : Int) : Bool :=
  let off := ((mv - railSetting h rail).natAbs : Int)
  match rail with
  | 0 => decide (4500 ≤ mv)
  | 1 | 2 => decide (off * 10 ≤ ((railSetting h rail).natAbs : Int))
  | _ => decide (off ≤ 100)

/-- PAVDD_ON, VGL_ON, VGH_ON, VCOM_ON: the rails in turn. -/
def pavddOnOp (s : State) : State :=
  if domOn s 10 && s.hutch.st == 1 && s.hutch.phase == 0 then putHutch s { s.hutch with phase := 1, pavdd := true } else s
def vglOnOp (s : State) : State :=
  if domOn s 10 && s.hutch.st == 1 && s.hutch.phase == 1 then putHutch s { s.hutch with phase := 2, vgl := true } else s
def vghOnOp (s : State) : State :=
  if domOn s 10 && s.hutch.st == 1 && s.hutch.phase == 2 then putHutch s { s.hutch with phase := 3, vgh := true } else s
def vcomOnOp (s : State) : State :=
  if domOn s 10 && s.hutch.st == 1 && s.hutch.phase == 3 then putHutch s { s.hutch with phase := 4, vcom := true } else s

/-- The frame's settings are taken (R311, R322). -/
def frameSettings (s : State) : State :=
  let h := s.hutch
  let bufs : Hutch := { h with bufCur := getReg s 0x806, bufPrev := getReg s 0x807, railSet := getReg s 0x805 }
  let n : Hutch :=
    if storedTimingOk s then
      { bufs with
        timBad := false, ctrl := getReg s 0x800, size := getReg s 0x801, clk := getReg s 0x802
        htim := getReg s 0x803, vtim := getReg s 0x804 }
    else { bufs with timBad := true }
  let t := putHutch s n
  if n.size ≠ h.size ∨ bppOf n.ctrl ≠ bppOf h.ctrl ∨ n.bufCur ≠ h.bufCur ∨ n.bufPrev ≠ h.bufPrev then
    (upto 4).foldl blkFit (freeRects t)
  else t

/-- PANEL_START: frame 0 begins in CLEARING. -/
def panelStartOp (s : State) : State :=
  if domOn s 10 && s.hutch.st == 1 && s.hutch.phase == 4 then
    frameSettings ((upto 4).foldl blkTake (putHutch s { s.hutch with
      st := 2, xdis := true, frame := 0, row := 0, bank := s.hutch.bankNext, levels := [], pols := [] }))
  else s

/-- A new frame begins: its number and bank, the windows that have waited, then the settings, which a window taken with them
must fit (R311, R322, R323). -/
def newFrame (s : State) : State :=
  let s0 := (upto 4).foldl blkPast s
  frameSettings ((upto 4).foldl blkTake
    (putHutch s0 { s0.hutch with frame := s0.hutch.frame + 1, row := 0, bank := s0.hutch.bankNext }))

/-- The frame start itself. -/
def frameStartOp (s : State) : State :=
  if !domOn s 10 then s
  else if s.hutch.st = 4 then
    if s.hutch.discharging then s
    else if s.hutch.clearing then startDischarge s 4 s.hutch.after
    else
      let t := newFrame s
      putHutch t { t.hutch with clearing := true }
  else if s.hutch.st = 2 ∨ s.hutch.st = 3 then
    let s3 := newFrame s
    let h0 := s3.hutch
    let s4 := putHutch s3 { h0 with rects := (upto 4).map (rectFrame s3 h0) }
    if s4.hutch.st = 2 ∧ s4.hutch.frame = 2 then
      flRaise (raise (putHutch s4 { s4.hutch with st := 3 }) srcDispReady)
    else s4
  else s

/-- RAIL_FAULT (R326, R327): at a check of the power-up, or for 1 ms, the rail stands at `mv`, outside its good range. -/
def railFaultOp (s : State) (rail : Nat) (mv : Int) : State :=
  let h := s.hutch
  let up := if rail = 0 then h.pavdd else if rail = 1 then h.vgl else if rail = 2 then h.vgh else h.vcom
  if !domOn s 10 || !up || railGood h rail mv then s
  else if h.st = 1 then startDischarge s 6 (rail + 1)
  else if h.st = 2 ∨ h.st = 3 then startDischarge s 6 7
  else s

/-- CRACK_TEST (R329): at the start of a power-up, or in RUN; the loop has `ohms`. -/
def crackTestOp (s : State) (ohms : Nat) : State :=
  let h := s.hutch
  let cracked := decide (2000 ≤ ohms)
  if !domOn s 10 then s
  else if h.st = 1 ∧ h.phase = 0 then
    let t := putHutch s { h with crack := cracked }
    if cracked then hutchFault t 5 else t
  else if h.st = 3 then
    let t := putHutch s { h with crack := cracked }
    if cracked then hutchDown t 5 else t
  else s

/-- DISCHARGE: 1,000 µs into the discharge the pumps stop and the rails are discharged. -/
def dischargeOp (s : State) : State :=
  if s.hutch.discharging then putHutch s { s.hutch with pavdd := false, vgl := false, vgh := false } else s

/-- DISCHARGE_END: the engine is OFF or in FAULT; in GASP stage 3 has ended (02 R43, R47). -/
def dischargeEndOp (s : State) : State :=
  if s.hutch.discharging then
    let h := s.hutch
    let t := putHutch s { h with
      st := if h.after = 0 then 0 else 5, cause := if h.after = 0 then h.cause else h.after
      discharging := false, clearing := false, pavdd := false, vgl := false, vgh := false, vcom := false }
    let u := raiseIf (decide (h.after ≠ 0)) srcDispFault t
    if u.seq.st = .gasp ∧ u.power.gaspPanelStarted then
      orReg { u with power := { u.power with gaspPanelEnded := true } } 0x118 8
    else u
  else s

/-! ### Temperature (R314) -/

/-- A 6-bit signed threshold in units of 2 °C. -/
def tbank (s : State) (k : Nat) : Int := 2 * signOf (fld (getReg s 0x809) (6 * k) 6) 6

/-- How many of the three thresholds are at or below `t`. -/
def tCount (s : State) (t : Int) : Nat := ((upto 3).filter (fun k => decide (tbank s k ≤ t))).length

/-- DISP_TEMP_READ: the panel temperature is taken and the bank for the next frame start decided. -/
def dispTempOp (s : State) (tc : Int) : State :=
  if !coreOn s || !domOn s 10 then s
  else
    let c := getReg s 0x808
    let t := if bitAt c 4 then asr (regI s (0x320 + fld c 0 4)) 10 else tc
    let u := tCount s t
    let d := tCount s (t + 2)
    let b := s.hutch.bank
    putHutch s { s.hutch with temp := t, bankNext := if u > b then u else if d < b then d else b }

/-! ### The opcodes' part (R319, R323, R326, R330) -/

/-- DISP_RECT in its landing cycle: state, status and slot. -/
def dispRectOp (s : State) (x0 y0 w ht : Nat) : State × Nat × Nat :=
  let h := s.hutch
  if h.st ≠ 3 ∨ !domOn s 10 then (s, stBusy, 0)
  else
    match (upto 4).find? (fun i => (rectAt h i).st == 0) with
    | none => (s, stBusy, 0)
    | some i =>
      let r : Rect := { freeRect with st := 1, x0 := x0, y0 := y0, w := w, h := ht, age := h.ageNext }
      let lap := (upto 4).any (fun j => decide ((rectAt h j).st ≠ 0) && overlaps (rectAt h j) r)
      (putHutch s { h with rects := setNth h.rects i r, ageNext := h.ageNext + 1 }, if lap then stRectWait else stOk, i)

/-- DISP_RECT's parameters are in range: within the panel in force (R86). -/
def rectOk (s : State) (x0 y0 w ht : Nat) : Bool :=
  decide (1 ≤ w) && decide (w ≤ 320) && decide (1 ≤ ht) && decide (ht ≤ 240) && decide (x0 + w ≤ widthOf s.hutch.size)
    && decide (y0 + ht ≤ heightOf s.hutch.size)

/-- DISP_BLINK's six fields are in range (R323). -/
def blinkOk (s : State) (f : List Nat) : Bool :=
  let g (i : Nat) : Nat := nth f i 0
  decide (f.length = 6) && decide (bitsOf (g 0) 2 2 = 0) && decide (g 0 < 512) &&
    (!(g 0).testBit 8 ||
      (decide (1 ≤ g 3) && decide (g 3 ≤ 320) && decide (1 ≤ g 4) && decide (g 4 ≤ 240)
        && decide (g 1 + g 3 ≤ widthOf s.hutch.size) && decide (g 2 + g 4 ≤ heightOf s.hutch.size)
        && decide (g 5 < 65536) && decide (2 ≤ g 5 / 256) && decide (1 ≤ g 5 % 256) && decide (g 5 % 256 < g 5 / 256)))

/-- DISP_BLINK in its landing cycle (R323). -/
def dispBlinkOp (s : State) (f : List Nat) : State × Nat :=
  let g (i : Nat) : Nat := nth f i 0
  let w := g 0 % 4
  if (nth s.hutch.blinkWait w none).isSome then (s, stBusy)
  else
    let ctrl := wd (g 0 / 16 * 16)
    let vs := if (g 0).testBit 8 then [ctrl, wd (g 1 * 256 + g 2), wd (g 3 * 256 + g 4), wd (g 5)] else [ctrl]
    (putHutch s { s.hutch with blinkWait := setNth s.hutch.blinkWait w (some vs) }, stOk)

/-- DISP_POWER 1 (R326). -/
def dispUpOp (s : State) : State × Nat :=
  let st := s.hutch.st
  if !domOn s 10 then (s, stBusy)
  else if st = 0 ∨ st = 5 then (hutchUp s, stOk)
  else if st = 3 then (s, stOk)
  else (s, stBusy)

/-- DISP_POWER 0 (R330). -/
def dispDownOp (s : State) : State × Nat :=
  let st := s.hutch.st
  if st = 0 ∨ st = 5 then (s, stOk)
  else if st = 2 ∨ st = 3 then (hutchDown s 0, stOk)
  else (s, stBusy)

end Sys2Proof.Machine
end

