-- ==== Sys2Proof/Machine/Service.lean ====
section
/-!
DEFINITION. Serving the Sideboard's requests (10 R227 to R232): the line accesses of the part's own engines (09 R199,
R209; 12 R273; 14 R317, R321), the memory operations of the ports (04 R85, 11 R238) and of peers (11 R248, R249), and
the end of a remote operation (11 R247).
-/

namespace Sys2Proof.Machine

/-! ### What an engine does with memory -/

/-- The Sideboard requester of an engine. -/
def engineReq (e : Engine) : Nat :=
  match e with
  | .capture => 0
  | .harmonic => 1
  | .row => 2
  | .rectRead => 3
  | .rectWrite => 3
  | .stage => 7
  | .fetch => 7

/-- A write of one full line. -/
def lineWrite (ctx va : Nat) (d : List Byte) : LineAcc := { ctx := ctx, va := va, count := d.length, data := some d, part := false }

/-- A read of one full line. -/
def lineRead (ctx va : Nat) : LineAcc := { ctx := ctx, va := va, count := 16, data := none, part := false }

/-- Virtual address of place `j` of the staging ring (12 R273). -/
def stageAt (s : State) (j : Nat) : Nat := (s.bureau.stageBase * 16 + 32 * (j % max 1 s.bureau.stageLen)) % 2 ^ 24

/-- A staged record is to be fetched: a held place is free. -/
def fetchDue (s : State) : Bool := decide (s.bureau.queue.length < 4) && !s.bureau.staged.isEmpty

/-- The accesses of an operation of one of the part's own engines, and what those before them have read. -/
def program (s : State) (op : MemOp) : Engine × List LineAcc × List (List Byte) :=
  match op with
  | .capture => (.capture, s.cap.queue.map (fun l => lineWrite 0 l.va l.bytes), [])
  | .harmonic =>
    match s.harm.copy with
    | some c => (.harmonic, mapIx (fun k b => lineWrite 1 ((c.base + 16 * (if k = 113 then 0 else k)) % 2 ^ 24) b) c.blocks, [])
    | none => (.harmonic, [], [])
  | .row => (.row, rowReads s.hutch s.hutch.row, [])
  | .rect =>
    match s.hutch.copying with
    | some i => (.rectRead, rectReads s (rectAt s.hutch i), [])
    | none => (.rectRead, [], [])
  | .stage =>
    if fetchDue s then
      let va := stageAt s s.bureau.stageHead
      (.fetch, [lineRead 7 va, lineRead 7 (va + 16)], [])
    else
      match s.bureau.toStage with
      | r :: _ =>
        let va := stageAt s (s.bureau.stageHead + s.bureau.staged.length)
        let d := recBytes r
        (.stage, [lineWrite 7 va (d.take 16), lineWrite 7 (va + 16) (d.drop 16), lineRead 7 va, lineRead 7 (va + 16)], [])
      | [] => (.stage, [], [])
  | .rest e todo got => (e, todo, got)
  | .port _ _ _ _ _ _ => (.capture, [], [])
  | .remote _ _ _ _ => (.capture, [], [])

/-- One line access of an engine has been made. -/
def lineDone (s : State) (e : Engine) : State :=
  match e with
  | .capture =>
    match s.cap.queue with
    | l :: r => { s with cap := { s.cap with queue := r, written := s.cap.written || l.last } }
    | [] => s
  | .harmonic => { s with harm := { s.harm with copy := s.harm.copy.map (fun c => { c with step := c.step + 1 }) } }
  | _ => s

/-- The access of a line, at a local address. -/
def lineAccess (a : LineAcc) (pa : Nat) : Access :=
  match a.data with
  | some d => { kind := .write, pa := pa, count := a.count, data := d, op1 := 0, op2 := 0 }
  | none => { kind := .read, pa := pa, count := a.count, data := [], op1 := 0, op2 := 0 }

/-- The kind of a line access as it asks for a right (11 R239): the read of a partial write needs none of its own. -/
def lineKind (a : LineAcc) : AccKind := if a.data.isSome || a.part then .write else .read

/-- How a program of line accesses stops: all made, with the data read; failed (1 refused, 2 chain); waiting for a peer; or
at a line that needs a grant of the Sideboard. -/
inductive Ran where
  | done (got : List (List Byte))
  | failed (cause : Nat)
  | waits
  | board (todo : List LineAcc) (got : List (List Byte))
  deriving DecidableEq, Repr

/-- A line access of an engine at this chip, and the corrected line that is to be written back after the last read of the
grant (10 R217, R218). -/
def lineServe (s : State) (req : Nat) (a : LineAcc) (pa : Nat) : Served × List (Nat × List Byte) :=
  if !usesSideboard (lineAccess a pa) || !bankOn s (bankOf pa) then (localAccess s req a.ctx (lineAccess a pa), [])
  else
    match a.data with
    | none =>
      let p := readLine s req (pa / 16)
      ({ st := p.1, cycles := 1 + extraCycles p.2, last := 0, status := if p.2.cls ≥ 2 then stMemPoison else stOk, cause := 0
         data := if p.2.cls ≥ 2 then [] else (p.2.data.drop (pa % 16)).take a.count },
       if p.2.cls = 1 then [(pa / 16, p.2.data)] else [])
    | some d =>
      (if a.part && decide (d.length = 16) then ofMem (memMerge s req pa d) else localAccess s req a.ctx (lineAccess a pa), [])

/-- A write-back joins those that are due, in ascending address order. -/
def joinBack (w : Nat × List Byte) : List (Nat × List Byte) → List (Nat × List Byte)
  | [] => [w]
  | v :: r => if w.1 ≤ v.1 then w :: v :: r else v :: joinBack w r

/-- The line accesses of engine `e` in turn, each translated by itself (11 R238): the state, the cycles of the grant, and
how they stopped. Without a grant (`grant` false) they stop at the first line of capture memory of this chip; a line of
the configuration path takes no cycle of a grant (11 R245). `back`: the write-backs due after the last read. -/
def runLines (s : State) (e : Engine) (grant : Bool) : List LineAcc → List (List Byte) → List (Nat × List Byte) →
    State × Nat × Ran
  | [], got, back => (writeBacks s back, 0, .done got)
  | a :: r, got, back =>
    match translate s a.ctx (lineKind a) a.va (a.va + a.count - 1) with
    | .fault c g =>
      (segFault (lookupTime (writeBacks s back) a.ctx (a.va / 16)).1 a.ctx a.va (lineKind a) c g, 0, .failed 1)
    | .at_ chip pa g =>
      let t := (lookupTime s a.ctx (a.va / 16)).1
      if chip = ownPos s then
        let b := usesSideboard (lineAccess a pa)
        if (b && !grant) || !accessReady s (lineAccess a pa) then (writeBacks s back, 0, .board (a :: r) got)
        else
          let p := lineServe t (engineReq e) a pa
          let k := if b then p.1.cycles else 0
          let wb := p.2.foldr joinBack back
          if p.1.status = stOk then
            let q := runLines (lineDone p.1.st e) e grant r (if a.data.isSome then got else got ++ [p.1.data]) wb
            (q.1, k + q.2.1, q.2.2)
          else if p.1.status = stSegFault then
            (segFault (writeBacks p.1.st wb) a.ctx a.va (lineKind a) p.1.cause (some g), k, .failed 1)
          else (writeBacks p.1.st wb, k, .failed 1)
      else
        match sendMrq (writeBacks t back) (.engine e r got) (lineAccess a pa) chip a.ctx a.va g with
        | some u => (u, 0, .waits)
        | none => (writeBacks t back, 0, .failed 2)

/-- The panel's next row. -/
def nextRow (s : State) : State := putHutch s { s.hutch with row := s.hutch.row + 1 }

/-- Records on their way to staging are lost when it stops. -/
def loseToStage (s : State) : State :=
  s.bureau.toStage.foldl (fun t _ => recLost t) { s with bureau := { s.bureau with toStage := [] } }

/-- Requester 7 has more to do. -/
def stageMore (s : State) : State := if fetchDue s || !s.bureau.toStage.isEmpty then raiseReq s 7 .stage else s

/-- The oldest staged record leaves the ring. -/
def unstage (s : State) : State :=
  { s with bureau := { s.bureau with staged := s.bureau.staged.tail, stageHead := s.bureau.stageHead + 1 } }

/-- An engine's operation has failed (09 R199, R210; 12 R273; 14 R318, R322). -/
def engineFail (s : State) (e : Engine) (cause : Nat) : State :=
  match e with
  | .capture =>
    if s.cap.st = 1 ∨ s.cap.st = 2 then capFault s 2 else { s with cap := { s.cap with queue := [] } }
  | .harmonic => harmFault { s with harm := { s.harm with copy := none } } cause
  | .row => nextRow (failRow s s.hutch.row)
  | .rectRead => match s.hutch.copying with | some i => rectError s i | none => s
  | .rectWrite => match s.hutch.copying with | some i => rectError s i | none => s
  | .stage =>
    stageMore (loseToStage { s with bureau := { s.bureau with stageFault := true } })
  | .fetch =>
    stageMore (loseToStage (recLost { unstage s with bureau := { (unstage s).bureau with stageFault := true } }))

/-- An engine's operation has ended, for those that need no further access. -/
def engineEnd (s : State) (e : Engine) (got : List (List Byte)) : State :=
  match e with
  | .capture => if s.cap.queue.isEmpty then s else raiseReq s 0 .capture
  | .harmonic => { s with harm := { s.harm with copy := none } }
  | .row =>
    let n := pitch s.hutch
    nextRow (showRow s s.hutch.row (got.take n).flatten (got.drop n).flatten)
  | .rectRead => s
  | .rectWrite => match s.hutch.copying with | some i => rectStepDone s i | none => s
  | .stage =>
    match s.bureau.toStage with
    | r :: rest =>
      if got.flatten = recBytes r then
        stageMore { s with bureau := { s.bureau with toStage := rest, staged := s.bureau.staged ++ [r] } }
      else engineFail s .stage 1
    | [] => s
  | .fetch =>
    match parseRec got.flatten with
    | some r => stageMore { unstage s with bureau := { (unstage s).bureau with queue := s.bureau.queue ++ [r] } }
    | none => engineFail s .fetch 1

/-- What follows the accesses of an engine. -/
def engineResult (p : State × Nat × Ran) (e : Engine) : State × Nat :=
  match p.2.2 with
  | .waits => (p.1, p.2.1)
  | .failed c => (engineFail p.1 e c, p.2.1)
  | .done got => (engineEnd p.1 e got, p.2.1)
  | .board todo got => (raiseReq p.1 (engineReq e) (.rest e todo got), p.2.1)

/-- An engine's operation, under a grant or not: state and cycles. A rectangle step that has read goes on with its
writes. -/
def runEngine (s : State) (e : Engine) (grant : Bool) (l : List LineAcc) (got : List (List Byte)) : State × Nat :=
  let p := runLines s e grant l got []
  match e, p.2.2 with
  | .rectRead, .done d =>
    match p.1.hutch.copying with
    | some i =>
      let q := engineResult (runLines p.1 .rectWrite grant (rectWrites p.1 (rectAt p.1.hutch i) d) [] []) .rectWrite
      (q.1, p.2.1 + q.2)
    | none => (p.1, p.2.1)
  | _, _ => engineResult p e

/-! ### Ports and peers -/

/-- The result fields of a memory operation (04 R86, R88). -/
def memFields (a : Access) (d : List Byte) : List Field :=
  match a.kind with
  | .read => packFields 80 d
  | .write => []
  | _ => wordFields (ofLe d)

/-- A port's access at this chip comes to its reply, ready 8 c after its last access or its refusal (04 R85): in capture
memory from the cycle that the grant has begun in, on the configuration path after the lookup. -/
def portServe (s : State) (w : Waiting) (a : Access) (ctx va g look : Nat) : State × Nat :=
  let v := localAccess s (portReq w.land.port) ctx a
  let t := if v.status = stSegFault then segFault v.st ctx va a.kind v.cause (some g) else v.st
  let c := if usesSideboard a then s.mem.busy else min s.seq.cycle 6143 + look
  (finishAt t w (c + v.last) v.status (if v.status = stOk then memFields a v.data else []), v.cycles)

/-- An MRS (11 R254). -/
def sendMrs (s : State) (side : Side) (dest : BitVec 2) (ltag : Byte) (status cause : Nat) (d : List Byte) : State :=
  sendFrame s { side := side, type := 4, dest := dest, src := ownPos s, ltag := ltag
                payload := BitVec.ofNat 8 status :: BitVec.ofNat 8 cause :: d }

/-- The data of an MRS: data read in ascending order, the old word of an atomic most significant byte first. -/
def mrsData (a : Access) (d : List Byte) : List Byte :=
  match a.kind with
  | .read => d
  | .write => []
  | _ => d.reverse

/-- A peer's access, checked and passed, comes to its MRS. -/
def remoteServe (s : State) (a : Access) (side : Side) (src : BitVec 2) (ltag : Byte) : State × Nat :=
  let v := localAccess s 6 8 a
  (sendMrs v.st side src ltag v.status (if v.status = stSegFault then v.cause else 0)
    (if v.status = stOk then mrsData a v.data else []), v.cycles)

/-- An operation is carried out under its grant: state and cycles. -/
def serveOp (s : State) (op : MemOp) : State × Nat :=
  match op with
  | .port w a ctx va g look => portServe s w a ctx va g look
  | .remote a side src ltag => remoteServe s a side src ltag
  | _ =>
    let p := program s op
    runEngine s p.1 true p.2.1 p.2.2

/-! ### Which request is served -/

/-- An engine of requester `r` waits for a peer. -/
def engineAway (s : State) (r : Nat) : Bool :=
  s.chain.remote.any (fun q => match q.user with
    | .engine e _ _ => engineReq e == r
    | .port _ => false)

/-- A line access does not wait for a bank that is being initialised (10 R212). -/
def lineReady (s : State) (a : LineAcc) : Bool :=
  match translate s a.ctx (lineKind a) a.va (a.va + a.count - 1) with
  | .fault _ _ => true
  | .at_ chip pa _ => decide (chip ≠ ownPos s) || accessReady s (lineAccess a pa)

/-- The operation can be made now. -/
def opReady (s : State) (q : Req) : Bool :=
  match q.op with
  | .port _ a _ _ _ _ => accessReady s a
  | .remote a _ _ _ => accessReady s a
  | op => !engineAway s q.r && (program s op).2.1.all (lineReady s)

/-- The operation begins without a grant: its first line is refused, is held by a peer (11 R247), or lies on the
configuration path (11 R245). -/
def opAway (s : State) (q : Req) : Bool :=
  match q.op with
  | .port _ _ _ _ _ _ => false
  | .remote _ _ _ _ => false
  | op =>
    match (program s op).2.1 with
    | a :: _ =>
      match translate s a.ctx (lineKind a) a.va (a.va + a.count - 1) with
      | .fault _ _ => true
      | .at_ chip pa _ => decide (chip ≠ ownPos s) || !usesSideboard (lineAccess a pa)
    | [] => false

/-- The requests that a decision of the Sideboard can name: those that wait for a bank or a peer keep waiting (10 R212);
one that has been withdrawn may still be named (10 R230). -/
def candidates (s : State) : List Req := s.mem.reqs.filter (fun q => q.gone || (opReady s q && !opAway s q))

/-- The next request that a decision of the Sideboard names, and the cycle it is to own (10 R229): none while FREEZE is 1
(10 R232) or when that cycle lies beyond this tick. -/
def winner (s : State) : Option (Req × Nat) :=
  let l := candidates s
  if boardUp s && !frozen s then
    match leastOf (l.map (firstOwn s)) with
    | some c =>
      if c < 6144 then (bestReq s c (l.filter (fun q => decide (firstOwn s q ≤ c)))).map (fun q => (q, c)) else none
    | none => none
  else none

/-- A request has been served from cycle `c` on for `k` cycles: it owns them, and one it has raised meanwhile is visible
after them. -/
def ownedUntil (s : State) (r c k : Nat) : State :=
  let t := boardTo { s with mem := { s.mem with reqs := s.mem.reqs.map (fun q =>
    if q.r = r then { q with at_ := c + k, wait := 0, starve := 0 } else q) } } (c + k)
  { t with mem := { t.mem with owner := some r } }

/-- Cycle `c` is dead: the requester named for it has withdrawn (10 R230). The next decision leaves it out. -/
def deadCycle (s : State) (r c : Nat) : State :=
  let t := boardTo (addReg s 0x624 1) (c + 1)
  { t with mem := { t.mem with owner := some r } }

/-- A write on the configuration path that begins after cycle `c`, one word a cycle: the part whose words fall in the present
tick, and the rest, where it spans the boundary (07 R164, 11 R245). -/
def splitWrite (a : Access) (c : Nat) : Option (Access × Access) :=
  let k := 6143 - c
  if a.kind = .write ∧ k < cfgWords a.pa a.count then
    let b := 4 * (a.pa / 4 + k) - a.pa
    some ({ a with count := b, data := a.data.take b }, { a with pa := a.pa + b, count := a.count - b, data := a.data.drop b })
  else none

/-- The operation with another access. -/
def MemOp.withAccess (op : MemOp) (a : Access) : MemOp :=
  match op with
  | .port w _ ctx va g look => .port w a ctx va g look
  | .remote _ side src ltag => .remote a side src ltag
  | o => o

/-- The operation waits. -/
def holdOp (s : State) (op : MemOp) : State := { s with ports := { s.ports with held := s.ports.held ++ [op] } }

/-- An access on the configuration path is made at once, the words of a write that lie beyond the boundary in the next tick;
one to capture memory raises its request in cycle `c`; one that cannot begin yet is held. -/
def placeOp (s : State) (r : Nat) (op : MemOp) (a : Access) (c : Nat) : State :=
  if usesSideboard a then (if requesting s r then holdOp s op else raiseAt s r op c)
  else if accessReady s a then
    match splitWrite a c with
    | some (b, d) => holdOp (cfgPuts s b.pa b.data) (op.withAccess d)
    | none => (serveOp s op).1
  else holdOp s op

/-- Requester and access of a held operation. -/
def heldParts (op : MemOp) : Option (Nat × Access) :=
  match op with
  | .port w a _ _ _ _ => some (portReq w.land.port, a)
  | .remote a _ _ _ => some (6, a)
  | _ => none

/-- Held operations begin as soon as they can: after an NVM operation (11 R245), when requester 6 is free, and at the start
of a tick. -/
def releaseHeld (s : State) : State :=
  s.ports.held.foldl (fun t op =>
    match heldParts op with
    | some (r, a) => placeOp t r op a (max t.seq.cycle t.mem.busy)
    | none => t) { s with ports := { s.ports with held := [] } }

/-- Cycle `c` is decided for request `q`: it is dead when the request has gone, else the request is served in it and is
absent from then on. -/
def grantReq (s : State) (q : Req) (c : Nat) : State :=
  let t := forgetGone (idleTo s c)
  if q.gone then deadCycle t q.r c
  else
    let p := serveOp (endReq t q.r) q.op
    let u := ownedUntil p.1 q.r c p.2
    if q.r = 6 then releaseHeld u else u

/-- The first request that needs no grant is carried out. -/
def serveAway (s : State) : Option State :=
  match s.mem.reqs.find? (fun q => !q.gone && boardUp s && opReady s q && opAway s q) with
  | some q =>
    let p := program s q.op
    some (runEngine (endReq s q.r) p.1 false p.2.1 p.2.2).1
  | none => none

/-- Requester `r` is granted when it is the one to be granted next. -/
def serveIf (s0 : State) (r : Nat) : State :=
  let s := (serveAway s0).getD s0
  match winner s with
  | some q => if q.1.r = r then grantReq s q.1 q.2 else s
  | none => s

/-- MEMORY_REQUEST: the Sideboard grants requester `r`, or meets its withdrawal. -/
def memoryRequestOp (s : State) (r : Nat) : State := if boardUp s then serveIf s r else s

/-- SCRUB_STEP: what the scrub engine does with the cycle that the Sideboard has reached, when no grant is decided for it:
what is due to be written, else the next step. -/
def scrubStepOp (s : State) : State :=
  let taken := match winner s with | some q => decide (q.2 ≤ s.mem.busy) | none => false
  if boardUp s && !frozen s && !taken && decide (s.mem.busy < 6144) && scrubWork s then scrubCycle s else s

/-! ### The receiving end (11 R248, R249) -/

/-- The bit of CHAIN_ACCEPT_CTRL that an access needs. -/
def acceptBit (k : AccKind) : Nat := kindCode k

/-- The in-force CHAIN_ACCEPT fields accept the access. -/
def accepts (s : State) (src : BitVec 2) (a : Access) : Bool :=
  let ctrl := forceReg s 0x694
  let base := (forceReg s 0x692).toNat
  bitAt ctrl (4 + src.toNat) && decide (base ≤ a.pa / 16)
    && decide ((a.pa + a.count - 1) / 16 ≤ base + (forceReg s 0x693).toNat) && bitAt ctrl (acceptBit a.kind)

/-- A request refused at R249. -/
def rejectMrq (s : State) (side : Side) (src : BitVec 2) (ltag : Byte) (a : Access) : State :=
  let t := setReg (setReg (addReg s 0x698 1) 0x699 (wd (src.toNat * 16 + kindCode a.kind))) 0x69A (wd (a.pa / 16))
  sendMrs (raise t srcChainReject) side src ltag stSegFault 6 []

/-- The oldest held MRQ is taken for service: checked, and passed on as requester 6. An op that is none of R254's is
refused as a kind the map does not know. -/
def takeMrq (s : State) : State :=
  match s.chain.mrqs with
  | [] => s
  | (side, src, ltag, p) :: rest =>
    let t : State := { s with chain := { s.chain with mrqs := rest } }
    match mrqAccess p with
    | none => sendMrs t side src ltag stSegFault 5 []
    | some a =>
      if !accepts t src a then rejectMrq t side src ltag a
      else
        match mapCheck a.kind a.pa a.count with
        | (none, c) => sendMrs t side src ltag stSegFault c []
        | (some _, _) => placeOp t 6 (.remote a side src ltag) a (max t.seq.cycle t.mem.busy)

/-- The oldest held MRQ waits for the end of an NVM operation (11 R245); those behind it wait with it (R248). -/
def mrqWaits (s : State) : Bool :=
  match s.chain.mrqs with
  | (_, src, _, p) :: _ =>
    match mrqAccess p with
    | some a => accepts s src a && !usesSideboard a && !accessReady s a
    | none => false
  | [] => false

/-- A held operation is a peer's, whose words go on in the next tick. -/
def isRemote (op : MemOp) : Bool :=
  match op with
  | .remote _ _ _ _ => true
  | _ => false

/-- Requester 6 can take the oldest held MRQ. -/
def mrqDue (s : State) : Bool :=
  portsUp s && !s.chain.mrqs.isEmpty && !requesting s 6 && !mrqWaits s && !s.ports.held.any isRemote

/-- MRQ_SERVICE. -/
def mrqServiceOp (s : State) : State := if mrqDue s then serveIf (takeMrq s) 6 else s

/-! ### The end of a remote operation (11 R247) -/

/-- A port's operation is answered by a peer, or given up. -/
def portRemote (s : State) (w : Waiting) (q : Remote) (status cause : Nat) (d : List Byte) : State :=
  let t := if status = stSegFault then segFault s q.ctx q.va q.acc.kind cause (some q.g) else s
  let fs := if status = stOk then
      (match q.acc.kind with
       | .read => packFields 80 (d.take q.acc.count)
       | .write => []
       | _ => wordFields (ofBe (d.take 4)))
    else []
  finish t w status fs

/-- An engine's line has been answered by a peer, or given up: the engine goes on, or fails. -/
def engineRemote (s : State) (e : Engine) (todo : List LineAcc) (got : List (List Byte)) (q : Remote)
    (status cause : Nat) (d : List Byte) : State :=
  if status = stOk then
    (runEngine (lineDone s e) e false todo (if q.acc.kind = .read then got ++ [d.take q.acc.count] else got)).1
  else
    let t := if status = stSegFault then segFault s q.ctx q.va q.acc.kind cause (some q.g) else s
    engineFail t e (if status = stChainDown ∨ status = stTimeout then 2 else 1)

/-- The remote operation `q` ends with a status. -/
def endRemote (s : State) (q : Remote) (status cause : Nat) (d : List Byte) : State :=
  let t : State := { s with chain := { s.chain with remote := s.chain.remote.filter (fun r => decide (r ≠ q)) } }
  match q.user with
  | .port w => portRemote t w q status cause d
  | .engine e todo got => engineRemote t e todo got q status cause d

/-! ### A port's memory opcode lands (04 R85, 11 R237, R238) -/

/-- MEM_RD, MEM_WR or MEM_ATOM in its landing tick: `a` holds the virtual address. -/
def memStart (s0 : State) (l : Land) (opc : Nat) (a : Access) : State :=
  let w := waitOf s0 l opc
  let ctx := portReq l.port
  let va := a.pa
  let p := lookupTime s0 ctx (va / 16)
  let s := p.1
  let at_ := min s.seq.cycle 6143
  match translate s ctx a.kind va (va + a.count - 1) with
  | .fault c g => answerAt (segFault s ctx va a.kind c g) l.port l.tag l.noreply stSegFault [] at_ (p.2 + 7)
  | .at_ chip pa g =>
    let b : Access := { a with pa := pa }
    if chip = ownPos s then
      match mapCheck b.kind b.pa b.count with
      | (none, c) =>
        answerAt (segFault s ctx va b.kind c (some g)) l.port l.tag l.noreply stSegFault [] at_ (p.2 + 7)
      | (some _, _) => placeOp (setBusy s w) (portReq l.port) (.port w b ctx va g p.2) b (at_ + p.2 - 1)
    else
      match sendMrq (setBusy s w) (.port w) b chip ctx va g with
      | some t => t
      | none => answerAt s l.port l.tag l.noreply stChainDown [] at_ (p.2 + 7)

/-! ### The tick's end -/

/-- Requests are served in the order of the arbitration rule, as far as their first cycle lies before cycle `c`. -/
def serveAll : Nat → State → Nat → State
  | 0, s, _ => s
  | n + 1, s0, c =>
    let s := if mrqDue s0 then takeMrq s0 else s0
    match serveAway s with
    | some t => serveAll n t c
    | none =>
      match winner s with
      | some q => if q.2 < c then serveAll n (grantReq s q.1 q.2) c else s
      | none => if mrqDue s then serveAll n s c else s

/-- The memory side as far as cycle `c`: what can be served before it is served. -/
def memTo (s : State) (c : Nat) : State := if boardUp s then idleTo (serveAll 400 s c) c else s

/-- The memory side of a tick that ends: what can be served is served, before and after a bank becomes READY in it (10
R212). -/
def memFlush (s : State) : State :=
  let one (t : State) (b : Nat) : State :=
    if bankInitDue t b then bankReadyNow (memTo t (32768 - nth t.mem.initCyc b 0)) b else t
  let t := bankInitTick (bankInitTick (one (one s 0) 1) 0) 1
  if boardUp t then serveAll 400 t 6144 else t

/-- A tick passes on the Sideboard: its last cycles are counted (10 R228), and a grant that goes beyond it goes on. -/
def boardPass (s : State) : State :=
  let t := forgetGone (boardTo s 6144)
  { t with mem := { t.mem with
    busy := t.mem.busy - 6144, reqs := t.mem.reqs.map (fun q => { q with at_ := q.at_ - 6144 }) } }

/-- CAP_QUEUE_DRAIN: requester 0 is granted and writes what is queued. -/
def capQueueDrainOp (s : State) : State := if boardUp s then serveIf s 0 else s

/-- RECORD_STAGE: requester 7 is granted and stages or fetches a record. -/
def recordStageOp (s : State) : State := if boardUp s then serveIf (stageMore s) 7 else s

/-! ### The display's rows and rectangle steps (14 R317, R318, R321) -/

/-- A row that has not been read by the time the next row begins fails (14 R318). -/
def rowLate (s : State) : State :=
  if requesting s 2 || engineAway s 2 then
    nextRow (failRow (dropEngine (withdrawReq s 2) [.row]) s.hutch.row)
  else s

/-- FRAME_START: a row of the frame before that is still being read fails first (14 R318). -/
def frameStartRow (s : State) : State := frameStartOp (if boardUp s && domOn s 10 then rowLate s else s)

/-- ROW_REFRESH: the next active row. CLEARING and a clearing frame drive CLR_LVL. -/
def rowRefreshOp (s0 : State) : State :=
  if !boardUp s0 || !domOn s0 10 then s0
  else
    let s := rowLate s0
    let h := s.hutch
    if h.row ≥ heightOf h.size then s
    else if h.st = 3 then serveIf (raiseReq s 2 .row) 2
    else if h.st = 2 ∨ (h.st = 4 ∧ h.clearing = true) then nextRow (clearRow s h.row)
    else s

/-- RECT_COPY_STEP: requester 3 copies up to four lines of the rectangle accepted first. -/
def rectCopyStepOp (s : State) : State :=
  if !boardUp s || !domOn s 10 || decide (s.hutch.st ≠ 3) then s
  else if requesting s 3 then serveIf s 3
  else if s.hutch.copying.isSome then s
  else
    match copySlot s.hutch with
    | some i => serveIf (raiseReq (putHutch s { s.hutch with copying := some i }) 3 .rect) 3
    | none => s

end Sys2Proof.Machine
end

