-- ==== Sys2Proof/Machine/Chain.lean ====
section
/-!
DEFINITION. The Vexvea chain (11 R247 to R257; 04 R93): links and their states, the wiring test and the position, frames
that pass through or end here, packets forwarded for the part's own ports, CHAIN_ENUM.
-/

namespace Sys2Proof.Machine

/-- The other side. -/
def otherSide (d : Side) : Side := match d with | .up => .dn | .dn => .up

/-- The enable bit of a link in CHAIN_CTRL. -/
def linkEnabled (s : State) (d : Side) : Bool := bitAt (getReg s 0x690) (match d with | .up => 0 | .dn => 1)

/-- A link's transmitter is driven (R252). -/
def linkDriven (s : State) (d : Side) : Bool := s.power.granted.getLsbD 7 && linkEnabled s d

/-- LINK_ERR of a side. -/
def linkErr (d : Side) : Nat := match d with | .up => 0x69B | .dn => 0x69C

/-- A frame with a bad CRC is discarded and counted (R254). -/
def frameBad (s : State) (d : Side) : State := incTen s (linkErr d) 10

/-- PKT_TMO ticks of a wait, for a forwarded packet (04 R93). -/
def forwardTicks (s : State) : Nat := pktTicks s

/-! ### What waits on a link -/

/-- A reply on a port's own behalf, at cycle `seq.cycle` of the present tick, with the wait over. -/
def answerNow (s : State) (p : PortId) (tag : Byte) (status : Nat) : State :=
  answerAt s p tag false status [] (min s.seq.cycle 6143) 8

/-- The packets forwarded over a link are answered CHAIN_DOWN. -/
def dropForwards (s : State) (d : Side) : State :=
  (s.ports.forwards.filter (fun f => decide (f.side = d))).foldl (fun t f => answerNow t f.port f.tag stChainDown)
    { s with ports := { s.ports with forwards := s.ports.forwards.filter (fun f => decide (f.side ≠ d)) } }

/-- The remote operations over a link are answered CHAIN_DOWN (R247). -/
def dropRemotes (s : State) (d : Side) : State :=
  (s.chain.remote.filter (fun q => decide (q.side = d))).foldl (fun t q => endRemote t q stChainDown 0 []) s

/-- The reply of a CHAIN_ENUM that has ended. -/
def finishEnum (s : State) (status : Nat) (fs : List Field) : State :=
  match s.chain.enum with
  | some e => finish { s with chain := { s.chain with enum := none } } e.wait status fs
  | none => s

/-- A CHAIN_ENUM that waits for a link is answered CHAIN_DOWN. -/
def dropEnum (s : State) (d : Side) : State :=
  match s.chain.enum with
  | some e =>
    let waits := match d with | .up => e.waitUp | .dn => e.waitDn
    if waits then finishEnum s stChainDown [] else s
  | none => s

/-! ### Link states (R253) -/

/-- A link leaves its state for OFF (0) or TRAINING (1); a link that was UP is counted, and what waits on it is answered
CHAIN_DOWN. -/
def linkTo (s : State) (d : Side) (st : Nat) (held : Bool) : State :=
  let l := linkOf s d
  let t := putLink s d { l with
    st := st, aligned := if st = 0 then 0 else l.aligned, idleRun := if st = 0 then 0 else l.idleRun, held := held }
  if l.st = 2 then
    let u := raise (incTen { t with
      chain := { t.chain with sent := t.chain.sent.filter (fun f => decide (f.side ≠ d)) }
      ports := { t.ports with chainOut := t.ports.chainOut.filter (fun f => decide (f.2.side ≠ d)) } } (linkErr d) 0) srcLinkChange
    dropEnum (dropRemotes (dropForwards u d) d) d
  else t

/-- LINK_DOWN: transitions lost or code violations: the link is OFF. -/
def linkDownOp (s : State) (d : Side) : State :=
  if coreOn s && decide ((linkOf s d).st ≠ 0) then linkTo s d 0 (linkOf s d).held else s

/-- LINK_UP: 64 aligned bytes, the last idle byte with RXOK, positions consistent. -/
def linkUpOp (s : State) (d : Side) : State :=
  let l := linkOf s d
  if coreOn s && decide (l.st = 1) && decide (l.aligned ≥ 64) && l.rxok && s.chain.posValid && !l.held && linkDriven s d then
    raise (putLink s d { l with st := 2 }) srcLinkChange
  else s

/-- Links that are no longer driven are OFF (R252). -/
def linksFollow (s : State) : State :=
  [Side.up, Side.dn].foldl (fun t d => if linkDriven t d then t else linkDownOp t d) s

/-! ### Position (R256) -/

/-- WIRING_TEST: after PD11 powers up and at RESET_SOFT. -/
def wiringTestOp (s : State) (wired : Bool) : State :=
  if !domOn s 11 || s.chain.wiringDone then s
  else if wired then { s with chain := { s.chain with wired := true, wiringDone := true } }
  else
    raise { s with chain := { s.chain with wired := false, wiringDone := true, posValid := true, pos := 0 } } srcLinkChange

/-- A conflict on a link: it is held in OFF. -/
def conflictOn (s : State) (d : Side) : State :=
  let t := raiseIf (!s.chain.conflict) srcLinkChange { s with chain := { s.chain with conflict := true } }
  linkTo t d 0 true

/-- The position as an idle byte shows it: settled, or in conflict. -/
def idlePosition (s : State) (d : Side) (known : Bool) (pos : Nat) : State :=
  if !known || !s.chain.wiringDone then s
  else
    match d with
    | .up =>
      if s.chain.posValid then (if pos + 1 = s.chain.pos.toNat then s else conflictOn s .up)
      else if s.chain.conflict then s
      else if pos = 3 then conflictOn s .up
      else raise { s with chain := { s.chain with posValid := true, pos := BitVec.ofNat 2 (pos + 1) } } srcLinkChange
    | .dn => if s.chain.posValid && decide (pos ≠ s.chain.pos.toNat + 1) then conflictOn s .dn else s

/-- The idle byte that the transmitter of a side sends between frames: 0b101, KNOWN, POS, RXOK, 0 (R253). RXOK: 16
consecutive aligned idle bytes have been received on the link; KNOWN is 0 while the position is not valid (R256). -/
def idleSent (s : State) (d : Side) : Byte :=
  BitVec.ofNat 8 (160 + 16 * b2n s.chain.posValid + 4 * (ownPos s).toNat + 2 * b2n (decide ((linkOf s d).idleRun ≥ 16)))

/-- What the transmitter of a side sends while it has no frame: nothing unless it is driven (R252). -/
def idleOn (s : State) (d : Side) : Option Byte := if linkDriven s d then some (idleSent s d) else none

/-- IDLE_BYTE. The receivers run on PD11 and need neither a grant nor PD2 (R252): a byte that comes before the release of
CORE settles the position too (R256). A byte that has not the form of R253 breaks the runs. -/
def idleByteOp (s : State) (d : Side) (b : Byte) : State :=
  if !domOn s 11 || decide (s.seq.st = .gasp) then s
  else if bitsOf b.toNat 5 3 ≠ 5 ∨ b.toNat % 2 ≠ 0 then putLink s d { linkOf s d with aligned := 0, idleRun := 0 }
  else
    let rxok := b.getLsbD 1
    let l := linkOf s d
    let s1 := putLink s d { l with
      aligned := satInc l.aligned 64, idleRun := satInc l.idleRun 64, rxok := rxok
      st := if l.st = 0 && linkDriven s d && !l.held then 1 else l.st }
    let s2 := if l.st = 2 ∧ !rxok then linkTo s1 d 1 l.held else s1
    idlePosition s2 d (b.getLsbD 4) (bitsOf b.toNat 2 2)

/-! ### Frames -/

/-- A link receives frames. -/
def receives (s : State) (d : Side) : Bool :=
  coreOn s && decide (s.seq.st ≠ .gasp) && decide ((linkOf s d).st = 2)

/-- A frame goes on towards its destination as it came. -/
def passOn (s : State) (type : Nat) (f : RxFrame) (d : Side) : State :=
  sendFrame s { side := d, type := type, dest := f.dest, src := f.src, ltag := f.ltag, payload := f.payload }

/-- What every frame row does first: a link that is not up receives nothing, a bad CRC is counted, a frame for another
position passes on (by `other` when the onward link is not up); a frame for this part is taken by `mine`. -/
def frameOp (s : State) (type : Nat) (f : RxFrame) (other mine : State → State) : State :=
  if !receives s f.side then s
  else if !f.crcOk then frameBad s f.side
  else if f.dest = ownPos s then mine s
  else
    let d := sideTo s f.dest
    if linkReady s d then passOn s type f d else other s

/-- MRQ_FRAME: forwarded, held, or answered BUSY with eight held; on a broken path the sender is told. -/
def mrqFrameOp (s : State) (f : RxFrame) : State :=
  frameOp s 3 f (fun t => sendMrs t f.side f.src f.ltag stChainDown 0 [])
    (fun t =>
      if t.chain.mrqs.length ≥ 8 then sendMrs t f.side f.src f.ltag stBusy 0 []
      else { t with chain := { t.chain with mrqs := t.chain.mrqs ++ [(f.side, f.src, f.ltag, f.payload)] } })

/-- MRS_FRAME: the operation it answers ends, or is to be sent again on BUSY; one that nothing waits for is discarded. -/
def mrsFrameOp (s : State) (f : RxFrame) : State :=
  frameOp s 4 f id (fun t =>
    match t.chain.remote.find? (fun q => q.ltag == f.ltag && q.side == f.side && q.chip == f.src) with
    | none => t
    | some q =>
      let status := (nth f.payload 0 0).toNat
      if status = stBusy then
        { t with chain := { t.chain with remote := t.chain.remote.map (fun r => if r = q then { r with retry := true } else r) } }
      else endRemote t q status (nth f.payload 1 0).toNat (f.payload.drop 2))

/-- MRQ_BUSY_RETRY: the first operation that has met BUSY is sent again (R248). -/
def mrqBusyRetryOp (s : State) : State :=
  match s.chain.remote.find? (fun q => q.retry) with
  | none => s
  | some q =>
    sendFrame { s with chain := { s.chain with remote := s.chain.remote.map (fun r => if r = q then { r with retry := false } else r) } }
      { side := q.side, type := 3, dest := q.chip, src := ownPos s, ltag := q.ltag, payload := mrqPayload q.acc }

/-- REMOTE_TIMEOUT: PKT_TMO of an operation has passed (R247). -/
def remoteTimeoutOp (s : State) : State :=
  match s.chain.remote.find? (fun q => q.ticks == 0) with
  | some q => endRemote s q stTimeout 0 []
  | none => s

/-! ### Packets forwarded for the part's own ports (04 R93) -/

/-- A packet's bytes as received (04 R77). -/
def packetBytes (p : Packet) : List Byte :=
  let body := [p.opc, p.tag, BitVec.ofNat 8 p.params.length, p.flags] ++ p.params.flatMap (fun f => beBytes f.toNat 3) ++ p.mac
  body ++ beBytes (crc16 body) 2

/-- A packet of port `p` leaves for position `q`, or is answered CHAIN_DOWN at once. -/
def forwardPacket (s : State) (p : PortId) (k : Packet) (q : BitVec 2) (cyc : Nat) : State :=
  let d := sideTo s q
  if linkReady s d then
    let t := takeLtag s
    let u := sendFrame t.1 { side := d, type := 1, dest := q, src := ownPos s, ltag := t.2, payload := packetBytes k }
    { u with ports := { u.ports with forwards := u.ports.forwards ++
      [{ port := p, tag := k.tag, side := d, ltag := t.2, ticks := forwardTicks s }] } }
  else answerAt s p k.tag false stChainDown [] cyc 8

/-- The reply that these bytes are (04 R80). -/
def parseReply (s : State) (b : List Byte) : Reply :=
  let n := (nth b 2 0).toNat
  { tag := nth b 0 0, status := (nth b 1 0).toNat, fields := fieldsOf ((b.drop 3).take (3 * n))
    tick := s.seq.tick, cyc := min s.seq.cycle 6143 }

/-- RPL_FRAME: passed on, or delivered unchanged as the reply on the originating port; a later reply to a packet that has
been given up is discarded. -/
def rplFrameOp (s : State) (f : RxFrame) : State :=
  frameOp s 2 f id (fun t =>
    match t.ports.forwards.find? (fun w => w.ltag == f.ltag && w.side == f.side) with
    | none => t
    | some w =>
      giveReply { t with ports := { t.ports with forwards := t.ports.forwards.filter (fun v => decide (v ≠ w)) } } w.port
        (parseReply t f.payload))

/-- FORWARD_TIMEOUT of port `p`. -/
def forwardTimeoutOp (s : State) (p : PortId) : State :=
  match s.ports.forwards.find? (fun f => f.port == p && f.ticks == 0) with
  | some f =>
    answerNow { s with ports := { s.ports with forwards := s.ports.forwards.filter (fun v => decide (v ≠ f)) } } p f.tag stTimeout
  | none => s

/-! ### CHAIN_ENUM (R257) -/

/-- The neighbour on a side, as an ENUM frame names it (log entry 19). -/
def neighbour (s : State) (d : Side) : BitVec 2 := match d with | .up => ownPos s - 1 | .dn => ownPos s + 1

/-- Every position below `n` other than the own has been heard. -/
def enumComplete (s : State) (e : EnumRun) : Bool :=
  let top := e.heard.foldl (fun m h => max m h.1) (ownPos s).toNat
  !e.waitUp && !e.waitDn
    && (upto (top + 1)).all (fun p => decide (p = (ownPos s).toNat) || e.heard.any (fun h => h.1 == p))

/-- The result fields of CHAIN_ENUM. -/
def enumFields (s : State) (e : EnumRun) : List Field :=
  let top := e.heard.foldl (fun m h => max m h.1) (ownPos s).toNat
  BitVec.ofNat 24 (top + 1) :: (upto (top + 1)).map (fun p =>
    if p = (ownPos s).toNat then (getReg s 0xF01).setWidth 24
    else ((e.heard.find? (fun h => h.1 == p)).map (fun h => h.2.setWidth 24)).getD 0)

/-- A CHAIN_ENUM that has heard every chip is answered. -/
def enumCheck (s : State) : State :=
  match s.chain.enum with
  | some e => if enumComplete s e then finishEnum s stOk (enumFields s e) else s
  | none => s

/-- CHAIN_ENUM in its landing tick. -/
def enumStart (s : State) (l : Land) : State :=
  let up := decide (s.chain.up.st = 2)
  let dn := decide (s.chain.dn.st = 2)
  if s.chain.enum.isSome then answer s l (min s.seq.cycle 6143) stBusy []
  else if (decide (ownPos s ≠ 0) && !up) || (!s.chain.posValid && (up || dn)) then
    answer s l (min s.seq.cycle 6143) stChainDown []
  else
    let send (t : State) (d : Side) : State :=
      if linkReady t d then
        let p := takeLtag t
        sendFrame p.1 { side := d, type := 5, dest := neighbour t d, src := ownPos t, ltag := p.2, payload := [] }
      else t
    let w := waitOf s l 0x30
    let t := send (send (setBusy s w) .up) .dn
    enumCheck { t with chain := { t.chain with
      enum := some { wait := w, waitUp := up, waitDn := dn, heard := [], ticks := pktTicks s } } }

/-- ENUM_FRAME: answered, and passed on where the onward link is up. -/
def enumFrameOp (s : State) (f : RxFrame) : State :=
  if !receives s f.side then s
  else if !f.crcOk then frameBad s f.side
  else
    let d := otherSide f.side
    let on := linkReady s d
    let t := sendFrame s { side := f.side, type := 6, dest := f.src, src := ownPos s, ltag := f.ltag
                           payload := beBytes (regN s 0xF01) 3 ++ [BitVec.ofNat 8 (b2n on)] }
    if on then passOn t 5 f d else t

/-- ENUM_RSP_FRAME: passed on, or gathered. -/
def enumRspFrameOp (s : State) (f : RxFrame) : State :=
  frameOp s 6 f id (fun t =>
    match t.chain.enum with
    | none => t
    | some e =>
      let last := decide ((nth f.payload 3 0).toNat % 2 = 0)
      let rev : Word := wd (ofBe (f.payload.take 3))
      enumCheck { t with chain := { t.chain with enum := some { e with
        heard := (f.src.toNat, rev) :: e.heard.filter (fun h => decide (h.1 ≠ f.src.toNat))
        waitUp := e.waitUp && !(last && decide (f.side = .up)), waitDn := e.waitDn && !(last && decide (f.side = .dn)) } } })

/-- ENUM_TIMEOUT: a response is missing within PKT_TMO. -/
def enumTimeoutOp (s : State) : State :=
  match s.chain.enum with
  | some e => if e.ticks = 0 then finishEnum s stTimeout [] else s
  | none => s

/-! ### The tick -/

/-- What falls due on the chain within a tick happens by its end: links that are ready come up, BUSY operations are sent
again, and waits whose PKT_TMO ends in this tick are given up. -/
def chainFlush (s0 : State) : State :=
  let s1 := linkUpOp (linkUpOp s0 .up) .dn
  let s2 := s1.chain.remote.foldl (fun t _ => mrqBusyRetryOp t) s1
  let s3 := s2.chain.remote.foldl (fun t _ => remoteTimeoutOp t) s2
  let s4 := s3.ports.forwards.foldl (fun t f => forwardTimeoutOp t f.port) s3
  enumTimeoutOp s4

/-- A tick passes for the waits of the chain; the transmitters' frames of the tick are gone. -/
def chainTick (s : State) : State :=
  { s with
    chain := { s.chain with
      sent := []
      remote := s.chain.remote.map (fun q => { q with ticks := q.ticks - 1 })
      enum := s.chain.enum.map (fun e => { e with ticks := e.ticks - 1 }) }
    ports := { s.ports with forwards := s.ports.forwards.map (fun f => { f with ticks := f.ticks - 1 }) } }

end Sys2Proof.Machine
end

