-- ==== Sys2Proof/Machine/Domains.lean ====
section
/-!
DEFINITION. Power domains coming up and going down (02 R31, R32), what a revoked grant brings (R39), the loss of PD2
(R43, R27), PFAIL and the last-gasp stages (R30, R43 to R47).
-/

namespace Sys2Proof.Machine

/-! ### Domains (02 R31, R32) -/

/-- The converters of a domain. -/
def domConvs (d : Nat) : List Nat := (upto 11).filter (fun c => streamDomain c == d)

/-- The fronts of a domain start from nothing (07 R159, R168). -/
def freshFronts (s : State) (d : Nat) : State :=
  { s with streams := { s.streams with
    conv := mapIx (fun c v => if (domConvs d).contains c then freshConv else v) s.streams.conv } }

/-- A domain's switch opens: what it holds is lost. The Hutch keeps what PD2 holds for it (14 R308). -/
def domainDown (s : State) (d : Nat) : State :=
  let s1 := if d = 5 then carryBroken s else s
  let s2 : State := { s1 with power := { s1.power with
    on := setBit12 s1.power.on d false, working := setBit12 s1.power.working d false
    ramping := setBit12 s1.power.ramping d false } }
  if d = 3 ∨ d = 4 ∨ d = 5 then freshFronts s2 d
  else if d = 6 then procClear s2
  else if d = 7 then bankPowerDown s2 0
  else if d = 8 then bankPowerDown s2 1
  else if d = 10 then
    flDrop (dropCopy (putHutch s2 { s2.hutch with
      st := 0, offPending := false, clearing := false, discharging := false, pavdd := false, vgl := false, vgh := false
      vcom := false, xdis := false, rects := List.replicate 4 freeRect, levels := [], pols := [] }))
  else s2

/-- DOMAIN_RAMP_END: the ramp is over, isolation and reset are released. The block works from the next boundary; while
PD2 is not at work there is no boundary. -/
def domainRampEndOp (s : State) (d : Nat) : State :=
  if !s.power.ramping.getLsbD d then s
  else
    let s1 : State := { s with power := { s.power with
      ramping := setBit12 s.power.ramping d false, on := setBit12 s.power.on d true
      working := if coreOn s then s.power.working else setBit12 s.power.working d true } }
    if d = 3 ∨ d = 4 ∨ d = 5 then freshFronts s1 d
    else if d = 7 then bankPowerUp s1 0
    else if d = 8 then bankPowerUp s1 1
    else s1

/-- PD10 must go off (14 R332): with the panel live, after its power-off. -/
def displayOff (s : State) : State :=
  if panelLive s then hutchStop (putHutch s { s.hutch with offPending := true }) else domainDown s 10

/-- Domain `d` follows its request at a boundary (02 R31, R34). -/
def switchDomain (s : State) (d : Nat) : State :=
  let want := domWanted s d
  if want then
    let t := if d = 10 then putHutch s { s.hutch with offPending := false } else s
    if domOn t d || t.power.ramping.getLsbD d then t
    else { t with power := { t.power with ramping := setBit12 t.power.ramping d true } }
  else if domOn s d then (if d = 10 then displayOff s else domainDown s d)
  else { s with power := { s.power with ramping := setBit12 s.power.ramping d false } }

/-- The domains that may be switched. -/
def switchDomains (s : State) : State := [3, 4, 5, 6, 7, 8, 10].foldl switchDomain s

/-- Domains whose ramp has ended work from this boundary on; a Hutch that has come on powers up with AUTO (14 R326). -/
def domainsWork (s : State) : State :=
  let fresh := domOn s 10 && !works s 10
  let t : State := { s with power := { s.power with working := s.power.on } }
  if fresh then hutchAuto t else t

/-! ### Revoked grants (02 R39) -/

/-- What the grants lost since `old` bring: the sink off, the links off, the panel's discharge, the transmitter off. -/
def grantEffects (old : BitVec 10) (s : State) : State :=
  let lost (c : Nat) : Bool := old.getLsbD c && !s.power.granted.getLsbD c
  let s1 := if lost 8 && s.hutch.flReq then flRevoked s else s
  let s2 := if lost 7 then linksFollow s1 else s1
  let s3 := if lost 9 then { s2 with ports := { s2.ports with sending := false } } else s2
  if lost 6 && panelLive s3 then
    let t := putHutch s3 { s3.hutch with offPending := true }
    if t.hutch.discharging then t else startDischarge t 6 t.hutch.after
  else s3

/-! ### NVM operations that are cut short (02 R43) -/

/-- First byte of a settings image copy (1 A, 2 B). -/
def copyAt (copy : Nat) : Nat := if copy = 2 then 0x2000 else 0

/-- The region an erase works on: first byte and length. -/
def eraseRegion (op : NvmOp) : Option (Nat × Nat) :=
  match op with
  | .energyErase k => some (0x4000 + 1024 * k, 1024)
  | .bureauErase k => some (0x5000 + 1024 * k, 1024)
  | .timeErase k => some (0x1E800 + 1024 * k, 1024)
  | .imageErase c => some (copyAt c, 8192)
  | .sealErase => some (0xE400, 1024)
  | _ => none

/-- The program of a single slot or entry: first byte and bytes. -/
def programRegion (s : State) (op : NvmOp) : Option (Nat × List Byte) :=
  match op with
  | .energyProg k b => some (energySlotAt k, b)
  | .bureauProg k => (s.bureau.queue.head?).map (fun r => (recSlotAt k, recBytes r))
  | .timeProg k b => some (timeAt k, b)
  | .evidProg k b => some (evidAt k, b)
  | .calSeal _ k b false _ => some (sealAt k, b)
  | .lastUnit i b => some (i, b)
  | _ => none

/-- An abandoned erase leaves its region undefined. -/
def abandonErase (s : State) (i n : Nat) : State :=
  { s with nvm := { s.nvm with undef := s.nvm.undef ++ [(i, n)] } }

/-- Unit `k` of a CFG_SAVE, 1 to 32, and the header mark as the program after them: byte of the copy and bytes (03 R60). -/
def saveUnit (image : List Byte) (k : Nat) : Nat × List Byte :=
  if k ≤ 1 then (4, (image.take 256).drop 4)
  else if k ≤ 32 then (256 * (k - 1), (image.drop (256 * (k - 1))).take 256)
  else (0, image.take 4)

/-- What stands of a CFG_SAVE when it is cut (02 R43): its copy under erase; or the units before the one in progress, and
that one; or the whole copy, under verify. How far it has come is open (log entry 20). -/
def cutSave (s : State) (copy : Nat) (image : List Byte) : State × Option (Nat × List Byte) :=
  let k := Config.saveProgress s.free
  let t := nextFree s
  let i := copyAt copy
  if k = 0 then (abandonErase t i 8192, none)
  else
    let u := nvmErase t i 8192
    if k ≤ 33 then
      (nvmPut u (i + 4) ((image.take (256 * (k - 1))).drop 4), some (i + (saveUnit image k).1, (saveUnit image k).2))
    else (nvmPut u i image, none)

/-- What stands of a CAL_SEAL that erases the seal records first when it is cut: the erase, or the record in progress. -/
def cutSeal (s : State) (slot : Nat) (bytes : List Byte) : State × Option (Nat × List Byte) :=
  let k := Config.saveProgress s.free
  let t := nextFree s
  if k = 0 then (abandonErase t 0xE400 1024, none) else (nvmErase t 0xE400 1024, some (sealAt slot, bytes))

/-- The operation in progress when it is cut: what stands, and the program in progress. -/
def cutOp (s : State) (op : NvmOp) : State × Option (Nat × List Byte) :=
  match eraseRegion op with
  | some (i, n) => (abandonErase s i n, none)
  | none =>
    match op with
    | .cfgSave copy _ image _ => cutSave s copy image
    | .calSeal _ slot bytes true _ => cutSeal s slot bytes
    | _ => (s, programRegion s op)

/-- No NVM operation is in progress or waits. -/
def nvmIdle (s : State) : State := { s with nvm := { s.nvm with op := none, waiting := [] } }

/-- The NVM has settled after PFAIL (R43): nothing is in progress. -/
def nvmSettled (s : State) : State := orReg (nvmIdle s) 0x118 1

/-- The NVM at PFAIL (R43): an erase is abandoned, a program goes on, and an operation of several programs stops after the
one in progress; with no program in progress NVM_SETTLED is set at once. -/
def nvmPfail (s : State) : State :=
  match s.nvm.op with
  | none => nvmSettled s
  | some op =>
    let c := cutOp s op
    let t := if c.1.nvm.undef.length = s.nvm.undef.length then c.1 else orReg c.1 0x118 0x40
    match c.2 with
    | none => nvmSettled t
    | some (i, b) =>
      let rest := !(programRegion s op).isSome
      { t with nvm := { t.nvm with op := some (if rest then .lastUnit i b else op), waiting := [] } }

/-- The program that PFAIL found in progress within an operation of several programs completes (R43). -/
def settleUnit (s : State) : State :=
  match s.nvm.op with
  | some (.lastUnit i b) => nvmSettled (nvmPut s i b)
  | _ => s

/-- A program is cut short before its last byte: how many of its bytes stand is open (log entry 20). -/
def cutProgram (s : State) (i : Nat) (b : List Byte) : State :=
  nvmPut (nextFree s) i (b.take (Config.saveProgress s.free % b.length))

/-- The record or slot that the stage of GASP in progress programs (R43, R47). -/
def stageProgram (s : State) : Option (Nat × List Byte) :=
  if decide (s.seq.st ≠ .gasp) then none
  else if !s.power.gaspBureauEnded then
    match s.bureau.open_ with
    | some r =>
      if recSlotBlank s s.bureau.nextSlot then some (recSlotAt s.bureau.nextSlot, recBytes { r with gasp := true }) else none
    | none => none
  else if !s.power.gaspEnergyEnded && s.energy.restored && nvmBlank s (energySlotAt s.energy.nextSlot) 256 then
    some (energySlotAt s.energy.nextSlot, energySlot s s.energy.seqNext)
  else none

/-- The NVM at a hard off: whatever program is in progress stops before its mark (R27, R47). -/
def nvmHardOff (s : State) : State :=
  let c : State × Option (Nat × List Byte) :=
    match s.nvm.op with
    | some op => cutOp s op
    | none => (s, stageProgram s)
  match c.2 with
  | some (i, b) => nvmIdle (cutProgram c.1 i b)
  | none => nvmIdle c.1

/-! ### PD2 goes off -/

/-- What PD2 and the domains it needs hold is lost; PD0 keeps the time base of the moment (13 R294, R298). AUX_CTRL and
LOW_RES_SEL have their reset values from then on, and the load's source follows them (R24, R27). -/
def powerDown (s : State) (pd1 : Bool) : State :=
  let t : State := { State.reset with
    pending := s.pending
    free := s.free
    power := { s.power with
      pd1 := pd1, coldStarting := false, on := if pd1 then 3 else 1, ramping := 0, working := if pd1 then 3 else 1
      settle := false, autoReq := false, granted := 0, refused := 0, modeRefused := false, pfail := false
      gaspBureauEnded := false, gaspEnergyEnded := false, gaspPanelStarted := false, gaspPanelEnded := false
      testHold := false }
    seq := { Seq.reset with st := .off }
    aon := if coreOn s then { s.aon with
        darkFrom := some s.aon.time, heldHours := s.bureau.hours, heldSoh := s.bureau.soh, heldPcc := s.bureau.pcc }
      else s.aon
    pins := { State.reset.pins with board := s.pins.board }
    nvm := s.nvm }
  levelLow (chooseLoad t)

/-- HARD_OFF as it acts: every domain but PD0 is switched off, no GASP runs (R27, R379). -/
def hardOffNow (s : State) : State :=
  let t := powerDown (nvmHardOff s) false
  { t with power := { t.power with shunt := false, loadAux := false, charge := 0 } }

/-! ### PFAIL (02 R30, R43) -/

/-- Records still queued: held, staged or on their way, without the one that is being programmed. -/
def queuedCount (s : State) : Nat :=
  s.bureau.queue.length + s.bureau.staged.length + s.bureau.toStage.length
    - (match s.nvm.op with | some (.bureauProg _) => 1 | _ => 0)

/-- A port stops: what it had in progress receives no reply. -/
def stopPort (p : Port) : Port := { p with exec := none, busy := [], due := none, look := none }

/-- PFAIL asserts: the sequencer enters GASP, out of a cold start too, where nothing has been loaded (R29, R43). The grants
are revoked at the tick boundary that follows (R39). -/
def enterGasp (s : State) : State :=
  let s0 : State := { s with
    seq := { s.seq with
      st := .gasp, haltReq := false, goReq := false, resetReq := false, commitMask := 0, commitReq := false }
    power := { s.power with pfail := true, coldStarting := false } }
  let s1 := raise (raise s0 srcPfail) srcStateChanged
  let s2 := setReg s1 0x118 0x10
  let s3 := addReg s2 0x70F (queuedCount s2)
  let s6 := nvmPfail (cfStopAll s3)
  { s6 with
    ports := { s6.ports with
      host := stopPort s6.ports.host, maint := stopPort s6.ports.maint, chain := stopPort s6.ports.chain
      chainFrom := none, chainQ := [], chainOut := [], keysDue := [], sending := false, mtxReq := false, idleUnits := none, forwards := [], held := [] }
    chain := { s6.chain with remote := [], enum := none, mrqs := [] }
    mem := { s6.mem with reqs := [], writeBack := none, poison := none }
    bureau := { s6.bureau with events := [], marks := [], writing := false, erasing := false }
    energy := { s6.energy with saveReq := false, erasing := false } }

/-- PFAIL acts unless the load is drawn from VAUX (R379), where a start or the schedule runs. -/
def pfailOp (s : State) : State :=
  if (coreOn s || s.power.coldStarting) && decide (s.seq.st ≠ .gasp) && !s.power.loadAux then enterGasp s else s

/-- VRES returns as the load's source: a held PFAIL or hard off acts (R379). -/
def releaseHeldOff (s : State) : State :=
  if s.power.loadAux then s
  else if s.power.vres < 2500 then (if s.power.pd1 then hardOffNow s else s)
  else if s.power.vres < 2900 then pfailOp s
  else s

/-! ### The stages of GASP (02 R43 to R45) -/

/-- The sequencer is in GASP with no NVM program in progress. -/
def gaspFree (s : State) : Bool := decide (s.seq.st = .gasp) && s.nvm.op.isNone

/-- GASP_BUREAU_CLOSE: the open record is programmed with GASP set; without one the stage is skipped. -/
def gaspBureauCloseOp (s0 : State) : State :=
  let s := settleUnit s0
  if !gaspFree s || s.power.gaspBureauEnded then s0
  else
    let t : State := { s with power := { s.power with gaspBureauEnded := true } }
    match s.bureau.open_ with
    | none => orReg t 0x118 0x10000
    | some r =>
      let u : State := { t with bureau := { t.bureau with open_ := none, nextSlot := (t.bureau.nextSlot + 1) % 1024 } }
      if recSlotBlank s s.bureau.nextSlot then
        orReg (nvmPut u (recSlotAt s.bureau.nextSlot) (recBytes { r with gasp := true })) 0x118 2
      else t

/-- GASP_ENERGY_SAVE: the registers go to the erased slot, after stage 1; without RESTORED the stage is skipped. -/
def gaspEnergySaveOp (s : State) : State :=
  if !gaspFree s || !s.power.gaspBureauEnded || s.power.gaspEnergyEnded then s
  else
    let t : State := { s with power := { s.power with gaspEnergyEnded := true } }
    if !s.energy.restored then orReg t 0x118 0x20
    else
      let k := s.energy.nextSlot
      let seq := s.energy.seqNext
      if nvmBlank s (energySlotAt k) 256 then
        orReg (nvmPut { t with energy := { t.energy with
            slot := k, seq := seq, seqNext := (seq + 1) % 1048576, nextSlot := (k + 1) % 16 } }
          (energySlotAt k) (energySlot s seq)) 0x118 4
      else t

/-- GASP_PANEL_DISCHARGE: a live panel is discharged; otherwise the stage is skipped. -/
def gaspPanelDischargeOp (s : State) : State :=
  if decide (s.seq.st ≠ .gasp) || s.power.gaspPanelStarted || s.power.gaspPanelEnded then s
  else if domOn s 10 && panelLive s then
    let t : State := { s with power := { s.power with gaspPanelStarted := true } }
    if t.hutch.discharging then t else startDischarge t 6 0
  else orReg { s with power := { s.power with gaspPanelEnded := true } } 0x118 0x80

/-- The stages that have nothing to do are skipped. -/
def gaspSkips (s0 : State) : State :=
  let s := settleUnit s0
  let s1 := if s.bureau.open_.isNone then gaspBureauCloseOp s else s
  let s2 := if s1.energy.restored then s1 else gaspEnergySaveOp s1
  if domOn s2 10 && panelLive s2 then s2 else gaspPanelDischargeOp s2

/-- GASP_END: stages 2 and 3 have ended; PD10, PD11, PD7, PD2 and PD9 go off. -/
def gaspEndOp (s : State) (mv : Nat) : State :=
  let t := gaspSkips s
  if decide (s.seq.st = .gasp) && t.power.gaspBureauEnded && t.power.gaspEnergyEnded && t.power.gaspPanelEnded
      && t.nvm.op.isNone then
    powerDown (setReg t 0x118 (setFld (getReg t 0x118) 8 8 (min 255 ((mv - 2000) / 10)))) true
  else s

end Sys2Proof.Machine
end

