-- ==== Sys2Proof/Machine/WriteReg.lean ====
section
/-!
DEFINITION. Writing a register (00 R8, 04 R380): what each access code stores, the "stored as" rules of the field
tables, and what a write brings besides.
-/

namespace Sys2Proof.Machine

/-! ### The "stored as" rules of the field tables -/

/-- The field of `len` bits at `lo` lies above `top` and is stored as `v`. -/
def capField (w : Word) (lo len top v : Nat) : Word := if fld w lo len > top then setFld w lo len v else w

/-- The field of `len` bits at `lo` lies below `low` and is stored as `low`. -/
def raiseField (w : Word) (lo len low : Nat) : Word := if fld w lo len < low then setFld w lo len low else w

/-- A nibble of an overdrive or pin-function word that is not accepted reads as `v`. -/
def fixNibble (ok : Nat → Bool) (v : Nat) (w : Word) (i : Nat) : Word :=
  if ok (fld w (4 * i) 4) then w else setFld w (4 * i) 4 v

/-- Functions that lead `n` accepts (15 R342): 10 to 15 are stored as 0, 8 only on GP6, 9 only on GP7. -/
def leadAccepts (n code : Nat) : Bool :=
  decide (code ≤ 7) || (code == 8 && n == 6) || (code == 9 && n == 7)

/-- The value register `n` stores for a written `v`: banks 0x100 to 0x3FF. -/
def adjustLow (n : Nat) (v : Word) : Word :=
  if n = 0x108 then v ||| 0xA07
  else if n = 0x113 ∨ n = 0x114 then raiseField v 0 20 0x80
  else if 0x280 ≤ n ∧ n ≤ 0x289 then capField v 0 3 (maxGain (n - 0x280)) (maxGain (n - 0x280))
  else if n = 0x28A then capField (capField v 0 4 10 10) 4 3 4 4
  else if n = 0x358 then capField v 0 4 9 9
  else if 0x380 ≤ n ∧ n ≤ 0x389 then capField v 0 3 4 4
  else if 0x3A0 ≤ n ∧ n ≤ 0x3A9 then
    if fld v 0 8 ≠ 0 ∧ fld v 0 8 % 2 = 0 then setFld v 0 8 (fld v 0 8 - 1) else v
  else if 0x3C8 ≤ n ∧ n ≤ 0x3CB then capField v 0 4 10 10
  else if 0x3D0 ≤ n ∧ n ≤ 0x3D3 then raiseField v 0 16 64
  else v

/-- The value register `n` stores for a written `v`: banks 0x400 to 0x7FF. -/
def adjustMid (n : Nat) (v : Word) : Word :=
  if n = 0x400 then capField v 0 2 2 2
  else if 0x4C0 ≤ n ∧ n ≤ 0x4C3 then capField (capField v 0 4 11 11) 4 2 2 2
  else if n = 0x504 then capField v 6 3 6 6
  else if n = 0x543 then (if v.toNat > 65536 then wd 65536 else v)
  else if n = 0x608 then capField v 0 12 3600 3600
  else if n = 0x78A ∨ n = 0x78E then wd 0x10001
  else if 0x788 ≤ n ∧ n ≤ 0x78D then raiseField (capField (raiseField v 0 12 1) 0 12 3600 3600) 16 4 1
  else v

/-- The value register `n` stores for a written `v`: banks 0x800 and 0x880. -/
def adjustHigh (n : Nat) (v : Word) : Word :=
  if n = 0x800 then capField (capField v 4 2 2 2) 2 2 2 2
  else if n = 0x801 then capField (raiseField (capField (raiseField v 8 9 1) 8 9 320 320) 0 8 1) 0 8 240 240
  else if n = 0x802 then raiseField v 0 8 4
  else if n = 0x803 ∨ n = 0x804 then raiseField v 5 5 1
  else if n = 0x805 then
    let t := capField (capField v 16 4 12 12) 12 4 12 12
    setFld t 0 10 (BitVec.ofInt 10 (clampI (signOf (fld t 0 10) 10) 300)).toNat
  else if n = 0x80A then (upto 4).foldl (fixNibble (fun c => c != 0) 1) v
  else if n = 0x810 then capField v 0 6 40 40
  else if n = 0x880 then (upto 5).foldl (fun w i => fixNibble (leadAccepts i) 0 w i) v
  else if n = 0x881 then (upto 3).foldl (fun w i => fixNibble (leadAccepts (i + 5)) 0 w i) v
  else v

/-- The value register `n` stores for a written `v`. -/
def adjust (n : Nat) (v : Word) : Word :=
  if n < 0x400 then adjustLow n v else if n < 0x800 then adjustMid n v else adjustHigh n v

/-- What register `n` holds after `v` is written over `old` (R8). -/
def merged (r : RegRow) (n : Nat) (old v : Word) : Word :=
  let m := wd (r.rw ||| r.sn ||| r.sh)
  let w := wd r.w1c
  (old &&& ~~~(m ||| w)) ||| (adjust n v &&& m) ||| (old &&& w &&& ~~~v)

/-! ### What a write brings besides -/

/-- TAMP_EN or TAMP_ARM has lost a bit (13 R302): the event and the entry hold the values before and after. -/
def tampCfgEvent (s : State) (p n : Nat) (old new : Word) : State :=
  if old &&& ~~~new = 0 then s
  else
    let code := if n = 0x780 then 0x192 else 0x193
    queueEvidence (deliver s (bEvent code 2 old.toNat new.toNat p)) (evidEntry s code 2 new.toNat false)

/-- A register of the sealed set has changed (13 R307). -/
def sealedChange (s : State) (p n : Nat) (old new : Word) : State :=
  let t := syncSealed s n
  if old ≠ new ∧ (t.evid.sealSt = 1 ∨ t.evid.sealSt = 3) then breakSeal t n p else t

/-- SEQ_CTRL (03 R57): HALT and GO wait for the boundary. -/
def seqCtrl (s : State) (v : Word) : State :=
  { s with seq := { s.seq with haltReq := s.seq.haltReq || bitAt v 1, goReq := s.seq.goReq || bitAt v 0 } }

/-- What the write of `v` to register `n` by port `p` brings besides the value `new` it leaves in place of `old`. -/
def writeEffect (s : State) (p : PortId) (n : Nat) (v old new : Word) : State :=
  if n = 0x10A then compareLow s
  else if n = 0x116 then releaseHeldOff (chooseLoad s)
  else if n = 0x182 then seqCtrl s v
  else if n = 0x196 then setReg s 0x197 new
  else if n = 0x200 then (if bitAt new 0 then s else { s with ports := { s.ports with sending := false } })
  else if n = 0x40C then
    if bitAt v 0 && !s.seq.stopping then { s with energy := { s.energy with saveReq := true } } else s
  else if n = 0x540 then capCtrl s v
  else if n = 0x620 then drainCheck s
  else if n = 0x690 then linksFollow s
  else if n = 0x703 then stageSettings { s with bureau := { s.bureau with stageFault := false } }
  else if n = 0x704 then stageSettings s
  else if n = 0x780 ∨ n = 0x781 then tampCfgEvent (syncShadow s n) (portCode p) n old new
  else if 0x788 ≤ n ∧ n ≤ 0x78E then syncShadow s n
  else if n = 0x810 then flFollow s
  else if sealedSet.contains n then sealedChange s (portCode p) n old new
  else s

/-- Register `n` is written with `v` by port `p` (R8). The segment window writes the segment SEG_SEL selects (11 R240);
REC_CURSOR is the port's own (12 R277). An unassigned number changes nothing. -/
def writeReg (s : State) (p : PortId) (n : Nat) (v : Word) : State :=
  match regRow n with
  | none => s
  | some r =>
    if 0x681 ≤ n ∧ n ≤ 0x684 then
      let k := segKey (segSel s) (n - 0x681)
      let w := v &&& wd r.sh
      { s with dresser := { s.dresser with shadow := sset segZero s.dresser.shadow k w } }
    else if n = 0x705 then putCursor s p v (min s.seq.cycle 6143)
    else
      let t := if n = 0x620 then memTo s (s.seq.cycle + 1) else s
      let old := getReg t n
      let new := merged r n old v
      writeEffect (setReg t n new) p n v old new

/-- A write by a port's register row: it needs the ports at work (03 R52, R55). -/
def portWrite (s : State) (p : PortId) (n : Nat) (v : Word) : State := if portsUp s then writeReg s p n v else s

end Sys2Proof.Machine
end

