-- ==== Sys2Proof/Machine/Nvm.lean ====
section
/-!
DEFINITION. The non-volatile memory at work: the settings image (03 R60, 17 R370), CFG_SAVE and CAL_SEAL (04 R90, 13
R305), which operation starts when, and what the end of each brings (08 R187, 12 R265, R274, 13 R300).
-/

namespace Sys2Proof.Machine

/-! ### The settings image (03 R60) -/

/-- The saved bits of register `n`: RW and SN fields as stored, SH fields as in force, blink windows whole (17 R370). -/
def savedValue (s : State) (r : RegRow) (n : Nat) : Nat :=
  if 0x820 ≤ n ∧ n ≤ 0x82F then regN s n
  else ((getReg s n &&& wd (r.rw ||| r.sn)) ||| (forceReg s n &&& wd r.sh)).toNat

/-- One register entry. -/
def imageEntry (s : State) (n : Nat) : List Byte :=
  match regRow n with
  | some r => leBytes (savedValue s r n + n * 2 ^ 20) 4
  | none => []

/-- The 256 in-force FIR words. -/
def imageFir (s : State) : List Byte :=
  (upto 256).flatMap (fun i => leBytes (firWord s (256 * b2n s.firActive + i)) 4)

/-- The in-force segments: context by context, segment by segment, VBASE, LIMIT, PBASE, ATTR. -/
def imageSegs (s : State) : List Byte := (sgets segZero s.dresser.inForce 0 128).flatMap (fun v => leBytes v.toNat 4)

/-- The 8,192 bytes of a copy with generation `gen`. -/
def settingsImage (s : State) (gen : Nat) : List Byte :=
  let body := [0xC3, 0x5A, 0x60, 0x76] ++ leBytes gen 4 ++ leBytes savedRegs.length 2 ++ ffs 6
    ++ sgets zeroByte s.od 0 1024 ++ imageFir s ++ imageSegs s ++ savedRegs.flatMap (fun e => imageEntry s e.1)
  let whole := body ++ ffs (0x1FFC - body.length)
  whole ++ leBytes (crc32 whole) 4

/-! ### CFG_SAVE and CAL_SEAL at their landing -/

/-- Some byte of a region is undefined: its erase was abandoned (02 R43). -/
def regionUndef (s : State) (i n : Nat) : Bool :=
  s.nvm.undef.any (fun u => decide (u.1 < i + n) && decide (i < u.1 + u.2))

/-- The operation is an accepted CFG_SAVE or CAL_SEAL. -/
def isPortOp (op : NvmOp) : Bool :=
  match op with
  | .cfgSave _ _ _ _ => true
  | .calSeal _ _ _ _ _ => true
  | _ => false

/-- An NVM program or erase is in progress, or an accepted CFG_SAVE or CAL_SEAL waits for its grant (04 R90). -/
def nvmBusy (s : State) : Bool := s.nvm.op.isSome || s.nvm.waiting.any isPortOp

/-- Copy and generation that the next CFG_SAVE writes (04 R90, 17 R371). -/
def nextImage (s : State) : Nat × Nat :=
  match s.seq.image with
  | some (c, g) => (3 - c, (g + 1) % 1048576)
  | none => (1, 1)

/-- An operation joins those that wait. -/
def nvmWait (s : State) (op : NvmOp) : State := { s with nvm := { s.nvm with waiting := s.nvm.waiting ++ [op] } }

/-- CFG_SAVE in its landing cycle `c`: BUSY while another operation is in progress or the orderly stop runs; otherwise
the settings are captured. -/
def cfgSaveOp (s : State) (l : Land) (c : Nat) : State :=
  if nvmBusy s || s.seq.stopping then answer s l c stBusy []
  else
    let w := waitOf s l 0x2A
    let k := nextImage s
    nvmWait (setBusy s w) (.cfgSave k.1 k.2 (settingsImage s k.2) w)

/-- CAL_SEAL in its landing cycle `c` (13 R305): the sealed values are taken with the next count. -/
def calSealOp (s : State) (l : Land) (c : Nat) : State :=
  if nvmBusy s || s.seq.stopping then answer s l c stBusy []
  else
    let w := waitOf s l 0x2B
    let cnt := match newestSeal s with | some (n, _) => (n + 1) % 1048576 | none => 1
    let mac := match s.aon.key1 with | some k => sealOf s k cnt | none => []
    let slot := if regionUndef s 0xE400 1024 then none else (upto 64).find? (fun i => nvmBlank s (sealAt i) 16)
    nvmWait (setBusy s w) (.calSeal cnt (slot.getD 0) (sealBytes cnt mac) slot.isNone w)

/-! ### Which operation starts (02 R43, 03 R58, R59) -/

/-- The kind of a waiting operation: of each kind the oldest comes first. -/
def opKindOf (op : NvmOp) : Nat :=
  match op with
  | .energyProg _ _ => 0
  | .energyErase _ => 1
  | .bureauProg _ => 2
  | .bureauErase _ => 3
  | .timeProg _ _ => 4
  | .timeErase _ => 5
  | .evidProg _ _ => 6
  | .cfgSave _ _ _ _ => 7
  | .calSeal _ _ _ _ _ => 8
  | .imageErase _ => 9
  | .sealErase => 10
  | .lastUnit _ _ => 11

/-- The oldest waiting operation of each kind. -/
def oldestKinds : List Nat → List NvmOp → List NvmOp
  | _, [] => []
  | ks, op :: r => if ks.contains (opKindOf op) then oldestKinds ks r else op :: oldestKinds (opKindOf op :: ks) r

/-- Erased slots of the energy store. -/
def energyErased (s : State) : Nat := ((upto 16).filter (fun k => nvmBlank s (energySlotAt k) 256)).length

/-- A save's program can start (08 R187). -/
def energyCand (s : State) : List NvmOp :=
  let k := s.energy.nextSlot
  if s.energy.saveReq && s.energy.restored && decide (energyErased s ≥ 2) && nvmBlank s (energySlotAt k) 256 then
    [.energyProg k (energySlot s s.energy.seqNext)]
  else []

/-- The program of the queue's head can start: its slot and the one ahead are erased (12 R274). -/
def bureauCand (s : State) : List NvmOp :=
  let k := s.bureau.nextSlot
  if !s.bureau.queue.isEmpty && !s.seq.stopped && recSlotBlank s k && recSlotBlank s ((k + 1) % 1024) then [.bureauProg k]
  else []

/-- The place of the next time-store entry: the first erased one in rotation. -/
def timePlace (s : State) : Option Nat :=
  ((upto 128).map (fun k => (s.bureau.tsNext + k) % 128)).find? (fun k => nvmBlank s (timeAt k) 16)

/-- No record waits to be programmed. -/
def bureauEmpty (s : State) : Bool :=
  s.bureau.open_.isNone && s.bureau.queue.isEmpty && s.bureau.staged.isEmpty && s.bureau.toStage.isEmpty

/-- A time-store entry's program can start; in the orderly stop it comes after the records (12 R265, R275). -/
def timeCand (s : State) : List NvmOp :=
  if decide (s.bureau.tsDue ≠ 0) && !s.seq.stopped && (!s.seq.stopping || bureauEmpty s) then
    match timePlace s with
    | some k => [.timeProg k (timeBytes s.bureau.hours s.bureau.soh s.bureau.pcc s.bureau.tsSeq)]
    | none => [.timeErase ((s.bureau.tsNext / 64 + 1) % 2)]
  else []

/-- An entry as it is programmed: its 12 bytes and the chain word (13 R299). -/
def evidSlotBytes (s : State) (e : List Byte) : List Byte := e ++ leBytes (chainWord s.evid.chain e).toNat 4

/-- The program of the head entry can start (13 R300): LOAD has ended, and the log is open. -/
def evidCand (s : State) : List NvmOp :=
  match s.aon.evQueue with
  | e :: _ =>
    if s.evid.full || s.seq.stopping || decide (s.seq.holdCause = 2) || decide (s.evid.next ≥ 255) then []
    else [.evidProg s.evid.next (evidSlotBytes s e)]
  | [] => []

/-- The orderly stop itself needs this erase: a slot that its records, its save or its time-store entry go to is not
erased (03 R58). -/
def stopNeeds (s : State) (op : NvmOp) : Bool :=
  match op with
  | .bureauErase _ => !s.bureau.queue.isEmpty
  | .energyErase _ => s.energy.saveReq && s.energy.restored && (energyCand s).isEmpty
  | .timeErase _ => decide (s.bureau.tsDue ≠ 0) && (timePlace s).isNone
  | _ => false

/-- Everything that can start; once the orderly stop has begun, what it needs itself and nothing else (03 R58). -/
def nvmCands (s : State) : List NvmOp :=
  oldestKinds [] (if s.seq.stopping then s.nvm.waiting.filter (stopNeeds s) else s.nvm.waiting)
    ++ energyCand s ++ bureauCand s ++ timeCand s ++ evidCand s

/-- The first waiting operation that equals `op` leaves the waiting list. -/
def dropWaiting (op : NvmOp) : List NvmOp → List NvmOp
  | [] => []
  | a :: r => if a = op then r else a :: dropWaiting op r

/-- The erase that operation `op` makes as its own first step. -/
def eraseWith (op : NvmOp) : List NvmOp :=
  match op with
  | .cfgSave copy _ _ _ => [.imageErase copy]
  | .calSeal _ _ _ true _ => [.sealErase]
  | _ => []

/-- Operation `op` starts; an erase that waits for what it erases itself is made with it. -/
def nvmBegin (s : State) (op : NvmOp) : State :=
  let t : State := { s with nvm := { s.nvm with
    op := some op, units := 0, waiting := (dropWaiting op s.nvm.waiting).filter (fun a => !(eraseWith op).contains a) } }
  match op with
  | .energyProg _ _ => { t with energy := { t.energy with saveReq := false } }
  | .energyErase _ => { t with energy := { t.energy with erasing := true } }
  | .bureauProg _ => { t with bureau := { t.bureau with writing := true } }
  | .bureauErase _ => { t with bureau := { t.bureau with erasing := true } }
  | .timeProg _ _ => { t with bureau := { t.bureau with tsDue := t.bureau.tsDue - 1 } }
  | .evidProg _ _ => { t with evid := { t.evid with writing := true } }
  | _ => t

/-- The erases that the store and the Bureau need before they can program (08 R188, 02 R43): the whole store once when
nothing in it is valid; the sector of a Bureau slot that is not erased. -/
def nvmErases (s : State) : State :=
  let s1 :=
    if s.energy.rebuild && s.energy.saveReq && s.energy.restored then
      let bad := (upto 4).filter (fun k => !nvmBlank s (energySlotAt (4 * k)) 1024)
      { s with
        nvm := { s.nvm with waiting := s.nvm.waiting ++ bad.map NvmOp.energyErase }
        energy := { s.energy with rebuild := false, nextSlot := 0, seqNext := 1 } }
    else s
  let k := s1.bureau.nextSlot
  if !s1.bureau.queue.isEmpty && !recSlotBlank s1 k && !s1.nvm.waiting.contains (.bureauErase (k / 32)) then
    nvmWait s1 (.bureauErase (k / 32))
  else s1

/-- At a boundary, with the grant of consumer 3 in force and no operation in progress, one that is ready starts; of
several the choice is open (log entry 8). -/
def nvmStart (s0 : State) : State :=
  if portsUp s0 && s0.nvm.op.isNone && !s0.seq.holdRestore then
    let s := nvmErases s0
    if s.power.granted.getLsbD 3 then
      match nvmCands s with
      | [] => s
      | [op] => nvmBegin s op
      | op :: r => nvmBegin (nextFree s) (nth (op :: r) (Config.nvmPick s.free % (op :: r).length) op)
    else s
  else s0

/-! ### The end of an operation -/

/-- The sequencer is in GASP: what was in progress completes, nothing follows it (02 R43). -/
def inGasp (s : State) : Bool := decide (s.seq.st = .gasp)

/-- The operation has ended: nothing is in progress, and after PFAIL the NVM has settled. Operations that the NVM held
back go on (11 R245). -/
def nvmEnded (s : State) : State :=
  let t : State := { s with nvm := { s.nvm with op := none } }
  if inGasp t then orReg t 0x118 1 else releaseHeld (showWindows t)

/-- A following erase starts at once. -/
def nvmFollow (s : State) (op : NvmOp) : State := if inGasp s then nvmEnded s else nvmBegin { s with nvm := { s.nvm with op := none } } op

/-- The bytes that a failed program leaves (log entry 21). -/
def failedBytes (s : State) (i n : Nat) : List Byte := (upto n).map (fun k => Config.failedByte (i + k) s.free)

/-- A program at byte `i` ends: its bytes stand, or its verify has failed. -/
def programmed (s : State) (i : Nat) (b : List Byte) (ok : Bool) : State :=
  if ok then nvmPut s i b else nvmPut (nextFree s) i (failedBytes s i b.length)

/-- ENERGY_SAVE_DONE (08 R187). -/
def energySaveDoneOp (s : State) (ok : Bool) : State :=
  match s.nvm.op with
  | some (.energyProg k b) =>
    let t := programmed s (energySlotAt k) b ok
    let u :=
      if ok then
        raise { t with energy := { t.energy with
          slot := k, seq := t.energy.seqNext, seqNext := (t.energy.seqNext + 1) % 1048576, nextSlot := (k + 1) % 16
          units := 0 } } srcEsaveDone
      else
        raise { t with energy := { t.energy with cause := 2, nextSlot := (k + 1) % 16, saveReq := true } } srcEsaveFail
    if k % 4 = 0 then nvmFollow u (.energyErase ((k / 4 + 1) % 4)) else nvmEnded u
  | _ => s

/-- ENERGY_SECTOR_ERASE_DONE. -/
def energyEraseDoneOp (s : State) : State :=
  match s.nvm.op with
  | some (.energyErase k) =>
    let t := nvmErase s (energySlotAt (4 * k)) 1024
    nvmEnded { t with energy := { t.energy with erasing := false } }
  | _ => s

/-- RECORD_PROGRAM_DONE (12 R274). -/
def recordDoneOp (s : State) (ok : Bool) : State :=
  match s.nvm.op, s.bureau.queue with
  | some (.bureauProg k), r :: rest =>
    let t := programmed s (recSlotAt k) (recBytes r) ok
    let u : State := { t with bureau := { t.bureau with writing := false, nextSlot := (k + 1) % 1024 } }
    let v :=
      if ok then stageMore (raise { u with bureau := { u.bureau with queue := rest } } srcRecWritten)
      else addReg u 0x70E 1
    if k % 32 = 0 then nvmFollow v (.bureauErase ((k / 32 + 1) % 32)) else nvmEnded v
  | _, _ => s

/-- BUREAU_ERASE_DONE. -/
def bureauEraseDoneOp (s : State) : State :=
  match s.nvm.op with
  | some (.bureauErase k) =>
    let t := nvmErase s (recSlotAt (32 * k)) 1024
    nvmEnded { t with bureau := { t.bureau with erasing := false } }
  | _ => s

/-- TIME_STORE_ENTRY (12 R265): an entry has been programmed; the first of a sector begins the erase of the other. The
entry of the orderly stop ends the closing of the Bureau. -/
def timeStoreOp (s : State) (ok : Bool) : State :=
  match s.nvm.op with
  | some (.timeProg k b) =>
    let t := programmed s (timeAt k) b ok
    let u : State := { t with
      bureau := { t.bureau with
        tsNext := (k + 1) % 128, tsSeq := if ok then (t.bureau.tsSeq + 1) % 1048576 else t.bureau.tsSeq
        tsDue := t.bureau.tsDue + b2n (!ok) }
      seq := { t.seq with stopped := t.seq.stopped || (ok && t.seq.stopping && decide (t.bureau.tsDue = 0)) } }
    if k % 64 = 0 then nvmFollow u (.timeErase (1 - k / 64)) else nvmEnded u
  | _ => s

/-- TIME_STORE_ERASE_DONE. -/
def timeEraseDoneOp (s : State) : State :=
  match s.nvm.op with
  | some (.timeErase k) => nvmEnded (nvmErase s (timeAt (64 * k)) 1024)
  | _ => s

/-- What a failed evidence slot holds: the entry, with a chain word that does not match (13 R300; log entry 21). -/
def failedEvidence (s : State) (k : Nat) (b : List Byte) : List Byte :=
  let c := (failedBytes s (evidAt k + 12) 4)
  b.take 12 ++ (if c = b.drop 12 then c.map (~~~ ·) else c)

/-- The log closes once slot 254 has been programmed (13 R300): entries still queued are lost, and slot 255 takes
EVLOG_FULL at once. -/
def closeEvidence (s : State) : State :=
  let n := s.aon.evQueue.length
  let t : State := { s with
    evid := { s.evid with full := true }
    aon := { s.aon with evQueue := [], logClosed := true } }
  let u := deliver (if n = 0 then t else loseEvidence t n) (bEvent 0x194 3 0 0 0)
  nvmFollow u (.evidProg 255 (evidSlotBytes u (evidEntry u 0x194 3 0 false)))

/-- EVIDENCE_PROGRAM_DONE (13 R300, R301). -/
def evidenceDoneOp (s : State) (ok : Bool) : State :=
  match s.nvm.op with
  | some (.evidProg k b) =>
    let b' := if ok then b else failedEvidence s k b
    let t := nvmPut (if ok then s else nextFree s) (evidAt k) b'
    let u := raise { t with evid := { t.evid with
      writing := false, next := k + 1, chain := BitVec.ofNat 32 (ofLe (b'.drop 12)) } } srcEvidence
    let v := if ok then u else addReg u 0x7A4 1
    let closes := decide (k = 254) && !inGasp s
    let taken := k < 255 ∧ (ok ∨ closes)
    let w : State := if taken then { v with aon := { v.aon with evQueue := v.aon.evQueue.drop 1 } } else v
    if closes then closeEvidence (if ok then w else loseEvidence w 1) else nvmEnded w
  | _ => s

/-- An erase that was abandoned is made again, and has run `k` units when the tick ends: it ends with its 25 ms (03 R59;
log entry 22). -/
def eraseOver (s : State) (i n : Nat) : State :=
  let k := s.nvm.units + tickUnits s
  if k ≥ 200 then nvmEnded (nvmErase s i n) else { s with nvm := { s.nvm with units := k } }

/-- The erases that no row ends go on with the tick that ends. -/
def eraseTick (s : State) : State :=
  match s.nvm.op with
  | some (.imageErase c) => eraseOver s (copyAt c) 8192
  | some .sealErase => eraseOver s 0xE400 1024
  | _ => s

/-- CFG_SAVE_DONE (04 R90): the copy stands, verified; the reply carries generation and copy. In GASP it is the end of the
unit in progress (02 R43). -/
def cfgSaveDoneOp (s : State) : State :=
  match s.nvm.op with
  | some (.cfgSave copy gen image w) =>
    let t := nvmPut (nvmErase s (copyAt copy) 8192) (copyAt copy) image
    let u := deliver { t with seq := { t.seq with image := some (copy, gen) } } (bEvent 7 1 gen copy (portCode w.land.port))
    finish (nvmEnded u) w stOk [BitVec.ofNat 24 gen, BitVec.ofNat 24 copy]
  | _ => settleUnit s

/-- CAL_SEAL_DONE (13 R305): the reply carries the count, SEAL_STATE becomes SEALED, with its event and entry. -/
def calSealDoneOp (s : State) : State :=
  match s.nvm.op with
  | some (.calSeal cnt slot b first w) =>
    let t := nvmPut (if first then nvmErase s 0xE400 1024 else s) (sealAt slot) b
    if inGasp s then nvmEnded t
    else
      let u := setSeal { t with evid := { t.evid with sealCnt := cnt } } 1
      let v := deliver u (bEvent 8 2 cnt (portCode w.land.port) 0)
      finish (nvmEnded (queueEvidence v (evidEntry v 8 2 cnt false))) w stOk [BitVec.ofNat 24 cnt]
  | _ => settleUnit s

/-! ### When saves and entries fall due -/

/-- A save is being programmed. -/
def saving (s : State) : Bool :=
  match s.nvm.op with
  | some (.energyProg _ _) => true
  | _ => false

/-- A periodic save falls due with the tick that ends (08 R187). -/
def periodicDue (s : State) : Bool :=
  let m := fld (getReg s 0x40C) 12 8
  running s && !did s .periodicSave && decide (m ≠ 0) && s.energy.restored && !s.energy.saveReq && !saving s && !s.seq.stopping
    && decide (s.energy.units + tickUnits s ≥ m * 480000)

/-- PERIODIC_SAVE. -/
def periodicSaveOp (s : State) : State :=
  if periodicDue s then mark { s with energy := { s.energy with saveReq := true } } .periodicSave else s

/-- The operating time of the store advances by the tick that ends. -/
def energyTime (s : State) : State :=
  if running s then { s with energy := { s.energy with units := s.energy.units + tickUnits s } } else s

end Sys2Proof.Machine
end

