-- ==== Sys2Proof/Machine/Load.lean ====
section
/-!
DEFINITION. Starting and stopping: the reset of PD2 CORE, COLD and LOAD (03 R53, R54, R60, R61; 08 R188; 12 R266; 13
R301), the restore in HOLD (12 R266), and RESET_SOFT with its orderly stop (03 R58).
-/

namespace Sys2Proof.Machine

/-! ### The settings image read back (03 R54, R60) -/

/-- The region's bytes carry its mark and its CRC-32 (03 R61). -/
def trimValid (s : State) : Bool :=
  let b := nvmReads s 0xE000 1024
  decide (b.take 4 = [0x5A, 0xC3, 0x76, 0x60]) && ofLe (b.drop 1020) == crc32 (b.take 1020)

/-- The bytes of a copy, when its mark, its CRC and its E make it valid (03 R54). -/
def copyBytes (s : State) (copy : Nat) : Option (List Byte) :=
  if nvmBlank s (copyAt copy) 8192 then none
  else
    let b := nvmReads s (copyAt copy) 8192
    if b.take 4 = [0xC3, 0x5A, 0x60, 0x76] ∧ ofLe (b.drop 0x1FFC) = crc32 (b.take 0x1FFC) ∧ ofLe ((b.drop 8).take 2) ≤ 1403
    then some b else none

/-- The generation a copy holds. -/
def copyGen (b : List Byte) : Nat := bitsOf (word32 b 1) 0 20

/-- The copy that is selected: number, bytes. -/
def chooseCopy (a b : Option (List Byte)) : Option (Nat × List Byte) :=
  match a, b with
  | some x, some y => if laterSeq (copyGen y) (copyGen x) then some (2, y) else some (1, x)
  | some x, none => some (1, x)
  | none, some y => some (2, y)
  | none, none => none

/-- A register entry is written as a write would store it, SH fields into both copies, and nothing else of a write
happens. Unassigned numbers, bank 0xF00 and the segment windows are skipped; PINMUX comes into force with `loadPins`. -/
def loadEntry (s : State) (n : Nat) (v : Word) : State :=
  match regRow n with
  | none => s
  | some r =>
    if n ≥ 0xF00 ∨ (0x681 ≤ n ∧ n ≤ 0x688) then s
    else
      let new := if 0x820 ≤ n ∧ n ≤ 0x82F then v else merged r n (getReg s n) v
      let t := setReg s n new
      let u := if r.sh ≠ 0 ∧ n ≠ 0x880 ∧ n ≠ 0x881 then setForce t n (maskAnd new r.sh) else t
      syncSealed (syncShadow u n) n

/-- Entries `i` on, `k` of them. -/
def loadEntries (s : State) (l : List Byte) : Nat → State
  | 0 => s
  | k + 1 =>
    let w := ofLe (l.take 4)
    loadEntries (loadEntry s (w / 2 ^ 20) (wd w)) (l.drop 4) k

/-- Words from bytes, four to a word. -/
def words32 (l : List Byte) : Nat → List Word
  | 0 => []
  | k + 1 => wd (ofLe (l.take 4)) :: words32 (l.drop 4) k

/-- The leads take the functions that stand in PINMUX_REQ when COLD and LOAD are over, each parked (15 R344). -/
def loadPins (s : State) : State := applyPinmux s (getReg s 0x880) (getReg s 0x881)

/-- BELOW_LOW, LOAD_SRC with the charge of VRES, DRAINED and the staging ring follow what LOAD has written. -/
def loadFollow (s : State) : State :=
  let t := chooseLoad (levelLow s)
  stageSettings { t with mem := { t.mem with drained := frozen t } }

/-- A copy's content is written: overdrive tables, FIR words into both banks, segments into both copies, registers. -/
def loadCopy (s : State) (b : List Byte) : State :=
  let od := ((b.drop 0x10).take 1024).map (· &&& (0x3F : Byte))
  let fir := words32 (b.drop 0x410) 256
  let segs := words32 (b.drop 0x810) 128
  let segw := mapIx (fun i v => if i % 4 = 3 then maskAnd v 0x3F else v) segs
  let zf : Nat → Word := fun _ => 0
  let t : State := { s with
    od := sputs zeroByte [] 0 od
    fir := sputs zf (sputs zf [] 0 fir) 256 fir
    dresser := { s.dresser with shadow := sputs segZero [] 0 segw, inForce := sputs segZero [] 0 segw } }
  loadFollow (loadEntries t (b.drop 0xA10) (ofLe ((b.drop 8).take 2)))

/-! ### The energy restore (08 R188) -/

/-- The valid slots of the store: number, sequence, bytes. -/
def energySlots (s : State) : List (Nat × Nat × List Byte) :=
  (upto 16).filterMap (fun k =>
    if nvmBlank s (energySlotAt k) 256 then none
    else
      let b := nvmReads s (energySlotAt k) 256
      if energySlotValid b then some (k, bitsOf (word32 b 0) 0 20, b) else none)

/-- The accumulator `i` (2q import, 2q + 1 export) that a slot holds. -/
def slotAcc (b : List Byte) (i : Nat) : Nat := wrap60 (ofLe ((b.drop (4 + 8 * i)).take 8))

/-- The registers take a slot's accumulators and wrap bits. -/
def loadEnergy (s : State) (b : List Byte) : State :=
  let t := (upto 12).foldl (fun a q =>
    putWide (putWide a (energyReg q false) (slotAcc b (2 * q))) (energyReg q true) (slotAcc b (2 * q + 1))) s
  let w := word32 b 49
  let u := setReg (setReg t 0x410 (wd (bitsOf w 0 12))) 0x411 (wd (bitsOf w 12 12))
  { u with energy := { u.energy with
    imp := (upto 12).map (fun q => slotAcc b (2 * q)), exp := (upto 12).map (fun q => slotAcc b (2 * q + 1)) } }

/-- Where the rotation of the store goes on (R188): after the newest valid slot, with the sequence after its own, and
with the sector ahead erased again where it is not; a store with no valid slot begins anew with its first save. -/
def surveyEnergy (s : State) : State :=
  match newestBy (fun e : Nat × Nat × List Byte => e.2.1) (energySlots s) with
  | some (k, seq, _) =>
    let rest := (upto 16).filter (fun i => decide (k < i) && decide (i / 4 = k / 4))
    let goOn := !rest.isEmpty && rest.all (fun i => nvmBlank s (energySlotAt i) 256)
    let ahead := (k / 4 + 1) % 4
    let t : State := { s with energy := { s.energy with
      seqNext := (seq + 1) % 1048576, nextSlot := if goOn then k + 1 else 4 * ahead } }
    if nvmBlank s (energySlotAt (4 * ahead)) 1024 then t else nvmWait t (.energyErase ahead)
  | none =>
    { s with energy := { s.energy with
      seqNext := 1, nextSlot := 0, rebuild := !nvmBlank s (energySlotAt 0) 4096 } }

/-- LOAD step 4. -/
def restoreEnergy (s : State) : State :=
  let t := surveyEnergy s
  match newestBy (fun e : Nat × Nat × List Byte => e.2.1) (energySlots s) with
  | some (k, seq, b) =>
    let u := loadEnergy t b
    { u with energy := { u.energy with slot := k, seq := seq, restored := true } }
  | none =>
    if t.energy.rebuild then raise { t with energy := { t.energy with cause := 1 } } srcEsaveFail
    else { t with energy := { t.energy with restored := true, blank := true } }

/-! ### The evidence log read back (13 R301) -/

/-- The log is read and checked: next slot, chain word, damaged slots. A log that is found closed loses what is still
queued, with the losses that the end of LOAD delivers, and EVLOG_FULL is made up for when slot 255 is still erased. -/
def restoreEvidence (s : State) : State :=
  let r := evidScan s 256 0 0 []
  let n := r.2.2.length
  let closed := decide (r.1 ≥ 255)
  let t : State := { s with
    evid := { s.evid with next := r.1, chain := r.2.1, full := closed, damaged := decide (n > 0) }
    aon := { s.aon with logClosed := closed } }
  let u := if n = 0 then t
    else deliver (raise (addReg t 0x7A4 n) srcEvidence) (bEvent 0x195 2 (r.2.2.headD 0) n 0)
  let lost := u.aon.evQueue.length
  let v := if closed && decide (lost > 0) then
      let w := raise (addReg u 0x7A3 lost) srcEvidence
      { w with aon := { w.aon with evQueue := [], darkLost := w.aon.darkLost + lost } }
    else u
  if r.1 = 255 then
    nvmWait (deliver v (bEvent 0x194 3 0 0 0)) (.evidProg 255 (evidSlotBytes v (evidEntry v 0x194 3 0 false)))
  else v

/-! ### Sectors whose erase was abandoned (02 R43) -/

/-- What a cut left undefined is erased again, once consumer 3 has its grant: the time store, an image copy that was not
loaded, and the seal records once the seal has been decided (log entry 22); the energy store and the Bureau as their
restores lay down. -/
def eraseAgain (s : State) (used : Nat) : State :=
  let s1 := [0, 1].foldl (fun t k => if regionUndef t (timeAt (64 * k)) 1024 then nvmWait t (.timeErase k) else t) s
  let s2 := [1, 2].foldl (fun t c =>
    if c ≠ used ∧ regionUndef t (copyAt c) 8192 then nvmWait t (.imageErase c) else t) s1
  if regionUndef s2 0xE400 1024 then nvmWait s2 .sealErase else s2

/-! ### COLD -/

/-- The selection of GP6 and GP7 that PD0 holds, in PINMUX_REQ_B and in force (15 R344). -/
def heldLeads (s : State) : State :=
  let v := wd (16 * s.aon.sel6.toNat + 256 * s.aon.sel7.toNat)
  setForce (setReg s 0x881 v) 0x881 v

/-- COLD has ended after 16 T: LOAD begins, or HOLD when the trim region fails its check (03 R52, R53). -/
def coldEnds (s : State) : State :=
  let s1 := if s.chain.posValid || s.chain.conflict then raise s srcLinkChange else s
  let s2 := raise (mark s1 .entered) srcStateChanged
  if trimValid s then { s2 with seq := { s2.seq with st := .load, stateTicks := 0, tick := 0, item := 17 } }
  else
    let s3 := loadPins s2
    raise (raise { s3 with seq := { s3.seq with
      st := .hold, stateTicks := 0, holdCause := 2, holdRestore := true, trimBad := true, item := 17 } } srcTrimBad)
      srcHoldEntered

/-- COLD_END: with the sixteenth tick of COLD. -/
def coldEndOp (s : State) : State :=
  if decide (s.seq.st = .cold) && decide (s.seq.stateTicks = 15) && !did s .entered then coldEnds s else s

/-! ### LOAD -/

/-- Steps 1 to 3 of R54: the copies are checked, one is chosen, and its content is written. -/
def loadChosen (s0 : State) : State :=
  let a := copyBytes s0 1
  let b := copyBytes s0 2
  let s : State := { s0 with seq := { s0.seq with aValid := a.isSome, bValid := b.isSome } }
  match chooseCopy a b with
  | some (c, x) =>
    let t := loadCopy s x
    let u : State := { t with seq := { t.seq with loaded := c, gen := copyGen x, image := some (c, copyGen x) } }
    raiseIf (a.isSome != b.isSome) srcImageFallback u
  | none => raise s srcLoadFailed

/-- Step 4 of R54, with the restores of Bureau, time base, evidence log and seal. Without a valid image no energy is
restored; where the store's rotation goes on is found all the same (08 R188). -/
def loadRestores (s : State) : State :=
  let s1 := if s.seq.loaded = 0 then surveyEnergy s else restoreEnergy s
  decideSeal (restoreEvidence (restoreBureau (eraseAgain s1 s1.seq.loaded)))

/-- The four steps of R54. -/
def loadSteps (s : State) : State := loadRestores (loadChosen s)

/-- LOAD has ended (03 R52, R54): the events of the start are taken, then RUN, SETTLE or HOLD begins. -/
def loadEnds (s0 : State) : State :=
  let s := mark (loadSteps s0) .entered
  let ok := decide (s.seq.loaded ≠ 0)
  let s1 := raiseIf s.seq.coldStart srcRestarted (raise s srcStateChanged)
  let s2 := if ok then modeAfterLoad s1 else raise s1 srcHoldEntered
  let s3 := loadPins (takeEvents (startEvents s2))
  let st : SeqSt := if !ok then .hold else if s3.power.settle then .settle else .run
  let s4 : State := { s3 with
    seq := { s3.seq with st := st, stateTicks := 0, holdCause := if ok then 0 else 1, item := 17 }
    bureau := { s3.bureau with tsDue := s3.bureau.tsDue + b2n (!ok) } }
  hutchAuto (flRaise s4)

/-! ### The reset of CORE (03 R53, R58; 02 R33) -/

/-- PD2 CORE comes out of reset at a cold start: COLD begins, and the dark seconds go to DARK_LAST (13 R294). What
the wiring test has found stands (11 R256). -/
def coldReset (s : State) : State :=
  let t : State := { State.reset with
    pending := s.pending, free := s.free, power := { s.power with coldStarting := false, working := s.power.on }
    aon := s.aon, pins := { State.reset.pins with board := s.pins.board }, nvm := s.nvm, mem := s.mem
    chain := { State.reset.chain with
      wired := s.chain.wired, wiringDone := s.chain.wiringDone, posValid := s.chain.posValid, pos := s.chain.pos
      conflict := s.chain.conflict } }
  let u := levelLow (chooseLoad (setReg (heldLeads t) 0x785 (wd (darkSecs s))))
  { u with aon := { u.aon with darkFrom := none } }

/-- What RESET_SOFT leaves of the Hutch (14 R308): its registers have their reset values. A panel that is live, which a reset
in HOLD meets, stays as it stands and goes down as the reset DOMAIN_REQ asks (log entry 107). -/
def softHutch (s : State) : Hutch :=
  let h := s.hutch
  if panelLive s then
    { Hutch.reset with
      st := h.st, ctrl := h.ctrl, size := h.size, clk := h.clk, htim := h.htim, vtim := h.vtim, bufCur := h.bufCur
      bufPrev := h.bufPrev, railSet := h.railSet, pavdd := h.pavdd, vgl := h.vgl, vgh := h.vgh, vcom := h.vcom
      xdis := h.xdis, phase := h.phase, clearing := h.clearing, discharging := h.discharging, after := h.after
      offPending := h.offPending, row := h.row, levels := h.levels, pols := h.pols }
  else Hutch.reset

/-- PD2 CORE is reset by RESET_SOFT (03 R58): records still held are counted (12 R275); the coefficient banks, the
overdrive tables, capture memory and what other domains hold stay; nonces and replies are discarded (04 R89). -/
def softReset (s : State) : State :=
  let lost := s.bureau.queue.length + s.bureau.staged.length + s.bureau.toStage.length + s.bureau.open_.toList.length
  let t : State := { State.reset with
    pending := s.pending, free := s.free, fir := s.fir, od := s.od
    power := { s.power with settle := false, autoReq := false, granted := 0, refused := 0, modeRefused := false, pfail := false }
    aon := s.aon, pins := { State.reset.pins with board := s.pins.board }
    nvm := { s.nvm with op := none, waiting := [] }
    mem := { Mem.reset with
      data := s.mem.data, tags := s.mem.tags, ready := s.mem.ready, init := s.mem.init, initCyc := s.mem.initCyc }
    streams := { Streams.reset with conv := s.streams.conv.map (fun v => { v with e := 0, ePrev := 0 }) }
    hutch := softHutch s
    seq := { Seq.reset with soft := true, coldStart := false, slow := s.seq.slow } }
  let u := compareLow (chooseLoad (linksFollow (heldLeads (addReg t 0x70F lost))))
  mark { u with seq := { u.seq with item := 17 } } .entered

/-! ### RESET_SOFT (03 R58) -/

/-- ORDERLY_STOP: at the first boundary after RESET_SOFT in RUN or SETTLE. -/
def orderlyStopOp (s : State) : State :=
  if s.seq.resetReq && running s && !s.seq.stopping then
    let t := closeOpen { s with
      seq := { s.seq with stopping := true, stopped := false }
      energy := { s.energy with saveReq := s.energy.restored } }
    let u : State := { t with bureau := { t.bureau with tsDue := t.bureau.tsDue + 1 } }
    hutchStop u
  else if s.seq.stopping then hutchStop s
  else s

/-- The orderly stop has ended: the Bureau is closed, the energy saved, the panel down. -/
def stopEnded (s : State) : Bool :=
  s.seq.stopping && s.seq.stopped && !s.energy.saveReq && !panelLive s

/-- The reset of RESET_SOFT can be made at this boundary: in HOLD with no NVM operation in progress, and after an orderly
stop that has ended, be it that HALT has come since. -/
def resetReady (s : State) : Bool :=
  s.seq.resetReq && !did s .entered && s.nvm.op.isNone
    && (if s.seq.stopping then portsUp s && stopEnded s else decide (s.seq.st = .hold))

/-- SOFT_RESET_APPLY. -/
def softResetOp (s : State) : State := if resetReady s then softReset s else s

/-- What LOAD writes turns the running load away from VAUX, and a PFAIL or hard off that was held acts (02 R379). -/
def loadFalls (s : State) : Bool :=
  let t := loadChosen s
  s.power.loadAux && !t.power.loadAux && decide (t.power.vres < 2900)

/-- LOAD_END: LOAD ends, and in place of what would follow the reset of a RESET_SOFT that waits. -/
def loadEndOp (s : State) : State :=
  if decide (s.seq.st = .load) && !did s .entered then
    if s.seq.resetReq then softReset s
    else if loadFalls s then releaseHeldOff (loadChosen s)
    else loadEnds s
  else s

/-- HOLD_RESTORE (12 R266): in HOLD after a bad trim region the Bureau restores records and time base and delivers the
events of the start. -/
def holdRestoreOp (s : State) : State :=
  if decide (s.seq.st = .hold) && s.seq.holdRestore && !did s .entered then
    let t := takeEvents (startEvents (restoreBureau (surveyEnergy s)))
    { t with
      seq := { t.seq with holdRestore := false }
      bureau := { t.bureau with tsDue := t.bureau.tsDue + 1 } }
  else s

end Sys2Proof.Machine
end

