-- ==== Sys2Proof/Machine/Foreground.lean ====
section
/-!
DEFINITION. The foreground of a tick (03 R64, R72): the sixteen items in their order, as far as a cycle of the tick has
come, and the publication of item 16; and what the ports come to as far as that cycle (04 R84, R104, R105, R107).
-/

namespace Sys2Proof.Machine

/-- One published result (R72). -/
def applyPub (s : State) (p : Pub) : State :=
  match p with
  | .set n v => setReg s n v
  | .or n m => orReg s n m
  | .clear n m => clearReg s n m
  | .add n k => addReg s n k
  | .incMod n => incMod s n
  | .irq src => raise s src

/-- The waiting results are published in the order in which the items found them. -/
def applyPubs (s : State) : State := s.seq.pub.foldl applyPub { s with seq := { s.seq with pub := [] } }

/-- Item 16 in RUN and SETTLE: results, energy registers, a finished harmonic window, the end of a process sequence. A
DET_HIT that it sets is noted for the capture triggers of the next item 13 (09 R207). -/
def item16 (s : State) : State :=
  let hit := s.seq.pub.contains (.irq srcDetHit)
  let t := applyPubs s
  let u : State := { t with cap := { t.cap with detSeen := t.cap.detSeen || hit } }
  procEnded (harmPublish (publishEnergy u))

/-- The work of foreground item `m` (R65). Item 1 latches what the snapshot brought. -/
def runItem (s : State) (m : Nat) : State :=
  match m with
  | 2 => item2 s
  | 3 => item3 s
  | 4 => item4 s
  | 5 => item5 s
  | 6 => item6 s
  | 7 => item7 s
  | 8 => item8 s
  | 9 => item9 s
  | 10 => item10 s
  | 11 => item11 s
  | 12 => item12 s
  | 13 => item13 s
  | 14 => item14 s
  | 15 => item15 s
  | 16 => item16 s
  | _ => s

/-- The next item is done, and the one after it is next. In HOLD only items 1 and 16 are worked (R56). -/
def itemStep (s : State) : State :=
  let m := s.seq.item
  let t := if running s then runItem s m else if portsUp s && m == 16 then applyPubs s else s
  { t with seq := { t.seq with item := m + 1 } }

/-- By the start of cycle `c` the next item has begun; item 16 counts only once it has published (R72: a read in cycle
F − 1 returns the values from before). -/
def itemDue (s : State) (c : Nat) : Bool :=
  let m := s.seq.item
  if m ≥ 17 || !portsUp s then false
  else if running s then
    let k := schedNow s
    if m = 16 then decide (k.total ≤ c) else decide (k.start m < c)
  else decide ((if m = 1 then 0 else if m = 16 then 191 else 95) < c)

/-- Items run, at most `n`, as far as cycle `c` has come. -/
def runUntil : Nat → State → Nat → State
  | 0, s, _ => s
  | n + 1, s, c => if itemDue s c then runUntil n (itemStep s) c else s

/-- The way a CHAIN packet came. -/
abbrev From : Type := Side × BitVec 2 × Byte

/-- A reply that does not wait for a landing: `k` cycles after cycle `c`. A CHAIN reply goes back the way of its own
packet. -/
def replyNow (s : State) (p : PortId) (way : Option From) (tag : Byte) (status c k : Nat) : State :=
  match way with
  | none => answerAt s p tag false status [] c k
  | some w =>
    let t := answerAt { s with ports := { s.ports with chainFrom := some w } } p tag false status [] c k
    { t with ports := { t.ports with chainFrom := s.ports.chainFrom } }

/-! ### What the ports come to within a tick (04 R84, R104, R105, R107) -/

/-- A refused packet's reply is made ready in cycle `e.cyc`; AUTH_FAIL and the failure come with it. -/
def refuse (s : State) (p : PortId) (way : Option From) (e : Exec) : State :=
  let t := raise s srcAuthFail
  let u := if e.denied = some true then authFailure t else t
  replyNow u p way e.pkt.tag stDenied e.cyc 0

/-- The entry is a refusal whose tick has come, in a cycle before `c`. -/
def refusalBy (c : Nat) (e : Exec) : Bool := e.denied.isSome && decide (e.wait = 0) && decide (e.cyc < c)

/-- The entry is a refusal whose tick has come. -/
def refusalDue (e : Exec) : Bool := e.denied.isSome && decide (e.wait = 0)

/-- The first CHAIN entry that satisfies `f`, and the others. -/
def takeFirst (f : Exec → Bool) : List (Exec × From) → Option (Exec × From) × List (Exec × From)
  | [] => (none, [])
  | a :: r => if f a.1 then (some a, r) else let q := takeFirst f r; (q.1, a :: q.2)

/-- The refusal of port `p` that satisfies `f` has its reply. -/
def refuseWhen (f : Exec → Bool) (s : State) (p : PortId) : State :=
  match p with
  | .chain =>
    let q := takeFirst f s.ports.chainQ
    match q.1 with
    | some (e, w) => refuse { s with ports := { s.ports with chainQ := q.2 } } .chain (some w) e
    | none => s
  | _ =>
    match (portOf s p).exec with
    | some e => if f e then refuse (putPort s p { portOf s p with exec := none }) p none e else s
    | none => s

/-- The refusals whose cycle lies before `c` have their replies: one on each port, on the CHAIN port up to four. -/
def refusalsBy (s : State) (c : Nat) : State :=
  if portsUp s then [PortId.host, .maint, .chain, .chain, .chain, .chain].foldl (refuseWhen (refusalBy c)) s else s

/-- A key takes effect with the reply of its KEY_LOAD: the slot holds it, KEY_LOADED is set, and with slot 1 the seal is
checked at the next boundary where it was unverified (04 R104, 13 R306). -/
def keyTakes (s : State) (k : Bool × BitVec 128) : State :=
  let t := raise (installKey s k.1 k.2) srcKeyLoaded
  if k.1 && decide (t.evid.sealSt = 3) then { t with evid := { t.evid with checkDue := true } } else t

/-- The keys whose replies are ready before cycle `c`. -/
def keysBy (s : State) (c : Nat) : State :=
  ((s.ports.keysDue.filter (fun k => decide (k.1 < c))).map (·.2)).foldl keyTakes
    { s with ports := { s.ports with keysDue := s.ports.keysDue.filter (fun k => decide (c ≤ k.1)) } }

/-- The ports as far as cycle `c`: refusals, keys, replies that become ready, windows that follow their cursors. -/
def portsBy (s : State) (c : Nat) : State := cursorsBy (repliesDue (keysBy (refusalsBy s c) c) c) c

/-- The tick as far as cycle `c`: the parks of leads, the foreground, and what the ports come to. -/
def runTo (s : State) (c : Nat) : State := portsBy (runUntil 17 (parksBy s c) c) c

/-- The whole foreground of the tick. -/
def runAll (s : State) : State := runTo s 6144

/-- Items up to and with item `m`. -/
def runThrough : Nat → State → Nat → State
  | 0, s, _ => s
  | n + 1, s, m => if running s && decide (s.seq.item ≤ m) then runThrough n (itemStep s) m else s

/-- An event that item `m` of this tick brings: the foreground runs through that item, and what it did stands when the
event came (log entry 2). -/
def itemEvent (s : State) (m : Nat) (d : Did) : State :=
  let t := runThrough 17 s m
  if did t d && !did s d then t else s

/-- An event of the boundary that ends this tick, given by its operation: the foreground has run; what the operation did
stands when `due` says that the event comes now (log entry 2). -/
def boundaryEvent (s : State) (due : State → Bool) (f : State → State) : State :=
  let t := runAll s
  if due t then f t else s

end Sys2Proof.Machine
end

