-- ==== Sys2Proof/Machine/Opcodes.lean ====
section
/-!
DEFINITION. What each opcode does when its packet lands (04 R83 to R93): the landing cycle, the accesses, the status and
the reply. A packet lands after the checks of R82; `Packets` makes them for packets that come in by the ports.
-/

namespace Sys2Proof.Machine

/-! ### Landing (R83, R84) -/

/-- A packet whose reply is left to a later event is under way as such. -/
def landed (s : State) (p : PortId) : State :=
  let t := if (portOf s p).due = some executing then putPort s p { portOf s p with due := none } else s
  if p = .chain then { t with ports := { t.ports with chainFrom := none } } else t

/-- A packet lands: in RUN, SETTLE and HOLD at the first free cycle of the tick, with the foreground as far as that
cycle; `n` is the number of cycles its accesses take. In COLD and LOAD it is answered BUSY (03 R55); otherwise nothing
happens (02 R43). -/
def landing (s : State) (l : Land) (n : Nat) (f : State → Nat → State) : State :=
  if starting s then answerAt s l.port l.tag l.noreply stBusy [] (min s.seq.cycle 6143) 8
  else if !portsUp s then s
  else
    let c := min s.seq.cycle 6143
    let t := runTo s c
    let u := landed (f (putPort t l.port { portOf t l.port with due := some executing }) c) l.port
    { u with seq := { u.seq with cycle := s.seq.cycle + n } }

/-- A number as a result field. -/
def fieldN (n : Nat) : Field := BitVec.ofNat 24 n

/-- Landing tick and cycle, as the replies of register opcodes report them. -/
def landFields (s : State) (c : Nat) : List Field := [s.seq.tick.setWidth 24, fieldN c]

/-- The first register number that no chapter assigns, by its place. -/
def badReg (regs : List (BitVec 12)) : Option Nat :=
  (upto regs.length).find? (fun i => !assigned (nth regs i 0).toNat)

/-! ### Register opcodes -/

/-- NOP: own position and sequencer state. -/
def nopOp (l : Land) (s : State) (c : Nat) : State :=
  answer s l c stOk [fieldN ((ownPos s).toNat + 4 * seqCode s)]

/-- The accesses of a packet have come to cycle `c`. -/
def atCycle (s : State) (c : Nat) : State := { s with seq := { s.seq with cycle := c } }

/-- RD reads one field per cycle from cycle `c` on: the state after the last read, and the values. -/
def rdValues (p : PortId) : State → Nat → List (BitVec 12) → State × List Field
  | s, _, [] => (s, [])
  | s, c, n :: r =>
    let t := atCycle (runTo s c) c
    let v := rdValues p t (c + 1) r
    (v.1, fieldOfReg n.toNat (readReg t p n.toNat) :: v.2)

/-- RD. -/
def rdOp (l : Land) (regs : List (BitVec 12)) (s : State) (c : Nat) : State :=
  if regs.length = 0 ∨ regs.length > 80 then answer s l c stBadLen []
  else
    match badReg regs with
    | some i => answer s l c stBadReg [fieldN i]
    | none =>
      let v := rdValues l.port s c regs
      answer v.1 l (c + regs.length - 1) stOk v.2

/-- SNAP: every field in one cycle, then TICK_COUNT. -/
def snapOp (l : Land) (regs : List (BitVec 12)) (s : State) (c : Nat) : State :=
  if regs.length = 0 ∨ regs.length > 79 then answer s l c stBadLen []
  else
    match badReg regs with
    | some i => answer s l c stBadReg [fieldN i]
    | none =>
      answer s l c stOk
        (regs.map (fun n => fieldOfReg n.toNat (readReg s l.port n.toNat)) ++ [s.seq.tick.setWidth 24])

/-- The integrity code of a register write (R108). -/
def busCode (n : BitVec 12) (v : Word) : BitVec 6 :=
  let w := n.toNat * 2 ^ 20 + v.toNat
  BitVec.ofNat 6 ((upto 6).foldl (fun a i =>
    a + (((upto 32).filter (fun j => decide (j % 6 = i) && w.testBit j)).length % 2) * 2 ^ i) 0) ^^^ 0x2A

/-- The register file checks a code that has been disturbed by `flip` on its way. -/
def busOk (flip : BitVec 6) (n : BitVec 12) (v : Word) : Bool := decide (busCode n v ^^^ flip = busCode n v)

/-- The pairs of a WR in their order (R380). -/
def writePairs (p : PortId) : State → List (BitVec 12 × Word) → State
  | s, [] => s
  | s, (n, v) :: r => writePairs p (writeReg s p n.toNat v) r

/-- The register has W1C bits and no others. -/
def onlyClears (n : BitVec 12) : Bool :=
  match regRow n.toNat with
  | some r => decide (r.w1c ≠ 0) && decide (r.rw = 0) && decide (r.sn = 0) && decide (r.sh = 0)
  | none => false

/-- The pairs of a WR take effect in one cycle: what the others raise stands against what W1C bits are written 1 (00
R9). -/
def writeAtOnce (p : PortId) (s : State) (l : List (BitVec 12 × Word)) : State :=
  writePairs p s (l.filter (fun e => onlyClears e.1) ++ l.filter (fun e => !onlyClears e.1))

/-- WR. -/
def wrOp (l : Land) (flip : BitVec 6) (pairs : List (BitVec 12 × Word)) (s : State) (c : Nat) : State :=
  if pairs.length = 0 ∨ pairs.length > 40 then answer s l c stBadLen []
  else if (badReg (pairs.map (·.1))).isSome then answer s l c stBadReg []
  else if !pairs.all (fun e => busOk flip e.1 e.2) then answer (logicFault s) l c stBadCrc []
  else answer (writeAtOnce l.port s pairs) l c stOk (landFields s c)

/-- The triples of an RMW, each in its cycle: the state after them, and the old values (R87). -/
def rmwTriples (p : PortId) : State → Nat → List (BitVec 12 × Word × Word) → State × List Field
  | s, _, [] => (s, [])
  | s, c, (n, a, o) :: r =>
    let t := atCycle (runTo s c) c
    let old := readReg t p n.toNat
    let v := rmwTriples p (writeReg t p n.toNat ((old &&& a) ||| o)) (c + 1) r
    (v.1, fieldOfReg n.toNat old :: v.2)

/-- RMW. A disturbed code means that none of its writes is stored (R108). -/
def rmwOp (l : Land) (flip : BitVec 6) (ts : List (BitVec 12 × Word × Word)) (s : State) (c : Nat) : State :=
  if ts.length = 0 ∨ ts.length > 26 then answer s l c stBadLen []
  else
    match badReg (ts.map (·.1)) with
    | some i => answer s l c stBadReg [fieldN (3 * i)]
    | none =>
      if flip ≠ 0 then answer (logicFault s) l c stBadCrc []
      else
        let v := rmwTriples l.port s c ts
        answer v.1 l (c + ts.length - 1) stOk (landFields s c ++ v.2)

/-- COMMIT: the groups wait for the boundary that ends this tick (03 R63). -/
def commitOp (l : Land) (groups : BitVec 5) (s : State) (c : Nat) : State :=
  answer { s with seq := { s.seq with commitMask := s.seq.commitMask ||| groups, commitReq := true } } l c stOk (landFields s c)

/-! ### Memory opcodes (R85, R88) -/

/-- The registers `n` on, `k` of them, read one in each cycle from `c` on, as RD reads them (11 R245). -/
def regWords (p : PortId) : State → Nat → Nat → Nat → State × List Word
  | s, _, _, 0 => (s, [])
  | s, c, n, k + 1 =>
    let t := atCycle (runTo s c) c
    let v := regWords p t (c + 1) (n + 1) k
    (v.1, readReg t p n :: v.2)

/-- The local address and the segment at which a read of this chip's register file is found; none for any other. -/
def regsAt (s : State) (ctx va count : Nat) : Option Nat :=
  match translate s ctx .read va (va + count - 1) with
  | .at_ chip pa _ => if chip = ownPos s ∧ (mapCheck .read pa count).1 = some .regs then some pa else none
  | .fault _ _ => none

/-- MEM_RD of the register file: each word is read in its own cycle (11 R245, and its corner). -/
def memRegs (l : Land) (va count pa : Nat) (s : State) (c : Nat) : State :=
  let p := lookupTime s (portReq l.port) (va / 16)
  let n := cfgWords pa count
  let v := regWords l.port p.1 (c + p.2) ((pa - 0xF00000) / 4) n
  let d := ((v.2.flatMap (fun w => leBytes w.toNat 4)).drop (pa % 4)).take count
  answerAt v.1 l.port l.tag l.noreply stOk (packFields 80 d) c (p.2 + n + 7)

/-- MEM_RD. -/
def memRdOp (l : Land) (va : BitVec 24) (count : Nat) (s : State) (c : Nat) : State :=
  if count = 0 ∨ count > 240 then answer s l c stBadLen []
  else
    match regsAt s (portReq l.port) va.toNat count with
    | some pa => memRegs l va.toNat count pa s c
    | none => memStart s l 0x08 { kind := .read, pa := va.toNat, count := count, data := [], op1 := 0, op2 := 0 }

/-- MEM_WR. -/
def memWrOp (l : Land) (va : BitVec 24) (data : List Byte) (s : State) (c : Nat) : State :=
  if data.length = 0 ∨ data.length > 234 then answer s l c stBadLen []
  else memStart s l 0x09 { kind := .write, pa := va.toNat, count := data.length, data := data, op1 := 0, op2 := 0 }

/-- MEM_ATOM with one of its operations. -/
def memAtomOp (l : Land) (k : AccKind) (va : BitVec 24) (op1 op2 : BitVec 32) (s : State) (c : Nat) : State :=
  if va.toNat % 4 ≠ 0 then answer s l c stBadLen []
  else memStart s l 0x0A { kind := k, pa := va.toNat, count := 4, data := [], op1 := op1, op2 := op2 }

/-! ### Process, Stool, display -/

/-- CONVERT_NOW (06 R146); the entry's reserved bits must be zero. -/
def convertOp (l : Land) (e : Word) (s : State) (c : Nat) : State :=
  if fld e 10 2 ≠ 0 then answer s l c stBadLen []
  else
    let r := convertNowOp s e
    let t := answer r.1 l c r.2 []
    if r.2 = stOk then { t with proc := { t.proc with urgentAt := some (c, waitOf s l 0x10) } } else t

/-- A TRIG edge that starts a sequence in cycle `cyc` has come no later than the landing of the CONVERT_NOW taken in this
tick, whose row stands before that of the edge (R146). -/
def convertTooLate (s : State) (rising : Bool) (cyc : Nat) : Option (Nat × Waiting) :=
  match s.proc.urgentAt with
  | some (c, w) =>
    if s.proc.urgent && decide (cyc ≤ c) && procOn s && trigSeen s && decide (procStartSel s = 2)
        && edgeMatches (snapReg s 0x300) rising then some (c, w) else none
  | none => none

/-- The CONVERT_NOW that has landed in cycle `c` is dropped after all: DROPPED takes the place of its OK reply (R146). -/
def convertDropped (s : State) (c : Nat) (w : Waiting) : State :=
  let t : State := { s with
    proc := { s.proc with
      urgent := false, waiting := false, urgentPend := false, isOpen := false, group := 0, urgentAt := none
      wins := s.proc.wins.filter (fun v => v.closed || v.entry != 16) }
    ports := { s.ports with
      chainOut := s.ports.chainOut.filter (fun r => !(r.1 == c + 8 && w.way == some (r.2.side, r.2.dest, r.2.ltag))) } }
  finishAt (raise (incReg t 0x305) srcProcOverrun) w c stDropped []

/-- TRIG_EDGE, the CONVERT_NOW of its cycle included. -/
def trigEdgeRow (s : State) (rising : Bool) (cyc : Nat) : State :=
  let t := match convertTooLate s rising cyc with
    | some (c, w) => convertDropped s c w
    | none => s
  trigEdgeOp t rising cyc

/-- STOOL_CTRL (05 R131): the Stool status is the result. -/
def stoolCtrlOp (l : Land) (action slice : Nat) (s : State) (c : Nat) : State :=
  let r := stoolCtrl s action slice
  answer r.1 l c r.2 (if r.2 = stOk then [(stoolStatus r.1).setWidth 24] else [])

/-- DISP_RECT (14 R319). -/
def rectOpcode (l : Land) (x0 y0 w h : Nat) (s : State) (c : Nat) : State :=
  if !rectOk s x0 y0 w h then answer s l c stBadLen []
  else
    let r := dispRectOp s x0 y0 w h
    answer r.1 l c r.2.1 (if r.2.1 = stOk then [fieldN r.2.2] else [])

/-- DISP_BLINK (14 R323). -/
def blinkOpcode (l : Land) (fs : List Field) (s : State) (c : Nat) : State :=
  let f := fs.map (·.toNat)
  if !blinkOk s f then answer s l c stBadLen []
  else
    let r := dispBlinkOp s f
    answer r.1 l c r.2 []

/-- DISP_POWER (14 R326, R330). -/
def powerOpcode (l : Land) (up : Bool) (s : State) (c : Nat) : State :=
  let r := if up then dispUpOp s else dispDownOp s
  answer r.1 l c r.2 []

/-! ### Records, keys, settings -/

/-- REC_CLEAR (12 R281): the event and the evidence entry. -/
def recClearOp (l : Land) (s : State) (c : Nat) : State :=
  let p := portCode l.port
  let t := deliver s (bEvent 2 2 p 0 0)
  answer (queueEvidence t (evidEntry t 2 2 p false)) l c stOk []

/-- REC_MARK (12 R280): the reply comes when the record has its number. -/
def recMarkOp (l : Land) (p0 p1 p2 : Word) (s : State) (_ : Nat) : State :=
  let e := bEvent 5 0 p0.toNat p1.toNat p2.toNat
  let w := waitOf s l 0x19
  let t := setBusy (deliver s e) w
  { t with bureau := { t.bureau with marks := t.bureau.marks ++ [(w, e, none)] } }

/-- AUTH_CHAL (R102): a new nonce replaces any the port holds. -/
def authChalOp (l : Land) (s : State) (c : Nat) : State :=
  let v := Config.nonce s.free
  let t := nextFree s
  let u := putPort t l.port { portOf t l.port with nonce := some { value := v, issued := s.aon.time } }
  answer u l c stOk [v.extractLsb' 48 24, v.extractLsb' 24 24, v.extractLsb' 0 24]

/-- The mask of a KEY_LOAD into a slot that holds `k` (R104). -/
def keyMask (k : BitVec 128) (nonce : BitVec 72) : BitVec 128 :=
  keyOf (aes (keyBytes k) (0x4B :: (beBytes nonce.toNat 9).map (·.toNat) ++ [0, 0, 0, 0, 0, 0]))

/-- KEY_LOAD (R104, 13 R303, R306): a slot that holds a key gets the unmasked bytes, an empty one the plain bytes; a key of
zeros installs nothing. The key takes effect with the reply. -/
def keyLoadOp (l : Land) (slot : Bool) (b : BitVec 144) (nonce : BitVec 72) (s : State) (c : Nat) : State :=
  let key : BitVec 128 := (b >>> 16).setWidth 128
  let k := match keySlot s slot with | some old => key ^^^ keyMask old nonce | none => key
  if b.setWidth 16 ≠ (0 : BitVec 16) ∨ k = 0 then answer s l c stBadLen []
  else
    let p := portCode l.port
    let t := deliver s (bEvent 9 2 (b2n slot) p 0)
    let u := queueEvidence t (evidEntry t 9 2 (b2n slot + 16 * p) false)
    answer { u with ports := { u.ports with keysDue := u.ports.keysDue ++ [(c + 8, slot, k)] } } l c stOk []

/-- ENERGY_PRESET (08 R185): the register, the event and the evidence entry. -/
def presetOp (l : Land) (q : BitVec 4) (v : BitVec 60) (s : State) (c : Nat) : State :=
  if q.toNat > 11 then answer s l c stBadLen []
  else
    let p0 := q.toNat + 16 * b2n (bitAt (getReg s 0x40C) 1) + 256 * portCode l.port
    let t := energyPreset s q.toNat v.toNat
    let u := deliver t (bEvent 6 2 p0 (v.extractLsb' 20 20).toNat (v.extractLsb' 40 20).toNat)
    answer (queueEvidence u (evidEntry u 6 2 p0 false)) l c stOk []

/-- CHAIN_ENUM (11 R257). -/
def chainEnumOp (l : Land) (s : State) (_ : Nat) : State := enumStart s l

/-- RESET_SOFT (03 R58, 04 R89): its reply comes before the reset. -/
def resetSoftOp (l : Land) (key : Field) (s : State) (c : Nat) : State :=
  if key ≠ 0x0A55A then answer s l c stBadLen []
  else
    let t := deliver s (bEvent 0xA 1 (portCode l.port) 0 0)
    answer { t with seq := { t.seq with resetReq := true } } l c stOk []

end Sys2Proof.Machine
end

