-- ==== Sys2Proof/Machine/Packets.lean ====
section
/-!
DEFINITION. Packets as they come in by the three ports (04): framing, the checks of R82, forwarding (R93), the wait for
the landing tick (R83, R105, R106), authentication (R102 to R107), the host's reply buffer (R97) and the maintenance
transmitter (R101).
-/

namespace Sys2Proof.Machine

/-! ### Packets as bytes (R77, R78, R81) -/

/-- The MAC flag, and NOREPLY. -/
def macFlag (flags : Byte) : Bool := flags.getLsbD 7
def noReplyFlag (flags : Byte) : Bool := flags.getLsbD 6

/-- The length of a packet by its header. -/
def packetLen (n : Nat) (flags : Byte) : Nat := 6 + 3 * n + (if macFlag flags then 8 else 0)

/-- LEN of a packet's bytes. -/
def lenOf (b : List Byte) : Nat := (nth b 2 0).toNat

/-- The packet that `b` holds, its CRC apart. -/
def parsePacket (b : List Byte) : Packet :=
  let n := lenOf b
  let flags := nth b 3 0
  { opc := nth b 0 0, tag := nth b 1 0, flags := flags, params := fieldsOf ((b.drop 4).take (3 * n))
    mac := if macFlag flags then (b.drop (4 + 3 * n)).take 8 else [] }

/-- The CRC of a whole packet passes. -/
def crcPasses (b : List Byte) : Bool :=
  let k := packetLen (lenOf b) (nth b 3 0)
  decide (ofBe ((b.drop (k - 2)).take 2) = crc16 (b.take (k - 2)))

/-- The opcodes that are assigned (R86). -/
def assignedOpc (o : Nat) : Bool :=
  [0x00, 0x01, 0x02, 0x03, 0x04, 0x05, 0x08, 0x09, 0x0A, 0x10, 0x11, 0x18, 0x19, 0x20, 0x21, 0x22, 0x28, 0x29, 0x2A, 0x2B,
   0x2C, 0x30, 0x3F].contains o

/-- A MAC flag is allowed (R86). -/
def macAllowed (o : Nat) : Bool := [0x18, 0x29, 0x2A, 0x2B, 0x2C].contains o

/-! ### The opcode a packet asks for (step 5 of R82, R86) -/

/-- What a packet does at its landing: the cycles of its accesses, and its operation. -/
abbrev OpAct : Type := Nat × (State → Nat → State)

/-- Register numbers, each in bits [11:0] of its field. -/
def regsOf (fs : List Field) : Option (List (BitVec 12)) :=
  if fs.all (fun f => decide (f.toNat < 4096)) then some (fs.map (fun f => f.setWidth 12)) else none

/-- Pairs of register number and value. -/
def pairsOf : List Field → List (BitVec 12 × Word)
  | n :: v :: r => (n.setWidth 12, v.setWidth 20) :: pairsOf r
  | _ => []

/-- Triples of register number, AND mask, OR mask. -/
def triplesOf : List Field → List (BitVec 12 × Word × Word)
  | n :: a :: o :: r => (n.setWidth 12, a.setWidth 20, o.setWidth 20) :: triplesOf r
  | _ => []

/-- Every `k`-th field from the first is a register number. -/
def stepFields (k : Nat) (fs : List Field) : List Field :=
  ((upto fs.length).filter (fun i => decide (i % k = 0))).map (fun i => nth fs i 0)

/-- The register opcodes. Each act comes with the cycles it takes before the next port's packet lands (R83, R84): a packet
without accesses of its own takes one, a memory opcode none, and one answered BAD_REG those of its whole list (log entry
102). -/
def regAct (l : Land) (o : Nat) (fs : List Field) : Option OpAct :=
  let n := fs.length
  match o with
  | 0x00 => if n = 0 then some (1, nopOp l) else none
  | 0x01 => if 1 ≤ n ∧ n ≤ 80 then (regsOf fs).map (fun r => (n, rdOp l r)) else none
  | 0x02 =>
    if 2 ≤ n ∧ n ≤ 80 ∧ n % 2 = 0 ∧ (regsOf (stepFields 2 fs)).isSome then some (1, wrOp l 0 (pairsOf fs)) else none
  | 0x03 =>
    if 3 ≤ n ∧ n ≤ 78 ∧ n % 3 = 0 ∧ (regsOf (stepFields 3 fs)).isSome then some (n / 3, rmwOp l 0 (triplesOf fs)) else none
  | 0x04 => if n = 1 ∧ (nth fs 0 0).toNat < 32 then some (1, commitOp l ((nth fs 0 0).setWidth 5)) else none
  | 0x05 => if 1 ≤ n ∧ n ≤ 79 then (regsOf fs).map (fun r => (1, snapOp l r)) else none
  | _ => none

/-- The bytes of data fields, `count` of them; the unused ones must be zero. -/
def dataBytes (fs : List Field) (count : Nat) : Option (List Byte) :=
  let b := fs.flatMap (fun f => beBytes f.toNat 3)
  if (b.drop count).all (· == 0) then some (b.take count) else none

/-- A 32-bit operand in two fields. -/
def operand (a b : Field) : BitVec 32 := BitVec.ofNat 32 (a.toNat * 65536 + b.toNat)

/-- The memory opcodes. -/
def memAct (l : Land) (o : Nat) (fs : List Field) : Option OpAct :=
  let n := fs.length
  let f (i : Nat) : Nat := (nth fs i 0).toNat
  match o with
  | 0x08 => if n = 2 ∧ 1 ≤ f 1 ∧ f 1 ≤ 240 then some (0, memRdOp l (nth fs 0 0) (f 1)) else none
  | 0x09 =>
    if 3 ≤ n ∧ 1 ≤ f 1 ∧ f 1 ≤ 234 ∧ n = 2 + (f 1 + 2) / 3 then
      (dataBytes (fs.drop 2) (f 1)).map (fun d => (0, memWrOp l (nth fs 0 0) d))
    else none
  | 0x0A =>
    let k : Option AccKind := if f 1 = 0 then some .fetchAdd else if f 1 = 1 then some .swap else if f 1 = 2 then some .cmpSwap else none
    match k with
    | some k =>
      if n = (if k = .cmpSwap then 6 else 4) ∧ f 0 % 4 = 0 ∧ (fs.drop 2).all (fun x => decide (x.toNat < 65536)) then
        some (0, memAtomOp l k (nth fs 0 0) (operand (nth fs 2 0) (nth fs 3 0))
          (if k = .cmpSwap then operand (nth fs 4 0) (nth fs 5 0) else 0))
      else none
    | none => none
  | _ => none

/-- CONVERT_NOW, STOOL_CTRL and the display opcodes. -/
def unitAct (s : State) (l : Land) (o : Nat) (fs : List Field) : Option OpAct :=
  let n := fs.length
  let f (i : Nat) : Nat := (nth fs i 0).toNat
  match o with
  | 0x10 =>
    let e : Word := wd (f 0)
    if n = 1 ∧ f 0 < 2 ^ 20 ∧ fld e 10 2 = 0 ∧ entryWith e = false ∧ headOk e = true then some (1, convertOp l e) else none
  | 0x11 =>
    if n = 1 ∧ f 0 < 2 ^ 18 ∧ bitsOf (f 0) 4 12 = 0 ∧ f 0 % 16 ≤ 10 then
      some (1, stoolCtrlOp l (f 0 / 65536) (f 0 % 16))
    else none
  | 0x20 =>
    if n = 4 ∧ f 0 < 512 ∧ f 1 < 256 ∧ rectOk s (f 0) (f 1) (f 2) (f 3) = true then
      some (1, rectOpcode l (f 0) (f 1) (f 2) (f 3))
    else none
  | 0x21 => if blinkOk s (fs.map (·.toNat)) then some (1, blinkOpcode l fs) else none
  | 0x22 => if n = 1 ∧ f 0 ≤ 1 then some (1, powerOpcode l (f 0 == 1)) else none
  | _ => none

/-- The 18 key bytes of a KEY_LOAD. -/
def keyFields (fs : List Field) : BitVec 144 := BitVec.ofNat 144 ((fs.take 6).foldl (fun a f => a * 2 ^ 24 + f.toNat) 0)

/-- Records, keys, settings, energy, chain and reset. -/
def recAct (s : State) (l : Land) (o : Nat) (fs : List Field) (nonce : BitVec 72) : Option OpAct :=
  let n := fs.length
  let f (i : Nat) : Nat := (nth fs i 0).toNat
  let small (k : List Field) : Bool := k.all (fun x => decide (x.toNat < 2 ^ 20))
  match o with
  | 0x18 => if n = 0 then some (1, recClearOp l) else none
  | 0x19 => if n = 3 ∧ small fs = true then some (1, recMarkOp l (wd (f 0)) (wd (f 1)) (wd (f 2))) else none
  | 0x28 => if n = 0 then some (1, authChalOp l) else none
  | 0x29 =>
    let b := keyFields (fs.drop 1)
    let slot := f 0 == 1
    if n = 7 ∧ f 0 ≤ 1 ∧ b.setWidth 16 = (0 : BitVec 16) ∧ ((keySlot s slot).isSome = true ∨ b ≠ 0) then
      some (1, keyLoadOp l slot b nonce)
    else none
  | 0x2A => if n = 0 then some (1, cfgSaveOp' l) else none
  | 0x2B => if n = 0 then some (1, calSealOp' l) else none
  | 0x2C =>
    if n = 4 ∧ f 0 ≤ 11 ∧ small (fs.drop 1) = true then
      some (1, presetOp l (BitVec.ofNat 4 (f 0)) (BitVec.ofNat 60 (f 1 + f 2 * 2 ^ 20 + f 3 * 2 ^ 40)))
    else none
  | 0x30 => if n = 0 then some (1, chainEnumOp l) else none
  | 0x3F => if n = 1 ∧ f 0 = 0x0A55A then some (1, resetSoftOp l 0x0A55A) else none
  | _ => none
where
  /-- CFG_SAVE and CAL_SEAL with the landing first. -/
  cfgSaveOp' (l : Land) (s : State) (c : Nat) : State := cfgSaveOp s l c
  calSealOp' (l : Land) (s : State) (c : Nat) : State := calSealOp s l c

/-- The landing of a packet on port `p`. -/
def landOf (p : PortId) (k : Packet) : Land := { port := p, tag := k.tag, noreply := noReplyFlag k.flags }

/-- What packet `k` asks for; none where step 5 fails. -/
def packetAct (s : State) (p : PortId) (k : Packet) (nonce : BitVec 72) : Option OpAct :=
  let l := landOf p k
  let o := k.opc.toNat
  if o ≤ 0x05 then regAct l o k.params
  else if o ≤ 0x0A then memAct l o k.params
  else if o = 0x10 ∨ o = 0x11 ∨ o = 0x20 ∨ o = 0x21 ∨ o = 0x22 then unitAct s l o k.params
  else recAct s l o k.params nonce

/-! ### Authentication (step 7; R102, R103, R107) -/

/-- The slot whose key authenticates the packet; none where no authentication is asked (R86, R104). -/
def authSlot (s : State) (k : Packet) : Option Bool :=
  match k.opc.toNat with
  | 0x18 => some false
  | 0x29 =>
    let slot := (nth k.params 0 0).getLsbD 0
    if (keySlot s slot).isSome then some slot else none
  | 0x2A => some false
  | 0x2B => some true
  | 0x2C => some false
  | _ => none

/-- The message M of R103. -/
def authMessage (p : PortId) (k : Packet) (nonce : BitVec 72) : List Byte :=
  beBytes nonce.toNat 9 ++ [BitVec.ofNat 8 (portCode p), BitVec.ofNat 8 (bitsOf k.flags.toNat 4 2)]
    ++ [k.opc, k.tag, BitVec.ofNat 8 k.params.length, k.flags] ++ k.params.flatMap (fun f => beBytes f.toNat 3)

/-- The MAC of R103. -/
def macOf (p : PortId) (k : Packet) (nonce : BitVec 72) (key : BitVec 128) : List Byte :=
  ((cmac (keyBytes key) ((authMessage p k nonce).map (·.toNat))).take 8).map (BitVec.ofNat 8)

/-- Step 7: none when it passes, else whether the refusal counts as a failure (R107). -/
def authCheck (s : State) (p : PortId) (k : Packet) (slot : Bool) (nonce : Option NonceRec) : Option Bool :=
  match keySlot s slot with
  | none => some false
  | some key =>
    if locked s then some false
    else if !macFlag k.flags then some true
    else
      match nonce with
      | none => some true
      | some v => if macOf p k v.value key = k.mac then none else some true

/-! ### A packet is taken (R82) -/

/-- A packet passes step 2: the host's buffer is discarded (R97), a maintenance reply that is not yet being sent too (R101;
log entry 91), and MAINT_RX is set. -/
def passedCrc (s : State) (p : PortId) : State :=
  match p with
  | .host => putPort s .host { s.ports.host with reply := none }
  | .maint =>
    let t := putPort s .maint { s.ports.maint with reply := if s.ports.sending then s.ports.maint.reply else none }
    raise { t with ports := { t.ports with
      mtxReq := t.ports.mtxReq && (t.ports.sending || t.power.granted.getLsbD 9) } } srcMaintRx
  | .chain => s

/-- The packet waits for its landing or its DENIED reply. -/
def holdPacket (s : State) (p : PortId) (way : Option From) (e : Exec) : State :=
  match way with
  | none => putPort s p { portOf s p with exec := some e }
  | some w => { s with ports := { s.ports with chainQ := s.ports.chainQ ++ [(e, w)] } }

/-- Steps 6 and 7. -/
def routePacket (s0 : State) (p : PortId) (way : Option From) (k : Packet) (cyc : Nat) : State :=
  let pos : BitVec 2 := BitVec.ofNat 2 (bitsOf k.flags.toNat 4 2)
  if way.isNone && decide (pos ≠ ownPos s0) then forwardPacket s0 p k pos cyc
  else
    let s := staleNonce s0 p
    let n := (portOf s p).nonce
    let e : Exec := { pkt := k, cyc := cyc, wait := 1, denied := none, auth := false, nonce := (n.map (·.value)).getD 0 }
    match authSlot s k with
    | none => holdPacket s p way e
    | some slot =>
      holdPacket (putPort s p { portOf s p with nonce := none }) p way
        { e with wait := 2, auth := true, denied := authCheck s p k slot n }

/-- Steps 4 to 7, for a packet whose CRC has passed in cycle `cyc`. -/
def checkPacket (s : State) (p : PortId) (way : Option From) (k : Packet) (cyc : Nat) : State :=
  let o := k.opc.toNat
  if bitsOf k.flags.toNat 0 4 ≠ 0 ∨ assignedOpc o = false ∨ (macFlag k.flags = true ∧ macAllowed o = false) then
    replyNow s p way k.tag stBadOpc cyc 8
  else if (packetAct s p k 0).isNone then replyNow s p way k.tag stBadLen cyc 8
  else routePacket s p way k cyc

/-- Step 3, then the rest, for a packet whose CRC has passed: in COLD and LOAD it has no effect but its BUSY reply (03
R55). -/
def takePacket (s : State) (p : PortId) (way : Option From) (k : Packet) (cyc : Nat) : State :=
  if starting s then replyNow s p way k.tag stBusy cyc 8
  else if !portsUp s then s
  else checkPacket (passedCrc s p) p way k cyc

/-- The ports listen: PD2 is at work and not in GASP (02 R43). -/
def portsListen (s : State) : Bool := coreOn s && decide (s.seq.st ≠ .gasp)

/-- HOST_PACKET_WRITE (R96 to R98): the bytes from OPC on. A BAD_LEN or BAD_CRC reply takes the place of an unread reply in
the buffer (log entry 89). -/
def hostPacketOp (s0 : State) (cyc : Nat) (b : List Byte) : State :=
  let s := portsBy s0 cyc
  if !portsListen s then s
  else if portExec s .host || decide (b.length < 4) then portLost s .host
  else if lenOf b > 80 then answerAt s .host (nth b 1 0) false stBadLen [] cyc 8
  else if b.length < packetLen (lenOf b) (nth b 3 0) then portLost s .host
  else if !crcPasses b then answerAt s .host (nth b 1 0) false stBadCrc [] cyc 8
  else takePacket s .host none (parsePacket b) cyc

/-- REPLY_READ of `n` bytes (R97), after the reply has become ready: the buffer is discarded once every byte has been
clocked out. -/
def replyReadOp (s0 : State) (n : Nat) : State :=
  let s := replyReady s0 .host
  match s.ports.host.reply with
  | some r =>
    if portsListen s && decide ((replyBytes r).length ≤ n) then putPort s .host { s.ports.host with reply := none } else s
  | none => s

/-- The port status byte on HMISO (R96). -/
def statusByte (s : State) : Byte :=
  BitVec.ofNat 8 (128 * b2n (hostReady s) + 64 * b2n (portExec s .host) + 32 * b2n (starting s) + 16 * b2n (locked s))

/-- What a reply read of `n` bytes clocks out (R96, R97). -/
def hostReads (s : State) (n : Nat) : List Byte :=
  let b := match s.ports.host.reply with | some r => replyBytes r | none => []
  (b ++ ffs n).take n

/-- What HMISO gives in a frame of the host port whose code is `code` and is followed by `n` bytes (R96): the status byte,
then zeros in a packet write, the reply and 0xFF in a reply read, 0xFF in any other frame, which is ignored; none where
the lead is in high impedance (02 R48). -/
def hostMiso (s : State) (code : Byte) (n : Nat) : Option (List Byte) :=
  if outputsOn s 11 then
    some (statusByte s :: (if code = 0xA5 then List.replicate n 0 else if code = 0x5A then hostReads s n else ffs n))
  else none

/-! ### The maintenance port (R99 to R101) -/

/-- Bit `i` of a received character (16 R366): the majority of samples 7, 8 and 9 of its 16. -/
def uartBit {w : Nat} (c : BitVec w) (i : Nat) : Bool :=
  let a (k : Nat) : Bool := c.getLsbD (16 * i + k)
  (a 7 && a 8) || (a 7 && a 9) || (a 8 && a 9)

/-- The byte of a character: its eight data bits after the start bit, least significant first (R99). -/
def uartByte (c : BitVec 144) : Byte := BitVec.ofNat 8 ((upto 8).foldl (fun v i => v + b2n (uartBit c (i + 1)) * 2 ^ i) 0)

/-- A stop bit is bad: it is not 1 (R99, R100). -/
def uartBadStop (c : BitVec 16) : Bool := !uartBit c 0

/-- The time on the line clock of 1 ms. -/
def msClock : Nat := 786432


/-- A frame's bytes with the escapes undone (R100). -/
def unescape : List Byte → List Byte
  | [] => []
  | a :: r =>
    if a = 0x7D then
      match r with
      | b :: q => (b ^^^ 0x20) :: unescape q
      | [] => []
    else a :: unescape r

/-- The bytes of a frame with 0x7E and 0x7D escaped (R100). -/
def escape : List Byte → List Byte
  | [] => []
  | a :: r => if a = 0x7E ∨ a = 0x7D then 0x7D :: (a ^^^ 0x20) :: escape r else a :: escape r

/-- MRX is received: MAINT_EN, and neither during a transmission nor in the 1 ms after it (R101). -/
def mrxOn (s : State) : Bool :=
  portsListen s && bitAt (getReg s 0x200) 0 && !s.ports.sending && decide (s.ports.deaf = 0)

/-- The closing delimiter of a packet is received in cycle `cyc`: the 2 ms of its reply begin (R101). -/
def delimiterAt (s : State) (cyc : Nat) : State :=
  { s with ports := { s.ports with sinceDelim := -((min cyc 6144 * cycleClock s : Nat) : Int) } }

/-- MAINT_FRAME: the bytes between two delimiters. An empty frame is ignored; one too short to hold a TAG is answered with
TAG 0 (log entry 90). -/
def maintFrameOp (s0 : State) (cyc : Nat) (wire : List Byte) (badStop : Bool) : State :=
  let s := portsBy s0 cyc
  let b := unescape wire
  if !mrxOn s || wire.isEmpty then s
  else if badStop || decide (b.length > 254) || portExec s .maint then portLost s .maint
  else
    let t := delimiterAt s cyc
    if b.length < 4 ∨ lenOf b > 80 ∨ b.length ≠ packetLen (lenOf b) (nth b 3 0) then
      answerAt t .maint (nth b 1 0) false stBadLen [] cyc 8
    else if !crcPasses b then answerAt t .maint (nth b 1 0) false stBadCrc [] cyc 8
    else takePacket t .maint none (parsePacket b) cyc

/-- MAINT_GAP_TIMEOUT: the frame being received is discarded. -/
def maintGapOp (s : State) : State := if mrxOn s then portLost s .maint else s

/-- A maintenance reply can be sent: its grant is in force, MAINT_EN is 1, and 2 ms have passed `slack` on (R101). -/
def maintReady (s : State) (slack : Nat) : Bool :=
  portsListen s && s.ports.maint.reply.isSome && !s.ports.sending && s.power.granted.getLsbD 9
    && bitAt (getReg s 0x200) 0 && decide (s.ports.sinceDelim + slack ≥ 2 * msClock)

/-- The transmission of a reply begins, if it can within the time `slack`. -/
def maintTransmit (s : State) (slack : Nat) : State :=
  if maintReady s slack then { s with ports := { s.ports with sending := true, idleUnits := none } } else s

/-- MAINT_REPLY_TRANSMIT: the 2 ms end within the present tick. -/
def maintTransmitOp (s : State) : State := maintTransmit s (tickClock s)

/-- The bytes on MTX while a reply is sent (R100). -/
def mtxBytes (s : State) : List Byte :=
  match s.ports.maint.reply with
  | some r => if s.ports.sending then 0x7E :: escape (replyBytes r) ++ [0x7E] else []
  | none => []

/-- MAINT_REPLY_SENT: the closing delimiter has left. The row gives no cycle: the times of R101 that begin with it begin at
the tick's end (log entry 92). -/
def maintSentOp (s : State) : State :=
  if s.ports.sending then
    let t := putPort s .maint { s.ports.maint with reply := none }
    { t with ports := { t.ports with
        sending := false, idleUnits := some (-(tickClock s : Int)), deaf := msClock + tickClock s } }
  else s

/-- Consumer 9 is released when 500 ms since the last closing delimiter have passed `slack` on. -/
def mtxRelease (s : State) (slack : Nat) : State :=
  match s.ports.idleUnits with
  | some k =>
    if 500 * (msClock : Int) ≤ k + slack ∧ s.ports.maint.reply.isNone then
      { s with ports := { s.ports with mtxReq := false, idleUnits := none } }
    else s
  | none => s

/-- MTX_RELEASE: the 500 ms end within the present tick. -/
def mtxReleaseOp (s : State) : State := mtxRelease s (tickClock s)

/-- The maintenance port's times advance by the tick that ends. -/
def maintTick (s : State) : State :=
  let u := tickClock s
  let t : State := { s with ports := { s.ports with
    idleUnits := s.ports.idleUnits.map (· + (u : Int)), deaf := s.ports.deaf - u
    sinceDelim := min (s.ports.sinceDelim + u) (2 * msClock : Nat) } }
  maintTransmit (mtxRelease t 0) 0

/-! ### The CHAIN port (R93, R94) -/

/-- PKT_FRAME: passed on, or taken from step 3 on, or answered BUSY with four queued; on a broken path its sender is
told. -/
def pktFrameOp (s : State) (cyc : Nat) (f : RxFrame) : State :=
  let back (st : Nat) (t : State) : State :=
    sendFrame t { side := f.side, type := 2, dest := f.src, src := ownPos t, ltag := f.ltag
                  payload := replyBytes { tag := nth f.payload 1 0, status := st, fields := [], tick := t.seq.tick, cyc := cyc } }
  frameOp s 1 f (back stChainDown) (fun t =>
    let way : From := (f.side, f.src, f.ltag)
    if t.ports.chainQ.length ≥ 4 then back stBusy t
    else if f.payload.length < 4 ∨ lenOf f.payload > 80 ∨ f.payload.length < packetLen (lenOf f.payload) (nth f.payload 3 0) then
      replyNow t .chain (some way) (nth f.payload 1 0) stBadLen cyc 8
    else takePacket t .chain (some way) (parsePacket f.payload) cyc)

/-! ### Landings at a boundary (R83, R94, R106) -/

/-- DENIED_REPLY of port `p` (R105, R107). -/
def deniedReplyOp (s : State) (p : PortId) : State := if portsUp s then refuseWhen refusalDue s p else s

/-- What an authenticated packet's landing has left is not ready before cycle `cyc` (R106): its reply, with EXEC and READY,
a CHAIN reply's frame, and the key of a KEY_LOAD. `old` is the state before the landing. -/
def notBefore (old s : State) (p : PortId) (cyc : Nat) : State :=
  let q := portOf s p
  let late (d : Nat) : Nat := max d cyc
  let t := putPort s p { q with
    due := q.due.map late
    reply := q.reply.map (fun r => if r.tick = s.seq.tick then { r with cyc := late r.cyc } else r) }
  let k := old.ports.chainOut.length
  let n := old.ports.keysDue.length
  { t with ports := { t.ports with
    chainOut := s.ports.chainOut.take k ++ (s.ports.chainOut.drop k).map (fun r => (late r.1, r.2))
    keysDue := s.ports.keysDue.take n ++ (s.ports.keysDue.drop n).map (fun r => (late r.1, r.2)) } }

/-- A waiting packet lands in the tick that begins. -/
def landExec (s : State) (p : PortId) (e : Exec) : State :=
  let l := landOf p e.pkt
  let act : OpAct := (packetAct s p e.pkt e.nonce).getD (1, fun t c => answer t l c stBadLen [])
  let t := landing s l act.1 act.2
  if e.auth then notBefore s t p e.cyc else t

/-- A boundary passes for a waiting packet. -/
def Exec.pass (e : Exec) : Exec := { e with wait := e.wait - 1 }

/-- The packet of the host or the maintenance port lands when its tick has come. -/
def landPort (s : State) (p : PortId) : State :=
  match (portOf s p).exec with
  | some e =>
    if decide (e.wait = 0) && e.denied.isNone then landExec (putPort s p { portOf s p with exec := none }) p e else s
  | none => s

/-- The CHAIN packet at the front lands when its tick has come, be earlier ones still busy (R94); refusals wait aside, and a
packet behind one whose tick has not come waits with it (log entry 93). -/
def landChain (s : State) : State :=
  let q := takeFirst (fun e => e.denied.isNone) s.ports.chainQ
  match q.1 with
  | some (e, w) =>
    if e.wait = 0 then
      landExec { s with ports := { s.ports with chainQ := q.2, chainFrom := some w } } .chain e
    else s
  | none => s

/-- The waits of the boundary, then the landings in port order: HOST, MAINT, CHAIN. -/
def landAll (s : State) : State :=
  let h := s.ports.host
  let m := s.ports.maint
  let t : State := { s with ports := { s.ports with
    host := { h with exec := h.exec.map Exec.pass }, maint := { m with exec := m.exec.map Exec.pass }
    chainQ := s.ports.chainQ.map (fun a => (a.1.pass, a.2)) } }
  if portsUp t then landChain (landPort (landPort t .host) .maint) else t

end Sys2Proof.Machine
end

