-- ==== Sys2Proof/Machine/PowerEvents.lean ====
section
/-!
DEFINITION. What happens to the supplies: PD0 and PD1 starting, the cold start (02 R26 to R33), the levels of R27, VAUX
and VBC coming and going (R24, R28, R41, R379), the loss of every source (13 R282), and the CELL class (13 R285).
-/

namespace Sys2Proof.Machine

/-! ### PD0 AON (02 R26, 13 R282) -/

/-- PD0_POWER_UP. -/
def pd0PowerUpOp (s : State) : State := if s.aon.powered then s else aonUp s

/-- ALL_SOURCES_LOST: every source is gone, and with them every domain. -/
def allSourcesLostOp (s : State) : State :=
  let t := lostAon (hardOffNow s)
  { t with power := { t.power with
    vres := 0, vaux := 0, vbc := 0, vresMeas := 0, vauxMeas := 0, vbcMeas := 0, harv := 0, vauxValid := false
    vbcOk := false, shunt := false, belowLow := true, aonSrc := .none, loadAux := false, charge := 0, vbcFell := none
    on := 0, working := 0 } }

/-- AON_SOURCE_CHANGE: VRES crosses 2.6 V, or VAUX or VBC appears or goes. -/
def aonSourceChangeOp (s : State) (vres vbc : Nat) : State := setVbc (setVres s vres) vbc

/-- VBC_LOW: VBC falls below 2.2 V. -/
def vbcLowOp (s : State) (mv : Nat) : State :=
  if s.power.vbcOk && decide (mv < 2200) then setVbc s mv else s

/-- VBC stood at 2.2 V or above at most 10 ms before the present time (13 R285). -/
def cellStood (s : State) : Bool :=
  s.power.vbcOk || (match s.power.vbcFell with
    | some t => decide (s.aon.time ≤ t + 40960)
    | none => false)

/-- CELL (13 R285): VBC has fallen from at least 2.2 V to below 1.0 V within 10 ms; the removed cell feeds PD0 no
longer. One removal is one event: it is sensed once. -/
def cellOp (s : State) (now : Nat) : State :=
  let t := atOsc s now
  if s.aon.powered && cellStood t then
    let u := setVbc t 0
    let v : State := { u with power := { u.power with vbcFell := none } }
    if v.aon.powered then sense (setCond v 2 true) 2 else v
  else s

/-! ### PD1 and the cold start (02 R27, R28, R29, R33) -/

/-- PD1_START: VRES has risen to 3.0 V, or VAUX is valid. -/
def pd1StartOp (s : State) (vres vaux : Nat) : State :=
  if !s.power.pd1 && (decide (vres ≥ 3000) || decide (vaux ≥ 4300)) then
    let t := chooseLoad { s with power := { s.power with
      pd1 := true, vaux := vaux, vauxValid := decide (vaux ≥ 4300), on := setBit12 s.power.on 1 true ||| 1
      working := setBit12 s.power.working 1 true ||| 1 } }
    setVres t vres
  else s

/-- COLD_START: the switches of PD9, PD2, PD7 and PD11 close; the wiring test is to be made anew (11 R256). -/
def coldStartOp (s : State) (vres : Nat) : State :=
  if s.power.pd1 && !coreOn s && !s.power.coldStarting && decide (vres ≥ 3600) then
    let t := setVres s vres
    { t with
      power := { t.power with coldStarting := true, ramping := t.power.ramping ||| 0xA84 }
      chain := { t.chain with wired := false, wiringDone := false, posValid := false, pos := 0, conflict := false } }
  else s

/-- The ramps of the domains that start with PD2 are over. -/
def startRamps (s : State) : State := [9, 2, 7, 11].foldl domainRampEndOp s

/-- CORE_RESET_RELEASE: COLD begins, unless TEST holds PD2 in reset (18 R377). -/
def coreResetReleaseOp (s : State) (test : Bool) : State :=
  if s.power.coldStarting && !s.power.testHold then
    let t := startRamps s
    let u : State := { t with power := { t.power with testLevel := test } }
    if test then { u with power := { u.power with testHold := true } } else coldReset u
  else s

/-! ### The levels of VRES (02 R27, R30, R39, R41) -/

/-- PFAIL: VRES below 2.9 V, qualified. -/
def pfailEvent (s : State) (vres : Nat) : State :=
  if s.power.pd1 && decide (vres < 2900) then pfailOp (setVres s vres) else s

/-- HARD_OFF: VRES below 2.5 V, qualified; held while the load is drawn from VAUX (R379). -/
def hardOffEvent (s : State) (vres : Nat) : State :=
  if s.power.pd1 && decide (vres < 2500) then
    let t := setVres s vres
    if t.power.loadAux then t else hardOffNow t
  else s

/-- SHUNT_ON: VRES reaches regulation. -/
def shuntOnOp (s : State) (vres : Nat) : State :=
  if s.power.pd1 && !s.power.shunt && decide (vres ≥ 5500) then
    let t := setVres s vres
    raise { t with power := { t.power with shunt := true } } srcShuntOn
  else s

/-- LOW_RES: VRES falls below LOW_RES. -/
def lowResOp (s : State) (vres : Nat) : State :=
  if s.power.pd1 && !s.power.belowLow && decide (vres < lowResMv s) then setVres s vres else s

/-- AUTO_SETTLE_FULL_REQUEST: VRES has stood at LOW_RES + 0.2 V or above for 1 s. -/
def autoSettleFullOp (s : State) (vres : Nat) : State :=
  if s.power.pd1 && s.power.autoReq && decide (vres ≥ lowResMv s + 200) then
    let t := setVres s vres
    { t with power := { t.power with autoReq := false } }
  else s

/-- FLOOR_REVOKE: VRES has fallen below a class floor less 0.2 V; the grants so crossed are revoked together. -/
def floorRevokeOp (s : State) (vres : Nat) : State :=
  let t := setVres s vres
  if coreOn s && decide (s.seq.st ≠ .gasp) && decide ((revokeFloors t).power.granted ≠ t.power.granted) then
    grantEffects s.power.granted (revokeFloors t)
  else s

/-! ### VAUX (02 R24, R41, R379) -/

/-- VAUX_UP: VAUX has been valid for 10 ms. A request of AUTO_SETTLE is withdrawn. -/
def vauxUpOp (s : State) (mv : Nat) : State :=
  if s.power.pd1 && !s.power.vauxValid && decide (mv ≥ 4300) then
    let t : State := { s with power := { s.power with
      vaux := mv, vauxValid := true, autoReq := false, aonSrc := aonSource s.power.vres true s.power.vbc } }
    aonFollow (raise (chooseLoad t) srcVauxUp)
  else s

/-- VAUX_DOWN: the load returns to VRES, AUTO_SETTLE acts again, and what R379 held back acts. -/
def vauxDownOp (s : State) (vres : Nat) : State :=
  if s.power.vauxValid then
    let t := chooseLoad (setVres { s with power := { s.power with vauxValid := false } } vres)
    let u : State := { t with power := { t.power with autoReq := autoSettle t && t.power.belowLow } }
    let v := raise u srcVauxDown
    if s.power.loadAux then releaseHeldOff v else v
  else s

end Sys2Proof.Machine
end

