-- ==== Sys2Proof/Machine/Boundary.lean ====
section
/-!
DEFINITION. The tick boundary (03 R62): the end of the tick before it, its seven steps, and the start of the tick after
it; and the events that a boundary brings and the table names.
-/

namespace Sys2Proof.Machine

/-! ### The end of a tick -/

/-- What falls due within the tick and has not been brought by a row of its own. -/
def flushTick (s : State) : State :=
  let s1 := runAll s
  let s2 := if running s1 then harmBackground s1 else s1
  let s3 := chainFlush (procFlush (cfFlush s2))
  scrubTickEnd (capDoneOp (memFlush s3))

/-- The samples of the tick, and the clocks; the tick has the length of the mode it began in. -/
def clocksTick (s : State) (bits : List (BitVec 512)) : State :=
  let t := settlingTick (frontsTick s bits)
  { t with
    aon := { t.aon with time := t.aon.time + (if s.seq.slow then 2048 else 512) }
    line := { t.line with clkPrev := t.line.clk, clk := t.line.clk + (if s.seq.slow then 393216 else 98304) } }

/-- What counts ticks and acts at their end (05 R118 to R126, 06 R143, 08 R187, 09 R202, 04 R101, R102, R107). -/
def countersTick (s : State) : State :=
  let s1 := procTickEnd (stoolTickEnd s)
  let s2 := if running s1 then pqTick s1 else s1
  let s3 := eraseTick (energyTime (periodicSaveOp (maintTick s2)))
  [PortId.host, .maint, .chain].foldl staleNonce (lockEnd s3)

/-- The Bureau takes the events of the tick in RUN, SETTLE and HOLD, once its restore has been made (12 R260, R266). -/
def bureauTick (s : State) : State := if portsUp s && !s.seq.holdRestore then bureauBoundary s else s

/-- The supplies as PD1 has measured them in this tick (02 VRES_MEAS). -/
def measure (s : State) (m : Supply) : State :=
  let t := setVbc (setVres { s with power := { s.power with
    vresMeas := m.vresMv % 65536, vauxMeas := m.vauxMv % 65536, vbcMeas := m.vbcMv % 65536
    harv := m.harvQmw % 1048576, vaux := m.vauxMv } } m.vresMv) m.vbcMv
  supplyConds t m.vcoreMv

/-- The board over the tick that ends. -/
def boardTick (s : State) (e : TickIn) : State :=
  let t := match e.supply with
    | some m => measure s m
    | none => s
  { t with
    pins := { t.pins with board := e.gp }
    power := { t.power with testLevel := e.test } }

/-- The tick ends. -/
def endTick (s : State) (e : TickIn) : State :=
  let t : State := { s with pins := { s.pins with board := e.gp } }
  boardTick (bureauTick (countersTick (clocksTick (flushTick t) e.bits))) e

/-! ### Step 2: COMMIT (03 R63, R70) -/

/-- The in-force copies of `n` on, `k` of them, take their shadows. -/
def applyShadows (s : State) (n k : Nat) : State :=
  (upto k).foldl (fun t i => setForce t (n + i) (getReg t (n + i))) s

/-- The committed configuration has a negative margin in either mode (R70). -/
def schedShort (s : State) : Bool :=
  decide ((schedReq s).margin false (nom60 s) < 0) || decide ((schedReq s).margin true (nom60 s) < 0)

/-- Groups in the order ARB, SEG, FIR, PINMUX, SCHED. -/
def commitStep (s : State) : State :=
  let m := s.seq.commitMask
  if m = 0 ∧ s.seq.commitReq = false then s
  else
    let s1 := if m.getLsbD 0 then applyShadows s 0x610 8 else s
    let s2 := if m.getLsbD 1 then
        let t := applyShadows s1 0x692 3
        { t with dresser := { t.dresser with inForce := t.dresser.shadow, cache := List.replicate 8 none } }
      else s1
    let s3 := if m.getLsbD 2 then
        let t := applyShadows s2 0x3A0 10
        raise { t with firActive := !t.firActive } srcFirSwap
      else s2
    let s4 := if m.getLsbD 3 then applyPinmux s3 (getReg s3 0x880) (pinmuxB s3) else s3
    let s5 := if m.getLsbD 4 then applyShadows s4 0x184 4 else s4
    let s6 := raiseIf ((m.getLsbD 2 || m.getLsbD 4) && schedShort s) srcSchedShort s5
    raise { s6 with seq := { s6.seq with commitMask := 0, commitReq := false } } srcCommitApplied

/-! ### Steps 3 and 4: mode, grants, domains (02 R31, R38 to R40) -/

/-- A granted mode change takes effect. -/
def modeStep (s : State) : State := if portsUp s then decideMode s else s

/-- Revocations and the decisions of the tick that ends. -/
def grantStep (s : State) : State := grantEffects s.power.granted (evaluateGrants (revokeCeiling (revokeFloors s)))

/-- Domains follow their requests; those whose ramp has ended go to work. -/
def domainStep (s : State) : State := domainsWork (switchDomains s)

/-! ### Step 5: the snapshot and the comparison of pairs (00 R10, 03 R74) -/

/-- The registers with an SN field. -/
def snRegs : List Nat := regRows.flatMap (fun r => if r.sn = 0 then [] else rowNumbers r)

/-- The snapshot takes every SN field as it stands. -/
def snapshotStep (s : State) : State :=
  { s with snap := snRegs.foldl (fun m n => sset regReset m n (getReg s n)) s.snap }

/-- Pair `k` differs: DOMAIN, SCHED, PINMUX, MODE. -/
def pairDiffers (s : State) (k : Nat) : Bool :=
  match k with
  | 0 => decide (BitVec.ofNat 12 (regN s 0x108) ≠ s.power.on)
  | 1 => decide (getReg s 0x184 ≠ schedState0 s) || decide (getReg s 0x185 ≠ schedState1 s)
      || decide (getReg s 0x186 ≠ schedState2 s) || decide (getReg s 0x187 ≠ schedState3 s)
  | 2 => decide (getReg s 0x880 ≠ forceReg s 0x880) || decide (getReg s 0x881 ≠ forceReg s 0x881)
  | _ => decide (wantsSettle s ≠ s.power.settle)

/-- The count of pair `k` goes on, and at 5 the mismatch is reported (R74). -/
def comparePair (s : State) (k : Nat) : State :=
  if pairDiffers s k then
    let n := min (nth s.seq.mism k 0 + 1) 5
    let t : State := { s with seq := { s.seq with mism := setNth s.seq.mism k n } }
    if n = 5 then raise (orReg t 0x193 (2 ^ k)) srcCfgMismatch else t
  else clearReg { s with seq := { s.seq with mism := setNth s.seq.mism k 0 } } 0x193 (2 ^ k)

/-- Every pair is compared. -/
def compareStep (s : State) : State := (upto 4).foldl comparePair s

/-! ### Step 6: the count and the cycle results (03 R71, R72) -/

/-- TICK_COUNT increments and the cycle results that are due are published. -/
def countStep (s : State) : State := tailTick { s with seq := { s.seq with tick := s.seq.tick + 1 } }

/-! ### Step 7: HALT, GO, RESET_SOFT, state changes (03 R52 to R58) -/

/-- HOLD begins by HALT: what is in progress is discarded (03 R56, R57, 06 R154, 09 R198, R203, R210, 12 R265). -/
def enterHold (s : State) : State :=
  let t := raise (raise { s with seq := { s.seq with st := .hold, holdCause := 3 } } srcStateChanged) srcHoldEntered
  let u := harmSkip (cfStopAll (procHalt (pqCuts (capBoundary t true) true)))
  { u with
    line := { u.line with
      tail := none, open_ := false, winOpen := false, provStart := none, cross := none, prov := none, halfCur := noHalf }
    bureau := { u.bureau with tsDue := u.bureau.tsDue + 1 } }

/-- RUN or SETTLE follows the mode in force. -/
def runState (s : State) : SeqSt := if s.power.settle then .settle else .run

/-- HOLD is left by GO. -/
def leaveHold (s : State) : State := raise { s with seq := { s.seq with st := runState s, holdCause := 0 } } srcStateChanged

/-- RUN and SETTLE change with the mode. -/
def followMode (s : State) : State :=
  if running s && decide (s.seq.st ≠ runState s) then
    raise { s with seq := { s.seq with st := runState s } } srcStateChanged
  else s

/-- HALT and GO as they stand at the boundary; HALT wins (R57). -/
def haltGo (s0 : State) : State :=
  let s : State := { s0 with seq := { s0.seq with haltReq := false, goReq := false } }
  if running s && s0.seq.haltReq then enterHold s
  else if decide (s.seq.st = .hold) && s0.seq.goReq && !s0.seq.haltReq
      && (s.seq.holdCause == 1 || s.seq.holdCause == 3) then leaveHold s
  else followMode s

/-- A tick of COLD, of LOAD, or of the HOLD that waits for its restore passes (R53, R54, 12 R266). -/
def stateTick (s : State) : State :=
  let t : State := { s with seq := { s.seq with stateTicks := s.seq.stateTicks + 1 } }
  match s.seq.st with
  | .cold => if s.seq.stateTicks ≥ 15 then coldEndOp { s with seq := { s.seq with stateTicks := 15 } } else t
  | .load => t
  | .hold => if !s.seq.holdRestore then s else if s.seq.stateTicks ≥ 239 then holdRestoreOp s else t
  | _ => s

/-- Step 7: HALT and GO, then RESET_SOFT. -/
def stateStep (s : State) : State :=
  let t := haltGo s
  if resetReady t then softReset t else stateTick (orderlyStopOp t)

/-! ### The start of a tick -/

/-- Register `n` of the snapshot has changed since `old`. -/
def snapChanged (old s : State) (n : Nat) : Bool := decide (snapReg old n ≠ snapReg s n)

/-- Detectors whose tuning has reached the snapshot restart; all restart at a mode change and when HOLD is left (07 R167
to R171). -/
def detsStep (old : State) (all : Bool) (s : State) : State :=
  (upto 4).foldl (fun t d =>
    if all || snapChanged old s (0x3C8 + d) || snapChanged old s (0x3CC + d) || snapChanged old s (0x3D0 + d) then
      retuneDet (restartDet t d) d
    else t) s

/-- Streams that settle anew: all of them at a mode change, a COMMIT of FIR and the start of RUN or SETTLE; one that has
joined (07 R166). -/
def settleStep (all : Bool) (s : State) : State :=
  let t := startSettling s (fun n => all || !s.streams.prevForce.getLsbD n)
  { t with streams := { t.streams with prevForce := (schedState0 t &&& 0x3FF ||| (if inSched t 10 then 0x400 else 0)).setWidth 11 } }

/-- A mode change in RUN or SETTLE reaches the process windows and the harmonic window. -/
def modeEffects (s : State) : State := harmSkip (procModeChange s)

/-- The line tracker enters ACQUIRE in the new tick (08 R175). -/
def lineStep (old : State) (began : Bool) (s : State) : State :=
  let ref := decide (fld (snapReg old 0x400) 0 2 ≠ fld (snapReg s 0x400) 0 2) || decide (nom60 old ≠ nom60 s)
  { s with line := { s.line with enter := s.line.enter || began || ref } }

/-- Blocks that take the snapshot and the schedule at the start of a tick. `began`: RUN or SETTLE has been entered from
LOAD or HOLD; `fir`: a COMMIT of FIR was applied. -/
def blocksStep (old : State) (began fir : Bool) (s : State) : State :=
  let mode := decide (old.power.settle ≠ s.power.settle)
  let s1 := if began then { s with streams := { s.streams with hist := List.replicate 11 [] } } else clearHist s
  let s2 := settleStep (mode || fir || began) (detsStep old (mode || began) s1)
  let s3 := if mode && running s2 && !began then modeEffects s2 else s2
  let s4 := if mode then stoolModeChange s3 else s3
  cfTick (procNewTick (stoolNewTick (pqCuts (capBoundary (lineStep old began s4) false) false)))

/-- The new tick: nothing has happened in it. -/
def freshTick (s : State) : State :=
  let t := duesPass (boardPass (chainTick s))
  scrubDueTick { t with
    proc := { t.proc with urgentAt := none }
    seq := { t.seq with slow := t.power.settle, cycle := 0, item := 1, did := [], pub := [] } }

/-- The tick after the boundary begins. -/
def newTick (old : State) (began fir : Bool) (s : State) : State :=
  landAll (releaseHeld (freshWindows (answerMarks (freshTick (sealCheckOp (nvmStart
    (dcBlocksTick (if portsUp s then blocksStep old began fir s else s))))))))

/-! ### TICK_BOUNDARY -/

/-- Steps 2 to 5. -/
def middleSteps (s : State) : State := snapshotStep (domainStep (grantStep (modeStep (commitStep s))))

/-- The boundary of a tick that a row has already ended by entering a state: the snapshot and the new tick follow. The
mode is the one that the state was entered with (02 R33). -/
def enteredBoundary (s : State) : State :=
  let t := sealedCompare (compareStep (snapshotStep (domainStep (grantStep (commitStep s)))))
  let u := if decide (s.seq.st = .load) || decide (s.seq.st = .cold) then t else countStep t
  newTick s (running u) false u

/-- The boundary in any other tick. -/
def plainBoundary (a : State) : State :=
  let fir := a.seq.commitMask.getLsbD 2
  let b := countStep (sealedCompare (compareStep (middleSteps a)))
  let c := stateStep b
  newTick a (running c && !running a) fir c

/-- LOAD has lasted as long as it may (03 R54): it ends with the tick that ends, before the snapshot is taken. -/
def loadOver (s : State) : Bool := decide (s.seq.st = .load) && decide (s.seq.stateTicks ≥ 239)

/-- The boundary of a tick that no row has ended. -/
def fullBoundary (s : State) (e : TickIn) : State :=
  let a := endTick s e
  if loadOver a then
    let b := loadEndOp a
    if did b .entered then enteredBoundary b else b
  else plainBoundary a

/-- The tick boundary in GASP: the fronts and the oscillator go on; the grants but those of consumers 3 and 6 are
revoked, and their domains go off (02 R31, R39). -/
def gaspBoundary (s : State) (e : TickIn) : State :=
  let t := clocksTick s e.bits
  let u := grantEffects t.power.granted ([9, 8, 7, 5, 4, 2, 1, 0].foldl dropGrant t)
  dcBlocksTick
    ([3, 4, 5, 6, 8].foldl (fun v d => if domOn v d || v.power.ramping.getLsbD d then domainDown v d else v) u)

/-- TICK_BOUNDARY. With PD2 off there is no tick. The samples, the clocks and the board are as the tick brings them, be it
that a row has ended the tick by entering a state. -/
def tickBoundaryOp (s : State) (e : TickIn) : State :=
  match s.seq.st with
  | .off => s
  | .gasp => gaspBoundary s e
  | _ => if did s .entered then enteredBoundary (boardTick (clocksTick s e.bits) e) else fullBoundary s e

/-! ### Boundary events that have a row of their own -/

/-- CFG_MISMATCH: a pair that differs at the coming boundary reaches its fifth count (R74). -/
def cfgMismatchOp (s : State) : State :=
  let t := middleSteps (runAll s)
  let hit (k : Nat) : Bool := pairDiffers t k && decide (nth s.seq.mism k 0 ≥ 4)
  if coreOn s && decide (s.seq.st ≠ .gasp) && (upto 4).any hit then
    raise (orReg s 0x193 ((upto 4).foldl (fun a k => if hit k then a + 2 ^ k else a) 0)) srcCfgMismatch
  else s

/-- CYCLE_PUBLICATION. -/
def cyclePublicationOp (s : State) : State := boundaryEvent s cyclePublicationDue publishCycle

end Sys2Proof.Machine
end

