-- ==== Sys2Proof/Machine/ExecDisplay.lean ====
section
/-!
DEFINITION. The meanings of the display rows (14).
-/

namespace Sys2Proof.Machine

/-- FRAME_START (14 R311). -/
def execFrameStart (s : State) : Host.Outcome State Fault Refusal :=
  .next (frameStartRow s)

/-- ROW_REFRESH (14 R317). -/
def execRowRefresh (s : State) : Host.Outcome State Fault Refusal :=
  .next (rowRefreshOp s)

/-- RECT_COPY_STEP (14 R321). -/
def execRectCopyStep (s : State) : Host.Outcome State Fault Refusal :=
  .next (rectCopyStepOp s)

/-- PAVDD_ON (14 R326). -/
def execPavddOn (s : State) : Host.Outcome State Fault Refusal :=
  .next (pavddOnOp s)

/-- VGL_ON (14 R326). -/
def execVglOn (s : State) : Host.Outcome State Fault Refusal :=
  .next (vglOnOp s)

/-- VGH_ON (14 R326). -/
def execVghOn (s : State) : Host.Outcome State Fault Refusal :=
  .next (vghOnOp s)

/-- VCOM_ON (14 R326). -/
def execVcomOn (s : State) : Host.Outcome State Fault Refusal :=
  .next (vcomOnOp s)

/-- PANEL_START (14 R326). -/
def execPanelStart (s : State) : Host.Outcome State Fault Refusal :=
  .next (panelStartOp s)

/-- RAIL_FAULT (14 R327). -/
def execRailFault (r : RailRead) (s : State) : Host.Outcome State Fault Refusal :=
  .next (railFaultOp s r.rail.val r.mv)

/-- CRACK_TEST (14 R329). -/
def execCrackTest (ohms : Nat) (s : State) : Host.Outcome State Fault Refusal :=
  .next (crackTestOp s ohms)

/-- DISCHARGE (14 R331). -/
def execDischarge (s : State) : Host.Outcome State Fault Refusal :=
  .next (dischargeOp s)

/-- DISCHARGE_END (14 R332). -/
def execDischargeEnd (s : State) : Host.Outcome State Fault Refusal :=
  .next (dischargeEndOp s)

/-- FL_ON (14 R328). -/
def execFlOn (s : State) : Host.Outcome State Fault Refusal :=
  .next (flOnOp s)

/-- DISP_TEMP_READ (14 R314). -/
def execDispTempRead (tempC : Int) (s : State) : Host.Outcome State Fault Refusal :=
  .next (dispTempOp s tempC)

end Sys2Proof.Machine
end

