-- ==== Sys2Proof/Machine/ExecMemory.lean ====
section
/-!
DEFINITION. The meanings of the capture, memory, link and chain rows (09, 10, 11).
-/

namespace Sys2Proof.Machine

/-- CAP_QUEUE_DRAIN (09 R209). -/
def execCapQueueDrain (s : State) : Host.Outcome State Fault Refusal :=
  .next (capQueueDrainOp s)

/-- CAP_DONE (09 R208). -/
def execCapDone (s : State) : Host.Outcome State Fault Refusal :=
  .next (capDoneOp s)

/-- MEMORY_REQUEST (10 R229). -/
def execMemoryRequest (r : Fin 8) (s : State) : Host.Outcome State Fault Refusal :=
  .next (memoryRequestOp s r.val)

/-- ARB_STARVE (10 R233). -/
def execArbStarve (r : Fin 8) (s : State) : Host.Outcome State Fault Refusal :=
  .next (starveCheck s r.val (idleCycles s))

/-- BANK_INIT_DONE (10 R212). -/
def execBankInitDone (bank : Fin 2) (s : State) : Host.Outcome State Fault Refusal :=
  .next (Sys2Proof.Machine.bankInitDone s bank.val)

/-- SCRUB_STEP (10 R224). -/
def execScrubStep (s : State) : Host.Outcome State Fault Refusal :=
  .next (scrubStepOp s)

/-- SCRUB_YIELD (10 R225). -/
def execScrubYield (s : State) : Host.Outcome State Fault Refusal :=
  .next (scrubYieldOp s)

/-- MRQ_FRAME (11 R248). -/
def execMrqFrame (f : RxFrame) (s : State) : Host.Outcome State Fault Refusal :=
  .next (mrqFrameOp s f)

/-- MRQ_SERVICE (11 R249). -/
def execMrqService (s : State) : Host.Outcome State Fault Refusal :=
  .next (mrqServiceOp s)

/-- MRS_FRAME (11 R247). -/
def execMrsFrame (f : RxFrame) (s : State) : Host.Outcome State Fault Refusal :=
  .next (mrsFrameOp s f)

/-- MRQ_BUSY_RETRY (11 R248). -/
def execMrqBusyRetry (s : State) : Host.Outcome State Fault Refusal :=
  .next (mrqBusyRetryOp s)

/-- REMOTE_TIMEOUT (11 R247). -/
def execRemoteTimeout (s : State) : Host.Outcome State Fault Refusal :=
  .next (remoteTimeoutOp s)

/-- ENUM_FRAME (11 R257). -/
def execEnumFrame (f : RxFrame) (s : State) : Host.Outcome State Fault Refusal :=
  .next (enumFrameOp s f)

/-- ENUM_RSP_FRAME (11 R257). -/
def execEnumRspFrame (f : RxFrame) (s : State) : Host.Outcome State Fault Refusal :=
  .next (enumRspFrameOp s f)

/-- ENUM_TIMEOUT (11 R257). -/
def execEnumTimeout (s : State) : Host.Outcome State Fault Refusal :=
  .next (enumTimeoutOp s)

/-- WIRING_TEST (11 R256). -/
def execWiringTest (wired : Bool) (s : State) : Host.Outcome State Fault Refusal :=
  .next (wiringTestOp s wired)

/-- IDLE_BYTE (11 R253, R256). -/
def execIdleByte (side : Side) (b : Byte) (s : State) : Host.Outcome State Fault Refusal :=
  .next (idleByteOp s side b)

/-- LINK_UP (11 R253). -/
def execLinkUp (side : Side) (s : State) : Host.Outcome State Fault Refusal :=
  .next (linkUpOp s side)

/-- LINK_DOWN (11 R253). -/
def execLinkDown (side : Side) (s : State) : Host.Outcome State Fault Refusal :=
  .next (linkDownOp s side)

end Sys2Proof.Machine
end

