-- ==== Sys2Proof/Machine/ExecMetering.lean ====
section
/-!
DEFINITION. The meanings of the line, cycle, window, energy and pulse rows (08, 09).
-/

namespace Sys2Proof.Machine

/-- FLYWHEEL_CROSSING (08 R173). -/
def execFlywheelCrossing (s : State) : Host.Outcome State Fault Refusal :=
  .next (itemEvent s 4 .flywheel)

/-- NOMINAL_CROSSING (08 R173). -/
def execNominalCrossing (s : State) : Host.Outcome State Fault Refusal :=
  .next (itemEvent s 4 .nominal)

/-- ACQUIRE_TIMEOUT (08 R175). -/
def execAcquireTimeout (s : State) : Host.Outcome State Fault Refusal :=
  .next (itemEvent s 4 .acquireTimeout)

/-- HALF_CYCLE_BOUNDARY (08 R178). -/
def execHalfCycleBoundary (s : State) : Host.Outcome State Fault Refusal :=
  .next (itemEvent s 7 .half)

/-- CYCLE_PUBLICATION (03 R71). -/
def execCyclePublication (s : State) : Host.Outcome State Fault Refusal :=
  .next (cyclePublicationOp s)

/-- HARMONIC_PUBLICATION (09 R197). -/
def execHarmonicPublication (s : State) : Host.Outcome State Fault Refusal :=
  .next (itemEvent s 16 .harmPub)

/-- BG_SHORT (03 R68). -/
def execBgShort (s : State) : Host.Outcome State Fault Refusal :=
  .next (itemEvent s 15 .bgShort)

/-- PERIODIC_SAVE (08 R187). -/
def execPeriodicSave (s : State) : Host.Outcome State Fault Refusal :=
  .next (periodicSaveOp s)

/-- ENERGY_SAVE_DONE (08 R187). -/
def execEnergySaveDone (ok : Bool) (s : State) : Host.Outcome State Fault Refusal :=
  .next (energySaveDoneOp s ok)

/-- ENERGY_SECTOR_ERASE_DONE (08 R187). -/
def execEnergySectorEraseDone (s : State) : Host.Outcome State Fault Refusal :=
  .next (energyEraseDoneOp s)

/-- CF_PULSE_START (08 R189, R190). -/
def execCfPulseStart (ch : Fin 4) (s : State) : Host.Outcome State Fault Refusal :=
  .next (cfPulseStart s ch.val)

/-- CF_PULSE_END (08 R190). -/
def execCfPulseEnd (ch : Fin 4) (s : State) : Host.Outcome State Fault Refusal :=
  .next (cfPulseEnd s ch.val)

end Sys2Proof.Machine
end

