-- ==== Sys2Proof/Machine/ExecOpcodes.lean ====
section
/-!
DEFINITION. The meanings of the opcode rows: a packet of the port named, its checks of 04 R82 passed, lands (04 R83 to R93).
-/

namespace Sys2Proof.Machine

/-- The port's reply that an accepted packet discards (04 R97); a maintenance reply that is being sent stays, and a CHAIN
packet of a row answers no peer. -/
def forgetReply (s0 : State) (p : PortId) : State :=
  let s := replyReady s0 p
  match p with
  | .host => putPort s .host { s.ports.host with reply := none }
  | .maint => if s.ports.sending then s else putPort s .maint { s.ports.maint with reply := none }
  | .chain => { s with ports := { s.ports with chain := { s.ports.chain with reply := none }, chainFrom := none } }

/-- Port `p` can land a packet: none is under way; the CHAIN port lands one in each tick all the same (04 R94). -/
def portFree (s : State) (p : PortId) : Bool := (portOf s p).exec.isNone && ((portOf s p).busy.isEmpty || p == .chain)

/-- An opcode row: the packet lands, with `n` accesses, where its port has none under way (log entry 2). -/
def opcodeRow (s : State) (l : Land) (n : Nat) (f : State → Nat → State) : State :=
  if portFree s l.port then landing (forgetReply s l.port) l n f else s

/-- NOP (04 R86). -/
def execNop (l : Land) (s : State) : Host.Outcome State Fault Refusal :=
  .next (opcodeRow s l 1 (nopOp l))

/-- RD (04 R84: one access for each register). -/
def execRd (l : Land) (regs : List (BitVec 12)) (s : State) : Host.Outcome State Fault Refusal :=
  .next (opcodeRow s l regs.length (rdOp l regs))

/-- WR (04 R83, R84, R380). -/
def execWr (l : Land) (flip : BitVec 6) (pairs : List (BitVec 12 × Word)) (s : State) :
    Host.Outcome State Fault Refusal :=
  .next (opcodeRow s l 1 (wrOp l flip pairs))

/-- RMW (04 R87: one access for each triple). -/
def execRmw (l : Land) (flip : BitVec 6) (triples : List (BitVec 12 × Word × Word)) (s : State) :
    Host.Outcome State Fault Refusal :=
  .next (opcodeRow s l triples.length (rmwOp l flip triples))

/-- COMMIT (03 R63). -/
def execCommit (l : Land) (groups : BitVec 5) (s : State) : Host.Outcome State Fault Refusal :=
  .next (opcodeRow s l 1 (commitOp l groups))

/-- SNAP (04 R84). -/
def execSnap (l : Land) (regs : List (BitVec 12)) (s : State) : Host.Outcome State Fault Refusal :=
  .next (opcodeRow s l 1 (snapOp l regs))

/-- MEM_RD (04 R85, 10 R219). -/
def execMemRd (l : Land) (va : BitVec 24) (count : Nat) (s : State) : Host.Outcome State Fault Refusal :=
  .next (opcodeRow s l 0 (memRdOp l va count))

/-- MEM_WR (04 R85, 10 R219). -/
def execMemWr (l : Land) (va : BitVec 24) (data : List Byte) (s : State) : Host.Outcome State Fault Refusal :=
  .next (opcodeRow s l 0 (memWrOp l va data))

/-- FETCH_ADD (11 R246). -/
def execFetchAdd (l : Land) (va : BitVec 24) (operand : BitVec 32) (s : State) : Host.Outcome State Fault Refusal :=
  .next (opcodeRow s l 0 (memAtomOp l .fetchAdd va operand 0))

/-- SWAP (11 R246). -/
def execSwap (l : Land) (va : BitVec 24) (operand : BitVec 32) (s : State) : Host.Outcome State Fault Refusal :=
  .next (opcodeRow s l 0 (memAtomOp l .swap va operand 0))

/-- CMP_SWAP (11 R246). -/
def execCmpSwap (l : Land) (va : BitVec 24) (compare : BitVec 32) (new : BitVec 32) (s : State) :
    Host.Outcome State Fault Refusal :=
  .next (opcodeRow s l 0 (memAtomOp l .cmpSwap va compare new))

/-- CONVERT_NOW (06 R146). -/
def execConvertNow (l : Land) (entry : Word) (s : State) : Host.Outcome State Fault Refusal :=
  .next (opcodeRow s l 1 (convertOp l entry))

/-- QUERY (05 R131). -/
def execQuery (l : Land) (s : State) : Host.Outcome State Fault Refusal :=
  .next (opcodeRow s l 1 (stoolCtrlOp l 0 0))

/-- PAUSE (05 R131). -/
def execPause (l : Land) (s : State) : Host.Outcome State Fault Refusal :=
  .next (opcodeRow s l 1 (stoolCtrlOp l 1 0))

/-- RESUME (05 R131). -/
def execResume (l : Land) (s : State) : Host.Outcome State Fault Refusal :=
  .next (opcodeRow s l 1 (stoolCtrlOp l 2 0))

/-- SELECT (05 R131). -/
def execSelect (l : Land) (slice : BitVec 4) (s : State) : Host.Outcome State Fault Refusal :=
  .next (opcodeRow s l 1 (stoolCtrlOp l 3 slice.toNat))

/-- REC_CLEAR (12 R281). -/
def execRecClear (l : Land) (s : State) : Host.Outcome State Fault Refusal :=
  .next (opcodeRow s l 1 (recClearOp l))

/-- REC_MARK (12 R280). -/
def execRecMark (l : Land) (p0 : Word) (p1 : Word) (p2 : Word) (s : State) : Host.Outcome State Fault Refusal :=
  .next (opcodeRow s l 1 (recMarkOp l p0 p1 p2))

/-- DISP_RECT (14 R319). -/
def execDispRect (l : Land) (x0 : Nat) (y0 : Nat) (width : Nat) (height : Nat) (s : State) :
    Host.Outcome State Fault Refusal :=
  .next (opcodeRow s l 1 (rectOpcode l x0 y0 width height))

/-- DISP_BLINK (14 R323). -/
def execDispBlink (l : Land) (fields : List Field) (s : State) : Host.Outcome State Fault Refusal :=
  .next (opcodeRow s l 1 (blinkOpcode l fields))

/-- DISP_POWER_UP (14 R326). -/
def execDispPowerUp (l : Land) (s : State) : Host.Outcome State Fault Refusal :=
  .next (opcodeRow s l 1 (powerOpcode l true))

/-- DISP_POWER_DOWN (14 R330). -/
def execDispPowerDown (l : Land) (s : State) : Host.Outcome State Fault Refusal :=
  .next (opcodeRow s l 1 (powerOpcode l false))

/-- AUTH_CHAL (04 R102). -/
def execAuthChal (l : Land) (s : State) : Host.Outcome State Fault Refusal :=
  .next (opcodeRow s l 1 (authChalOp l))

/-- KEY_LOAD (04 R104, 13 R303). -/
def execKeyLoad (l : Land) (slot : Bool) (keyBytes : BitVec 144) (nonce : BitVec 72) (s : State) :
    Host.Outcome State Fault Refusal :=
  .next (opcodeRow s l 1 (keyLoadOp l slot keyBytes nonce))

/-- CFG_SAVE (04 R90). -/
def execCfgSave (l : Land) (s : State) : Host.Outcome State Fault Refusal :=
  .next (opcodeRow s l 1 (fun t c => cfgSaveOp t l c))

/-- CAL_SEAL (13 R305). -/
def execCalSeal (l : Land) (s : State) : Host.Outcome State Fault Refusal :=
  .next (opcodeRow s l 1 (fun t c => calSealOp t l c))

/-- ENERGY_PRESET (08 R185). -/
def execEnergyPreset (l : Land) (q : BitVec 4) (value : BitVec 60) (s : State) : Host.Outcome State Fault Refusal :=
  .next (opcodeRow s l 1 (presetOp l q value))

/-- CHAIN_ENUM (11 R257). -/
def execChainEnum (l : Land) (s : State) : Host.Outcome State Fault Refusal :=
  .next (opcodeRow s l 1 (chainEnumOp l))

/-- RESET_SOFT (03 R58, 04 R89). -/
def execResetSoft (l : Land) (key : Field) (s : State) : Host.Outcome State Fault Refusal :=
  .next (opcodeRow s l 1 (resetSoftOp l key))

end Sys2Proof.Machine
end

