-- ==== Sys2Proof/Machine/ExecPorts.lean ====
section
/-!
DEFINITION. The meanings of the port rows: frames in, replies out, refusals, nonces and the lock (04).
-/

namespace Sys2Proof.Machine

/-- HOST_PACKET_WRITE (04 R82, R95, R96). -/
def execHostPacketWrite (cyc : Nat) (bytes : List Byte) (s : State) : Host.Outcome State Fault Refusal :=
  .next (hostPacketOp s cyc bytes)

/-- REPLY_READ (04 R97). -/
def execReplyRead (n : Nat) (s : State) : Host.Outcome State Fault Refusal :=
  .next (replyReadOp s n)

/-- MAINT_FRAME (04 R82, R100; 16 R366). -/
def execMaintFrame (cyc : Nat) (chars : List (BitVec 144)) (stops : List (BitVec 16)) (s : State) : Host.Outcome State Fault Refusal :=
  .next (maintFrameOp s cyc (chars.map uartByte) (stops.any uartBadStop))

/-- MAINT_GAP_TIMEOUT (04 R100). -/
def execMaintGapTimeout (s : State) : Host.Outcome State Fault Refusal :=
  .next (maintGapOp s)

/-- PKT_FRAME (04 R93, R94). -/
def execPktFrame (cyc : Nat) (f : RxFrame) (s : State) : Host.Outcome State Fault Refusal :=
  .next (pktFrameOp s cyc f)

/-- RPL_FRAME (04 R93). -/
def execRplFrame (f : RxFrame) (s : State) : Host.Outcome State Fault Refusal :=
  .next (rplFrameOp s f)

/-- FORWARD_TIMEOUT (04 R93). -/
def execForwardTimeout (p : PortId) (s : State) : Host.Outcome State Fault Refusal :=
  .next (forwardTimeoutOp s p)

/-- DENIED_REPLY (04 R105, R107). -/
def execDeniedReply (p : PortId) (s : State) : Host.Outcome State Fault Refusal :=
  .next (deniedReplyOp s p)

/-- NONCE_STALE (04 R102). -/
def execNonceStale (p : PortId) (now : Nat) (s : State) : Host.Outcome State Fault Refusal :=
  .next (nonceStaleOp s p now)

/-- AUTH_LOCK_END (04 R107). -/
def execAuthLockEnd (now : Nat) (s : State) : Host.Outcome State Fault Refusal :=
  .next (authLockEndOp s now)

/-- MAINT_REPLY_TRANSMIT (04 R101). -/
def execMaintReplyTransmit (s : State) : Host.Outcome State Fault Refusal :=
  .next (maintTransmitOp s)

/-- MTX_RELEASE (04 R101). -/
def execMtxRelease (s : State) : Host.Outcome State Fault Refusal :=
  .next (mtxReleaseOp s)

/-- MAINT_REPLY_SENT (04 R101). -/
def execMaintReplySent (s : State) : Host.Outcome State Fault Refusal :=
  .next (maintSentOp s)

end Sys2Proof.Machine
end

