-- ==== Sys2Proof/Machine/ExecPower.lean ====
section
/-!
DEFINITION. The meanings of the power rows (02).
-/

namespace Sys2Proof.Machine

/-- PD1_START (02 R27, R28). -/
def execPd1Start (vresMv : Nat) (vauxMv : Nat) (s : State) : Host.Outcome State Fault Refusal :=
  .next (pd1StartOp s vresMv vauxMv)

/-- COLD_START (02 R33). -/
def execColdStart (vresMv : Nat) (s : State) : Host.Outcome State Fault Refusal :=
  .next (coldStartOp s vresMv)

/-- CORE_RESET_RELEASE (02 R33, 18 R377). -/
def execCoreResetRelease (test : Bool) (s : State) : Host.Outcome State Fault Refusal :=
  .next (coreResetReleaseOp s test)

/-- PFAIL (02 R27, R30, R43). -/
def execPfail (vresMv : Nat) (s : State) : Host.Outcome State Fault Refusal :=
  .next (pfailEvent s vresMv)

/-- HARD_OFF (02 R27, R379). -/
def execHardOff (vresMv : Nat) (s : State) : Host.Outcome State Fault Refusal :=
  .next (hardOffEvent s vresMv)

/-- SHUNT_ON (02 R23, R27). -/
def execShuntOn (vresMv : Nat) (s : State) : Host.Outcome State Fault Refusal :=
  .next (shuntOnOp s vresMv)

/-- LOW_RES (02 R27, R41). -/
def execLowRes (vresMv : Nat) (s : State) : Host.Outcome State Fault Refusal :=
  .next (lowResOp s vresMv)

/-- AUTO_SETTLE_FULL_REQUEST (02 R41). -/
def execAutoSettleFullRequest (vresMv : Nat) (s : State) : Host.Outcome State Fault Refusal :=
  .next (autoSettleFullOp s vresMv)

/-- VAUX_UP (02 R24, R41). -/
def execVauxUp (vauxMv : Nat) (s : State) : Host.Outcome State Fault Refusal :=
  .next (vauxUpOp s vauxMv)

/-- VAUX_DOWN (02 R24, R41, R379). -/
def execVauxDown (vresMv : Nat) (s : State) : Host.Outcome State Fault Refusal :=
  .next (vauxDownOp s vresMv)

/-- VBC_LOW (02 R26). -/
def execVbcLow (vbcMv : Nat) (s : State) : Host.Outcome State Fault Refusal :=
  .next (vbcLowOp s vbcMv)

/-- FLOOR_REVOKE (02 R39). -/
def execFloorRevoke (vresMv : Nat) (s : State) : Host.Outcome State Fault Refusal :=
  .next (floorRevokeOp s vresMv)

/-- DOMAIN_RAMP_END (02 R31). -/
def execDomainRampEnd (d : Fin 12) (s : State) : Host.Outcome State Fault Refusal :=
  .next (domainRampEndOp s d.val)

/-- GASP_BUREAU_CLOSE (02 R43, R45). -/
def execGaspBureauClose (s : State) : Host.Outcome State Fault Refusal :=
  .next (gaspBureauCloseOp s)

/-- GASP_ENERGY_SAVE (02 R43, R45). -/
def execGaspEnergySave (s : State) : Host.Outcome State Fault Refusal :=
  .next (gaspEnergySaveOp s)

/-- GASP_PANEL_DISCHARGE (02 R43, R45, 14 R331). -/
def execGaspPanelDischarge (s : State) : Host.Outcome State Fault Refusal :=
  .next (gaspPanelDischargeOp s)

/-- GASP_END (02 R43). -/
def execGaspEnd (vresMinMv : Nat) (s : State) : Host.Outcome State Fault Refusal :=
  .next (gaspEndOp s vresMinMv)

/-- AON_SOURCE_CHANGE (02 R26). -/
def execAonSourceChange (vresMv : Nat) (vbcMv : Nat) (s : State) : Host.Outcome State Fault Refusal :=
  .next (aonSourceChangeOp s vresMv vbcMv)

/-- ALL_SOURCES_LOST (13 R282). -/
def execAllSourcesLost (s : State) : Host.Outcome State Fault Refusal :=
  .next (allSourcesLostOp s)

/-- PD0_POWER_UP (13 R282). -/
def execPd0PowerUp (s : State) : Host.Outcome State Fault Refusal :=
  .next (pd0PowerUpOp s)

end Sys2Proof.Machine
end

