-- ==== Sys2Proof/Machine/ExecProcess.lean ====
section
/-!
DEFINITION. The meanings of the process-loop and lead rows (06, 15).
-/

namespace Sys2Proof.Machine

/-- PROC_TIMER_FIRE (06 R143). -/
def execProcTimerFire (s : State) : Host.Outcome State Fault Refusal :=
  .next (boundaryEvent s (fun t => did (procTimerFire t) .procTimer && !did t .procTimer) procTimerFire)

/-- TRIG_EDGE (06 R137, R139, R143, R145). -/
def execTrigEdge (rising : Bool) (cyc : Nat) (s : State) : Host.Outcome State Fault Refusal :=
  .next (trigEdgeRow s rising cyc)

/-- PROC_DELAY_END (06 R144). -/
def execProcDelayEnd (s : State) : Host.Outcome State Fault Refusal :=
  .next (procDelayEnd s)

/-- LINE_BOUNDARY (06 R138). -/
def execLineBoundary (s : State) : Host.Outcome State Fault Refusal :=
  .next (lineBoundaryOp s)

/-- FIXED_WINDOW_CLOSE (06 R137). -/
def execFixedWindowClose (s : State) : Host.Outcome State Fault Refusal :=
  .next (fixedCloseOp s)

/-- PWM_TIMEOUT (06 R137). -/
def execPwmTimeout (s : State) : Host.Outcome State Fault Refusal :=
  .next (pwmTimeoutOp s)

/-- RUN_DOWN_END (06 R134). -/
def execRunDownEnd (pair : Fin 9) (integB : Bool) (net : Int) (rd : Int) (w : Nat) (sat : Bool) (s : State) :
    Host.Outcome State Fault Refusal :=
  .next (runDownEndOp s pair.val integB net rd w sat)

/-- PARK_END (15 R341, R342). -/
def execParkEnd (lead : Fin 8) (s : State) : Host.Outcome State Fault Refusal :=
  .next (parkEndOp s lead.val)

end Sys2Proof.Machine
end

