-- ==== Sys2Proof/Machine/ExecRecords.lean ====
section
/-!
DEFINITION. The meanings of the Bureau, tamper, evidence, seal and settings rows (12, 13, 04 R90).
-/

namespace Sys2Proof.Machine

/-- COALESCE_TIMEOUT (12 R268). -/
def execCoalesceTimeout (s : State) : Host.Outcome State Fault Refusal :=
  .next (boundaryEvent s coalesceDue coalesceOp)

/-- HOUR_ROLL (12 R271). -/
def execHourRoll (s : State) : Host.Outcome State Fault Refusal :=
  .next (boundaryEvent s (fun t => did (hourRollOp t) .hour && !did t .hour) hourRollOp)

/-- RECORD_STAGE (12 R273). -/
def execRecordStage (s : State) : Host.Outcome State Fault Refusal :=
  .next (recordStageOp s)

/-- RECORD_PROGRAM_DONE (12 R274). -/
def execRecordProgramDone (ok : Bool) (s : State) : Host.Outcome State Fault Refusal :=
  .next (recordDoneOp s ok)

/-- BUREAU_ERASE_DONE (12 R274). -/
def execBureauEraseDone (s : State) : Host.Outcome State Fault Refusal :=
  .next (bureauEraseDoneOp s)

/-- TIME_STORE_ENTRY (12 R265). -/
def execTimeStoreEntry (ok : Bool) (s : State) : Host.Outcome State Fault Refusal :=
  .next (timeStoreOp s ok)

/-- TIME_STORE_ERASE_DONE (12 R265). -/
def execTimeStoreEraseDone (s : State) : Host.Outcome State Fault Refusal :=
  .next (timeEraseDoneOp s)

/-- LOOP_TEST (13 R284). -/
def execLoopTest (loop : Bool) (ohms : Nat) (now : Nat) (s : State) : Host.Outcome State Fault Refusal :=
  .next (loopTestOp s loop ohms now)

/-- CELL (13 R285). -/
def execCell (now : Nat) (s : State) : Host.Outcome State Fault Refusal :=
  .next (cellOp s now)

/-- GLITCH (13 R286). -/
def execGlitch (now : Nat) (s : State) : Host.Outcome State Fault Refusal :=
  .next (glitchOp s now)

/-- SLOW (13 R287). -/
def execSlow (now : Nat) (s : State) : Host.Outcome State Fault Refusal :=
  .next (slowOp s now)

/-- TEMP_READ (13 R288). -/
def execTempRead (tempC : Int) (now : Nat) (s : State) : Host.Outcome State Fault Refusal :=
  .next (tempReadOp s tempC now)

/-- SHADOW_COMPARE (13 R289). -/
def execShadowCompare (now : Nat) (s : State) : Host.Outcome State Fault Refusal :=
  .next (shadowCompareOp s now)

/-- EVIDENCE_PROGRAM_DONE (13 R300). -/
def execEvidenceProgramDone (ok : Bool) (s : State) : Host.Outcome State Fault Refusal :=
  .next (evidenceDoneOp s ok)

/-- SEAL_CHECK (13 R306). -/
def execSealCheck (s : State) : Host.Outcome State Fault Refusal :=
  .next (sealCheckOp s)

/-- CFG_SAVE_DONE (04 R90). -/
def execCfgSaveDone (s : State) : Host.Outcome State Fault Refusal :=
  .next (cfgSaveDoneOp s)

/-- CAL_SEAL_DONE (13 R305). -/
def execCalSealDone (s : State) : Host.Outcome State Fault Refusal :=
  .next (calSealDoneOp s)

end Sys2Proof.Machine
end

