-- ==== Sys2Proof/Machine/ExecSequencer.lean ====
section
/-!
DEFINITION. The meanings of the sequencer rows (03).
-/

namespace Sys2Proof.Machine

/-- TICK_BOUNDARY (03 R62). -/
def execTickBoundary (e : TickIn) (s : State) : Host.Outcome State Fault Refusal :=
  .next (tickBoundaryOp s e)

/-- COLD_END (03 R52, R53). -/
def execColdEnd (s : State) : Host.Outcome State Fault Refusal :=
  .next (coldEndOp s)

/-- LOAD_END (03 R52, R54). -/
def execLoadEnd (s : State) : Host.Outcome State Fault Refusal :=
  .next (loadEndOp s)

/-- HOLD_RESTORE (12 R266). -/
def execHoldRestore (s : State) : Host.Outcome State Fault Refusal :=
  .next (holdRestoreOp s)

/-- ORDERLY_STOP (03 R58). -/
def execOrderlyStop (s : State) : Host.Outcome State Fault Refusal :=
  .next (orderlyStopOp s)

/-- SOFT_RESET_APPLY (03 R58). -/
def execSoftResetApply (s : State) : Host.Outcome State Fault Refusal :=
  .next (softResetOp s)

/-- CFG_MISMATCH (03 R74). -/
def execCfgMismatch (s : State) : Host.Outcome State Fault Refusal :=
  .next (cfgMismatchOp s)

/-- WAKE (03 R76: the second that completes takes WAKE_LEFT to 0). -/
def execWake (s : State) : Host.Outcome State Fault Refusal :=
  .next (if secondRolls s && decide (regN s 0x197 = 1) then wakeOp s else s)

end Sys2Proof.Machine
end

