-- ==== Sys2Proof/Machine/ExecStool.lean ====
section
/-!
DEFINITION. The meanings of the slice, Stool and filter rows (05, 07).
-/

namespace Sys2Proof.Machine

/-- STOOL_STEP_END (05 R118). -/
def execStoolStepEnd (s : State) : Host.Outcome State Fault Refusal :=
  .next (boundaryEvent s stepDue stoolStepEndOp)

/-- TAKEOVER (05 R121, R125). -/
def execTakeover (s : State) : Host.Outcome State Fault Refusal :=
  .next (boundaryEvent s takeoverDue (fun t => mark (takeoverOp t) .stoolStep))

/-- HANDBACK (05 R121, R125). -/
def execHandback (s : State) : Host.Outcome State Fault Refusal :=
  .next (boundaryEvent s handbackDue (fun t => mark (handbackOp t) .stoolStep))

/-- TAKEOVER_ABANDON (05 R126). -/
def execTakeoverAbandon (s : State) : Host.Outcome State Fault Refusal :=
  .next (boundaryEvent s (fun t => takeoverDue t && deferralOver t) (fun t => mark (takeoverAbandonOp t) .stoolStep))

/-- HANDBACK_STALL (05 R126). -/
def execHandbackStall (s : State) : Host.Outcome State Fault Refusal :=
  .next (boundaryEvent s (fun t => handbackDue t && deferralOver t) handbackStallOp)

/-- ROTATION_DONE (05 R117). -/
def execRotationDone (s : State) : Host.Outcome State Fault Refusal :=
  .next (boundaryEvent s (fun t => did (rotationDoneOp t) .rotation && !did t .rotation) rotationDoneOp)

/-- OVERRANGE (05 R112). -/
def execOverrange (conv : Fin 11) (negative : Bool) (s : State) : Host.Outcome State Fault Refusal :=
  .next (overrangeEvent s conv.val negative)

/-- PEAK (05 R130). -/
def execPeak (g : Fin 6) (hb1 : Int) (s : State) : Host.Outcome State Fault Refusal :=
  .next (peakEvent s g.val hb1)

/-- DET_BLOCK_DONE (07 R170). -/
def execDetBlockDone (d : Fin 4) (s : State) : Host.Outcome State Fault Refusal :=
  .next (itemEvent s 11 (.detBlock d.val))

/-- FILT_SETTLING_END (07 R166). -/
def execFiltSettlingEnd (n : Fin 11) (s : State) : Host.Outcome State Fault Refusal :=
  .next (boundaryEvent s (fun t => did (settlingEnd t n.val) (.settled n.val)) (fun t => settlingEnd t n.val))

end Sys2Proof.Machine
end

