-- ==== Sys2Proof/Machine/ExecWrites.lean ====
section
/-!
DEFINITION. The meanings of the register-write rows: a write that lands by the port named, its bus code intact (00 R8).
-/

namespace Sys2Proof.Machine

/-- HALT (03 R57: SEQ_CTRL). -/
def execHalt (p : PortId) (s : State) : Host.Outcome State Fault Refusal :=
  .next (portWrite s p 0x182 2)

/-- GO (03 R57: SEQ_CTRL). -/
def execGo (p : PortId) (s : State) : Host.Outcome State Fault Refusal :=
  .next (portWrite s p 0x182 1)

/-- SAVE_NOW (08 R187: ENERGY_CTRL, the other fields as they stand). -/
def execSaveNow (p : PortId) (s : State) : Host.Outcome State Fault Refusal :=
  .next (portWrite s p 0x40C (getReg s 0x40C ||| 1))

/-- ARM (09 R206: CAP_CTRL). -/
def execArm (p : PortId) (s : State) : Host.Outcome State Fault Refusal :=
  .next (portWrite s p 0x540 1)

/-- FORCE (09 R207: CAP_CTRL). -/
def execForce (p : PortId) (s : State) : Host.Outcome State Fault Refusal :=
  .next (portWrite s p 0x540 2)

/-- STOP (09 R208: CAP_CTRL). -/
def execStop (p : PortId) (s : State) : Host.Outcome State Fault Refusal :=
  .next (portWrite s p 0x540 4)

/-- FREEZE (10 R232: ARB_CTRL, the other fields as they stand). -/
def execFreeze (p : PortId) (on : Bool) (s : State) : Host.Outcome State Fault Refusal :=
  .next (portWrite s p 0x620 (if on then getReg s 0x620 ||| 1 else getReg s 0x620 &&& ~~~(1 : Word)))

/-- WAKE_CTRL (03 R76). -/
def execWakeCtrl (p : PortId) (v : Word) (s : State) : Host.Outcome State Fault Refusal :=
  .next (portWrite s p 0x196 v)

/-- REC_CURSOR (12 R278: the port's own cursor). -/
def execRecCursor (p : PortId) (v : Word) (s : State) : Host.Outcome State Fault Refusal :=
  .next (portWrite s p 0x705 v)

/-- LOW_RES_SEL (02 R27: MODE_CTRL takes `v`). -/
def execLowResSel (p : PortId) (v : Word) (s : State) : Host.Outcome State Fault Refusal :=
  .next (portWrite s p 0x10A v)

/-- PWR_CEIL (02 R37, R39). -/
def execPwrCeil (p : PortId) (v : Word) (s : State) : Host.Outcome State Fault Refusal :=
  .next (portWrite s p 0x113 v)

/-- TAMP_CFG (13 R302: TAMP_ARM or TAMP_EN). -/
def execTampCfg (p : PortId) (arming : Bool) (v : Word) (s : State) : Host.Outcome State Fault Refusal :=
  .next (portWrite s p (if arming then 0x781 else 0x780) v)

/-- SEALED_REGISTER_WRITE (13 R307: a register of the sealed set). -/
def execSealedRegisterWrite (p : PortId) (n : BitVec 12) (v : Word) (s : State) : Host.Outcome State Fault Refusal :=
  .next (if sealedSet.contains n.toNat then portWrite s p n.toNat v else s)

/-- REC_STAGE_CFG (12 R273). -/
def execRecStageCfg (p : PortId) (v : Word) (s : State) : Host.Outcome State Fault Refusal :=
  .next (portWrite s p 0x703 v)

/-- FL_EN (14 R328: FL_CTRL). -/
def execFlEn (p : PortId) (v : Word) (s : State) : Host.Outcome State Fault Refusal :=
  .next (portWrite s p 0x810 v)

/-- DOMAIN_REQ (02 R34). -/
def execDomainReq (p : PortId) (v : Word) (s : State) : Host.Outcome State Fault Refusal :=
  .next (portWrite s p 0x108 v)

/-- PROC_START (06 R143: PROC_CTRL). -/
def execProcStart (p : PortId) (v : Word) (s : State) : Host.Outcome State Fault Refusal :=
  .next (portWrite s p 0x300 v)

/-- REGISTER_WRITE (00 R8). -/
def execRegisterWrite (p : PortId) (n : BitVec 12) (v : Word) (s : State) : Host.Outcome State Fault Refusal :=
  .next (portWrite s p n.toNat v)

/-- CHAIN_CTRL (11 R252). -/
def execChainCtrl (p : PortId) (v : Word) (s : State) : Host.Outcome State Fault Refusal :=
  .next (portWrite s p 0x690 v)

/-- AUX_CTRL (02 R24, R379). -/
def execAuxCtrl (p : PortId) (v : Word) (s : State) : Host.Outcome State Fault Refusal :=
  .next (portWrite s p 0x116 v)

end Sys2Proof.Machine
end

