-- ==== Sys2Proof/Machine/Dispatch.lean ====
section
/-!
DEFINITION. One arm per command: its meaning.
-/

namespace Sys2Proof.Machine

/-- The effect of a command on everything but the queue. -/
def exec (i : Instr) (s : State) : Host.Outcome State Fault Refusal :=
  match i with
  | .nop l => Sys2Proof.Machine.execNop l s
  | .rd l regs => Sys2Proof.Machine.execRd l regs s
  | .wr l flip pairs => Sys2Proof.Machine.execWr l flip pairs s
  | .rmw l flip triples => Sys2Proof.Machine.execRmw l flip triples s
  | .commit l groups => Sys2Proof.Machine.execCommit l groups s
  | .snap l regs => Sys2Proof.Machine.execSnap l regs s
  | .memRd l va count => Sys2Proof.Machine.execMemRd l va count s
  | .memWr l va data => Sys2Proof.Machine.execMemWr l va data s
  | .fetchAdd l va operand => Sys2Proof.Machine.execFetchAdd l va operand s
  | .swap l va operand => Sys2Proof.Machine.execSwap l va operand s
  | .cmpSwap l va compare new => Sys2Proof.Machine.execCmpSwap l va compare new s
  | .convertNow l entry => Sys2Proof.Machine.execConvertNow l entry s
  | .query l => Sys2Proof.Machine.execQuery l s
  | .pause l => Sys2Proof.Machine.execPause l s
  | .resume l => Sys2Proof.Machine.execResume l s
  | .select l slice => Sys2Proof.Machine.execSelect l slice s
  | .recClear l => Sys2Proof.Machine.execRecClear l s
  | .recMark l p0 p1 p2 => Sys2Proof.Machine.execRecMark l p0 p1 p2 s
  | .dispRect l x0 y0 width height => Sys2Proof.Machine.execDispRect l x0 y0 width height s
  | .dispBlink l fields => Sys2Proof.Machine.execDispBlink l fields s
  | .dispPowerUp l => Sys2Proof.Machine.execDispPowerUp l s
  | .dispPowerDown l => Sys2Proof.Machine.execDispPowerDown l s
  | .authChal l => Sys2Proof.Machine.execAuthChal l s
  | .keyLoad l slot keyBytes nonce => Sys2Proof.Machine.execKeyLoad l slot keyBytes nonce s
  | .cfgSave l => Sys2Proof.Machine.execCfgSave l s
  | .calSeal l => Sys2Proof.Machine.execCalSeal l s
  | .energyPreset l q value => Sys2Proof.Machine.execEnergyPreset l q value s
  | .chainEnum l => Sys2Proof.Machine.execChainEnum l s
  | .resetSoft l key => Sys2Proof.Machine.execResetSoft l key s
  | .halt p => Sys2Proof.Machine.execHalt p s
  | .go p => Sys2Proof.Machine.execGo p s
  | .saveNow p => Sys2Proof.Machine.execSaveNow p s
  | .arm p => Sys2Proof.Machine.execArm p s
  | .force p => Sys2Proof.Machine.execForce p s
  | .stop p => Sys2Proof.Machine.execStop p s
  | .freeze p on => Sys2Proof.Machine.execFreeze p on s
  | .wakeCtrl p v => Sys2Proof.Machine.execWakeCtrl p v s
  | .recCursor p v => Sys2Proof.Machine.execRecCursor p v s
  | .lowResSel p v => Sys2Proof.Machine.execLowResSel p v s
  | .pwrCeil p v => Sys2Proof.Machine.execPwrCeil p v s
  | .tampCfg p arming v => Sys2Proof.Machine.execTampCfg p arming v s
  | .sealedRegisterWrite p n v => Sys2Proof.Machine.execSealedRegisterWrite p n v s
  | .recStageCfg p v => Sys2Proof.Machine.execRecStageCfg p v s
  | .flEn p v => Sys2Proof.Machine.execFlEn p v s
  | .domainReq p v => Sys2Proof.Machine.execDomainReq p v s
  | .procStart p v => Sys2Proof.Machine.execProcStart p v s
  | .registerWrite p n v => Sys2Proof.Machine.execRegisterWrite p n v s
  | .hostPacketWrite cyc bytes => Sys2Proof.Machine.execHostPacketWrite cyc bytes s
  | .replyRead n => Sys2Proof.Machine.execReplyRead n s
  | .maintFrame cyc chars stops => Sys2Proof.Machine.execMaintFrame cyc chars stops s
  | .maintGapTimeout => Sys2Proof.Machine.execMaintGapTimeout s
  | .pktFrame cyc f => Sys2Proof.Machine.execPktFrame cyc f s
  | .rplFrame f => Sys2Proof.Machine.execRplFrame f s
  | .forwardTimeout p => Sys2Proof.Machine.execForwardTimeout p s
  | .deniedReply p => Sys2Proof.Machine.execDeniedReply p s
  | .nonceStale p now => Sys2Proof.Machine.execNonceStale p now s
  | .authLockEnd now => Sys2Proof.Machine.execAuthLockEnd now s
  | .maintReplyTransmit => Sys2Proof.Machine.execMaintReplyTransmit s
  | .mtxRelease => Sys2Proof.Machine.execMtxRelease s
  | .pd1Start vresMv vauxMv => Sys2Proof.Machine.execPd1Start vresMv vauxMv s
  | .coldStart vresMv => Sys2Proof.Machine.execColdStart vresMv s
  | .coreResetRelease test => Sys2Proof.Machine.execCoreResetRelease test s
  | .pfail vresMv => Sys2Proof.Machine.execPfail vresMv s
  | .hardOff vresMv => Sys2Proof.Machine.execHardOff vresMv s
  | .shuntOn vresMv => Sys2Proof.Machine.execShuntOn vresMv s
  | .lowRes vresMv => Sys2Proof.Machine.execLowRes vresMv s
  | .autoSettleFullRequest vresMv => Sys2Proof.Machine.execAutoSettleFullRequest vresMv s
  | .vauxUp vauxMv => Sys2Proof.Machine.execVauxUp vauxMv s
  | .vauxDown vresMv => Sys2Proof.Machine.execVauxDown vresMv s
  | .vbcLow vbcMv => Sys2Proof.Machine.execVbcLow vbcMv s
  | .floorRevoke vresMv => Sys2Proof.Machine.execFloorRevoke vresMv s
  | .domainRampEnd d => Sys2Proof.Machine.execDomainRampEnd d s
  | .gaspBureauClose => Sys2Proof.Machine.execGaspBureauClose s
  | .gaspEnergySave => Sys2Proof.Machine.execGaspEnergySave s
  | .gaspPanelDischarge => Sys2Proof.Machine.execGaspPanelDischarge s
  | .gaspEnd vresMinMv => Sys2Proof.Machine.execGaspEnd vresMinMv s
  | .tickBoundary e => Sys2Proof.Machine.execTickBoundary e s
  | .coldEnd => Sys2Proof.Machine.execColdEnd s
  | .loadEnd => Sys2Proof.Machine.execLoadEnd s
  | .holdRestore => Sys2Proof.Machine.execHoldRestore s
  | .orderlyStop => Sys2Proof.Machine.execOrderlyStop s
  | .softResetApply => Sys2Proof.Machine.execSoftResetApply s
  | .cfgMismatch => Sys2Proof.Machine.execCfgMismatch s
  | .wake => Sys2Proof.Machine.execWake s
  | .flywheelCrossing => Sys2Proof.Machine.execFlywheelCrossing s
  | .nominalCrossing => Sys2Proof.Machine.execNominalCrossing s
  | .acquireTimeout => Sys2Proof.Machine.execAcquireTimeout s
  | .halfCycleBoundary => Sys2Proof.Machine.execHalfCycleBoundary s
  | .cyclePublication => Sys2Proof.Machine.execCyclePublication s
  | .harmonicPublication => Sys2Proof.Machine.execHarmonicPublication s
  | .bgShort => Sys2Proof.Machine.execBgShort s
  | .periodicSave => Sys2Proof.Machine.execPeriodicSave s
  | .energySaveDone ok => Sys2Proof.Machine.execEnergySaveDone ok s
  | .energySectorEraseDone => Sys2Proof.Machine.execEnergySectorEraseDone s
  | .cfPulseStart ch => Sys2Proof.Machine.execCfPulseStart ch s
  | .cfPulseEnd ch => Sys2Proof.Machine.execCfPulseEnd ch s
  | .stoolStepEnd => Sys2Proof.Machine.execStoolStepEnd s
  | .takeover => Sys2Proof.Machine.execTakeover s
  | .handback => Sys2Proof.Machine.execHandback s
  | .takeoverAbandon => Sys2Proof.Machine.execTakeoverAbandon s
  | .handbackStall => Sys2Proof.Machine.execHandbackStall s
  | .rotationDone => Sys2Proof.Machine.execRotationDone s
  | .overrange conv negative => Sys2Proof.Machine.execOverrange conv negative s
  | .peak g hb1 => Sys2Proof.Machine.execPeak g hb1 s
  | .procTimerFire => Sys2Proof.Machine.execProcTimerFire s
  | .trigEdge rising cyc => Sys2Proof.Machine.execTrigEdge rising cyc s
  | .procDelayEnd => Sys2Proof.Machine.execProcDelayEnd s
  | .lineBoundary => Sys2Proof.Machine.execLineBoundary s
  | .fixedWindowClose => Sys2Proof.Machine.execFixedWindowClose s
  | .pwmTimeout => Sys2Proof.Machine.execPwmTimeout s
  | .runDownEnd pair integB net rd w sat => Sys2Proof.Machine.execRunDownEnd pair integB net rd w sat s
  | .detBlockDone d => Sys2Proof.Machine.execDetBlockDone d s
  | .filtSettlingEnd n => Sys2Proof.Machine.execFiltSettlingEnd n s
  | .capQueueDrain => Sys2Proof.Machine.execCapQueueDrain s
  | .capDone => Sys2Proof.Machine.execCapDone s
  | .memoryRequest r => Sys2Proof.Machine.execMemoryRequest r s
  | .arbStarve r => Sys2Proof.Machine.execArbStarve r s
  | .bankInitDone bank => Sys2Proof.Machine.execBankInitDone bank s
  | .scrubStep => Sys2Proof.Machine.execScrubStep s
  | .scrubYield => Sys2Proof.Machine.execScrubYield s
  | .mrqFrame f => Sys2Proof.Machine.execMrqFrame f s
  | .mrqService => Sys2Proof.Machine.execMrqService s
  | .mrsFrame f => Sys2Proof.Machine.execMrsFrame f s
  | .mrqBusyRetry => Sys2Proof.Machine.execMrqBusyRetry s
  | .remoteTimeout => Sys2Proof.Machine.execRemoteTimeout s
  | .enumFrame f => Sys2Proof.Machine.execEnumFrame f s
  | .enumRspFrame f => Sys2Proof.Machine.execEnumRspFrame f s
  | .wiringTest wired => Sys2Proof.Machine.execWiringTest wired s
  | .idleByte side b => Sys2Proof.Machine.execIdleByte side b s
  | .linkUp side => Sys2Proof.Machine.execLinkUp side s
  | .linkDown side => Sys2Proof.Machine.execLinkDown side s
  | .coalesceTimeout => Sys2Proof.Machine.execCoalesceTimeout s
  | .hourRoll => Sys2Proof.Machine.execHourRoll s
  | .recordStage => Sys2Proof.Machine.execRecordStage s
  | .recordProgramDone ok => Sys2Proof.Machine.execRecordProgramDone ok s
  | .bureauEraseDone => Sys2Proof.Machine.execBureauEraseDone s
  | .timeStoreEntry ok => Sys2Proof.Machine.execTimeStoreEntry ok s
  | .loopTest loop ohms now => Sys2Proof.Machine.execLoopTest loop ohms now s
  | .cell now => Sys2Proof.Machine.execCell now s
  | .glitch now => Sys2Proof.Machine.execGlitch now s
  | .slow now => Sys2Proof.Machine.execSlow now s
  | .tempRead tempC now => Sys2Proof.Machine.execTempRead tempC now s
  | .shadowCompare now => Sys2Proof.Machine.execShadowCompare now s
  | .evidenceProgramDone ok => Sys2Proof.Machine.execEvidenceProgramDone ok s
  | .sealCheck => Sys2Proof.Machine.execSealCheck s
  | .cfgSaveDone => Sys2Proof.Machine.execCfgSaveDone s
  | .calSealDone => Sys2Proof.Machine.execCalSealDone s
  | .pd0PowerUp => Sys2Proof.Machine.execPd0PowerUp s
  | .frameStart => Sys2Proof.Machine.execFrameStart s
  | .rowRefresh => Sys2Proof.Machine.execRowRefresh s
  | .rectCopyStep => Sys2Proof.Machine.execRectCopyStep s
  | .pavddOn => Sys2Proof.Machine.execPavddOn s
  | .vglOn => Sys2Proof.Machine.execVglOn s
  | .vghOn => Sys2Proof.Machine.execVghOn s
  | .vcomOn => Sys2Proof.Machine.execVcomOn s
  | .panelStart => Sys2Proof.Machine.execPanelStart s
  | .railFault r => Sys2Proof.Machine.execRailFault r s
  | .crackTest ohms => Sys2Proof.Machine.execCrackTest ohms s
  | .discharge => Sys2Proof.Machine.execDischarge s
  | .dischargeEnd => Sys2Proof.Machine.execDischargeEnd s
  | .flOn => Sys2Proof.Machine.execFlOn s
  | .dispTempRead tempC => Sys2Proof.Machine.execDispTempRead tempC s
  | .parkEnd lead => Sys2Proof.Machine.execParkEnd lead s
  | .enumTimeout => Sys2Proof.Machine.execEnumTimeout s
  | .chainCtrl p v => Sys2Proof.Machine.execChainCtrl p v s
  | .auxCtrl p v => Sys2Proof.Machine.execAuxCtrl p v s
  | .aonSourceChange vresMv vbcMv => Sys2Proof.Machine.execAonSourceChange vresMv vbcMv s
  | .allSourcesLost => Sys2Proof.Machine.execAllSourcesLost s
  | .timeStoreEraseDone => Sys2Proof.Machine.execTimeStoreEraseDone s
  | .maintReplySent => Sys2Proof.Machine.execMaintReplySent s

end Sys2Proof.Machine
end

