-- ==== Sys2Proof/Machine/Encode.lean ====
section
/-!
DEFINITION. Packets written out: the packet that asks for an opcode row (04 R77, R78, R86, R88); `packetBytes`
gives its bytes. Claims about the reading of packets are stated with it.
-/

namespace Sys2Proof.Machine

/-- The FLAGS byte (R78). -/
def flagsByte (mac noreply : Bool) (pos : BitVec 2) : Byte :=
  BitVec.ofNat 8 (128 * b2n mac + 64 * b2n noreply + 16 * pos.toNat)

/-- A register number in its field (R79). -/
def regField (n : BitVec 12) : Field := n.setWidth 24

/-- A register value or a mask in its field, zero above (00 R4). -/
def wordField (v : Word) : Field := v.setWidth 24

/-- The fields of a 32-bit operand (R88). -/
def operandFields (w : BitVec 32) : List Field := wordFields w.toNat

/-- The six fields of the 18 key bytes (R104). -/
def keyParams (b : BitVec 144) : List Field :=
  [b.extractLsb' 120 24, b.extractLsb' 96 24, b.extractLsb' 72 24, b.extractLsb' 48 24, b.extractLsb' 24 24,
   b.extractLsb' 0 24]

/-- The landing, opcode and parameters of an opcode row; none for the other rows (R86). -/
def opcodeParams : Instr → Option (Land × Byte × List Field)
  | .nop l => some (l, 0x00, [])
  | .rd l regs => some (l, 0x01, regs.map regField)
  | .wr l _ pairs => some (l, 0x02, pairs.flatMap (fun e => [regField e.1, wordField e.2]))
  | .rmw l _ ts => some (l, 0x03, ts.flatMap (fun e => [regField e.1, wordField e.2.1, wordField e.2.2]))
  | .commit l g => some (l, 0x04, [g.setWidth 24])
  | .snap l regs => some (l, 0x05, regs.map regField)
  | .memRd l va n => some (l, 0x08, [va, fieldN n])
  | .memWr l va d => some (l, 0x09, [va, fieldN d.length] ++ packFields d.length d)
  | .fetchAdd l va x => some (l, 0x0A, [va, 0] ++ operandFields x)
  | .swap l va x => some (l, 0x0A, [va, 1] ++ operandFields x)
  | .cmpSwap l va x y => some (l, 0x0A, [va, 2] ++ operandFields x ++ operandFields y)
  | .convertNow l e => some (l, 0x10, [wordField e])
  | .query l => some (l, 0x11, [fieldN 0x00000])
  | .pause l => some (l, 0x11, [fieldN 0x10000])
  | .resume l => some (l, 0x11, [fieldN 0x20000])
  | .select l k => some (l, 0x11, [fieldN (0x30000 + k.toNat)])
  | .recClear l => some (l, 0x18, [])
  | .recMark l a b c => some (l, 0x19, [wordField a, wordField b, wordField c])
  | .dispRect l x0 y0 w h => some (l, 0x20, [fieldN x0, fieldN y0, fieldN w, fieldN h])
  | .dispBlink l fs => some (l, 0x21, fs)
  | .dispPowerUp l => some (l, 0x22, [1])
  | .dispPowerDown l => some (l, 0x22, [0])
  | .authChal l => some (l, 0x28, [])
  | .keyLoad l slot b _ => some (l, 0x29, fieldN (b2n slot) :: keyParams b)
  | .cfgSave l => some (l, 0x2A, [])
  | .calSeal l => some (l, 0x2B, [])
  | .energyPreset l q v =>
    some (l, 0x2C, [fieldN q.toNat, (v.extractLsb' 0 20).setWidth 24, (v.extractLsb' 20 20).setWidth 24,
      (v.extractLsb' 40 20).setWidth 24])
  | .chainEnum l => some (l, 0x30, [])
  | .resetSoft l key => some (l, 0x3F, [key])
  | _ => none

/-- The packet of an opcode row for position `pos`, with the MAC bytes `mac` or none. -/
def commandPacket (pos : BitVec 2) (mac : List Byte) (c : Instr) : Option Packet :=
  (opcodeParams c).map (fun e =>
    { opc := e.2.1, tag := e.1.tag, flags := flagsByte (!mac.isEmpty) e.1.noreply pos, params := e.2.2, mac := mac })

/-- What else the parameters of an opcode row must satisfy at step 5 of R82, beyond what `Instr.wellFormed` asks: the
ranges that depend on the part's settings. -/
def stepFive (s : State) : Instr → Bool
  | .convertNow _ e => !entryWith e && headOk e
  | .dispRect _ x0 y0 w h => rectOk s x0 y0 w h
  | .dispBlink _ fs => blinkOk s (fs.map (·.toNat))
  | .keyLoad _ slot b _ => (keySlot s slot).isSome || decide (b ≠ 0)
  | .wr _ flip _ => decide (flip = 0)
  | .rmw _ flip _ => decide (flip = 0)
  | _ => true

/-- What a parsed packet is given for its nonce (R104), and the port it came by. -/
def commandNonce : Instr → BitVec 72
  | .keyLoad _ _ _ n => n
  | _ => 0

end Sys2Proof.Machine
end

