-- ==== Sys2Proof/WellFormed.lean ====
section
/-!
DEFINITION. Well-formed commands: the ranges the spec gives the operands of a command. A command that is not
well-formed still has its effect (a packet whose parameters fail step 5 of 04 R82 is answered BAD_LEN, an unassigned
register number BAD_REG); the check only says which operands are the ordinary ones.
-/

namespace Sys2Proof

open Sys2Proof.Machine

/-- A cycle number of a tick (00, Time: 6,144 DCLK cycles). -/
def cycleOk (c : Nat) : Bool := decide (c < 6144)

/-- A list of between 1 and `top` things. -/
def sizeOk {α : Type} (l : List α) (top : Nat) : Bool := decide (1 ≤ l.length) && decide (l.length ≤ top)

/-- Every register number is assigned (18 R374). -/
def regsOk (l : List (BitVec 12)) : Bool := l.all (fun n => assigned n.toNat)

/-- An address of a 32-bit word (11 R246). -/
def alignedOk (va : BitVec 24) : Bool := decide (va.toNat % 4 = 0)

/-- A rectangle of at least one dot with its corner in the ranges of 04 R88. -/
def cornerOk (x0 y0 w h : Nat) : Bool :=
  decide (x0 < 512) && decide (y0 < 256) && decide (1 ≤ w) && decide (1 ≤ h)

/-- The key bytes end in two zero bytes (04 R104). -/
def keyBytesOk (b : BitVec 144) : Bool := decide (b.setWidth 16 = (0 : BitVec 16))

/-- The parameters of a command lie in the ranges the spec gives them. -/
def Instr.wellFormed : Instr → Bool
  | .rd _ regs => sizeOk regs 80 && regsOk regs
  | .wr _ _ pairs => sizeOk pairs 40 && regsOk (pairs.map (·.1))
  | .rmw _ _ ts => sizeOk ts 26 && regsOk (ts.map (·.1))
  | .snap _ regs => sizeOk regs 79 && regsOk regs
  | .memRd _ _ count => decide (1 ≤ count) && decide (count ≤ 240)
  | .memWr _ _ data => sizeOk data 234
  | .fetchAdd _ va _ => alignedOk va
  | .swap _ va _ => alignedOk va
  | .cmpSwap _ va _ _ => alignedOk va
  | .convertNow _ e => decide (fld e 10 2 = 0)
  | .select _ k => decide (k.toNat ≤ 10)
  | .dispRect _ x0 y0 w h => cornerOk x0 y0 w h
  | .dispBlink _ fs => decide (fs.length = 6)
  | .keyLoad _ _ b _ => keyBytesOk b
  | .energyPreset _ q _ => decide (q.toNat ≤ 11)
  | .resetSoft _ key => decide (key = 0x0A55A)
  | .sealedRegisterWrite _ n _ => sealedSet.contains n.toNat
  | .registerWrite _ n _ => assigned n.toNat
  | .hostPacketWrite c _ => cycleOk c
  | .maintFrame c b t => cycleOk c && decide (b.length = t.length)
  | .pktFrame c _ => cycleOk c
  | .trigEdge _ c => cycleOk c
  | .tickBoundary e => decide (e.bits.length = 11)
  | .nop _ | .commit _ _ | .query _ | .pause _ | .resume _ | .recClear _ | .recMark _ _ _ _
  | .dispPowerUp _ | .dispPowerDown _ | .authChal _ | .cfgSave _ | .calSeal _ | .chainEnum _
  | .halt _ | .go _ | .saveNow _ | .arm _ | .force _ | .stop _ | .freeze _ _ | .wakeCtrl _ _ | .recCursor _ _
  | .lowResSel _ _ | .pwrCeil _ _ | .tampCfg _ _ _ | .recStageCfg _ _ | .flEn _ _ | .domainReq _ _ | .procStart _ _
  | .chainCtrl _ _ | .auxCtrl _ _
  | .replyRead _ | .maintGapTimeout | .rplFrame _ | .forwardTimeout _ | .deniedReply _ | .nonceStale _ _
  | .authLockEnd _ | .maintReplyTransmit | .mtxRelease | .maintReplySent
  | .pd1Start _ _ | .coldStart _ | .coreResetRelease _ | .pfail _ | .hardOff _ | .shuntOn _ | .lowRes _
  | .autoSettleFullRequest _ | .vauxUp _ | .vauxDown _ | .vbcLow _ | .floorRevoke _ | .domainRampEnd _
  | .gaspBureauClose | .gaspEnergySave | .gaspPanelDischarge | .gaspEnd _ | .aonSourceChange _ _ | .allSourcesLost
  | .pd0PowerUp
  | .coldEnd | .loadEnd | .holdRestore | .orderlyStop | .softResetApply | .cfgMismatch | .wake
  | .flywheelCrossing | .nominalCrossing | .acquireTimeout | .halfCycleBoundary | .cyclePublication
  | .harmonicPublication | .bgShort | .periodicSave | .energySaveDone _ | .energySectorEraseDone | .cfPulseStart _
  | .cfPulseEnd _
  | .stoolStepEnd | .takeover | .handback | .takeoverAbandon | .handbackStall | .rotationDone | .overrange _ _
  | .peak _ _ | .procTimerFire | .procDelayEnd | .lineBoundary | .fixedWindowClose | .pwmTimeout
  | .runDownEnd _ _ _ _ _ _ | .detBlockDone _ | .filtSettlingEnd _
  | .capQueueDrain | .capDone | .memoryRequest _ | .arbStarve _ | .bankInitDone _ | .scrubStep | .scrubYield
  | .mrqFrame _ | .mrqService | .mrsFrame _ | .mrqBusyRetry | .remoteTimeout | .enumFrame _ | .enumRspFrame _
  | .enumTimeout | .wiringTest _ | .idleByte _ _ | .linkUp _ | .linkDown _
  | .coalesceTimeout | .hourRoll | .recordStage | .recordProgramDone _ | .bureauEraseDone | .timeStoreEntry _
  | .timeStoreEraseDone | .loopTest _ _ _ | .cell _ | .glitch _ | .slow _ | .tempRead _ _ | .shadowCompare _
  | .evidenceProgramDone _ | .sealCheck | .cfgSaveDone | .calSealDone
  | .frameStart | .rowRefresh | .rectCopyStep | .pavddOn | .vglOn | .vghOn | .vcomOn | .panelStart | .railFault _
  | .crackTest _ | .discharge | .dischargeEnd | .flOn | .dispTempRead _ | .parkEnd _ => true

end Sys2Proof
end

