-- ==== Sys2Proof/Safety.lean ====
section
/-!
DEFINITION. The terms in which claims are stated: the canonical form of the sparse tables, the components of the state
what it means that a command leaves them alone or that it completes, and the state in which a packet finds the part when
it lands and has its reply.
-/

namespace Sys2Proof.Machine

/-! ### Canonical form -/

/-- The memories, that is capture memory, its tags, the NVM, the overdrive table and the FIR banks, are in canonical form:
addresses strictly rising, and no entry equal to what an unlisted address reads as. -/
def Memory.wf (s : State) : Bool :=
  swf zeroByte s.mem.data && swf zeroTag s.mem.tags && swf erasedByte s.nvm.data && swf zeroByte s.od
    && swf (fun _ => (0 : Word)) s.fir

/-- The registers, stored, retained, in force and of the snapshot, are in canonical form. -/
def Registers.wf (s : State) : Bool :=
  swf regReset s.regs && swf regReset s.aon.regs && swf regReset s.inForce && swf regReset s.snap

/-- The memories and the registers are in canonical form. -/
def Tables.wf (s : State) : Bool := Memory.wf s && Registers.wf s

/-! ### Frames -/

/-- The components of a state, the queue of waiting commands and the free-value counter apart. -/
inductive Part where
  | regs
  | aon
  | inForce
  | snap
  | fir
  | od
  | power
  | seq
  | ports
  | streams
  | stool
  | proc
  | line
  | energy
  | harm
  | pq
  | cap
  | mem
  | dresser
  | chain
  | bureau
  | evid
  | hutch
  | pins
  | nvm
  deriving DecidableEq, Repr

/-- Component `p` is the same in both states; of the register file, every register reads the same. -/
def Part.same (p : Part) (s t : State) : Prop :=
  match p with
  | .regs => ∀ n, sget regReset t.regs n = sget regReset s.regs n
  | .aon => t.aon = s.aon
  | .inForce => t.inForce = s.inForce
  | .snap => t.snap = s.snap
  | .fir => t.fir = s.fir ∧ t.firActive = s.firActive
  | .od => t.od = s.od
  | .power => t.power = s.power
  | .seq => t.seq = s.seq
  | .ports => t.ports = s.ports
  | .streams => t.streams = s.streams
  | .stool => t.stool = s.stool
  | .proc => t.proc = s.proc
  | .line => t.line = s.line
  | .energy => t.energy = s.energy
  | .harm => t.harm = s.harm
  | .pq => t.pq = s.pq
  | .cap => t.cap = s.cap
  | .mem => t.mem = s.mem
  | .dresser => t.dresser = s.dresser
  | .chain => t.chain = s.chain
  | .bureau => t.bureau = s.bureau
  | .evid => t.evid = s.evid
  | .hutch => t.hutch = s.hutch
  | .pins => t.pins = s.pins
  | .nvm => t.nvm = s.nvm

/-- Every component but those of `ps` is the same in both states. -/
def sameBut (ps : List Part) (s t : State) : Prop := ∀ p, p ∉ ps → p.same s t

/-- Every register but those of `ns` reads the same in both states. -/
def sameRegsBut (ns : List Nat) (s t : State) : Prop := ∀ n, n ∉ ns → getReg t n = getReg s n

/-- A write to register `n` does nothing besides storing: it is none of the registers for which a chapter says more, and
no window onto something else. -/
def quietWrite (n : Nat) : Bool :=
  !([0x10A, 0x116, 0x182, 0x196, 0x200, 0x40C, 0x540, 0x545, 0x620, 0x681, 0x682, 0x683, 0x684, 0x690, 0x703, 0x704, 0x705,
     0x780, 0x781, 0x788, 0x789, 0x78A, 0x78B, 0x78C, 0x78D, 0x78E, 0x810].contains n) && !sealedSet.contains n

/-! ### Completion -/

/-- Command `i` answers a next state, and `P` holds of it. -/
def Completes (i : Instr) (s : State) (P : State → Prop) : Prop := ∃ t, exec i s = .next t ∧ P t

/-- The port of packet `l` holds its reply, of status `status`. -/
def replied (t : State) (l : Land) (status : Nat) : Prop :=
  ∃ r, (portOf t l.port).reply = some r ∧ r.tag = l.tag ∧ r.status = status

/-! ### Packets as they come in -/

/-- The bytes of a frame pass steps 1 and 2 of 04 R82: a LEN of at most 80, all the bytes its header asks for, and a CRC
that passes. -/
def wholePacket (b : List Byte) : Bool :=
  decide (4 ≤ b.length) && decide (lenOf b ≤ 80) && decide (packetLen (lenOf b) (nth b 3 0) ≤ b.length) && crcPasses b

/-- A packet passes steps 3 to 6 of 04 R82 on port `p`: the ports are at work, its reserved flags are zero, its opcode is
assigned and may carry its MAC flag, its parameters are in range, and it is meant for this part. -/
def checksPass (s : State) (p : PortId) (k : Packet) : Bool :=
  portsUp s && decide (bitsOf k.flags.toNat 0 4 = 0) && assignedOpc k.opc.toNat
    && !(macFlag k.flags && !macAllowed k.opc.toNat) && (packetAct s p k 0).isSome
    && decide (BitVec.ofNat 2 (bitsOf k.flags.toNat 4 2) = ownPos s)

/-! ### Landings -/

/-- The cycle in which a packet of an opcode row lands (04 R83): the first free one of the tick. -/
def landCycle (s : State) : Nat := min s.seq.cycle 6143

/-- What a packet of port `p` finds when it lands: the earlier reply of its port discarded (04 R97), the foreground of
the tick as far as the landing cycle, and the packet itself under way. -/
def landState (s : State) (p : PortId) : State :=
  let t := runTo (forgetReply s p) (landCycle s)
  putPort t p { portOf t p with due := some executing }

/-- A port takes a packet and answers it: RUN, SETTLE or HOLD, and no other packet of the port under way. -/
def takes (s : State) (p : PortId) : Bool := portsUp s && portFree s p

/-- The state after `k` reads of an RD, one in each cycle from `c` on (04 R84): the tick has come as far as each. -/
def readAfter (u : State) (c : Nat) : Nat → State
  | 0 => u
  | k + 1 => atCycle (runTo (readAfter u c k) (c + k)) (c + k)

/-- Port `l.port` holds in `t` the reply of packet `l`, ready `k` cycles after cycle `c` of the tick in which `u` stands;
where NOREPLY suppresses it (04 R91), the port holds what it held in `u`. -/
def answered (u t : State) (l : Land) (status : Nat) (fs : List Field) (c k : Nat) : Prop :=
  (portOf t l.port).reply =
    if l.noreply = true ∧ status = stOk then (portOf u l.port).reply
    else some { tag := l.tag, status := status, fields := fs, tick := (stampAt u c k).1, cyc := (stampAt u c k).2 }

/-- The state a landed packet with `n` accesses leaves: `v` is what its operation has made of the state it found. -/
def afterLanding (s : State) (p : PortId) (n : Nat) (v : State) : State :=
  let w := landed v p
  { w with seq := { w.seq with cycle := s.seq.cycle + n } }

/-- A request raised in cycle `c` (10 R228): it has waited no cycle. -/
def newReq (r : Nat) (op : MemOp) (c : Nat) : Req :=
  { r := r, op := op, wait := 0, starve := 0, reported := false, at_ := c, gone := false }

/-- The ENUM frame to the neighbour of side `d` (11 R257). -/
def enumAsk (s : State) (d : Side) : TxFrame :=
  { side := d, type := 5, dest := neighbour s d, src := ownPos s, ltag := s.chain.ltag, payload := [] }

end Sys2Proof.Machine
end

