-- ==== Sys2Proof/Certificates/Slice0/Obligations.lean ====
section
/-!
DEFINITION. The statements about the model, for the provers: each formalises rules of spec/, named in its entry of
OBLIGATIONS.json.
-/

open Sys2Proof Sys2Proof.Machine

/-! ## The block and its queue -/

/-- A step takes the command at the front of the queue and is exec of it on the state with the queue's rest; with
nothing waiting the block idles (the model's choice, log entry 3). -/
def Obligations.StepTakesTheFront : Prop :=
  (∀ (c : Instr) (rest : List Instr) (s : State), s.pending = c :: rest → step s = exec c { s with pending := rest }) ∧
  (∀ s : State, s.pending = [] → step s = .next s)

/-! ## Opcode rows: 04 -/

/-- NOP answers OK with the own position and the sequencer state; COMMIT answers OK with its landing tick and cycle and
leaves its groups waiting for the boundary, a COMMIT of no group as well. Of the state in which the packet lands NOP
changes the ports and the time alone, and COMMIT besides them what waits for the boundary. (An opcode row lands in the
first free cycle of the present tick: the model's choice, log entries 2 and 25.) -/
def Obligations.NopAndCommitAnswer : Prop :=
  ∀ (l : Land) (s : State), takes s l.port = true →
    let u := landState s l.port
    let c := landCycle s
    (∃ t, exec (.nop l) s = .next t ∧ answered u t l stOk [fieldN ((ownPos u).toNat + 4 * seqCode u)] c 8 ∧
      sameBut [.seq, .ports] u t ∧ t.seq = { u.seq with cycle := s.seq.cycle + 1 }) ∧
    (∀ g : BitVec 5, ∃ t, exec (.commit l g) s = .next t ∧ answered u t l stOk (landFields u c) c 8 ∧
      sameBut [.seq, .ports] u t ∧
      t.seq = { u.seq with commitMask := u.seq.commitMask ||| g, commitReq := true, cycle := s.seq.cycle + 1 })

/-- RD answers OK with one value for each register, the one of field i read one cycle after that of field i − 1, and
SNAP answers OK with every value of the landing cycle and TICK_COUNT. (Opcode rows land as log entries 2 and 25 choose.)
-/
def Obligations.RegisterReadsAnswer : Prop :=
  ∀ (l : Land) (regs : List (BitVec 12)) (s : State), takes s l.port = true → regsOk regs = true →
    let u := landState s l.port
    let c := landCycle s
    (sizeOk regs 80 = true → ∃ t fs, exec (.rd l regs) s = .next t ∧
      answered (readAfter u c regs.length) t l stOk fs (c + regs.length - 1) 8 ∧ fs.length = regs.length ∧
      ∀ i, (h : i < regs.length) →
        fs[i]? = some (fieldOfReg regs[i].toNat (readReg (readAfter u c (i + 1)) l.port regs[i].toNat))) ∧
    (sizeOk regs 79 = true → ∃ t, exec (.snap l regs) s = .next t ∧
      answered u t l stOk
        (regs.map (fun n => fieldOfReg n.toNat (readReg u l.port n.toNat)) ++ [u.seq.tick.setWidth 24]) c 8 ∧
      sameBut [.seq, .ports] u t ∧ t.seq = { u.seq with cycle := s.seq.cycle + 1 })

/-- A packet answered BAD_REG changes no register, including registers named in its earlier fields. -/
def Obligations.BadRegisterChangesNothing : Prop :=
  ∀ (l : Land) (flip : BitVec 6) (regs : List (BitVec 12)) (pairs : List (BitVec 12 × Word))
    (ts : List (BitVec 12 × Word × Word)) (s : State), takes s l.port = true →
    let u := landState s l.port
    let c := landCycle s
    (∀ i, sizeOk regs 80 = true → badReg regs = some i → ∃ t, exec (.rd l regs) s = .next t ∧
      answered u t l stBadReg [fieldN i] c 8 ∧ sameBut [.seq, .ports] u t) ∧
    (∀ i, sizeOk regs 79 = true → badReg regs = some i → ∃ t, exec (.snap l regs) s = .next t ∧
      answered u t l stBadReg [fieldN i] c 8 ∧ sameBut [.seq, .ports] u t) ∧
    (sizeOk pairs 40 = true → regsOk (pairs.map (·.1)) = false → ∃ t, exec (.wr l flip pairs) s = .next t ∧
      answered u t l stBadReg [] c 8 ∧ sameBut [.seq, .ports] u t) ∧
    (∀ i, sizeOk ts 26 = true → badReg (ts.map (·.1)) = some i → ∃ t, exec (.rmw l flip ts) s = .next t ∧
      answered u t l stBadReg [fieldN (3 * i)] c 8 ∧ sameBut [.seq, .ports] u t)

/-- WR answers OK with its landing tick and cycle, and its pairs have been written one after another in one cycle, those
of registers that have W1C bits alone before the others (the model's reading, log entry 45); RMW answers OK with those and
the old values: each triple reads its register in a cycle of its own, the next one cycle later, and writes (old AND
mask1) OR mask2. (Opcode rows land as log entries 2 and 25 choose.) -/
def Obligations.WritePacketsWrite : Prop :=
  ∀ (l : Land) (pairs : List (BitVec 12 × Word)) (ts : List (BitVec 12 × Word × Word)) (s : State),
    takes s l.port = true →
    let u := landState s l.port
    let c := landCycle s
    (sizeOk pairs 40 = true → regsOk (pairs.map (·.1)) = true →
      let v := (pairs.filter (fun e => onlyClears e.1) ++ pairs.filter (fun e => !onlyClears e.1)).foldl
        (fun a e => writeReg a l.port e.1.toNat e.2) u
      ∃ t, exec (.wr l 0 pairs) s = .next t ∧ answered v t l stOk (landFields u c) c 8 ∧
        t = afterLanding s l.port 1 (answer v l c stOk (landFields u c))) ∧
    (sizeOk ts 26 = true → regsOk (ts.map (·.1)) = true →
      let v := rmwTriples l.port u c ts
      ∃ t, exec (.rmw l 0 ts) s = .next t ∧ answered v.1 t l stOk (landFields u c ++ v.2) (c + ts.length - 1) 8 ∧
        t = afterLanding s l.port ts.length (answer v.1 l (c + ts.length - 1) stOk (landFields u c ++ v.2)) ∧
        v.2.length = ts.length) ∧
    (∀ x k n a o r, rmwTriples l.port x k [] = (x, []) ∧
      (let y := atCycle (runTo x k) k
       let old := readReg y l.port n.toNat
       let z := rmwTriples l.port (writeReg y l.port n.toNat ((old &&& a) ||| o)) (k + 1) r
       rmwTriples l.port x k ((n, a, o) :: r) = (z.1, fieldOfReg n.toNat old :: z.2)))

/-- A register write whose bus integrity code arrives disturbed is answered BAD_CRC, and none of the packet's writes
is stored: only the logic disturbance is sensed, and the counts and status bits of the answer stand. (Opcode rows land
as log entries 2 and 25 choose.) -/
def Obligations.DisturbedCodeStoresNothing : Prop :=
  ∀ (l : Land) (flip : BitVec 6) (pairs : List (BitVec 12 × Word)) (ts : List (BitVec 12 × Word × Word)) (s : State),
    takes s l.port = true → flip ≠ 0 →
    let u := landState s l.port
    let c := landCycle s
    (sizeOk pairs 40 = true → regsOk (pairs.map (·.1)) = true →
      ∃ t, exec (.wr l flip pairs) s = .next t ∧
        answered (logicFault u) t l stBadCrc [] c 8 ∧
        sameRegsBut [0, 1, 2, 3, errReg l.port] (logicFault u) t) ∧
    (sizeOk ts 26 = true → regsOk (ts.map (·.1)) = true →
      ∃ t, exec (.rmw l flip ts) s = .next t ∧
        answered (logicFault u) t l stBadCrc [] c 8 ∧
        sameRegsBut [0, 1, 2, 3, errReg l.port] (logicFault u) t)

/-- An operation on memory that its context refuses, or the local map, is answered SEG_FAULT and makes no access; a read
of the own register file reads one register a cycle and is answered with them; any other operation on the configuration
path of this part whose words fall in the landing tick is made at once and answered; one on capture memory becomes the
port's request to the Sideboard, raised after the cycles of its lookup, and waits for its grant; one on another chip is
sent to it as one MRQ, or answered CHAIN_DOWN where that chip cannot be reached. (Opcode rows land as log entries 2 and
25 choose.) -/
def Obligations.MemoryOpcodesStart : Prop :=
  ∀ (l : Land) (va : BitVec 24) (n : Nat) (d : List Byte) (x y : BitVec 32) (s : State), takes s l.port = true →
    1 ≤ n → n ≤ 240 → sizeOk d 234 = true →
    let u := landState s l.port
    ∀ (i : Instr) (opc : Nat) (a : Access),
      (i = .memRd l va n ∧ opc = 0x08 ∧ a = { kind := .read, pa := va.toNat, count := n, data := [], op1 := 0, op2 := 0 }) ∨
      (i = .memWr l va d ∧ opc = 0x09 ∧
        a = { kind := .write, pa := va.toNat, count := d.length, data := d, op1 := 0, op2 := 0 }) ∨
      (va.toNat % 4 = 0 ∧ opc = 0x0A ∧
        ((i = .fetchAdd l va x ∧ a = { kind := .fetchAdd, pa := va.toNat, count := 4, data := [], op1 := x, op2 := 0 }) ∨
         (i = .swap l va x ∧ a = { kind := .swap, pa := va.toNat, count := 4, data := [], op1 := x, op2 := 0 }) ∨
         (i = .cmpSwap l va x y ∧
           a = { kind := .cmpSwap, pa := va.toNat, count := 4, data := [], op1 := x, op2 := y }))) →
      let ctx := portReq l.port
      let k := (lookupTime u ctx (a.pa / 16)).2
      let v := (lookupTime u ctx (a.pa / 16)).1
      let w := waitOf u l opc
      let m := min v.seq.cycle 6143
      (∀ c g, translate v ctx a.kind a.pa (a.pa + a.count - 1) = .fault c g →
        exec i s = .next (afterLanding s l.port 0
          (answerAt (segFault v ctx a.pa a.kind c g) l.port l.tag l.noreply stSegFault [] m (k + 7)))) ∧
      (∀ pa g, translate v ctx a.kind a.pa (a.pa + a.count - 1) = .at_ (ownPos v) pa g →
        let b : Access := { a with pa := pa }
        (∀ c, mapCheck a.kind pa a.count = (none, c) →
          exec i s = .next (afterLanding s l.port 0
            (answerAt (segFault v ctx a.pa a.kind c (some g)) l.port l.tag l.noreply stSegFault [] m (k + 7)))) ∧
        (∀ c, a.kind = .read → mapCheck a.kind pa a.count = (some .regs, c) →
          exec i s = .next (afterLanding s l.port 0 (memRegs l va.toNat n pa u (landCycle s)))) ∧
        (∀ r c, mapCheck a.kind pa a.count = (some r, c) → r ≠ .capture → ¬(a.kind = .read ∧ r = .regs) →
          accessReady (setBusy v w) b = true → splitWrite b (m + k - 1) = none →
          exec i s = .next (afterLanding s l.port 0 (portServe (setBusy v w) w b ctx a.pa g k).1)) ∧
        (∀ c, mapCheck a.kind pa a.count = (some .capture, c) → requesting v (portReq l.port) = false →
          v.mem.busy ≤ m + k →
          ∃ t, exec i s = .next t ∧ (portOf t l.port).busy = (portOf u l.port).busy ++ [w] ∧
            t.mem = { v.mem with
              reqs := v.mem.reqs ++ [newReq (portReq l.port) (.port w b ctx a.pa g k) (m + k)] } ∧
            sameBut [.ports, .mem, .seq] v t)) ∧
      (∀ chip pa g, translate v ctx a.kind a.pa (a.pa + a.count - 1) = .at_ chip pa g → chip ≠ ownPos v →
        let b : Access := { a with pa := pa }
        let d := sideTo v chip
        (linkReady v d = true →
          ∃ t, exec i s = .next t ∧ (portOf t l.port).busy = (portOf u l.port).busy ++ [w] ∧
            t.chain.sent = v.chain.sent ++
              [{ side := d, type := 3, dest := chip, src := ownPos v, ltag := v.chain.ltag, payload := mrqPayload b }] ∧
            sameBut [.ports, .chain, .seq] v t) ∧
        (linkReady v d = false →
          exec i s = .next (afterLanding s l.port 0
            (answerAt v l.port l.tag l.noreply stChainDown [] m (k + 7)))))

/-- CONVERT_NOW, its entry valid, is answered OK and taken while the pairs are at rest and at work, and answered DROPPED
and counted while they are not; QUERY answers the Stool status; PAUSE, RESUME and SELECT wait for the boundary and are
answered OK with the Stool status while the Stool is in force, SELECT naming SELF or a slice in force, and are answered
BUSY otherwise. (Opcode rows land as log entries 2 and 25 choose.) -/
def Obligations.ConvertAndStoolOpcodes : Prop :=
  ∀ (l : Land) (e : Word) (k : BitVec 4) (s : State), takes s l.port = true →
    let u := landState s l.port
    let c := landCycle s
    (fld e 10 2 = 0 → entryWith e = false → headOk e = true → procBusy u = false → procOn u = true →
      ∃ t, exec (.convertNow l e) s = .next t ∧ answered u t l stOk [] c 8 ∧
        t.proc.urgent = true ∧ t.proc.urgentEntry = e ∧ t.proc.group = 16 ∧ t.proc.ctrl = snapReg u 0x300 ∧
        sameBut [.seq, .proc, .ports] u t) ∧
    (fld e 10 2 = 0 → entryWith e = false → headOk e = true → (procBusy u = true ∨ procOn u = false) →
      ∃ t, exec (.convertNow l e) s = .next t ∧ t.proc = u.proc ∧
        t = afterLanding s l.port 1 (answer (raise (incReg u 0x305) srcProcOverrun) l c stDropped [])) ∧
    (∃ t, exec (.query l) s = .next t ∧ answered u t l stOk [(stoolStatus u).setWidth 24] c 8 ∧
      sameBut [.seq, .ports] u t) ∧
    (∀ (i : Instr) (a b : Nat), ((i = .pause l ∧ a = 1 ∧ b = 0) ∨ (i = .resume l ∧ a = 2 ∧ b = 0) ∨
        (i = .select l k ∧ a = 3 ∧ b = k.toNat ∧ k.toNat ≤ 10)) →
      (inSched u 10 = true → (a = 3 → b ≤ 9 → inSched u b = true) →
        ∃ t, exec i s = .next t ∧ t.stool = { u.stool with actions := u.stool.actions ++ [(a, b)] } ∧
          answered u t l stOk [(stoolStatus { u with stool := t.stool }).setWidth 24] c 8 ∧
          sameBut [.seq, .stool, .ports] u t) ∧
      ((inSched u 10 = false ∨ (a = 3 ∧ b ≤ 9 ∧ inSched u b = false)) →
        ∃ t, exec i s = .next t ∧ answered u t l stBusy [] c 8 ∧ sameBut [.seq, .ports] u t))

/-- REC_CLEAR is answered OK, delivers its event and queues its evidence entry, which is lost while the log is full or
closed or eight entries wait; REC_MARK delivers its event and waits for the number of its record. (Opcode rows land as
log entries 2 and 25 choose.) -/
def Obligations.RecordOpcodes : Prop :=
  ∀ (l : Land) (p0 p1 p2 : Word) (s : State), takes s l.port = true →
    let u := landState s l.port
    let c := landCycle s
    let e := bEvent 2 2 (portCode l.port) 0 0
    let f := bEvent 5 0 p0.toNat p1.toNat p2.toNat
    (∃ t, exec (.recClear l) s = .next t ∧ answered u t l stOk [] c 8 ∧
      (u.evid.full = false → u.aon.logClosed = false → u.aon.evQueue.length < 8 →
        t.bureau = (deliver u e).bureau ∧
        t.aon = { u.aon with evQueue := u.aon.evQueue ++ [evidEntry (deliver u e) 2 2 (portCode l.port) false] } ∧
        sameBut [.seq, .bureau, .aon, .ports] u t) ∧
      ((u.evid.full = true ∨ u.aon.logClosed = true ∨ 8 ≤ u.aon.evQueue.length) →
        t = afterLanding s l.port 1 (answer (loseEvidence (deliver u e) 1) l c stOk []) ∧
        t.aon.evQueue = u.aon.evQueue)) ∧
    (∃ t, exec (.recMark l p0 p1 p2) s = .next t ∧ 
      (portOf t l.port).busy = (portOf u l.port).busy ++ [waitOf u l 0x19] ∧
      t.bureau = { (deliver u f).bureau with marks := u.bureau.marks ++ [(waitOf u l 0x19, f, none)] } ∧
      sameBut [.seq, .ports, .bureau] u t)

/-- DISP_RECT, its rectangle within the panel, takes the first free slot of a panel in RUN and answers with it, or with
RECT_WAIT where it overlaps a rectangle already held, and is answered BUSY of any other panel or with no slot free;
DISP_BLINK, its fields in range, waits for the frame start, and is answered BUSY where its window has one waiting;
DISP_POWER answers OK with nothing to do where the panel already stands as asked, BUSY where it may not change, and
otherwise begins the power-up or power-down. (Opcode rows land as log entries 2 and 25 choose.) -/
def Obligations.DisplayOpcodes : Prop :=
  ∀ (l : Land) (x0 y0 w h : Nat) (fs : List Field) (s : State), takes s l.port = true →
    let u := landState s l.port
    let c := landCycle s
    (∀ i, rectOk u x0 y0 w h = true → u.hutch.st = 3 → domOn u 10 = true →
      (upto 4).find? (fun k => (rectAt u.hutch k).st == 0) = some i →
      let r : Rect := { freeRect with st := 1, x0 := x0, y0 := y0, w := w, h := h, age := u.hutch.ageNext }
      let lap := (upto 4).any (fun j => decide ((rectAt u.hutch j).st ≠ 0) && overlaps (rectAt u.hutch j) r)
      ∃ t, exec (.dispRect l x0 y0 w h) s = .next t ∧
        t.hutch = { u.hutch with rects := setNth u.hutch.rects i r, ageNext := u.hutch.ageNext + 1 } ∧
        answered u t l (if lap then stRectWait else stOk) (if lap then [] else [fieldN i]) c 8 ∧
        sameBut [.seq, .hutch, .ports] u t) ∧
    (rectOk u x0 y0 w h = true → (u.hutch.st ≠ 3 ∨ domOn u 10 = false ∨
        (upto 4).find? (fun k => (rectAt u.hutch k).st == 0) = none) →
      ∃ t, exec (.dispRect l x0 y0 w h) s = .next t ∧ answered u t l stBusy [] c 8 ∧
        sameBut [.seq, .ports] u t) ∧
    (blinkOk u (fs.map (·.toNat)) = true →
      let k := nth (fs.map (·.toNat)) 0 0 % 4
      ((nth u.hutch.blinkWait k none).isSome = false →
        let g (i : Nat) : Nat := nth (fs.map (·.toNat)) i 0
        let v := if (g 0).testBit 8 then [wd (g 0 / 16 * 16), wd (g 1 * 256 + g 2), wd (g 3 * 256 + g 4), wd (g 5)]
          else [wd (g 0 / 16 * 16)]
        ∃ t, exec (.dispBlink l fs) s = .next t ∧ answered u t l stOk [] c 8 ∧
          t.hutch = { u.hutch with blinkWait := setNth u.hutch.blinkWait k (some v) } ∧
          sameBut [.seq, .hutch, .ports] u t) ∧
      ((nth u.hutch.blinkWait k none).isSome = true →
        ∃ t, exec (.dispBlink l fs) s = .next t ∧ answered u t l stBusy [] c 8 ∧
          sameBut [.seq, .ports] u t)) ∧
    (domOn u 10 = true → (u.hutch.st = 0 ∨ u.hutch.st = 5) →
      exec (.dispPowerUp l) s = .next (afterLanding s l.port 1 (answer (hutchUp u) l c stOk []))) ∧
    ((domOn u 10 = false ∨ (u.hutch.st ≠ 0 ∧ u.hutch.st ≠ 5 ∧ u.hutch.st ≠ 3)) →
      ∃ t, exec (.dispPowerUp l) s = .next t ∧ answered u t l stBusy [] c 8 ∧ sameBut [.seq, .ports] u t) ∧
    (domOn u 10 = true → u.hutch.st = 3 →
      ∃ t, exec (.dispPowerUp l) s = .next t ∧ answered u t l stOk [] c 8 ∧ sameBut [.seq, .ports] u t) ∧
    ((u.hutch.st = 2 ∨ u.hutch.st = 3) →
      exec (.dispPowerDown l) s = .next (afterLanding s l.port 1 (answer (hutchDown u 0) l c stOk []))) ∧
    ((u.hutch.st = 0 ∨ u.hutch.st = 5) →
      ∃ t, exec (.dispPowerDown l) s = .next t ∧ answered u t l stOk [] c 8 ∧ sameBut [.seq, .ports] u t) ∧
    ((u.hutch.st ≠ 0 ∧ u.hutch.st ≠ 5 ∧ u.hutch.st ≠ 2 ∧ u.hutch.st ≠ 3) →
      ∃ t, exec (.dispPowerDown l) s = .next t ∧ answered u t l stBusy [] c 8 ∧ sameBut [.seq, .ports] u t)

/-- AUTH_CHAL answers with a new nonce that replaces any its port holds, and draws one free value; KEY_LOAD is answered
OK and its key, unmasked where the slot holds one, is due with the reply, 8 c after it lands (in an empty slot as well:
log entry 108): from then on the slot holds it and the other slot is as it was; a key of zeros or bytes that do not end
in zeros are refused. (Opcode rows land as log entries 2 and 25 choose.) -/
def Obligations.NoncesAndKeys : Prop :=
  ∀ (l : Land) (slot : Bool) (b : BitVec 144) (nonce : BitVec 72) (s : State), takes s l.port = true →
    let u := landState s l.port
    let c := landCycle s
    let v := Config.nonce u.free
    let plain : BitVec 128 := (b >>> 16).setWidth 128
    let key := match keySlot u slot with | some old => plain ^^^ keyMask old nonce | none => plain
    (∃ t, exec (.authChal l) s = .next t ∧
      answered u t l stOk [v.extractLsb' 48 24, v.extractLsb' 24 24, v.extractLsb' 0 24] c 8 ∧
      (portOf t l.port).nonce = some { value := v, issued := u.aon.time } ∧ t.free = u.free + 1 ∧
      sameBut [.seq, .ports] u t) ∧
    (keyBytesOk b = true → key ≠ 0 →
      ∃ t, exec (.keyLoad l slot b nonce) s = .next t ∧ answered u t l stOk [] c 8 ∧
        t.ports.keysDue = u.ports.keysDue ++ [(c + 8, slot, key)] ∧
        t.aon.key0 = u.aon.key0 ∧ t.aon.key1 = u.aon.key1 ∧
        sameBut [.seq, .regs, .aon, .bureau, .evid, .ports] u t) ∧
    (∀ (v : State) (d : Nat), v.ports.keysDue = [(c + 8, slot, key)] → c + 8 < d →
      let z := keysBy v d
      z.ports.keysDue = [] ∧ (if slot then z.aon.key1 else z.aon.key0) = some key ∧
      (if slot then z.aon.key0 = v.aon.key0 else z.aon.key1 = v.aon.key1)) ∧
    ((keyBytesOk b = false ∨ key = 0) →
      exec (.keyLoad l slot b nonce) s = .next (afterLanding s l.port 1 (answer u l c stBadLen [])))

/-- CFG_SAVE and CAL_SEAL are answered BUSY while the NVM is busy or an orderly stop has begun; otherwise the port is
busy with them and they wait for the NVM: CFG_SAVE with the other copy's next image, CAL_SEAL with a seal record of the
next count. ENERGY_PRESET before the publication of the tick's energy writes the register PRESET_DIR selects and no
other, and clears its wrap bit; its residues and increments stay, its event is delivered and its evidence entry queued
while the log takes one. RESET_SOFT delivers its event, asks for the reset and answers OK, and is answered BAD_LEN with
any other key. (Opcode rows land as log entries 2 and 25 choose.) -/
def Obligations.SavesPresetsAndReset : Prop :=
  (∀ (l : Land) (s : State), takes s l.port = true →
     let u := landState s l.port
     let c := landCycle s
     let w := waitOf u l 0x2A
     let x := waitOf u l 0x2B
     ((nvmBusy u = true ∨ u.seq.stopping = true) →
       (∃ t, exec (.cfgSave l) s = .next t ∧ answered u t l stBusy [] c 8 ∧ sameBut [.seq, .ports] u t) ∧
       (∃ t, exec (.calSeal l) s = .next t ∧ answered u t l stBusy [] c 8 ∧
         sameBut [.seq, .ports] u t)) ∧
     (nvmBusy u = false → u.seq.stopping = false →
       (∃ t, exec (.cfgSave l) s = .next t ∧ (portOf t l.port).busy = (portOf u l.port).busy ++ [w] ∧
         t.nvm = { u.nvm with waiting := u.nvm.waiting ++
           [.cfgSave (nextImage u).1 (nextImage u).2 (settingsImage u (nextImage u).2) w] } ∧
         sameBut [.seq, .ports, .nvm] u t) ∧
       (∃ t slot, exec (.calSeal l) s = .next t ∧
         (portOf t l.port).busy = (portOf u l.port).busy ++ [x] ∧
         let cnt := match newestSeal u with | some (n, _) => (n + 1) % 1048576 | none => 1
         let mac := match u.aon.key1 with | some k => sealOf u k cnt | none => []
         t.nvm = { u.nvm with waiting := u.nvm.waiting ++
           [.calSeal cnt (slot.getD 0) (sealBytes cnt mac) slot.isNone x] } ∧
         (∀ i, slot = some i → i < 64 ∧ nvmBlank u (sealAt i) 16 = true) ∧
         sameBut [.seq, .ports, .nvm] u t))) ∧
  (∀ (l : Land) (q : BitVec 4) (v : BitVec 60) (key : Field) (s : State), takes s l.port = true →
     let u := landState s l.port
     let c := landCycle s
     let ex := bitAt (getReg u 0x40C) 1
     let e := bEvent 6 2 (q.toNat + 16 * b2n ex + 256 * portCode l.port) (v.extractLsb' 20 20).toNat
       (v.extractLsb' 40 20).toNat
     (q.toNat ≤ 11 → u.seq.item ≤ 9 →
       ∃ t, exec (.energyPreset l q v) s = .next t ∧ answered u t l stOk [] c 8 ∧
         (Registers.wf u = true → getWide t (energyReg q.toNat ex) = v.toNat ∧
           bitAt (getReg t (if ex then 0x411 else 0x410)) q.toNat = false) ∧
         (u.evid.full = false → u.aon.logClosed = false → u.aon.evQueue.length < 8 →
           t.bureau = (deliver u e).bureau ∧
           t.aon.evQueue = u.aon.evQueue ++ [evidEntry (deliver u e) 6 2 e.p0 false]) ∧
         t.energy.imp = (if ex then u.energy.imp else setNth u.energy.imp q.toNat v.toNat) ∧
         t.energy.exp = (if ex then setNth u.energy.exp q.toNat v.toNat else u.energy.exp) ∧
         t.energy.res = u.energy.res ∧ t.energy.incImp = u.energy.incImp ∧ t.energy.incExp = u.energy.incExp ∧
         sameBut [.seq, .energy, .regs, .aon, .bureau, .evid, .ports] u t) ∧
     (key = 0x0A55A →
       ∃ t, exec (.resetSoft l key) s = .next t ∧ answered u t l stOk [] c 8 ∧
         t.bureau = (deliver u (bEvent 0xA 1 (portCode l.port) 0 0)).bureau ∧
         t.seq = { u.seq with resetReq := true, cycle := s.seq.cycle + 1 } ∧
         sameBut [.seq, .bureau, .ports] u t) ∧
     (key ≠ 0x0A55A →
       exec (.resetSoft l key) s = .next (afterLanding s l.port 1 (answer u l c stBadLen []))))

/-- CHAIN_ENUM is answered BUSY while one runs and CHAIN_DOWN without a valid position or without its way upstream. With
no link up the chip at position 0 is answered at once, with itself alone; otherwise the port is busy and each neighbour
whose link is up is sent an ENUM. (Opcode rows land as log entries 2 and 25 choose.) -/
def Obligations.EnumerationStarts : Prop :=
  ∀ (l : Land) (s : State), takes s l.port = true →
    let u := landState s l.port
    let c := min u.seq.cycle 6143
    let up := decide (u.chain.up.st = 2)
    let dn := decide (u.chain.dn.st = 2)
    let down := (decide (ownPos u ≠ 0) && !up) || (!u.chain.posValid && (up || dn))
    let w := waitOf u l 0x30
    (u.chain.enum.isSome = true →
      ∃ t, exec (.chainEnum l) s = .next t ∧ answered u t l stBusy [] c 8 ∧ sameBut [.seq, .ports] u t) ∧
    (u.chain.enum = none → down = true →
      ∃ t, exec (.chainEnum l) s = .next t ∧ answered u t l stChainDown [] c 8 ∧
        sameBut [.seq, .ports] u t) ∧
    (u.chain.enum = none → down = false → (up || dn) = false →
      ∃ t, exec (.chainEnum l) s = .next t ∧ answered u t l stOk [fieldN 1, (getReg u 0xF01).setWidth 24] c 8 ∧
        sameBut [.seq, .ports] u t) ∧
    (u.chain.enum = none → down = false → (up || dn) = true →
      ∃ t, exec (.chainEnum l) s = .next t ∧ (portOf t l.port).busy = (portOf u l.port).busy ++ [w] ∧
        t.chain.enum = some { wait := w, waitUp := up, waitDn := dn, heard := [], ticks := pktTicks u } ∧
        t.chain.sent = u.chain.sent ++ (if up then [enumAsk u .up] else []) ++
          (if dn then [{ enumAsk u .dn with ltag := u.chain.ltag + (if up then 1 else 0) }] else []) ∧
        sameBut [.seq, .ports, .chain] u t)

/-! ## Register writes: 00 R8, 02, 03, 08 to 14 -/

/-- A register write that lands at an assigned number stores what the access codes say: a writable field takes the
value (as its field table stores it), a W1C bit written 1 is cleared, and every other bit stays; no other register
changes. A write to an unassigned number changes nothing. Registers whose write does more are the matter of the
statements below. -/
def Obligations.RegisterWriteStores : Prop :=
  ∀ (p : PortId) (n : BitVec 12) (v : Word) (s : State), portsUp s = true → Registers.wf s = true →
    (assigned n.toNat = false → exec (.registerWrite p n v) s = .next s) ∧
    (∀ r, regRow n.toNat = some r → quietWrite n.toNat = true →
      ∃ t, exec (.registerWrite p n v) s = .next t ∧
        (∀ i : Nat, bitAt (getReg t n.toNat) i =
          if (r.rw ||| r.sn ||| r.sh).testBit i && decide (i < 20) then bitAt (adjust n.toNat v) i
          else bitAt (getReg s n.toNat) i && !(r.w1c.testBit i && bitAt v i)) ∧
        sameRegsBut [n.toNat] s t ∧ sameBut [.regs, .aon] s t)

/-- HALT and GO wait for the boundary, SAVE_NOW asks for a save where no orderly stop has begun, and ARM, FORCE and
STOP wait for the capture engine, STOP winning over ARM; none of them changes anything else. -/
def Obligations.ActionsWait : Prop :=
  ∀ (p : PortId) (s : State), portsUp s = true →
    (∃ t, exec (.halt p) s = .next t ∧ t.seq = { s.seq with haltReq := true } ∧
      sameRegsBut [0x182] s t ∧ sameBut [.seq, .regs] s t) ∧
    (∃ t, exec (.go p) s = .next t ∧ t.seq = { s.seq with goReq := true } ∧
      sameRegsBut [0x182] s t ∧ sameBut [.seq, .regs] s t) ∧
    (∃ t, exec (.saveNow p) s = .next t ∧
      t.energy = (if s.seq.stopping then s.energy else { s.energy with saveReq := true }) ∧
      sameRegsBut [0x40C] s t ∧ sameBut [.energy, .regs] s t) ∧
    (∃ t, exec (.arm p) s = .next t ∧ t.cap = { s.cap with armReq := true } ∧
      sameRegsBut [0x540] s t ∧ sameBut [.cap, .regs] s t) ∧
    (∃ t, exec (.force p) s = .next t ∧ t.cap = { s.cap with forceReq := true } ∧
      sameRegsBut [0x540] s t ∧ sameBut [.cap, .regs] s t) ∧
    (∃ t, exec (.stop p) s = .next t ∧ t.cap = { s.cap with armReq := false, stopReq := true } ∧
      sameRegsBut [0x540] s t ∧ sameBut [.cap, .regs] s t)

/-- Writes whose value is stored and acts at once: FREEZE, the memory side having come to the cycle of the write, with
its DRAINED bit, WAKE_CTRL with WAKE_LEFT, the port's own REC_CURSOR, whose window follows 8 c later, LOW_RES_SEL with
BELOW_LOW compared anew, PWR_CEIL not below 0x80, DOMAIN_REQ with the domains that have no switch, and PROC_CTRL. -/
def Obligations.StoredSettings : Prop :=
  ∀ (p : PortId) (v : Word) (on : Bool) (s : State), portsUp s = true → Registers.wf s = true →
    (let u := memTo s (s.seq.cycle + 1)
     Registers.wf u = true →
       ∃ t, exec (.freeze p on) s = .next t ∧ bitAt (getReg t 0x620) 0 = on ∧ t.mem = { u.mem with drained := on } ∧
         sameRegsBut [0, 1, 2, 3, 0x620] u t ∧ sameBut [.regs, .mem, .bureau] u t) ∧
    (∃ t, exec (.wakeCtrl p v) s = .next t ∧ getReg t 0x196 = (getReg s 0x196 &&& ~~~(0xFFFF : Word)) ||| (v &&& 0xFFFF) ∧
      getReg t 0x197 = getReg t 0x196 ∧
      sameRegsBut [0x196, 0x197] s t ∧ sameBut [.regs] s t) ∧
    (∃ t, exec (.recCursor p v) s = .next t ∧ (portOf t p).cursor = v ∧
      (portOf t p).look = some (min s.seq.cycle 6143 + 8) ∧ sameBut [.ports] s t) ∧
    (∃ t, exec (.lowResSel p v) s = .next t ∧
      getReg t 0x10A = (getReg s 0x10A &&& ~~~(0x1F1 : Word)) ||| (v &&& 0x1F1) ∧
      t.power.belowLow = decide (s.power.vres < lowResMv t) ∧ sameRegsBut [0, 1, 2, 3, 0x10A] s t ∧
      sameBut [.regs, .power, .bureau] s t) ∧
    (∃ t, exec (.pwrCeil p v) s = .next t ∧ getReg t 0x113 = (if v.toNat < 0x80 then 0x80 else v) ∧
      sameRegsBut [0x113] s t ∧ sameBut [.regs] s t) ∧
    (∃ t, exec (.domainReq p v) s = .next t ∧
      getReg t 0x108 = (getReg s 0x108 &&& ~~~(0xFFF : Word)) ||| ((v ||| 0xA07) &&& 0xFFF) ∧
      sameRegsBut [0x108] s t ∧ sameBut [.regs] s t) ∧
    (∃ t, exec (.procStart p v) s = .next t ∧
      getReg t 0x300 = (getReg s 0x300 &&& ~~~(0x1FF : Word)) ||| (v &&& 0x1FF) ∧
      sameRegsBut [0x300] s t ∧ sameBut [.regs] s t)

/-- A write that clears a bit of TAMP_EN or TAMP_ARM delivers an event and queues an entry; one that only sets bits
makes none. A write that changes a register of the sealed set while the seal is SEALED or UNVERIFIED is stored and
makes SEAL_STATE BROKEN; one that leaves the value unchanged breaks nothing. -/
def Obligations.GuardedSettings : Prop :=
  ∀ (p : PortId) (arming : Bool) (v : Word) (k : BitVec 12) (s : State), portsUp s = true → Registers.wf s = true →
    let n := if arming then 0x781 else 0x780
    let old := getReg s n
    let new := (old &&& ~~~(0x7F : Word)) ||| (v &&& 0x7F)
    (∃ t, exec (.tampCfg p arming v) s = .next t ∧ getReg t n = new ∧ sameBut [.regs, .aon, .bureau, .evid] s t ∧
      (old &&& ~~~new = 0 → t.bureau = s.bureau ∧ t.aon.evQueue = s.aon.evQueue) ∧
      (old &&& ~~~new ≠ 0 → s.evid.full = false → s.aon.logClosed = false → s.aon.evQueue.length < 8 →
        t.bureau = (deliver s (bEvent (if arming then 0x193 else 0x192) 2 old.toNat new.toNat (portCode p))).bureau ∧
        t.aon.evQueue.length = s.aon.evQueue.length + 1)) ∧
    (sealedSet.contains k.toNat = true →
      ∃ t r, regRow k.toNat = some r ∧ exec (.sealedRegisterWrite p k v) s = .next t ∧
        getReg t k.toNat = merged r k.toNat (getReg s k.toNat) v ∧
        t.evid.sealSt = (if getReg t k.toNat ≠ getReg s k.toNat ∧ (s.evid.sealSt = 1 ∨ s.evid.sealSt = 3) then 2
          else s.evid.sealSt) ∧
        sameBut [.regs, .aon, .bureau, .evid] s t)

/-- REC_STAGE_CFG stores the ring's length, clears the staging fault, and sets the ring anew where nothing is staged;
FL_CTRL raises the frontlight's request with FL_EN 1 and drops it with 0; CHAIN_CTRL drops the links it no longer
drives; AUX_CTRL chooses the load's source and the current that charges VRES, and releases what VAUX held back where it
turns the load away from it. -/
def Obligations.FollowingSettings : Prop :=
  ∀ (p : PortId) (v : Word) (s : State), portsUp s = true →
    (∃ t, exec (.recStageCfg p v) s = .next t ∧ t.bureau.stageFault = false ∧
      (s.bureau.staged = [] → s.bureau.toStage = [] → Registers.wf s = true → t.bureau.stageLen = fld v 0 8) ∧
      sameRegsBut [0x703] s t ∧ sameBut [.regs, .bureau] s t) ∧
    (let w := setReg s 0x810 (merged { lo := 0x810, hi := 0x810, rw := 0x1FF3F } 0x810 (getReg s 0x810) v)
     exec (.flEn p v) s = .next (if bitAt (getReg w 0x810) 16 then flRaise w else flDrop w)) ∧
    (let w := setReg s 0x690 (merged { lo := 0x690, hi := 0x690, rw := 3 } 0x690 (getReg s 0x690) v)
     exec (.chainCtrl p v) s = .next (linksFollow w)) ∧
    (let w := setReg s 0x116 (merged { lo := 0x116, hi := 0x116, rw := 0x33 } 0x116 (getReg s 0x116) v)
     exec (.auxCtrl p v) s = .next (releaseHeldOff (chooseLoad w)) ∧
     (chooseLoad w).power = { s.power with
       loadAux := s.power.vauxValid && bitAt (getReg w 0x116) 1, charge := if chargesVres w then auxCurrent w else 0 })

/-! ## The ports: 04 -/

/-- A packet of the host port: one that comes while the port is busy, or whose frame ends early, is discarded, counted
and sets PORT_ERR; a LEN above 80 is answered BAD_LEN, a bad CRC BAD_CRC (each takes the place of an unread reply: the
model's choice, log entry 89), and in COLD and LOAD the answer is BUSY and nothing else happens. In the other states one
that passes step 2 discards the reply of the port; reserved flags, an opcode not assigned or a MAC flag not allowed are
answered BAD_OPC, parameters out of range BAD_LEN, and a packet for another position is forwarded. One that passes every
check waits for its landing, an authenticated one for a tick more, its nonce used up. -/
def Obligations.HostPacketsAreChecked : Prop :=
  ∀ (cyc : Nat) (b : List Byte) (s : State),
    let u := portsBy s cyc
    let r := passedCrc u .host
    let k := parsePacket b
    let pos : BitVec 2 := BitVec.ofNat 2 (bitsOf k.flags.toNat 4 2)
    let opcBad := decide (bitsOf k.flags.toNat 0 4 ≠ 0) || !assignedOpc k.opc.toNat || (macFlag k.flags && !macAllowed k.opc.toNat)
    portsListen u = true →
    ((portExec u .host = true ∨ b.length < 4) → exec (.hostPacketWrite cyc b) s = .next (portLost u .host)) ∧
    (portExec u .host = false → 4 ≤ b.length →
      (80 < lenOf b → exec (.hostPacketWrite cyc b) s = .next (answerAt u .host (nth b 1 0) false stBadLen [] cyc 8)) ∧
      (lenOf b ≤ 80 → b.length < packetLen (lenOf b) (nth b 3 0) →
        exec (.hostPacketWrite cyc b) s = .next (portLost u .host)) ∧
      (lenOf b ≤ 80 → packetLen (lenOf b) (nth b 3 0) ≤ b.length → crcPasses b = false →
        exec (.hostPacketWrite cyc b) s = .next (answerAt u .host (nth b 1 0) false stBadCrc [] cyc 8)) ∧
      (wholePacket b = true → starting u = true →
        exec (.hostPacketWrite cyc b) s = .next (answerAt u .host k.tag false stBusy [] cyc 8)) ∧
      (wholePacket b = true → portsUp u = true →
        (opcBad = true → exec (.hostPacketWrite cyc b) s = .next (answerAt r .host k.tag false stBadOpc [] cyc 8)) ∧
        (opcBad = false → packetAct r .host k 0 = none →
          exec (.hostPacketWrite cyc b) s = .next (answerAt r .host k.tag false stBadLen [] cyc 8)) ∧
        (opcBad = false → (packetAct r .host k 0).isSome = true → pos ≠ ownPos u →
          exec (.hostPacketWrite cyc b) s = .next (forwardPacket r .host k pos cyc))) ∧
      (wholePacket b = true → checksPass r .host k = true →
        (authSlot r k = none →
          ∃ t e, exec (.hostPacketWrite cyc b) s = .next t ∧ (portOf t .host).exec = some e ∧ e.pkt = k ∧ e.cyc = cyc ∧
            e.wait = 1 ∧ e.denied = none ∧ (portOf t .host).reply = none ∧ sameBut [.ports] u t) ∧
        (∀ slot, authSlot r k = some slot →
          ∃ t e, exec (.hostPacketWrite cyc b) s = .next t ∧ (portOf t .host).exec = some e ∧ e.pkt = k ∧ e.cyc = cyc ∧
            e.wait = 2 ∧ e.auth = true ∧
            e.denied = authCheck (staleNonce r .host) .host k slot (portOf (staleNonce r .host) .host).nonce ∧
            (portOf t .host).nonce = none ∧ (portOf t .host).reply = none ∧ sameBut [.ports] u t)))

/-- A frame of the maintenance port, each bit of it the majority of its three middle samples and its escapes undone: one
with a bad stop bit, one too long, one that comes while the port is busy and one that the gap timeout ends are discarded
and counted; one whose length is not that of its header is answered BAD_LEN, one with a bad CRC BAD_CRC, and one in COLD
and LOAD BUSY; one that passes every check, and asks for no authentication, sets MAINT_RX and waits for its landing. The
2 ms of its reply begin with the delimiter that closes it. With MAINT_EN 0, during a transmission and for 1 ms after it
nothing is received. (BAD_LEN of a frame too short to hold a TAG: the model's choice, log entry 90.) -/
def Obligations.MaintenanceFramesAreChecked : Prop :=
  ∀ (cyc : Nat) (chars : List (BitVec 144)) (stops : List (BitVec 16)) (s : State),
    let u := portsBy s cyc
    let b := unescape (chars.map uartByte)
    let stop := stops.any uartBadStop
    let d := delimiterAt u cyc
    let r := passedCrc d .maint
    let k := parsePacket b
    (mrxOn u = false → exec (.maintFrame cyc chars stops) s = .next u) ∧
    (mrxOn u = true → chars ≠ [] →
      ((stop = true ∨ 254 < b.length ∨ portExec u .maint = true) →
        exec (.maintFrame cyc chars stops) s = .next (portLost u .maint)) ∧
      (stop = false → b.length ≤ 254 → portExec u .maint = false →
        ((b.length < 4 ∨ 80 < lenOf b ∨ b.length ≠ packetLen (lenOf b) (nth b 3 0)) →
          exec (.maintFrame cyc chars stops) s = .next (answerAt d .maint (nth b 1 0) false stBadLen [] cyc 8)) ∧
        (4 ≤ b.length → lenOf b ≤ 80 → b.length = packetLen (lenOf b) (nth b 3 0) → crcPasses b = false →
          exec (.maintFrame cyc chars stops) s = .next (answerAt d .maint (nth b 1 0) false stBadCrc [] cyc 8)) ∧
        (wholePacket b = true → b.length = packetLen (lenOf b) (nth b 3 0) → starting u = true →
          exec (.maintFrame cyc chars stops) s = .next (answerAt d .maint k.tag false stBusy [] cyc 8)) ∧
        (wholePacket b = true → b.length = packetLen (lenOf b) (nth b 3 0) → checksPass r .maint k = true →
          authSlot r k = none →
          ∃ t e, exec (.maintFrame cyc chars stops) s = .next t ∧ (portOf t .maint).exec = some e ∧ e.pkt = k ∧
            e.cyc = cyc ∧ e.wait = 1 ∧ e.denied = none ∧
            t.ports.sinceDelim = -((min cyc 6144 * cycleClock u : Nat) : Int) ∧
            (Registers.wf u = true → statusBit t srcMaintRx = true) ∧ sameBut [.ports, .regs, .aon, .bureau] u t))) ∧
    (mrxOn s = true → exec .maintGapTimeout s = .next (portLost s .maint)) ∧
    (mrxOn s = false → exec .maintGapTimeout s = .next s)

/-- The host's reply leaves its buffer when every byte of it has been clocked out, and stays for a read that ends
early; a maintenance reply is sent when its grant is in force, MAINT_EN is 1 and 2 ms have passed, leaves when its
closing delimiter has gone, and 500 ms after that the request for the transmitter is withdrawn, each within the present
tick (the row MAINT_REPLY_SENT has no cycle: the model counts 1 ms and 500 ms from the tick's end, log entry 92). A
refused packet is answered DENIED in the cycle its refusal fixed, with AUTH_FAIL and, where it counts, a failure; a
nonce 60 s old is stale; and the lock ends when its time has come. -/
def Obligations.RepliesLeaveAndNoncesEnd : Prop :=
  (∀ (n : Nat) (s : State),
     let u := replyReady s .host
     (∀ r, u.ports.host.reply = some r → portsListen u = true → (replyBytes r).length ≤ n →
       ∃ t, exec (.replyRead n) s = .next t ∧ (portOf t .host).reply = none ∧ sameBut [.ports] u t) ∧
     (∀ r, u.ports.host.reply = some r → n < (replyBytes r).length → exec (.replyRead n) s = .next u) ∧
     (maintReady s (tickClock s) = true →
       exec .maintReplyTransmit s = .next { s with ports := { s.ports with sending := true, idleUnits := none } }) ∧
     (s.ports.sending = true →
       ∃ t, exec .maintReplySent s = .next t ∧ (portOf t .maint).reply = none ∧ t.ports.sending = false ∧
         t.ports.idleUnits = some (-(tickClock s : Int)) ∧ t.ports.deaf = msClock + tickClock s ∧ sameBut [.ports] s t) ∧
     (∀ k, s.ports.idleUnits = some k → 500 * (msClock : Int) ≤ k + tickClock s → s.ports.maint.reply = none →
       exec .mtxRelease s = .next { s with ports := { s.ports with mtxReq := false, idleUnits := none } })) ∧
  (∀ (p : PortId) (now : Nat) (s : State),
     (∀ e, portsUp s = true → p ≠ .chain → (portOf s p).exec = some e → refusalDue e = true →
       let u := putPort s p { portOf s p with exec := none }
       let v := if e.denied = some true then authFailure (raise u srcAuthFail) else raise u srcAuthFail
       exec (.deniedReply p) s = .next (answerAt v p e.pkt.tag false stDenied [] e.cyc 0)) ∧
     (∀ e w r, portsUp s = true → s.ports.chainQ = (e, w) :: r → refusalDue e = true →
       let u : State := { s with ports := { s.ports with chainQ := r } }
       let v := if e.denied = some true then authFailure (raise u srcAuthFail) else raise u srcAuthFail
       exec (.deniedReply .chain) s = .next (replyNow v .chain (some w) e.pkt.tag stDenied e.cyc 0)) ∧
     (∀ n, (portOf s p).nonce = some n →
       (n.issued + 60 * 4096000 ≤ max s.aon.time (now * 125) →
         ∃ t, exec (.nonceStale p now) s = .next t ∧ (portOf t p).nonce = none ∧ sameBut [.ports, .aon] s t) ∧
       (max s.aon.time (now * 125) < n.issued + 60 * 4096000 → exec (.nonceStale p now) s = .next (atOsc s now))) ∧
     (∀ t0, s.aon.lockUntil = some t0 →
       (t0 ≤ max s.aon.time (now * 125) → ∃ t, exec (.authLockEnd now) s = .next t ∧ t.aon.lockUntil = none ∧
         t.aon.fails = s.aon.fails ∧ sameBut [.aon] s t) ∧
       (max s.aon.time (now * 125) < t0 → exec (.authLockEnd now) s = .next (atOsc s now))))

/-- Frames along the chain: one with a bad CRC is dropped and counted, and one for another position passes on where
the onward link is up. A packet for this part is queued, or answered BUSY with four queued; a reply for a packet this
part has forwarded becomes the reply of the port it came by, and one that nothing waits for is discarded; a forwarded
packet whose time has passed is answered TIMEOUT. -/
def Obligations.ChainFramesArriveAndPass : Prop :=
  ∀ (cyc : Nat) (f : RxFrame) (p : PortId) (s : State), receives s f.side = true →
    (f.crcOk = false → exec (.pktFrame cyc f) s = .next (frameBad s f.side) ∧
      exec (.rplFrame f) s = .next (frameBad s f.side)) ∧
    (f.crcOk = true → f.dest ≠ ownPos s → linkReady s (sideTo s f.dest) = true →
      exec (.pktFrame cyc f) s = .next (passOn s 1 f (sideTo s f.dest)) ∧
      exec (.rplFrame f) s = .next (passOn s 2 f (sideTo s f.dest))) ∧
    (f.crcOk = true → f.dest = ownPos s → wholePacket f.payload = true →
      let k := parsePacket f.payload
      (s.ports.chainQ.length < 4 → checksPass s .chain k = true → authSlot s k = none →
        ∃ t e, exec (.pktFrame cyc f) s = .next t ∧
          t.ports.chainQ = s.ports.chainQ ++ [(e, (f.side, f.src, f.ltag))] ∧ e.pkt = k ∧ e.wait = 1 ∧ e.denied = none ∧
          sameBut [.ports] s t) ∧
      (4 ≤ s.ports.chainQ.length →
        ∃ t x, exec (.pktFrame cyc f) s = .next t ∧ t.chain.sent = s.chain.sent ++ [x] ∧ x.side = f.side ∧ x.type = 2 ∧
          x.dest = f.src ∧ x.ltag = f.ltag ∧ t.ports = s.ports ∧ sameBut [.chain] s t)) ∧
    (f.crcOk = true → f.dest = ownPos s →
      (∀ w, s.ports.forwards.find? (fun w => w.ltag == f.ltag && w.side == f.side) = some w → w.port ≠ .chain →
        ∃ t, exec (.rplFrame f) s = .next t ∧ t.ports.forwards = s.ports.forwards.filter (fun v => decide (v ≠ w)) ∧
          (portOf t w.port).reply = some (parseReply s f.payload) ∧ sameBut [.ports, .regs, .bureau] s t) ∧
      (s.ports.forwards.find? (fun w => w.ltag == f.ltag && w.side == f.side) = none →
        exec (.rplFrame f) s = .next s)) ∧
    (∀ w, s.ports.forwards.find? (fun v => v.port == p && v.ticks == 0) = some w →
      ∃ t r, exec (.forwardTimeout p) s = .next t ∧ t.ports.forwards = s.ports.forwards.filter (fun v => decide (v ≠ w)) ∧
        (portOf t p).reply = some r ∧ r.tag = w.tag ∧ r.status = stTimeout ∧ r.fields = [] ∧
        sameBut [.ports, .regs, .bureau, .chain] s t)

/-! ## Power: 02 -/

/-- The supplies come: PD1 starts at 3.0 V or with VAUX, a cold start waits for 3.6 V and closes the switches of PD9,
PD2, PD7 and PD11 and takes back what the wiring test found, the shunt turns on at regulation, VAUX brings the load's
choice and withdraws the request of AUTO_SETTLE; each voltage told lets PD0 follow its sources. The supplies sink: below LOW_RES the bit BELOW_LOW rises with its
status bit, and with AUTO_SETTLE and no VAUX Settle is requested, until VRES has stood 0.2 V above the level for 1 s;
VBC below 2.2 V is noted; VAUX going returns the load to VRES, and AUTO_SETTLE acts again. -/
def Obligations.SuppliesComeAndSink : Prop :=
  (∀ (vres vaux : Nat) (s : State),
     (s.power.pd1 = false → (3000 ≤ vres ∨ 4300 ≤ vaux) →
       ∃ t, exec (.pd1Start vres vaux) s = .next t ∧ t.power.pd1 = true ∧ t.power.vres = vres ∧ t.power.vaux = vaux ∧
         t.power.vauxValid = decide (4300 ≤ vaux) ∧ domOn t 0 = true ∧ domOn t 1 = true ∧
         sameBut [.power, .regs, .bureau, .aon] s t) ∧
     (s.power.pd1 = true → coreOn s = false → s.power.coldStarting = false → 3600 ≤ vres →
       ∃ t, exec (.coldStart vres) s = .next t ∧ t.power.coldStarting = true ∧ t.power.vres = vres ∧
         t.power.ramping = s.power.ramping ||| 0xA84 ∧ t.chain.wiringDone = false ∧ t.chain.posValid = false ∧
         sameBut [.power, .chain, .aon] s t) ∧
     (vres < 3600 → exec (.coldStart vres) s = .next s) ∧
     (s.power.pd1 = true → s.power.shunt = false → 5500 ≤ vres →
       ∃ t, exec (.shuntOn vres) s = .next t ∧ t.power.shunt = true ∧ t.power.vres = vres ∧
         (coreOn s = true → Registers.wf s = true → statusBit t srcShuntOn = true) ∧
         sameBut [.power, .regs, .bureau, .aon] s t) ∧
     (s.power.pd1 = true → s.power.vauxValid = false → 4300 ≤ vaux →
       ∃ t, exec (.vauxUp vaux) s = .next t ∧ t.power.vauxValid = true ∧ t.power.vaux = vaux ∧ t.power.autoReq = false ∧
         t.power.loadAux = bitAt (getReg s 0x116) 1 ∧
         (coreOn s = true → Registers.wf s = true → statusBit t srcVauxUp = true) ∧
         sameBut [.power, .regs, .bureau, .aon] s t)) ∧
  (∀ (mv : Nat) (s : State),
     (s.power.pd1 = true → s.power.belowLow = false → mv < lowResMv s →
       ∃ t, exec (.lowRes mv) s = .next t ∧ t.power.belowLow = true ∧ t.power.vres = mv ∧
         t.power.autoReq = (autoSettle s && (s.power.autoReq || !s.power.vauxValid)) ∧
         (coreOn s = true → Registers.wf s = true → statusBit t srcLowRes = true) ∧
         sameBut [.power, .regs, .bureau, .aon] s t) ∧
     (s.power.pd1 = true → s.power.autoReq = true → lowResMv s + 200 ≤ mv →
       ∃ t, exec (.autoSettleFullRequest mv) s = .next t ∧ t.power.autoReq = false ∧ t.power.vres = mv ∧
         t.power.belowLow = false ∧ sameBut [.power, .regs, .bureau, .aon] s t) ∧
     (s.power.vbcOk = true → mv < 2200 →
       ∃ t, exec (.vbcLow mv) s = .next t ∧ t.power.vbc = mv ∧ t.power.vbcOk = false ∧
         t.power.aonSrc = aonSource s.power.vres s.power.vauxValid mv ∧
         (coreOn s = true → Registers.wf s = true → statusBit t srcVbcLow = true) ∧
         sameBut [.power, .regs, .bureau, .aon] s t) ∧
     (s.power.vauxValid = true → 2900 ≤ mv →
       ∃ t, exec (.vauxDown mv) s = .next t ∧ t.power.vauxValid = false ∧ t.power.loadAux = false ∧ t.power.vres = mv ∧
         t.power.autoReq = (autoSettle s && decide (mv < lowResMv s)) ∧
         sameBut [.power, .regs, .bureau, .aon] s t))

/-- PFAIL enters GASP, in a cold start as well: the ports stop with what they had in progress, and the requests of the
Sideboard are gone; an NVM program in progress goes on, and with no NVM operation the NVM has settled at once. The hard
off and the loss of every source switch off every domain but PD0, and the loss of every source PD0 too. PFAIL and the
hard off act only where the load is not drawn from VAUX. -/
def Obligations.SuppliesFail : Prop :=
  ∀ (mv : Nat) (s : State),
    (s.power.pd1 = true → mv < 2900 → (coreOn s = true ∨ s.power.coldStarting = true) → s.seq.st ≠ .gasp →
      s.power.loadAux = false →
      ∃ t, exec (.pfail mv) s = .next t ∧ t.seq.st = .gasp ∧ t.power.pfail = true ∧ t.power.coldStarting = false ∧
        t.mem.reqs = [] ∧ t.ports.host.exec = none ∧ t.ports.maint.busy = [] ∧ t.ports.chainQ = [] ∧
        t.ports.sending = false ∧ t.chain.remote = [] ∧ t.bureau.events = [] ∧ t.mem.data = s.mem.data ∧ t.od = s.od ∧
        (s.nvm.op = none → t.nvm.data = s.nvm.data ∧
          (Tables.wf s = true → bitAt (getReg t 0x118) 0 = true ∧ bitAt (getReg t 0x118) 4 = true)) ∧
        (∀ op, s.nvm.op = some op → (programRegion s op).isSome = true → eraseRegion op = none →
          t.nvm.op = some op ∧ t.nvm.waiting = [] ∧ t.nvm.data = s.nvm.data)) ∧
    (s.power.loadAux = true → s.power.pd1 = true → mv < 2900 → exec (.pfail mv) s = .next (setVres s mv)) ∧
    (s.power.pd1 = true → mv < 2500 → s.power.loadAux = false →
      ∃ t, exec (.hardOff mv) s = .next t ∧ t.seq.st = .off ∧ t.power.pd1 = false ∧ t.power.on = 1 ∧
        t.power.working = 1 ∧ t.power.granted = 0) ∧
    (s.power.loadAux = true → s.power.pd1 = true → mv < 2500 → exec (.hardOff mv) s = .next (setVres s mv)) ∧
    (∃ t, exec .allSourcesLost s = .next t ∧ t.seq.st = .off ∧ t.power.on = 0 ∧ t.power.aonSrc = .none ∧
      t.aon.powered = false ∧ t.aon.key0 = none ∧ t.aon.key1 = none)

/-- FLOOR_REVOKE takes back, together, every grant of classes O and H whose floor less 0.2 V stands above VRES, and no
other grant. -/
def Obligations.FloorsRevoke : Prop :=
  ∀ (mv : Nat) (s : State), coreOn s = true → s.seq.st ≠ .gasp →
    let u := setVres s mv
    let crossed (c : Nat) : Bool := decide (4 ≤ c) && decide (c ≤ 9) && decide (mv + 200 < floorOf u c)
    (∀ c, c < 10 → (revokeFloors u).power.granted.getLsbD c = (s.power.granted.getLsbD c && !crossed c)) ∧
    ((∃ c, crossed c = true ∧ s.power.granted.getLsbD c = true) →
      exec (.floorRevoke mv) s = .next (grantEffects s.power.granted (revokeFloors u))) ∧
    ((∀ c, crossed c = true → s.power.granted.getLsbD c = false) → exec (.floorRevoke mv) s = .next s)

/-- CORE's reset is released into COLD with TICK_COUNT 0, unless TEST holds PD2 in reset; a ramp that ends turns its
domain on, which works from the next boundary while PD2 is at work; PD0 powers up with everything it retains at its
reset value, and follows its sources. -/
def Obligations.DomainsStart : Prop :=
  ∀ (d : Fin 12) (vres vbc : Nat) (s : State),
    (s.power.coldStarting = true → s.power.testHold = false →
      (∃ t, exec (.coreResetRelease false) s = .next t ∧ t.seq = Seq.reset ∧ t.power.coldStarting = false ∧
        t.power.working = t.power.on ∧ t.ports = Ports.reset ∧ t.energy = Energy.reset) ∧
      (∃ t, exec (.coreResetRelease true) s = .next t ∧ t.power.testHold = true ∧ t.power.coldStarting = true)) ∧
    (s.power.ramping.getLsbD d.val = true →
      ∃ t, exec (.domainRampEnd d) s = .next t ∧ domOn t d.val = true ∧ t.power.ramping.getLsbD d.val = false ∧
        t.power.working = (if coreOn s then s.power.working else setBit12 s.power.working d.val true) ∧
        t.seq = s.seq ∧ t.ports = s.ports ∧ t.nvm = s.nvm ∧ t.energy = s.energy) ∧
    (s.aon.powered = false →
      exec .pd0PowerUp s = .next { s with aon := { Aon.reset with darkFrom := if coreOn s then none else some 0 } }) ∧
    (∃ t, exec (.aonSourceChange vres vbc) s = .next t ∧ t.power.vres = vres ∧ t.power.vbc = vbc ∧
      t.power.aonSrc = aonSource vres s.power.vauxValid vbc ∧
      t.aon.powered = decide (aonSource vres s.power.vauxValid vbc ≠ .none))

/-- The stages of GASP: the open record is programmed with its GASP bit into the next slot, or the stage is skipped;
the energy registers go to the next slot of their store, with the next sequence, or the stage is skipped; a panel that
is not live needs no discharge; and when the three have ended PD2 goes off, with the lowest VRES kept in LAST_GASP. -/
def Obligations.GaspStages : Prop :=
  ∀ (mv : Nat) (s : State), s.seq.st = .gasp → s.nvm.op = none →
    (s.power.gaspBureauEnded = false →
      (s.bureau.open_ = none →
        exec .gaspBureauClose s = .next (orReg { s with power := { s.power with gaspBureauEnded := true } } 0x118 0x10000)) ∧
      (∀ r, s.bureau.open_ = some r → recSlotBlank s s.bureau.nextSlot = true →
        ∃ t, exec .gaspBureauClose s = .next t ∧ t.bureau.open_ = none ∧ t.power.gaspBureauEnded = true ∧
          t.nvm.data = sputs erasedByte s.nvm.data (recSlotAt s.bureau.nextSlot) (recBytes { r with gasp := true }) ∧
          sameBut [.nvm, .bureau, .power, .aon] s t)) ∧
    (s.power.gaspBureauEnded = true → s.power.gaspEnergyEnded = false →
      (s.energy.restored = false →
        exec .gaspEnergySave s = .next (orReg { s with power := { s.power with gaspEnergyEnded := true } } 0x118 0x20)) ∧
      (s.energy.restored = true → nvmBlank s (energySlotAt s.energy.nextSlot) 256 = true →
        ∃ t, exec .gaspEnergySave s = .next t ∧ t.power.gaspEnergyEnded = true ∧
          t.energy.slot = s.energy.nextSlot ∧ t.energy.seq = s.energy.seqNext ∧
          t.energy.seqNext = (s.energy.seqNext + 1) % 1048576 ∧
          t.nvm.data = sputs erasedByte s.nvm.data (energySlotAt s.energy.nextSlot) (energySlot s s.energy.seqNext) ∧
          sameBut [.nvm, .energy, .power, .aon] s t)) ∧
    (s.power.gaspPanelStarted = false → s.power.gaspPanelEnded = false → panelLive s = false →
      exec .gaspPanelDischarge s = .next (orReg { s with power := { s.power with gaspPanelEnded := true } } 0x118 0x80)) ∧
    (s.power.gaspBureauEnded = true → s.power.gaspEnergyEnded = true → s.power.gaspPanelEnded = true →
      ∃ t, exec (.gaspEnd mv) s = .next t ∧ t.seq.st = .off ∧ t.power.pd1 = true ∧ t.power.on = 3 ∧
        t.power.granted = 0 ∧ t.nvm = s.nvm ∧
        (Registers.wf s = true →
          getReg t 0x118 = setFld (getReg s 0x118) 8 8 (min 255 ((mv - 2000) / 10))))

/-! ## The sequencer: 03 -/

/-- A tick boundary in a tick that no row has ended makes the steps of R62 in their order on the tick as it ends, and
starts the new tick: COMMIT, mode, grants, domains, snapshot with the comparisons made on it, count and publication,
changes of state. In GASP the oscillator goes on, and the grants but those of consumers 3 and 6 are revoked; with PD2
off there is no tick. -/
def Obligations.BoundaryInItsOrder : Prop :=
  ∀ (e : TickIn) (s : State),
    (s.seq.st ≠ .off → s.seq.st ≠ .gasp → did s .entered = false →
      let a := endTick s e
      a.seq.st ≠ .load →
      let c := stateStep (countStep (sealedCompare (compareStep (snapshotStep (domainStep (grantStep (modeStep (commitStep a))))))))
      exec (.tickBoundary e) s = .next (newTick a (running c && !running a) (a.seq.commitMask.getLsbD 2) c)) ∧
    (s.seq.st = .gasp → ∃ t, exec (.tickBoundary e) s = .next t ∧ t.seq.st = .gasp ∧
      t.aon.time = s.aon.time + (if s.seq.slow then 2048 else 512) ∧ t.power.granted &&& 0x3B7 = 0) ∧
    (s.seq.st = .off → exec (.tickBoundary e) s = .next s)

/-- What steps 2 and 5 of the boundary do. Where a COMMIT waits, be it of no group: with its bit set, each group's
in-force copies take their shadows, the others keep theirs, and COMMIT_APPLIED is set. Snapshot: every SN register is taken as it stands. Pairs: one that
differs for the fifth time sets its bit of CFG_MISMATCH; one that agrees counts from 0 again. -/
def Obligations.StepsOfTheBoundary : Prop :=
  ∀ s : State,
    (s.seq.commitMask = 0 → s.seq.commitReq = false → commitStep s = s) ∧
    ((s.seq.commitMask ≠ 0 ∨ s.seq.commitReq = true) → portsUp s = true → Registers.wf s = true →
      (commitStep s).seq.commitMask = 0 ∧ (commitStep s).seq.commitReq = false ∧ statusBit (commitStep s) srcCommitApplied = true ∧
      (∀ i, i < 8 → forceReg (commitStep s) (0x610 + i) =
        if s.seq.commitMask.getLsbD 0 then getReg s (0x610 + i) else forceReg s (0x610 + i)) ∧
      (commitStep s).dresser.inForce = (if s.seq.commitMask.getLsbD 1 then s.dresser.shadow else s.dresser.inForce) ∧
      (∀ i, i < 3 → forceReg (commitStep s) (0x692 + i) =
        if s.seq.commitMask.getLsbD 1 then getReg s (0x692 + i) else forceReg s (0x692 + i)) ∧
      (commitStep s).firActive = xor s.firActive (s.seq.commitMask.getLsbD 2) ∧
      (∀ i, i < 10 → forceReg (commitStep s) (0x3A0 + i) =
        if s.seq.commitMask.getLsbD 2 then getReg s (0x3A0 + i) else forceReg s (0x3A0 + i)) ∧
      (forceReg (commitStep s) 0x880 =
        if s.seq.commitMask.getLsbD 3 then getReg s 0x880 else forceReg s 0x880) ∧
      (∀ i, i < 4 → forceReg (commitStep s) (0x184 + i) =
        if s.seq.commitMask.getLsbD 4 then getReg s (0x184 + i) else forceReg s (0x184 + i))) ∧
    (Registers.wf s = true → ∀ n, n ∈ snRegs → snapReg (snapshotStep s) n = getReg s n) ∧
    (∀ k, k < 4 → s.seq.mism.length = 4 →
      (pairDiffers s k = false → nth (comparePair s k).seq.mism k 0 = 0) ∧
      (pairDiffers s k = true → nth (comparePair s k).seq.mism k 0 = min (nth s.seq.mism k 0 + 1) 5) ∧
      (Registers.wf s = true → coreOn s = true →
        (pairDiffers s k = false → bitAt (getReg (comparePair s k) 0x193) k = false) ∧
        (pairDiffers s k = true → 4 ≤ nth s.seq.mism k 0 → bitAt (getReg (comparePair s k) 0x193) k = true)))

/-- The states that a row ends or begins: COLD ends in LOAD, or in HOLD with cause 2 when the trim region is bad; LOAD
ends in RUN or SETTLE, in HOLD with cause 1 where neither copy is valid, in the reset of a RESET_SOFT that waits, or in
the PFAIL or hard off that VAUX held back where the image turns the load away from it;
the restore of a HOLD with cause 2; the orderly stop begins; the reset of RESET_SOFT enters COLD, with the nonces and
replies discarded. The second that completes takes WAKE_LEFT to 0: WAKE rises and WAKE_LEFT is reloaded. A pair that
has differed at four boundaries and differs at the coming one is reported with its bit. -/
def Obligations.SequencerMovesAndWakes : Prop :=
  (∀ s : State,
     (s.seq.st = .cold → s.seq.stateTicks = 15 → did s .entered = false →
       ∃ t, exec .coldEnd s = .next t ∧ t.seq.stateTicks = 0 ∧
         (trimValid s = true → t.seq.st = .load ∧ t.seq.tick = 0 ∧ sameBut [.regs, .bureau, .seq] s t) ∧
         (trimValid s = false → t.seq.st = .hold ∧ t.seq.holdCause = 2 ∧ t.seq.holdRestore = true ∧
           (Registers.wf s = true → statusBit t srcTrimBad = true)) ∧
         sameBut [.regs, .bureau, .seq, .inForce, .pins, .aon] s t) ∧
     (s.seq.st = .load → did s .entered = false →
       (s.seq.resetReq = true → exec .loadEnd s = .next (softReset s)) ∧
       (s.seq.resetReq = false → loadFalls s = true →
         exec .loadEnd s = .next (releaseHeldOff (loadChosen s))) ∧
       (s.seq.resetReq = false → loadFalls s = false →
         ∃ t, exec .loadEnd s = .next t ∧
           let ok := (loadSteps s).seq.loaded ≠ 0
           (¬ ok → t.seq.st = .hold ∧ t.seq.holdCause = 1) ∧
           (ok → t.seq.holdCause = 0 ∧ t.seq.st = if t.power.settle then .settle else .run))) ∧
     (s.seq.st = .hold → s.seq.holdRestore = true → did s .entered = false →
       ∃ t, exec .holdRestore s = .next t ∧ t.seq.holdRestore = false ∧ t.seq.st = .hold ∧ t.bureau.events = []) ∧
     (s.seq.resetReq = true → running s = true → s.seq.stopping = false →
       ∃ t, exec .orderlyStop s = .next t ∧ t.seq.stopping = true ∧ t.bureau.open_ = none ∧
         t.energy.saveReq = s.energy.restored ∧ t.bureau.tsDue = s.bureau.tsDue + 1 ∧
         (panelLive s = false → t.hutch = s.hutch)) ∧
     (resetReady s = true →
       ∃ t, exec .softResetApply s = .next t ∧ t.seq.st = .cold ∧ t.seq.soft = true ∧ t.seq.coldStart = false ∧
         t.ports = Ports.reset ∧ t.nvm.data = s.nvm.data ∧ t.fir = s.fir ∧ t.od = s.od ∧ t.mem.data = s.mem.data)) ∧
  (∀ s : State,
     (running s = true → s.bureau.units + tickUnits s ≥ 8000 → did s .timeBase = false → did s .wake = false →
       getReg s 0x197 = 1 → Registers.wf s = true →
       ∃ t, exec .wake s = .next t ∧ getReg t 0x197 = getReg s 0x196 ∧ statusBit t srcWake = true ∧ did t .wake = true ∧
         sameBut [.regs, .bureau, .seq] s t) ∧
     (coreOn s = true → s.seq.st ≠ .gasp → Registers.wf s = true → ∀ k, k < 4 →
       pairDiffers (middleSteps (runAll s)) k = true → 4 ≤ nth s.seq.mism k 0 →
       ∃ t, exec .cfgMismatch s = .next t ∧ bitAt (getReg t 0x193) k = true ∧ statusBit t srcCfgMismatch = true ∧
         sameBut [.regs, .bureau] s t))

/-- The mode (02 R40): a request for Full is granted only when the Full costs of the base and of every grant in force
fit under the ceiling, a request for Settle always; the change takes effect at the boundary, where MODE_CHANGED is set
with it, and a mode that stays sets nothing of the kind. -/
def Obligations.ModeIsDecided : Prop :=
  ∀ s : State, portsUp s = true → Registers.wf s = true →
    (wantsSettle s = true → (modeStep s).power.settle = true) ∧
    (wantsSettle s = false → s.power.settle = true →
      (modeStep s).power.settle = !decide (grantSum s false s.power.granted ≤ ceiling s)) ∧
    (wantsSettle s = false → s.power.settle = false → (modeStep s).power.settle = false) ∧
    ((modeStep s).power.settle ≠ s.power.settle → statusBit (modeStep s) srcModeChanged = true) ∧
    ((modeStep s).power.settle = s.power.settle →
      statusBit (modeStep s) srcModeChanged = statusBit s srcModeChanged) ∧
    (modeStep s).power.granted = s.power.granted ∧ sameBut [.power, .regs, .bureau] s (modeStep s)

/-! ## The line, cycles, energy, pulses and harmonics: 08, 09 -/

/-- Item 4 of a tick without a measured crossing: from LOCKED the expected instant passes, and a flywheel crossing of
one period follows it; the eighth in a row loses the line; in FREERUN a nominal crossing follows every P0; and ACQUIRE
ends after one and a half P0 without a crossing. A half-cycle boundary gives HALF_RMS of the two most recent halves
and starts a new half with this tick's sample; the cycle publication makes the waiting results visible, counts the
cycle and, where the cycle ends a window, the window. -/
def Obligations.CrossingsAndCycles : Prop :=
  (∀ s : State, running s = true → s.seq.item = 4 → (schedNow s).w ≠ 0 → s.line.itemOn = true → s.line.enter = false →
     (inSched s (refStream s) = true → s.line.refOn = true) → rawCrossing s = none →
     (s.line.st = 1 → s.line.exp ≤ s.line.clk → did s .flywheel = false →
       ∃ t, exec .flywheelCrossing s = .next t ∧ t.line.st = 2 ∧ t.line.flyCnt = 1 ∧ t.line.last = s.line.exp ∧
         t.line.exp = s.line.exp + s.line.pg ∧ t.line.cross = some (s.line.exp, 1) ∧ Pub.irq srcLineFly ∈ t.seq.pub ∧
         Pub.set 0x401 18 ∈ t.seq.pub ∧ sameBut [.line, .proc, .seq] s t) ∧
     (s.line.st = 2 → s.line.flyCnt = 7 → s.line.exp ≤ s.line.clk → did s .flywheel = false →
       ∃ t, exec .flywheelCrossing s = .next t ∧ t.line.st = 3 ∧ t.line.flyCnt = 8 ∧
         t.line.exp = s.line.exp + nominalP0 s ∧ t.line.cross = some (s.line.exp, 1) ∧ Pub.irq srcLineLost ∈ t.seq.pub ∧
         sameBut [.line, .proc, .seq] s t) ∧
     (s.line.st = 3 → s.line.exp ≤ s.line.clk → did s .nominal = false →
       ∃ t, exec .nominalCrossing s = .next t ∧ t.line.st = 3 ∧ t.line.last = s.line.exp ∧
         t.line.exp = s.line.exp + nominalP0 s ∧ t.line.cross = some (s.line.exp, 2) ∧ sameBut [.line, .proc, .seq] s t) ∧
     (s.line.st = 0 → s.line.provStart = none → s.line.entered + nominalP0 s * 3 / 2 ≤ s.line.clk →
       did s .acquireTimeout = false →
       ∃ t, exec .acquireTimeout s = .next t ∧ t.line.st = 3 ∧
         t.line.cross = some (s.line.entered + nominalP0 s * 3 / 2, 2) ∧ Pub.irq srcLineLost ∈ t.seq.pub ∧
         sameBut [.line, .proc, .seq] s t)) ∧
  (∀ s : State,
     (running s = true → s.seq.item = 7 → s.line.itemOn = true → did s .half = false →
       (s.line.cross.isSome = true ∨ s.line.prov.isSome = true) →
       ∃ t, exec .halfCycleBoundary s = .next t ∧ t.line.halfPrev = s.line.halfCur ∧ t.line.halfNow = true ∧
         t.line.halfVals = (upto 10).map (fun n => sat20 (halfRms s.line.halfPrev s.line.halfCur n)) ∧
         t.line.halfCur.len = tickWeight s ∧
         (∀ n, n < 10 → Pub.set (0x428 + n) (wdI (sat20 (halfRms s.line.halfPrev s.line.halfCur n))) ∈ t.seq.pub) ∧
         sameBut [.line, .seq] s t) ∧
     (let u := runAll s
      cyclePublicationDue u = true → Registers.wf u = true → ∀ tl, u.line.tail = some tl →
       (∀ e ∈ tl.results, isRetained e.1 = false ∧ e.1 ∉ [0, 1, 2, 3, 0x402, 0x403, 0x404, 0x405, 0x408, 0x40A]) →
       ∃ t, exec .cyclePublication s = .next t ∧ t.line.tail = none ∧ getReg t 0x405 = getReg u 0x405 + 1 ∧
         getReg t 0x408 = (if tl.window then getReg u 0x408 + 1 else getReg u 0x408) ∧
         statusBit t srcCycleDone = true ∧ (tl.window = true → statusBit t srcWindowDone = true) ∧
         ((tl.results.map (·.1)).Nodup → ∀ e ∈ tl.results, getReg t e.1 = e.2) ∧
         (∀ p, tl.period = some p → getReg t 0x402 = wd p ∧ getReg t 0x404 = wd (freqMhz 1 p)) ∧
         sameBut [.regs, .bureau, .line] u t))

/-- A window whose analysis has ended is published in item 16: HARM_DONE rises, HARM_WIN names the window, the engine
is free; a window still under analysis when the next has ended is abandoned and counted. -/
def Obligations.HarmonicWindowsEnd : Prop :=
  ∀ s : State,
    (running s = true → s.seq.item = 16 → did s .harmPub = false → ∀ j, s.harm.job = some j → j.ready = true →
      exec .harmonicPublication s = .next { item16 s with seq := { (item16 s).seq with item := 17 } }) ∧
    (∀ j, s.harm.job = some j → j.ready = true → Registers.wf s = true → coreOn s = true →
      (harmPublish s).harm.job = none ∧ getReg (harmPublish s) 0x503 = j.winCount ∧
      statusBit (harmPublish s) srcHarmDone = true ∧ did (harmPublish s) .harmPub = true) ∧
    (running s = true → s.seq.item = 15 → did s .bgShort = false → windowEndsNow s = true →
      ∀ j, s.harm.job = some j → j.ready = false → Registers.wf s = true →
      ∃ t, exec .bgShort s = .next t ∧ t.harm.job = none ∧ statusBit t srcBgShort = true ∧
        getReg t 0x194 = wd (min (regN s 0x194 + 1) 0xFFFFF) ∧ sameBut [.regs, .bureau, .harm, .seq] s t)

/-- Energy: a periodic save is requested when its operating time has passed; a save that verifies becomes the newest
slot with the next sequence, one that does not leaves its cause and asks again; after the first slot of a sector the
next sector's erase begins at once, and an erase leaves its sector blank. -/
def Obligations.EnergyIsSaved : Prop :=
  ∀ s : State,
    (periodicDue s = true →
      ∃ t, exec .periodicSave s = .next t ∧ t.energy.saveReq = true ∧ sameBut [.energy, .seq] s t) ∧
    (∀ k b, s.nvm.op = some (.energyProg k b) → s.seq.st ≠ .gasp → s.seq.st ≠ .off → Registers.wf s = true →
      (∃ t, exec (.energySaveDone true) s = .next t ∧ t.energy.slot = k ∧ t.energy.seq = s.energy.seqNext ∧
        t.energy.seqNext = (s.energy.seqNext + 1) % 1048576 ∧ t.energy.nextSlot = (k + 1) % 16 ∧ t.nvm.data = sputs erasedByte s.nvm.data (energySlotAt k) b ∧
        (k % 4 = 0 → t.nvm.op = some (.energyErase ((k / 4 + 1) % 4)) ∧ t.energy.erasing = true ∧
          statusBit t srcEsaveDone = true) ∧
        (s.ports.held = [] → sameBut [.nvm, .energy, .regs, .bureau, .ports] s t)) ∧
      (∃ t, exec (.energySaveDone false) s = .next t ∧ t.energy.slot = s.energy.slot ∧ t.energy.seq = s.energy.seq ∧
        t.energy.cause = 2 ∧ t.energy.saveReq = true ∧ t.free = s.free + 1 ∧
        (s.ports.held = [] → sameBut [.nvm, .energy, .regs, .bureau, .ports] s t))) ∧
    (∀ k, s.nvm.op = some (.energyErase k) →
      ∃ t, exec .energySectorEraseDone s = .next t ∧ t.energy.erasing = false ∧
        (s.ports.held = [] → sameBut [.nvm, .energy, .aon, .bureau, .ports] s t) ∧
        ∀ i, sget erasedByte t.nvm.data i =
          if energySlotAt (4 * k) ≤ i ∧ i < energySlotAt (4 * k) + 1024 then 0xFF else sget erasedByte s.nvm.data i)

/-- Item 9 loses nothing: after a term the accumulators and the residue together hold the residue before it and the
term, the residue stays within a whole LSB of its band, and only one of import and export moves. -/
def Obligations.EnergyIsConserved : Prop :=
  ∀ r t : Int, (residue r t).1 + 524288 * ((residue r t).2.1 : Int) - 524288 * ((residue r t).2.2 : Int) = r + t ∧
    -(8388608 * 524288 + 524288) < (residue r t).1 ∧ (residue r t).1 < 8388608 * 524288 + 524288 ∧
    ((residue r t).2.1 = 0 ∨ (residue r t).2.2 = 0)

/-! ## Slices, the Stool and the detectors: 05, 07 -/

/-- The Stool at the end of a step: SELF and CARRY take the mean of each reference setting and go on; OVERLAP.1 whose
gain is accepted makes the takeover due; at most one step ends with a tick. A rotation that completes is told, and with
neither a PAUSE nor a SELECT waiting begins SELF again. The switches: a takeover that nothing holds back makes the Stool carry, in CARRY.0; a handback gives the slice
the Stool's DC-block estimate and ends the carrying; one that a condition of R125 holds back is told once and leaves
the carrying as it is; after 60 s a takeover is abandoned and counted, and a handback is reported as stalled and waits
on. -/
def Obligations.StoolStepsAndSwitches : Prop :=
  (∀ s : State,
     let u := runAll s
     (stepDue u = true →
       ∃ t, exec .stoolStepEnd s = .next t ∧ did t .stoolStep = true ∧
         ((u.stool.st = 1 ∨ u.stool.st = 3) → u.stool.step ≤ 2 →
           t.stool.st = u.stool.st ∧ t.stool.step = u.stool.step + 1 ∧ t.stool.left = 8000 ∧ t.stool.n = 0 ∧
           t.stool.target = u.stool.target ∧ (u.stool.step = 1 → t.stool.mPos = (takeMean u).stool.mPos) ∧
           sameBut [.stool, .seq] u t) ∧
         (u.stool.st = 2 → u.stool.step = 1 → (measuredGain u).2.2 = false →
           t.stool.due = true ∧ t.stool.mGain = (measuredGain u).1 ∧ t.stool.mOffs = (measuredGain u).2.1 ∧
           t.stool.carrying = u.stool.carrying ∧ sameBut [.stool, .seq] u t)) ∧
     (did (rotationDoneOp u) .rotation = true → did u .rotation = false →
       ∃ t, exec .rotationDone s = .next t ∧ did t .rotation = true ∧
         (coreOn u = true → Registers.wf u = true → statusBit t srcRotationDone = true) ∧
         (u.stool.pauseReq = false → u.stool.selectNext = none →
           t.stool.st = 1 ∧ t.stool.step = 0 ∧ t.stool.target = 10) ∧ sameBut [.stool, .streams, .regs, .bureau, .seq] u t)) ∧
  (∀ s : State,
     let u := runAll s
     (takeoverDue u = true →
       (switchBlocked u = false →
         ∃ t, exec .takeover s = .next t ∧ t.stool.carrying = true ∧ t.stool.st = 3 ∧ t.stool.step = 0 ∧
           t.stool.left = 8000 ∧ t.stool.target = u.stool.target ∧
           (Registers.wf u = true → statusBit t srcStoolSwitch = true ∧
             getReg t 0x2F5 = wd (nth u.streams.yc 10 0 - nth u.streams.yc u.stool.target 0).natAbs) ∧
           sameBut [.stool, .streams, .regs, .bureau, .seq] u t) ∧
       (switchBlocked u = true → u.stool.deferred = false →
         ∃ t, exec .takeover s = .next t ∧ t.stool.deferred = true ∧ t.stool.carrying = u.stool.carrying ∧
           t.stool.due = true ∧ (Registers.wf u = true → statusBit t srcStoolDefer = true) ∧
           sameBut [.stool, .regs, .bureau, .seq] u t) ∧
       (deferralOver u = true →
         ∃ t, exec .takeoverAbandon s = .next t ∧ t.stool.carrying = u.stool.carrying ∧ t.stool.due = false ∧
           t.stool.cause = 3 ∧
           (Registers.wf u = true → getReg t 0x2F4 = wd (min (regN u 0x2F4 + 1) 0xFFFFF) ∧
             statusBit t srcStoolFault = true) ∧
           sameBut [.stool, .streams, .regs, .bureau, .seq] u t)) ∧
     (handbackDue u = true →
       (switchBlocked u = false → u.stool.target ≤ 9 → u.streams.conv.length = 11 →
         ∃ t, exec .handback s = .next t ∧ t.stool.carrying = false ∧ t.stool.due = false ∧
           (nth t.streams.conv u.stool.target Conv.reset).e = (nth u.streams.conv 10 Conv.reset).e ∧
           sameBut [.stool, .streams, .regs, .bureau, .seq] u t) ∧
       (deferralOver u = true → u.stool.stalled = false →
         ∃ t, exec .handbackStall s = .next t ∧ t.stool.stalled = true ∧ t.stool.cause = 4 ∧ t.stool.due = true ∧
           t.stool.carrying = u.stool.carrying ∧ (Registers.wf u = true → statusBit t srcStoolFault = true) ∧
           sameBut [.stool, .regs, .bureau] u t)))

/-- OVERRANGE: the converter's front delivers full scale of the sign in this tick and the 17 after it, its DC-block
estimate is held, and OVERRANGE is set with its bit. PEAK: the sample that completes a qualification sets the guard's
bit, PEAK, and the trigger of the next item 13. The block of a detector that is at work ends with its L-th sample: AMP
is published with DET_DONE, and the next block starts from nothing; a stream's settling bit clears with its last tick
of settling. -/
def Obligations.ConvertersAndDetectors : Prop :=
  (∀ (c : Fin 11) (neg : Bool) (g : Fin 6) (x : Int) (s : State),
     (coreOn s = true → works s (streamDomain c.val) = true → s.streams.conv.length = 11 →
       ∃ t, exec (.overrange c neg) s = .next t ∧ (nth t.streams.conv c.val Conv.reset).ovr = 17 ∧
         (nth t.streams.conv c.val Conv.reset).y16 = (if neg then -8388592 else 8388592) ∧
         (nth t.streams.conv c.val Conv.reset).e = (nth s.streams.conv c.val Conv.reset).ePrev ∧
         (∀ k, k ≠ c.val → nth t.streams.conv k Conv.reset = nth s.streams.conv k Conv.reset) ∧
         (Registers.wf s = true → bitAt (getReg t 0x2F7) c.val = true ∧ statusBit t srcOverrange = true) ∧
         sameBut [.streams, .regs, .bureau] s t) ∧
     ((coreOn s = false ∨ works s (streamDomain c.val) = false) → exec (.overrange c neg) s = .next s) ∧
     (coreOn s = true → guardOn s g.val = true → works s (streamDomain (guardConv s g.val)) = true →
       did s (.peak g.val) = false →
       (guardSample (guardNeed s) (nth s.streams.guards g.val { count := 0, blocked := false, thrRaw := 0 }) x).2 = true →
       ∃ t, exec (.peak g x) s = .next t ∧ t.cap.peakSeen = true ∧ did t (.peak g.val) = true ∧
         (Registers.wf s = true → bitAt (getReg t 0x2FF) g.val = true ∧ statusBit t srcPeak = true) ∧
         sameBut [.streams, .regs, .bureau, .cap, .seq] s t) ∧
     (guardOn s g.val = false → exec (.peak g x) s = .next s)) ∧
  (∀ (d : Fin 4) (n : Fin 11) (s : State),
     (running s = true → s.seq.item = 11 → did s (.detBlock d.val) = false → detOn s d.val = true →
       s.streams.dets.length = 4 → (nth s.streams.dets d.val freshDet).active = true →
       detLen s d.val ≤ (nth s.streams.dets d.val freshDet).n + 1 →
       let b := nth s.streams.dets d.val freshDet
       let s0 := detInput s d.val + asr (regI s (0x3DC + d.val) * b.s1) 18 - b.s2
       let amp := detAmp (regI s (0x3DC + d.val)) s0 b.s1 (b.n + 1)
       ∃ t, exec (.detBlockDone d) s = .next t ∧ (nth t.streams.dets d.val freshDet).n = 0 ∧
         Pub.set (0x3D8 + d.val) (wd amp) ∈ t.seq.pub ∧ Pub.or 0x3E0 (2 ^ (4 + d.val)) ∈ t.seq.pub ∧
         Pub.irq srcDetDone ∈ t.seq.pub ∧
         (detThr s d.val ≤ amp → Pub.or 0x3E0 (2 ^ d.val) ∈ t.seq.pub) ∧ sameBut [.streams, .seq] s t) ∧
     (let u := runAll s
      coreOn u = true → nth u.streams.settling n.val 0 = 1 → u.streams.settling.length = 11 → did u (.settled n.val) = false →
       ∃ t, exec (.filtSettlingEnd n) s = .next t ∧ nth t.streams.settling n.val 0 = 0 ∧
         (∀ k, k ≠ n.val → nth t.streams.settling k 0 = nth u.streams.settling k 0) ∧ sameBut [.streams, .seq] u t))

/-- The integer square root rounds down (07 R169), for every number below 2^160. -/
def Obligations.SquareRootRoundsDown : Prop :=
  ∀ n : Nat, n < 2 ^ 160 → isqrt n * isqrt n ≤ n ∧ n < (isqrt n + 1) * (isqrt n + 1)

/-! ## The process integrators and the leads: 06, 15 -/

/-- What starts: the timer that fires starts the sequence after DELAY, or is ignored and counted while one runs; the
end of DELAY opens the first group, a FIXED one on the next CCLK edge; a TRIG edge opens a PWM window on the next CCLK
edge, or closes it from 1 ms on, and otherwise with START 2 starts a sequence, or is ignored and counted while one runs,
whatever its polarity. What ends: a FIXED window after its LEN, a PWM window after 1,000 ms with its code, a LINE window
on the next LINE boundary, which opens a LINE group that waits; when the window of an urgent conversion closes, its
integrator runs down and none is left open. The end of a run-down hands its measurement on and frees the integrator.
The end of a park: the lead takes its new function; without an edge for TRIG nothing else happens, except that a lead
which takes a tamper loop passes to PD0 with the loop's state at OK. A lead that is not parked stays as it is. (A CCLK
edge at c0 of each tick, the order of events of one cycle: log entry 98; the board's levels of a park: log entry 101.) -/
def Obligations.ProcessWindows : Prop :=
  (∀ (rising : Bool) (cyc : Nat) (s : State),
     (let u := runAll s
      procOn u = true → procStartSel u = 1 → snapN u 0x302 ≠ 0 → 8 * snapN u 0x302 ≤ u.proc.timerUnits + tickUnits u →
       did u .procTimer = false →
       (procBusy u = true → Registers.wf u = true →
         ∃ t, exec .procTimerFire s = .next t ∧ getReg t 0x304 = wd (min (regN u 0x304 + 1) 0xFFFFF) ∧
           statusBit t srcProcOverrun = true ∧ did t .procTimer = true ∧ sameBut [.regs, .bureau, .seq] u t) ∧
       (procBusy u = false →
         exec .procTimerFire s = .next (startSeq (mark u .procTimer) (getReg u) (some (regN u 0x303 + 6144))))) ∧
     (earliest (procEvents s) = some (s.proc.delay, evDelay) →
       ∃ t, exec .procDelayEnd s = .next t ∧ t.proc.delaying = false ∧
         (entryMode (seqEntry s s.proc.group) = 1 → t.proc.isOpen = true ∧ t.proc.openCyc = cclkUp s s.proc.delay ∧
           t.proc.openLen = entryLen (seqEntry s s.proc.group)) ∧
         (entryMode (seqEntry s s.proc.group) ≠ 1 → t.proc.waiting = true ∧ t.proc.isOpen = false) ∧
         sameBut [.proc] s t) ∧
     (s.proc.urgentAt = none → trigSeen (parksBy s cyc) = true → procOn (parksBy s cyc) = true →
       let u := procTo (parksBy s cyc) cyc
       (procBusy u = true → edgeMatches u.proc.ctrl rising = true →
         (u.proc.waiting = true → entryMode (seqEntry u u.proc.group) = 2 →
           ∃ t, exec (.trigEdge rising cyc) s = .next t ∧ t.proc.isOpen = true ∧ t.proc.waiting = false ∧
             t.proc.openCyc = cclkUp u cyc ∧ t.proc.openMode = 2 ∧ sameBut [.proc] u t) ∧
         (u.proc.waiting = false → u.proc.isOpen = true → u.proc.openMode = 2 → msCycles u ≤ openCycles u cyc →
           exec (.trigEdge rising cyc) s = .next (closeGroup u (cclkUp u cyc) 0))) ∧
       (u.proc.waiting = false → u.proc.isOpen = false → procStartSel u = 2 →
         (u.proc.running = true → exec (.trigEdge rising cyc) s = .next (procOverrun u)) ∧
         (procBusy u = false → edgeMatches (snapReg u 0x300) rising = true →
           exec (.trigEdge rising cyc) s = .next (startSeq u (snapReg u) (some (snapN u 0x303 + cyc)))))) ∧
     (procOn s = false → exec (.trigEdge rising cyc) s = .next (parksBy s cyc))) ∧
  (∀ (pair : Fin 9) (b : Bool) (net rd : Int) (w : Nat) (sat : Bool) (s : State),
     (earliest (procEvents s) = some (s.proc.openCyc, evFixed) →
       exec .fixedWindowClose s = .next (closeGroup s s.proc.openCyc 0)) ∧
     (earliest (procEvents s) = some (s.proc.openCyc, evPwm) →
       exec .pwmTimeout s = .next (closeGroup s s.proc.openCyc 3)) ∧
     (∀ m k r, s.proc.lineDue = (m, k) :: r →
       let c := cclkDown s (((m : Int) - s.line.clk).toNat / cycleClock s)
       let u : State := { s with proc := { s.proc with lineDue := r } }
       earliest (procEvents s) = some (c, evLine) → procOn s = true → procBusy s = true →
       (s.proc.isOpen = true → s.proc.openMode = 0 → exec .lineBoundary s = .next (closeGroup u c k)) ∧
       (s.proc.isOpen = false → s.proc.waiting = true → entryMode (seqEntry s s.proc.group) = 0 →
         exec .lineBoundary s = .next (openWindows u c k))) ∧
     (s.proc.urgent = true → ∀ (c k : Nat), (closeGroup s c k).proc.isOpen = false ∧
       (∀ v ∈ (closeGroup s c k).proc.wins, v.closed = true) ∧ (closeGroup s c k).proc.passDone = true) ∧
     (∀ v, s.proc.wins.find? (fun u => u.closed && u.pair == pair.val && u.integB == b) = some v →
       ∃ t, exec (.runDownEnd pair b net rd w sat) s = .next t ∧
         t.proc.fresh = s.proc.fresh ++ [{ entry := v.entry, chan := v.chan, scale := v.scale, rate := v.rate, kind := v.kind
                                           net := net, rd := rd, w := w, sat := sat }] ∧
         (∀ u ∈ t.proc.wins, (u.closed && u.pair == pair.val && u.integB == b) = false) ∧ sameBut [.proc] s t)) ∧
  (∀ (n : Fin 8) (s : State),
     (s.pins.parked.getLsbD n.val = true →
       (trigLead s ≠ some n.val ∨ s.pins.board.getLsbD n.val = s.pins.latched.getLsbD n.val) →
       ∃ t, exec (.parkEnd n) s = .next t ∧ t.pins.parked.getLsbD n.val = false ∧ t.pins.latched = s.pins.latched ∧
         (∀ k, k < 8 → k ≠ n.val → t.pins.parked.getLsbD k = s.pins.parked.getLsbD k) ∧
         (leadFunc s n.val = 8 → t.aon.loop0 = 0 ∧ t.aon.normal0 = 0) ∧
         (leadFunc s n.val = 9 → t.aon.loop1 = 0 ∧ t.aon.normal1 = 0) ∧
         (leadFunc s n.val ≠ 8 → leadFunc s n.val ≠ 9 → t.aon = s.aon) ∧
         sameBut [.pins, .aon] s t) ∧
     (s.pins.parked.getLsbD n.val = false → exec (.parkEnd n) s = .next s))

/-! ## Capture memory, the Sideboard and the scrub engine: 09, 10 -/

/-- A tag protects its line (R214, R215): data under its own tag reads back as class 0; a line with any one data bit
turned over reads as class 1 with the bit restored; a poisoned line reads as class 4; a line met at an index that
differs in one bit reads as class 2. -/
def Obligations.TagsProtectLines : Prop :=
  ∀ (a : Nat) (d : List Byte), a < 65536 → d.length = 16 →
    (classify a d (tagOf a d)).cls = 0 ∧ (classify a d (tagOf a d)).data = d ∧
    (classify a d (poisonTag a d)).cls = 4 ∧
    (∀ j, j < 128 → (classify a (flipBit d j) (tagOf a d)).cls = 1 ∧ (classify a (flipBit d j) (tagOf a d)).data = d) ∧
    (∀ k, k < 16 → (classify (a ^^^ 2 ^ k) d (tagOf a d)).cls = 2)

/-- What is written is read back: a line takes its 16 bytes with a valid tag, and every other line keeps its bytes and
its tag. -/
def Obligations.LinesReadBack : Prop :=
  ∀ (i j : Nat) (d : List Byte) (s : State), d.length = 16 → i < 65536 → Memory.wf s = true →
    lineBytes (putLine s i d) i = d ∧ lineTag (putLine s i d) i = tagOf i d ∧
    (j ≠ i → lineBytes (putLine s i d) j = lineBytes s j ∧ lineTag (putLine s i d) j = lineTag s j) ∧
    Memory.wf (putLine s i d) = true ∧ sameBut [.mem] s (putLine s i d)

/-- The Sideboard, once a first request that needs no grant has been carried out: of the requests that can be served the
next decision names one for the earliest cycle that any of them can own, of those that can own it the one of the largest
effective age, of equal ages the lowest requester. The requester so named is granted from that cycle on, and where it
has withdrawn the cycle is dead and counted; any other is not granted. Requester 0's row writes what the capture engine
has queued, and requester 7's stages and fetches records, through the same grant. With FREEZE no decision names any. -/
def Obligations.SideboardGrants : Prop :=
  ∀ (r : Fin 8) (s : State), boardUp s = true →
    let a := (serveAway s).getD s
    let b := (serveAway (stageMore s)).getD (stageMore s)
    (∀ q c, winner a = some (q, c) → q.r = r.val →
      exec (.memoryRequest r) s = .next (grantReq a q c) ∧
      (q.gone = true → grantReq a q c = deadCycle (forgetGone (idleTo a c)) r.val c)) ∧
    ((∀ q c, winner a = some (q, c) → q.r ≠ r.val) → exec (.memoryRequest r) s = .next a) ∧
    (∀ q c, winner a = some (q, c) → q.r = 0 → exec .capQueueDrain s = .next (grantReq a q c)) ∧
    (∀ q c, winner b = some (q, c) → q.r = 7 → exec .recordStage s = .next (grantReq b q c)) ∧
    (∀ c, s.mem.busy ≤ c → Registers.wf s = true →
      (deadCycle s r.val c).mem.busy = c + 1 ∧ (deadCycle s r.val c).mem.owner = some r.val ∧
      getReg (deadCycle s r.val c) 0x624 = wd (min (regN s 0x624 + 1) 0xFFFFF)) ∧
    (frozen s = true → winner s = none) ∧
    (∀ q c, winner s = some (q, c) → q ∈ candidates s ∧ c < 6144 ∧ firstOwn s q ≤ c ∧
      (q.gone = true ∨ (opReady s q = true ∧ opAway s q = false)) ∧
      ∀ p ∈ candidates s, c ≤ firstOwn s p ∧
        (firstOwn s p ≤ c → effAge s p (ageWait s p c) ≤ effAge s q (ageWait s q c) ∧
          (effAge s p (ageWait s p c) = effAge s q (ageWait s q c) → q.r ≤ p.r)))

/-- A request whose waiting cycles pass STARVE_LIM is reported with its bit; a bank that has written its last line
becomes READY; a capture whose last frame has been written is done; a step of the scrub engine, in a cycle for which no
grant is decided, advances the walk, and the steps that a tick leaves over are counted as yields, once. -/
def Obligations.MemoryKeepsHouse : Prop :=
  ∀ (r : Fin 8) (b : Fin 2) (s : State),
    (regN s 0x622 ≠ 0 → frozen s = false → coreOn s = true → Registers.wf s = true →
      (∃ q ∈ s.mem.reqs, q.r = r.val ∧ q.gone = false ∧ q.reported = false ∧
        regN s 0x622 < q.starve + (idleCycles s - (q.at_ - s.mem.busy))) →
      ∃ t, exec (.arbStarve r) s = .next t ∧ bitAt (getReg t 0x623) r.val = true ∧ statusBit t srcArbStarve = true ∧
        (∀ q ∈ t.mem.reqs, q.r = r.val → q.reported = true) ∧ sameBut [.regs, .bureau, .mem] s t) ∧
    (bankInitDue s b.val = true → bankOn s b.val = true →
      ∃ t, exec (.bankInitDone b) s = .next t ∧ bankReady t b.val = true ∧ t.mem.init.getLsbD b.val = false ∧
        t.mem.data = s.mem.data ∧ t.mem.tags = s.mem.tags ∧ sameBut [.mem] s t) ∧
    (boardUp s = true → frozen s = false → (∀ q c, winner s = some (q, c) → s.mem.busy < c) → s.mem.busy < 6144 →
      s.mem.poison = none → s.mem.writeBack = none → 0 < s.mem.backlog → scrubInt s ≠ 0 → s.mem.scrubPos < 65535 →
      bankOn s (bankOf (16 * s.mem.scrubPos)) = true → bankReady s (bankOf (16 * s.mem.scrubPos)) = true →
      ∃ t, exec .scrubStep s = .next t ∧ t.mem.scrubPos = s.mem.scrubPos + 1 ∧ t.mem.backlog = s.mem.backlog - 1 ∧
        t.mem.busy = s.mem.busy + 1 ∧ t.mem.data = s.mem.data ∧ t.mem.tags = s.mem.tags ∧
        ((classify s.mem.scrubPos (lineBytes s s.mem.scrubPos) (lineTag s s.mem.scrubPos)).cls = 1 →
          t.mem.writeBack = some (s.mem.scrubPos,
            (classify s.mem.scrubPos (lineBytes s s.mem.scrubPos) (lineTag s s.mem.scrubPos)).data)) ∧
        sameBut [.regs, .bureau, .mem] s t) ∧
    (did s .scrubYield = false → frozen s = true → 0 < s.mem.scrubDue → s.mem.scrubDue ≤ s.mem.backlog →
      Registers.wf s = true →
      ∃ t, exec .scrubYield s = .next t ∧ did t .scrubYield = true ∧ exec .scrubYield t = .next t ∧
        getReg t 0x60B = wd (min (regN s 0x60B + s.mem.scrubDue) 0xFFFFF) ∧ sameBut [.regs, .mem, .seq] s t) ∧
    (s.cap.written = true → s.cap.st = 2 →
      ∃ t, exec .capDone s = .next t ∧ t.cap.st = 3 ∧ t.cap.written = false ∧
        (coreOn s = true → Registers.wf s = true → statusBit t srcCapDone = true) ∧ sameBut [.cap, .regs, .bureau] s t)

/-! ## The chain: 11 -/

/-- A frame for another position passes on as it came when the onward link is up; a bad CRC is counted in the link's
error register and nothing else happens; a link that is not up receives nothing. So for MRQ, MRS and ENUM_RSP frames.
Requests of peers: an MRQ for this part is held, up to eight; the oldest held is refused with cause 6, counted and
noted, when the CHAIN_ACCEPT fields do not accept it. -/
def Obligations.FramesAndPeers : Prop :=
  (∀ (f : RxFrame) (s : State),
     (receives s f.side = false →
       exec (.mrqFrame f) s = .next s ∧ exec (.mrsFrame f) s = .next s ∧ exec (.enumRspFrame f) s = .next s ∧
       exec (.enumFrame f) s = .next s) ∧
     (receives s f.side = true → f.crcOk = false →
       exec (.mrqFrame f) s = .next (incTen s (linkErr f.side) 10) ∧
       exec (.mrsFrame f) s = .next (incTen s (linkErr f.side) 10) ∧
       exec (.enumRspFrame f) s = .next (incTen s (linkErr f.side) 10) ∧
       exec (.enumFrame f) s = .next (incTen s (linkErr f.side) 10)) ∧
     (receives s f.side = true → f.crcOk = true → f.dest ≠ ownPos s → linkReady s (sideTo s f.dest) = true →
       let out (type : Nat) : TxFrame := { side := sideTo s f.dest, type := type, dest := f.dest, src := f.src
                                           ltag := f.ltag, payload := f.payload }
       (∃ t, exec (.mrqFrame f) s = .next t ∧ t.chain.sent = s.chain.sent ++ [out 3] ∧ sameBut [.chain] s t) ∧
       (∃ t, exec (.mrsFrame f) s = .next t ∧ t.chain.sent = s.chain.sent ++ [out 4] ∧ sameBut [.chain] s t) ∧
       (∃ t, exec (.enumRspFrame f) s = .next t ∧ t.chain.sent = s.chain.sent ++ [out 6] ∧ sameBut [.chain] s t))) ∧
  (∀ (f : RxFrame) (s : State),
     (receives s f.side = true → f.crcOk = true → f.dest = ownPos s →
       (s.chain.mrqs.length < 8 →
         ∃ t, exec (.mrqFrame f) s = .next t ∧ t.chain.mrqs = s.chain.mrqs ++ [(f.side, f.src, f.ltag, f.payload)] ∧
           sameBut [.chain] s t) ∧
       (8 ≤ s.chain.mrqs.length →
         ∃ t, exec (.mrqFrame f) s = .next t ∧ t.chain.mrqs = s.chain.mrqs ∧
           t.chain.sent = s.chain.sent ++ [{ side := f.side, type := 4, dest := f.src, src := ownPos s, ltag := f.ltag
                                             payload := [1, 0] }] ∧
           sameBut [.chain] s t)) ∧
     (mrqDue s = true → exec .mrqService s = .next (serveIf (takeMrq s) 6)) ∧
     (∀ side src ltag p rest a, s.chain.mrqs = (side, src, ltag, p) :: rest → mrqAccess p = some a → accepts s src a = false →
       Registers.wf s = true → coreOn s = true →
       (takeMrq s).chain.mrqs = rest ∧ getReg (takeMrq s) 0x698 = wd (min (regN s 0x698 + 1) 0xFFFFF) ∧
       getReg (takeMrq s) 0x699 = wd (src.toNat * 16 + kindCode a.kind) ∧
       getReg (takeMrq s) 0x69A = wd (a.pa / 16) ∧ statusBit (takeMrq s) srcChainReject = true ∧
       (takeMrq s).mem = s.mem))

/-- Operations at a peer: an MRS that says BUSY has the operation sent again, any other ends it; the retry sends the
same MRQ; an operation whose PKT_TMO has passed ends with TIMEOUT. An answer that nothing waits for is discarded.
CHAIN_ENUM: an ENUM frame is answered with the revision, and passed on where the onward link is up; a response is
gathered under its position; a CHAIN_ENUM whose PKT_TMO has passed is answered TIMEOUT. -/
def Obligations.RemoteAndEnumeration : Prop :=
  (∀ (f : RxFrame) (s : State),
     (receives s f.side = true → f.crcOk = true → f.dest = ownPos s →
       (s.chain.remote.find? (fun q => q.ltag == f.ltag && q.side == f.side && q.chip == f.src) = none →
         exec (.mrsFrame f) s = .next s) ∧
       (∀ q, s.chain.remote.find? (fun q => q.ltag == f.ltag && q.side == f.side && q.chip == f.src) = some q →
         ((nth f.payload 0 0).toNat = 1 →
           ∃ t, exec (.mrsFrame f) s = .next t ∧
             t.chain.remote = s.chain.remote.map (fun r => if r = q then { r with retry := true } else r) ∧
             sameBut [.chain] s t) ∧
         ((nth f.payload 0 0).toNat ≠ 1 →
           exec (.mrsFrame f) s =
             .next (endRemote s q (nth f.payload 0 0).toNat (nth f.payload 1 0).toNat (f.payload.drop 2))))) ∧
     (∀ q, s.chain.remote.find? (fun q => q.retry) = some q → (linkOf s q.side).st = 2 →
       ∃ t, exec .mrqBusyRetry s = .next t ∧
         t.chain.sent = s.chain.sent ++ [{ side := q.side, type := 3, dest := q.chip, src := ownPos s, ltag := q.ltag
                                           payload := mrqPayload q.acc }] ∧
         t.chain.remote = s.chain.remote.map (fun r => if r = q then { r with retry := false } else r) ∧
         sameBut [.chain] s t) ∧
     (∀ q, s.chain.remote.find? (fun q => q.ticks == 0) = some q →
       exec .remoteTimeout s = .next (endRemote s q stTimeout 0 []))) ∧
  (∀ (f : RxFrame) (s : State),
     (receives s f.side = true → f.crcOk = true →
       let on := linkReady s (otherSide f.side)
       ∃ t, exec (.enumFrame f) s = .next t ∧
         t.chain.sent = s.chain.sent ++
           [{ side := f.side, type := 6, dest := f.src, src := ownPos s, ltag := f.ltag
              payload := beBytes (regN s 0xF01) 3 ++ [if on then 1 else 0] }]
           ++ (if on then [{ side := otherSide f.side, type := 5, dest := f.dest, src := f.src, ltag := f.ltag
                             payload := f.payload }] else []) ∧
         sameBut [.chain] s t) ∧
     (receives s f.side = true → f.crcOk = true → f.dest = ownPos s → s.chain.enum = none →
       exec (.enumRspFrame f) s = .next s) ∧
     (∀ e, s.chain.enum = some e → receives s f.side = true → f.crcOk = true → f.dest = ownPos s →
       let heard := (f.src.toNat, wd (ofBe (f.payload.take 3))) :: e.heard.filter (fun h => decide (h.1 ≠ f.src.toNat))
       let last := decide ((nth f.payload 3 0).toNat % 2 = 0)
       let e' : EnumRun := { e with heard := heard, waitUp := e.waitUp && !(last && decide (f.side = .up))
                                    waitDn := e.waitDn && !(last && decide (f.side = .dn)) }
       exec (.enumRspFrame f) s = .next (enumCheck { s with chain := { s.chain with enum := some e' } })) ∧
     (∀ e, s.chain.enum = some e → e.ticks = 0 →
       ∃ t, exec .enumTimeout s = .next t ∧ t.chain.enum = none ∧
         (portOf t e.wait.land.port).busy = (portOf s e.wait.land.port).busy.erase e.wait ∧
         (∃ r, (portOf t e.wait.land.port).reply = some r ∧ r.status = 12 ∧ r.tag = e.wait.land.tag) ∧
         sameBut [.chain, .ports, .regs, .bureau] s t))

/-- Links and the position: the wiring test makes a part whose upstream link is unconnected position 0, and says so once;
outside GASP, with PD11 on, an idle byte that has not the form breaks the alignment, and one that has it, with KNOWN 0,
counts towards alignment and starts training on a driven link that is OFF and not held; a link in TRAINING comes up on
64 aligned bytes with RXOK and a valid position; a link that goes down is OFF, and one that was UP, with nothing waiting
on it, is counted, its frames not yet sent are dropped, and LINK_CHANGE's bit is set. -/
def Obligations.LinksComeAndGo : Prop :=
  ∀ (d : Side) (b : Byte) (s : State),
    (domOn s 11 = true → s.chain.wiringDone = false →
      (∃ t, exec (.wiringTest false) s = .next t ∧ t.chain.wiringDone = true ∧ t.chain.wired = false ∧
        t.chain.posValid = true ∧ t.chain.pos = 0 ∧ sameBut [.chain, .regs, .bureau] s t) ∧
      (∃ t, exec (.wiringTest true) s = .next t ∧ t.chain.wiringDone = true ∧ t.chain.wired = true ∧
        t.chain.posValid = s.chain.posValid ∧ sameBut [.chain] s t)) ∧
    (domOn s 11 = true → s.seq.st ≠ .gasp →
      ((bitsOf b.toNat 5 3 ≠ 5 ∨ b.toNat % 2 ≠ 0) →
        ∃ t, exec (.idleByte d b) s = .next t ∧ (linkOf t d).aligned = 0 ∧ (linkOf t d).idleRun = 0 ∧
          (linkOf t d).st = (linkOf s d).st ∧ sameBut [.chain] s t) ∧
      (bitsOf b.toNat 5 3 = 5 → b.toNat % 2 = 0 → b.getLsbD 4 = false → (linkOf s d).st ≠ 2 →
        ∃ t, exec (.idleByte d b) s = .next t ∧ (linkOf t d).aligned = satInc (linkOf s d).aligned 64 ∧
          (linkOf t d).rxok = b.getLsbD 1 ∧
          (linkOf t d).st = (if (linkOf s d).st = 0 ∧ linkDriven s d = true ∧ (linkOf s d).held = false then 1
            else (linkOf s d).st) ∧ sameBut [.chain] s t)) ∧
    (coreOn s = true → (linkOf s d).st = 1 → 64 ≤ (linkOf s d).aligned → (linkOf s d).rxok = true →
      s.chain.posValid = true → (linkOf s d).held = false → linkDriven s d = true →
      ∃ t, exec (.linkUp d) s = .next t ∧ (linkOf t d).st = 2 ∧
        (Registers.wf s = true → statusBit t srcLinkChange = true) ∧ sameBut [.chain, .regs, .bureau] s t) ∧
    (coreOn s = true → (linkOf s d).st = 1 →
      ∃ t, exec (.linkDown d) s = .next t ∧ (linkOf t d).st = 0 ∧ (linkOf t d).aligned = 0 ∧ sameBut [.chain] s t) ∧
    (coreOn s = true → (linkOf s d).st = 2 → s.chain.remote = [] → s.ports.forwards = [] → s.chain.enum = none →
      ∃ t, exec (.linkDown d) s = .next t ∧ (linkOf t d).st = 0 ∧
        (Registers.wf s = true → statusBit t srcLinkChange = true ∧
          fld (getReg t (linkErr d)) 0 10 = satInc (fld (getReg s (linkErr d)) 0 10) 0x3FF) ∧
        t.chain.sent = s.chain.sent.filter (fun f => decide (f.side ≠ d)) ∧
        t.ports = { s.ports with chainOut := s.ports.chainOut.filter (fun f => decide (f.2.side ≠ d)) } ∧
        sameBut [.chain, .ports, .regs, .bureau] s t)

/-- The pulse outputs: while the block runs, an output in force whose next edge is the start of a pulse, one that has not
started yet, goes high, and the pulse leaves the queue; one whose next edge is the end goes low; the other outputs stay
as they are; an output out of force does nothing. -/
def Obligations.PulsesStartAndEnd : Prop :=
  ∀ (x : Fin 4) (s : State),
    (running s = true → cfOn s x.val = true → s.energy.cf.length = 4 →
      (∀ i, cfNext s (cfGet s x.val) = .start i → (cfGet s x.val).lastStart ≠ some i →
        ∃ t, exec (.cfPulseStart x) s = .next t ∧ (cfGet t x.val).high = true ∧ (cfGet t x.val).lastStart = some i ∧
          (cfGet t x.val).queue = (cfGet s x.val).queue.tail ∧
          (∀ y, y ≠ x.val → cfGet t y = cfGet s y) ∧ sameBut [.energy] s t) ∧
      (cfNext s (cfGet s x.val) = .ends →
        ∃ t, exec (.cfPulseEnd x) s = .next t ∧ (cfGet t x.val).high = false ∧
          (∀ y, y ≠ x.val → cfGet t y = cfGet s y) ∧ sameBut [.energy] s t)) ∧
    (cfOn s x.val = false → exec (.cfPulseStart x) s = .next s ∧ exec (.cfPulseEnd x) s = .next s)

/-! ## The Bureau: 12 -/

/-- An open record closes when its coalescing time is over, and joins the held records where there is room; when the
hour rolls, the counts of the hour return to zero, and the time base goes to the next hour where it has not advanced
yet. What the Bureau programs (outside GASP for a record): a record that verifies leaves the head of the queue for its
slot; one that does not stays at the head and the slot is counted; the first slot of a sector begins the erase of the
next sector; a time-store entry takes its place and the next sequence, a failed one is due again and does not end the
orderly stop; and the erases leave every byte of their sectors 0xFF and every other byte of NVM as it is. -/
def Obligations.BureauClosesAndPrograms : Prop :=
  (∀ s : State,
     let u := runAll s
     (coalesceDue u = true → ∀ r, u.bureau.open_ = some r →
       ∃ t, exec .coalesceTimeout s = .next t ∧ t.bureau.open_ = none ∧ did t .coalesce = true ∧
         (u.bureau.queue.length < 4 → u.bureau.staged = [] → u.bureau.toStage = [] →
           t.bureau.queue = u.bureau.queue ++ [r] ∧ sameBut [.bureau, .seq] u t)) ∧
     (hourRolls u = true → did u .hour = false →
       ∃ t, exec .hourRoll s = .next t ∧ did t .hour = true ∧ t.bureau.opened = List.replicate 32 0 ∧
         t.bureau.suppressed = List.replicate 32 0 ∧
         (did u .timeBase = false → t.bureau.soh = 0 ∧ t.bureau.hours = satInc u.bureau.hours 0xFFFFF))) ∧
  (∀ (k : Nat) (s : State),
     (∀ r rest, s.nvm.op = some (.bureauProg k) → s.bureau.queue = r :: rest → s.seq.st ≠ .gasp →
       (∃ t, exec (.recordProgramDone true) s = .next t ∧ t.bureau.queue = rest ∧ t.bureau.nextSlot = (k + 1) % 1024 ∧
         t.bureau.writing = false ∧ t.nvm.data = sputs erasedByte s.nvm.data (recSlotAt k) (recBytes r) ∧
         (k % 32 = 0 → t.nvm.op = some (.bureauErase ((k / 32 + 1) % 32))) ∧
         (coreOn s = true → Registers.wf s = true → statusBit t srcRecWritten = true) ∧
         (s.ports.held = [] → sameBut [.nvm, .bureau, .regs, .ports, .mem] s t)) ∧
       (∃ t, exec (.recordProgramDone false) s = .next t ∧ t.bureau.queue = r :: rest ∧
         t.bureau.nextSlot = (k + 1) % 1024 ∧
         (Registers.wf s = true → getReg t 0x70E = wd (min (regN s 0x70E + 1) 0xFFFFF)) ∧
         (s.ports.held = [] → sameBut [.nvm, .bureau, .regs, .ports] s t))) ∧
     (s.nvm.op = some (.bureauErase k) →
       ∃ t, exec .bureauEraseDone s = .next t ∧ t.bureau.erasing = false ∧
         (s.ports.held = [] → sameBut [.nvm, .bureau, .aon, .ports] s t) ∧
         ∀ i, sget erasedByte t.nvm.data i =
           if recSlotAt (32 * k) ≤ i ∧ i < recSlotAt (32 * k) + 1024 then 0xFF else sget erasedByte s.nvm.data i) ∧
     (∀ b, s.nvm.op = some (.timeProg k b) →
       (∃ t, exec (.timeStoreEntry true) s = .next t ∧ t.bureau.tsNext = (k + 1) % 128 ∧
         t.bureau.tsSeq = (s.bureau.tsSeq + 1) % 1048576 ∧ t.bureau.tsDue = s.bureau.tsDue ∧
         t.nvm.data = sputs erasedByte s.nvm.data (timeAt k) b ∧
         (s.ports.held = [] → sameBut [.nvm, .bureau, .seq, .aon, .ports] s t)) ∧
       (∃ t, exec (.timeStoreEntry false) s = .next t ∧ t.bureau.tsNext = (k + 1) % 128 ∧ t.bureau.tsSeq = s.bureau.tsSeq ∧
         t.bureau.tsDue = s.bureau.tsDue + 1 ∧ t.seq.stopped = s.seq.stopped ∧
         (s.ports.held = [] → sameBut [.nvm, .bureau, .seq, .aon, .ports] s t))) ∧
     (s.nvm.op = some (.timeErase k) →
       ∃ t, exec .timeStoreEraseDone s = .next t ∧ (s.ports.held = [] → sameBut [.nvm, .bureau, .aon, .ports] s t) ∧
         ∀ i, sget erasedByte t.nvm.data i =
           if timeAt (64 * k) ≤ i ∧ i < timeAt (64 * k) + 1024 then 0xFF else sget erasedByte s.nvm.data i))

/-- A record is kept word for word: what is programmed for a record with every field in its range reads back as that
record, and as no other (R262, R263). -/
def Obligations.RecordsReadBack : Prop :=
  ∀ r : BRec, r.code < 1024 → r.sev < 4 → r.rep < 4096 → r.seq < 1048576 → r.soh < 4096 → r.hours < 1048576 →
    r.pcc < 1048576 → r.p0 < 1048576 → r.p1 < 1048576 → r.p2 < 1048576 →
    (recBytes r).length = 32 ∧ parseRec (recBytes r) = some r

/-! ## Tamper monitors, evidence and seal: 13 -/

/-- Loops, cell, glitches, excursions and temperature: a test that finds a normal loop open, a cell taken within 10 ms, a
glitch, an excursion and a second temperature out of range show their condition and, in a class that is enabled, are
counted; a loop's second normal test and a reading 3 °C inside the range clear the condition; an excursion that stands
is not sensed again; a cell that was the only source takes the keys with it, and a qualified one of an armed class
erases them; with PD0 unpowered nothing senses. The comparison of shadows: where every register, the flags and the
history agree with their shadows, nothing happens but the passing of time; flags that disagree are named by AUTH_STATE's
number, 0x208, a history that disagrees by 0xFFF, and the shadow is written anew. -/
def Obligations.TamperSensesAndShadows : Prop :=
  (∀ (l : Bool) (ohms now : Nat) (tc : Int) (s : State), Registers.wf s = true →
     (s.aon.powered = true → loopSelected s l = true →
       (40000 < ohms → (if l then s.aon.loop1 else s.aon.loop0) = 0 → classOn s (b2n l) = true →
         ∃ t, exec (.loopTest l ohms now) s = .next t ∧ (if l then t.aon.loop1 else t.aon.loop0) = 1 ∧
           t.aon.cond.getLsbD (b2n l) = true ∧
           getReg t (0x790 + b2n l) = wd (min (regN s (0x790 + b2n l) + 1) 0xFFFFF) ∧
           sameBut [.regs, .aon, .bureau, .evid, .ports] s t) ∧
       (3000 ≤ ohms → ohms ≤ 30000 → 1 ≤ (if l then s.aon.normal1 else s.aon.normal0) →
         ∃ t, exec (.loopTest l ohms now) s = .next t ∧ (if l then t.aon.loop1 else t.aon.loop0) = 0 ∧
           t.aon.cond.getLsbD (b2n l) = false ∧ t.aon.time = max s.aon.time (now * 125) ∧ sameBut [.aon] s t)) ∧
     (s.aon.powered = true →
       (cellStood (atOsc s now) = false → exec (.cell now) s = .next s) ∧
       (cellStood (atOsc s now) = true →
       ∃ t, exec (.cell now) s = .next t ∧ t.power.vbc = 0 ∧ t.power.vbcFell = none ∧
         sameBut [.power, .regs, .aon, .bureau, .evid, .ports] s t ∧
         (aonSource s.power.vres s.power.vauxValid 0 = .none → t.aon.powered = false ∧ t.aon.key0 = none ∧ t.aon.key1 = none) ∧
         (aonSource s.power.vres s.power.vauxValid 0 ≠ .none → t.aon.cond.getLsbD 2 = true ∧
           (classOn s 2 = true → getReg t 0x792 = wd (min (regN s 0x792 + 1) 0xFFFFF) ∧
             (bitAt (getReg s 0x781) 2 = true → t.aon.key0 = none ∧ t.aon.key1 = none))))) ∧
     (s.aon.powered = true → portsUp s = true →
       (classOn s 3 = true → ∃ t, exec (.glitch now) s = .next t ∧
         getReg t 0x793 = wd (min (regN s 0x793 + 1) 0xFFFFF) ∧ sameBut [.regs, .aon, .bureau, .evid, .ports] s t) ∧
       (s.aon.cond.getLsbD 4 = true → exec (.slow now) s = .next s) ∧
       (s.aon.cond.getLsbD 4 = false →
         ∃ t, exec (.slow now) s = .next t ∧ t.aon.cond.getLsbD 4 = true ∧ t.aon.slowBack = none ∧
           sameBut [.regs, .aon, .bureau, .evid, .ports] s t ∧
           (classOn s 4 = true → getReg t 0x794 = wd (min (regN s 0x794 + 1) 0xFFFFF)))) ∧
     (s.aon.powered = true →
       (s.aon.cond.getLsbD 5 = false → s.aon.tempOut = true → (tc < -45 ∨ 95 < tc) →
         ∃ t, exec (.tempRead tc now) s = .next t ∧ t.aon.cond.getLsbD 5 = true ∧ t.aon.tempC = tc ∧
           sameBut [.regs, .aon, .bureau, .evid, .ports] s t ∧
           (classOn s 5 = true → getReg t 0x795 = wd (min (regN s 0x795 + 1) 0xFFFFF))) ∧
       (s.aon.cond.getLsbD 5 = true → -42 ≤ tc → tc ≤ 92 →
         ∃ t, exec (.tempRead tc now) s = .next t ∧ t.aon.cond.getLsbD 5 = false ∧ t.aon.tempC = tc ∧
           sameBut [.aon] s t)) ∧
     (s.aon.powered = false →
       exec (.loopTest l ohms now) s = .next s ∧ exec (.cell now) s = .next s ∧ exec (.glitch now) s = .next s ∧
       exec (.slow now) s = .next s ∧ exec (.tempRead tc now) s = .next s)) ∧
  (∀ (now : Nat) (s : State), s.aon.powered = true → portsUp s = true →
     (∀ n ∈ shadowed, sget shadowReset s.aon.regShadow n = ~~~(getReg s n)) →
     (s.aon.flagShadow = ~~~(authFlags (atOsc s now)) → s.aon.failShadow = inverse s.aon.fails →
       exec (.shadowCompare now) s = .next (atOsc s now)) ∧
     (s.aon.flagShadow ≠ ~~~(authFlags (atOsc s now)) → s.aon.failShadow = inverse s.aon.fails → Registers.wf s = true →
       ∃ t, exec (.shadowCompare now) s = .next t ∧ getReg t 0x786 = 0x208 ∧ t.aon.flagShadow = ~~~(authFlags t) ∧
         sameBut [.regs, .aon, .bureau, .evid, .ports] s t) ∧
     (s.aon.flagShadow = ~~~(authFlags (atOsc s now)) → s.aon.failShadow ≠ inverse s.aon.fails → Registers.wf s = true →
       ∃ t, exec (.shadowCompare now) s = .next t ∧ getReg t 0x786 = 0xFFF ∧ t.aon.failShadow = inverse t.aon.fails ∧
         sameBut [.regs, .aon, .bureau, .evid, .ports] s t))

/-- Evidence and seal: below slot 254 an entry that verifies takes its slot and leaves the queue, and the chain goes on
from its word; one that does not stays in the queue and is counted; the check of the seal, where one is due, decides
between UNSEALED, SEALED, BROKEN and UNVERIFIED. CFG_SAVE and CAL_SEAL of the host or the maintenance port end, outside
GASP and without NOREPLY: the copy stands as it was captured and becomes the current image, the record stands in its
erased place and the set is SEALED, and the port that waited has its reply. -/
def Obligations.EvidenceSavesAndSeals : Prop :=
  (∀ s : State,
     (∀ k b, s.nvm.op = some (.evidProg k b) → k < 254 →
       (∃ t, exec (.evidenceProgramDone true) s = .next t ∧ t.evid.next = k + 1 ∧
         t.evid.chain = BitVec.ofNat 32 (ofLe (b.drop 12)) ∧ t.aon.evQueue = s.aon.evQueue.drop 1 ∧
         t.nvm.data = sputs erasedByte s.nvm.data (evidAt k) b ∧
         (s.ports.held = [] → sameBut [.nvm, .evid, .regs, .bureau, .aon, .ports] s t)) ∧
       (∃ t, exec (.evidenceProgramDone false) s = .next t ∧ t.evid.next = k + 1 ∧ t.aon.evQueue = s.aon.evQueue ∧
         (Registers.wf s = true → getReg t 0x7A4 = wd (min (regN s 0x7A4 + 1) 0xFFFFF)) ∧
         (s.ports.held = [] → sameBut [.nvm, .evid, .regs, .bureau, .aon, .ports] s t))) ∧
     (s.evid.checkDue = true → portsUp s = true →
       ∃ t, exec .sealCheck s = .next t ∧ t.evid.checkDue = false ∧ sameBut [.evid, .regs, .bureau, .aon] s t ∧
         (newestSeal s = none → t.evid.sealSt = 0) ∧
         (∀ c m, newestSeal s = some (c, m) → t.evid.sealCnt = c ∧
           (s.aon.key1 = none → t.evid.sealSt = 3) ∧
           (∀ k, s.aon.key1 = some k → sealOf s k c = m → t.evid.sealSt = 1) ∧
           (∀ k, s.aon.key1 = some k → sealOf s k c ≠ m → t.evid.sealSt = 2))) ∧
     (s.evid.checkDue = false → exec .sealCheck s = .next s)) ∧
  (∀ (w : Waiting) (s : State), w.land.port ≠ .chain → w.land.noreply = false →
     (∀ copy gen image, s.nvm.op = some (.cfgSave copy gen image w) → s.seq.st ≠ .gasp →
       ∃ t, exec .cfgSaveDone s = .next t ∧ t.seq.image = some (copy, gen) ∧ (portOf t w.land.port).busy = (portOf s w.land.port).busy.erase w ∧
         t.nvm.data = sputs erasedByte
           (sfilter (fun i => decide (i < copyAt copy) || decide (copyAt copy + 8192 ≤ i)) s.nvm.data) (copyAt copy) image ∧
         (∃ r, (portOf t w.land.port).reply = some r ∧ r.status = 0 ∧ r.tag = w.land.tag ∧
           r.fields = [BitVec.ofNat 24 gen, BitVec.ofNat 24 copy]) ∧
         (s.ports.held = [] → sameBut [.nvm, .seq, .bureau, .ports, .regs] s t)) ∧
     (∀ cnt slot b, s.nvm.op = some (.calSeal cnt slot b false w) → s.seq.st ≠ .gasp →
       ∃ t, exec .calSealDone s = .next t ∧ t.evid.sealSt = 1 ∧ t.evid.sealCnt = cnt ∧
         t.nvm.data = sputs erasedByte s.nvm.data (sealAt slot) b ∧
         (∃ r, (portOf t w.land.port).reply = some r ∧ r.status = 0 ∧ r.tag = w.land.tag ∧ r.fields = [BitVec.ofNat 24 cnt]) ∧
         (s.ports.held = [] → sameBut [.nvm, .evid, .aon, .bureau, .ports, .regs] s t)))

/-! ## The Hutch: 14 -/

/-- The rails come up in turn, each only after the one before it, and the panel then starts in CLEARING with frame 0, with
capture memory untouched. A frame begins: in CLEARING and RUN the count goes on, row 0 comes next, the bank decided by
the temperature and the buffers of DISP_CUR and DISP_PREV are taken; frame 2 is the first of RUN. In FALLING the
clearing frame begins with its settings taken in the same way, and the frame start after it begins the discharge. -/
def Obligations.RailsAndFrames : Prop :=
  (∀ s : State, domOn s 10 = true → s.hutch.st = 1 →
     (s.hutch.phase = 0 → ∃ t, exec .pavddOn s = .next t ∧ t.hutch = { s.hutch with phase := 1, pavdd := true } ∧
       sameBut [.hutch] s t) ∧
     (s.hutch.phase = 1 → ∃ t, exec .vglOn s = .next t ∧ t.hutch = { s.hutch with phase := 2, vgl := true } ∧
       sameBut [.hutch] s t) ∧
     (s.hutch.phase = 2 → ∃ t, exec .vghOn s = .next t ∧ t.hutch = { s.hutch with phase := 3, vgh := true } ∧
       sameBut [.hutch] s t) ∧
     (s.hutch.phase = 3 → ∃ t, exec .vcomOn s = .next t ∧ t.hutch = { s.hutch with phase := 4, vcom := true } ∧
       sameBut [.hutch] s t) ∧
     (s.hutch.phase = 4 → ∃ t, exec .panelStart s = .next t ∧ t.hutch.st = 2 ∧ t.hutch.frame = 0 ∧ t.hutch.row = 0 ∧
       t.hutch.xdis = true ∧ t.hutch.bank = s.hutch.bankNext ∧ sameBut [.hutch, .mem, .chain, .regs, .bureau] s t ∧ t.mem.data = s.mem.data) ∧
     (s.hutch.phase ≠ 0 → exec .pavddOn s = .next s) ∧ (s.hutch.phase ≠ 1 → exec .vglOn s = .next s) ∧
     (s.hutch.phase ≠ 2 → exec .vghOn s = .next s) ∧ (s.hutch.phase ≠ 3 → exec .vcomOn s = .next s) ∧
     (s.hutch.phase ≠ 4 → exec .panelStart s = .next s)) ∧
  (∀ s : State, domOn s 10 = true →
     (s.hutch.st = 3 →
       ∃ t, exec .frameStart s = .next t ∧ t.hutch.st = 3 ∧ t.hutch.frame = s.hutch.frame + 1 ∧ t.hutch.row = 0 ∧
         t.hutch.bank = s.hutch.bankNext ∧ t.hutch.bufCur = getReg s 0x806 ∧ t.hutch.bufPrev = getReg s 0x807 ∧
         sameBut [.hutch, .mem, .chain, .regs, .bureau] s t) ∧
     (s.hutch.st = 2 →
       ∃ t, exec .frameStart s = .next t ∧ t.hutch.frame = s.hutch.frame + 1 ∧ t.hutch.row = 0 ∧
         t.hutch.bank = s.hutch.bankNext ∧ t.hutch.bufCur = getReg s 0x806 ∧ t.hutch.bufPrev = getReg s 0x807 ∧
         t.hutch.st = (if s.hutch.frame = 1 then 3 else 2) ∧
         sameBut [.hutch, .mem, .chain, .regs, .bureau] s t) ∧
     (s.hutch.st = 4 → s.hutch.discharging = false → s.hutch.clearing = false →
       ∃ t, exec .frameStart s = .next t ∧ t.hutch.st = 4 ∧ t.hutch.clearing = true ∧ t.hutch.discharging = false ∧
         t.hutch.frame = s.hutch.frame + 1 ∧ t.hutch.row = 0 ∧ t.hutch.bank = s.hutch.bankNext ∧
         t.hutch.bufCur = getReg s 0x806 ∧ t.hutch.bufPrev = getReg s 0x807 ∧
         sameBut [.hutch, .mem, .chain, .regs, .bureau] s t) ∧
     (s.hutch.st = 4 → s.hutch.discharging = false → s.hutch.clearing = true →
       ∃ t, exec .frameStart s = .next t ∧ t.hutch.discharging = true ∧ t.hutch.vcom = false ∧ t.hutch.xdis = false ∧
         sameBut [.hutch, .mem, .chain, .power, .regs, .bureau] s t))

/-- Rows and rectangle copies, with no row before still being read: a row of CLEARING is driven with CLR_LVL throughout; a
row of RUN raises the request of requester 2, and a step of the copy of the rectangle accepted first that of requester
3, and each goes on where its requester is the one to be granted next; after the last active row nothing is driven, and
with no rectangle to copy nothing happens. -/
def Obligations.RowsAndCopies : Prop :=
  ∀ s : State, boardUp s = true → domOn s 10 = true → requesting s 2 = false → engineAway s 2 = false →
    (s.hutch.st = 2 → s.hutch.row < heightOf s.hutch.size →
      ∃ t, exec .rowRefresh s = .next t ∧ t.hutch.row = s.hutch.row + 1 ∧
        t.hutch.levels = List.replicate (widthOf s.hutch.size) (clrLevel s.hutch) ∧ sameBut [.hutch] s t) ∧
    (s.hutch.st = 3 → s.hutch.row < heightOf s.hutch.size →
      exec .rowRefresh s = .next (serveIf (raiseReq s 2 .row) 2)) ∧
    (heightOf s.hutch.size ≤ s.hutch.row → exec .rowRefresh s = .next s) ∧
    (s.hutch.st = 3 → requesting s 3 = true → exec .rectCopyStep s = .next (serveIf s 3)) ∧
    (s.hutch.st = 3 → requesting s 3 = false → s.hutch.copying = none → ∀ i, copySlot s.hutch = some i →
      exec .rectCopyStep s =
        .next (serveIf (raiseReq { s with hutch := { s.hutch with copying := some i } } 3 .rect) 3)) ∧
    (s.hutch.st = 3 → requesting s 3 = false → s.hutch.copying = none → copySlot s.hutch = none →
      exec .rectCopyStep s = .next s)

/-- What ends the panel: a rail that is up and leaves its good range in RUN starts the discharge with cause 7, one outside
it in the power-up a discharge with its own cause; a crack (2 kΩ or more) in RUN starts the orderly power-off with cause
5; a crack at power-up is a fault at once; the pumps stop, and the discharge ends in OFF, or in FAULT with its cause, and
in GASP its stage ends. The frontlight is on from the first period after its grant. The panel temperature, where it is
the sensor's, decides the bank of the next frame: up as soon as a threshold is reached, down only 2 degrees below it. -/
def Obligations.PanelsGoDownAndLight : Prop :=
  (∀ (rail : Fin 4) (mv : Int) (ohms : Nat) (s : State), domOn s 10 = true →
     (railGood s.hutch rail.val mv = true → exec (.railFault ⟨rail, mv⟩) s = .next s) ∧
     (railGood s.hutch rail.val mv = false →
       s.hutch.pavdd = true → s.hutch.vgl = true → s.hutch.vgh = true → s.hutch.vcom = true →
       (s.hutch.st = 3 →
         ∃ t, exec (.railFault ⟨rail, mv⟩) s = .next t ∧ t.hutch.st = 6 ∧ t.hutch.after = 7 ∧ t.hutch.discharging = true ∧
           t.hutch.vcom = false ∧ t.hutch.flReq = false ∧ t.power.granted.getLsbD 8 = false ∧
           sameBut [.hutch, .mem, .chain, .power, .regs, .bureau] s t) ∧
       (s.hutch.st = 1 →
         ∃ t, exec (.railFault ⟨rail, mv⟩) s = .next t ∧ t.hutch.st = 6 ∧ t.hutch.after = rail.val + 1 ∧
           t.hutch.discharging = true ∧ t.hutch.vcom = false ∧
           sameBut [.hutch, .mem, .chain, .power, .regs, .bureau] s t)) ∧
     (s.hutch.st = 3 →
       (2000 ≤ ohms → ∃ t, exec (.crackTest ohms) s = .next t ∧ t.hutch.st = 4 ∧ t.hutch.crack = true ∧ t.hutch.after = 5 ∧
         t.hutch.discharging = false ∧ sameBut [.hutch, .mem, .chain, .power, .regs, .bureau] s t) ∧
       (ohms < 2000 →
         ∃ t, exec (.crackTest ohms) s = .next t ∧ t.hutch = { s.hutch with crack := false } ∧ sameBut [.hutch] s t)) ∧
     (s.hutch.st = 1 → s.hutch.phase = 0 →
       (2000 ≤ ohms → ∃ t, exec (.crackTest ohms) s = .next t ∧ t.hutch.st = 5 ∧ t.hutch.cause = 5 ∧ t.hutch.crack = true ∧
         (coreOn s = true → Registers.wf s = true → statusBit t srcDispFault = true) ∧
         sameBut [.hutch, .regs, .bureau] s t) ∧
       (ohms < 2000 →
         ∃ t, exec (.crackTest ohms) s = .next t ∧ t.hutch = { s.hutch with crack := false } ∧ sameBut [.hutch] s t)) ∧
     (s.hutch.discharging = true →
       (∃ t, exec .discharge s = .next t ∧ t.hutch = { s.hutch with pavdd := false, vgl := false, vgh := false } ∧
         sameBut [.hutch] s t) ∧
       (∃ t, exec .dischargeEnd s = .next t ∧ t.hutch.discharging = false ∧ t.hutch.vcom = false ∧
         t.hutch.st = (if s.hutch.after = 0 then 0 else 5) ∧ (s.hutch.after ≠ 0 → t.hutch.cause = s.hutch.after) ∧
         (s.seq.st = .gasp → s.power.gaspPanelStarted = true → t.power.gaspPanelEnded = true) ∧
         sameBut [.hutch, .regs, .bureau, .power, .aon] s t)) ∧
     (s.hutch.discharging = false → exec .discharge s = .next s ∧ exec .dischargeEnd s = .next s)) ∧
  (∀ (tc : Int) (s : State), coreOn s = true →
     (s.hutch.flReq = true → s.power.granted.getLsbD 8 = true →
       ∃ t, exec .flOn s = .next t ∧ t.hutch = { s.hutch with flOn := true } ∧ sameBut [.hutch] s t) ∧
     ((s.hutch.flReq = false ∨ s.power.granted.getLsbD 8 = false) → exec .flOn s = .next s) ∧
     (domOn s 10 = true → bitAt (getReg s 0x808) 4 = false →
       ∃ t, exec (.dispTempRead tc) s = .next t ∧ t.hutch.temp = tc ∧ sameBut [.hutch] s t ∧
         (s.hutch.bank < tCount s tc → t.hutch.bankNext = tCount s tc) ∧
         (tCount s tc ≤ s.hutch.bank → s.hutch.bank ≤ tCount s (tc + 2) → t.hutch.bankNext = s.hutch.bank) ∧
         (tCount s (tc + 2) < s.hutch.bank → t.hutch.bankNext = tCount s (tc + 2))) ∧
     (domOn s 10 = false → exec (.dispTempRead tc) s = .next s))

/-! ## The machine as a whole -/

/-- The machine right after reset (00 R8, 03 R53, 18 R375): COLD begins, every register reads its reset value (the
value of the index, or the model's choice where it gives none, log entry 1), no key is installed, capture memory reads
zero, every table is in its canonical form and nothing waits. -/
def Obligations.ResetState : Prop :=
  State.reset.seq.st = .cold ∧ State.reset.seq.tick = 0 ∧ State.reset.pending = [] ∧
  (∀ n, getReg State.reset n = regReset n) ∧ (∀ n, forceReg State.reset n = regReset n) ∧
  State.reset.aon.key0 = none ∧ State.reset.aon.key1 = none ∧ State.reset.power.granted = 0 ∧
  (∀ i, lineBytes State.reset i = List.replicate 16 0) ∧ Tables.wf State.reset = true

/-- Every step keeps the canonical form: where every table of the memories (capture memory, tags, NVM, overdrive table, FIR
banks) and of the registers (stored, retained, in force, snapshot) lists its entries in rising order and none that
equals what an unlisted key reads as, so does every such table of the next state. -/
def Obligations.StepsKeepTables : Prop :=
  ∀ s t : State, Tables.wf s = true → step s = .next t → Tables.wf t = true

/-- NOREPLY suppresses a reply whose status is OK; a reply with any other status is always sent (04 R91): on the host
and maintenance ports it stands in the port's buffer, on the CHAIN port it leaves by the link its packet came by, at once
where no packet is being executed, and otherwise when it is ready. -/
def Obligations.NoreplySuppressesOk : Prop :=
  ∀ (p : PortId) (tag : Byte) (noreply : Bool) (status : Nat) (fs : List Field) (c k : Nat) (s : State),
    let t := answerAt s p tag noreply status fs c k
    (noreply = true → status = 0 → (portOf t p).reply = (portOf s p).reply ∧ t.chain = s.chain) ∧
    ((noreply = false ∨ status ≠ 0) →
      ∃ r, (portOf t p).reply = some r ∧ r.tag = tag ∧ r.status = status ∧ r.fields = fs ∧
        (p = .chain → ∀ d q g, s.ports.chainFrom = some (d, q, g) →
          let f : TxFrame := { side := d, type := 2, dest := q, src := ownPos s, ltag := g, payload := replyBytes r }
          ((portOf s p).due = none → (linkOf s d).st = 2 → t.chain.sent = s.chain.sent ++ [f]) ∧
          ((portOf s p).due ≠ none → t.ports.chainOut = s.ports.chainOut ++ [(c + k, f)])))

/-- A translation keeps to its segment (11 R237, R239): the address found comes from the lowest-numbered enabled
segment that contains the first byte, which contains the last one too and grants the right asked for; the local range
does not wrap, and the place within the line is kept. -/
def Obligations.TranslationKeepsToItsSegment : Prop :=
  ∀ (s : State) (c va vz : Nat) (k : AccKind) (chip : BitVec 2) (pa g : Nat), va ≤ vz →
    translate s c k va vz = .at_ chip pa g →
    g < 4 ∧ segEn s c g = true ∧ segHas s c g (va / 16) = true ∧ segHas s c g (vz / 16) = true ∧
    (seg s c g 3).testBit (1 + kindCode k) = true ∧
    (∀ h, h < g → (segEn s c h && segHas s c h (va / 16)) = false) ∧
    pa + (vz - va) ≤ 0xFFFFFF ∧ pa % 16 = va % 16 ∧ pa = seg s c g 2 * 16 + (va - seg s c g 0 * 16)

/-- A packet says what it stands for (04 R77 to R82, R86 to R88, R104): the bytes written for an opcode row with
operands in their ranges, for any position and with a MAC or none, have a CRC that passes and are read as the same
packet; and that packet, where its parameters pass step 5, asks for exactly the operation that the row is. -/
def Obligations.PacketsSayWhatTheyMean : Prop :=
  ∀ (i : Instr) (pos : BitVec 2) (mac : List Byte) (k : Packet) (l : Land) (op : Byte) (ps : List Field) (s : State),
    i.wellFormed = true → opcodeParams i = some (l, op, ps) → commandPacket pos mac i = some k →
    (mac = [] ∨ mac.length = 8) →
    parsePacket (packetBytes k) = k ∧ crcPasses (packetBytes k) = true ∧
    (packetBytes k).length = packetLen (lenOf (packetBytes k)) k.flags ∧ assignedOpc k.opc.toNat = true ∧
    macFlag k.flags = !mac.isEmpty ∧ BitVec.ofNat 2 (bitsOf k.flags.toNat 4 2) = pos ∧
    (stepFive s i = true →
      ∃ n f, packetAct s l.port k (commandNonce i) = some (n, f) ∧ exec i s = .next (opcodeRow s l n f))

/-- Every row completes (00, 02 to 15): each of the commands named here answers a next state with its own effect, under
conditions on the state and the operands alone: the port takes the packet, the unit is at work, and what the row ends is
under way. (RD, SNAP, CONVERT_NOW, the actions of STOOL_CTRL, REC_CLEAR and REC_MARK: statements O3, O8 and O9. Opcode rows land as log entries 2 and 25 choose.) -/
def Obligations.RowsComplete : Prop :=
  -- opcode rows: 04
  (∀ (l : Land) (s : State), takes s l.port = true → l.noreply = false →
    let u := landState s l.port
    Completes (.nop l) s (fun t => replied t l stOk) ∧
    (∀ g, Completes (.commit l g) s (fun t => replied t l stOk ∧ t.seq.commitMask = u.seq.commitMask ||| g)) ∧
    (∀ n v, regsOk [n] = true → Completes (.wr l 0 [(n, v)]) s (fun t =>
      replied t l stOk ∧ getReg t n.toNat = getReg (writeReg u l.port n.toNat v) n.toNat)) ∧
    (∀ n a o, regsOk [n] = true → Completes (.rmw l 0 [(n, a, o)]) s (fun t => replied t l stOk)) ∧
    (∀ (va : BitVec 24) (n : Nat) (d : List Byte) (x y : BitVec 32) (i : Instr) (k : AccKind) (m pa g c : Nat),
      (i = .memRd l va n ∧ k = .read ∧ m = n ∧ 1 ≤ n ∧ n ≤ 240) ∨
      (i = .memWr l va d ∧ k = .write ∧ m = d.length ∧ sizeOk d 234 = true) ∨
      (va.toNat % 4 = 0 ∧ m = 4 ∧ ((i = .fetchAdd l va x ∧ k = .fetchAdd) ∨ (i = .swap l va x ∧ k = .swap) ∨
        (i = .cmpSwap l va x y ∧ k = .cmpSwap))) →
      let v := (lookupTime u (portReq l.port) (va.toNat / 16)).1
      translate v (portReq l.port) k va.toNat (va.toNat + m - 1) = .at_ (ownPos v) pa g →
      mapCheck k pa m = (some .capture, c) → requesting v (portReq l.port) = false →
      Completes i s (fun t => (∃ w ∈ (portOf t l.port).busy, w.land = l) ∧ requesting t (portReq l.port) = true)) ∧
    (∀ x0 y0 w h i, rectOk u x0 y0 w h = true → u.hutch.st = 3 → domOn u 10 = true →
      (upto 4).find? (fun k => (rectAt u.hutch k).st == 0) = some i → u.hutch.rects.length = 4 →
      Completes (.dispRect l x0 y0 w h) s (fun t => (rectAt t.hutch i).st = 1 ∧ (rectAt t.hutch i).x0 = x0 ∧
        (replied t l stOk ∨ replied t l stRectWait))) ∧
    (∀ fs, blinkOk u (fs.map (·.toNat)) = true → u.hutch.blinkWait.length = 4 →
      (nth u.hutch.blinkWait (nth (fs.map (·.toNat)) 0 0 % 4) none).isSome = false →
      Completes (.dispBlink l fs) s (fun t => replied t l stOk ∧
        (nth t.hutch.blinkWait (nth (fs.map (·.toNat)) 0 0 % 4) none).isSome = true)) ∧
    (domOn u 10 = true → u.hutch.st = 0 → storedTimingOk u = true →
      Completes (.dispPowerUp l) s (fun t => replied t l stOk ∧ t.hutch.st = 1)) ∧
    (u.hutch.st = 2 ∨ u.hutch.st = 3 → Completes (.dispPowerDown l) s (fun t => replied t l stOk ∧ t.hutch.st = 4)) ∧
    Completes (.authChal l) s (fun t => replied t l stOk ∧
      ∃ n, (portOf t l.port).nonce = some n ∧ n.issued = u.aon.time) ∧
    (∀ slot b nonce old, keySlot u slot = some old → keyBytesOk b = true →
      (b >>> 16).setWidth 128 ^^^ keyMask old nonce ≠ 0 →
      Completes (.keyLoad l slot b nonce) s (fun t => replied t l stOk ∧
        ∃ c, (c, slot, (b >>> 16).setWidth 128 ^^^ keyMask old nonce) ∈ t.ports.keysDue)) ∧
    (nvmBusy u = false → u.seq.stopping = false →
      Completes (.cfgSave l) s (fun t => (∃ w ∈ (portOf t l.port).busy, w.land = l) ∧
        t.nvm.waiting.length = u.nvm.waiting.length + 1) ∧
      Completes (.calSeal l) s (fun t => (∃ w ∈ (portOf t l.port).busy, w.land = l) ∧
        t.nvm.waiting.length = u.nvm.waiting.length + 1)) ∧
    (∀ (q : BitVec 4) v, q.toNat ≤ 11 → u.seq.item ≤ 9 → Registers.wf u = true →
      Completes (.energyPreset l q v) s (fun t => replied t l stOk ∧
        getWide t (energyReg q.toNat (bitAt (getReg u 0x40C) 1)) = v.toNat)) ∧
    (u.chain.enum = none → ownPos u = 0 → u.chain.up.st ≠ 2 → u.chain.dn.st ≠ 2 →
      Completes (.chainEnum l) s (fun t => replied t l stOk)) ∧
    Completes (.resetSoft l 0x0A55A) s (fun t => replied t l stOk ∧ t.seq.resetReq = true)) ∧
  -- register writes: 00, 02, 03, 08 to 14
  (∀ (p : PortId) (v : Word) (s : State), portsUp s = true → Registers.wf s = true →
    Completes (.halt p) s (fun t => t.seq.haltReq = true) ∧ Completes (.go p) s (fun t => t.seq.goReq = true) ∧
    (s.seq.stopping = false → Completes (.saveNow p) s (fun t => t.energy.saveReq = true)) ∧
    Completes (.arm p) s (fun t => t.cap.armReq = true) ∧ Completes (.force p) s (fun t => t.cap.forceReq = true) ∧
    Completes (.stop p) s (fun t => t.cap.stopReq = true ∧ t.cap.armReq = false) ∧
    (∀ on, Registers.wf (memTo s (s.seq.cycle + 1)) = true →
      Completes (.freeze p on) s (fun t => bitAt (getReg t 0x620) 0 = on ∧ t.mem.drained = on)) ∧
    Completes (.wakeCtrl p v) s (fun t => getReg t 0x196 &&& 0xFFFF = v &&& 0xFFFF ∧ getReg t 0x197 = getReg t 0x196) ∧
    Completes (.recCursor p v) s (fun t => (portOf t p).cursor = v) ∧
    Completes (.lowResSel p v) s (fun t => getReg t 0x10A &&& 0x1F1 = v &&& 0x1F1) ∧
    Completes (.pwrCeil p v) s (fun t => getReg t 0x113 = if v.toNat < 0x80 then 0x80 else v) ∧
    Completes (.domainReq p v) s (fun t => getReg t 0x108 &&& 0xFFF = (v ||| 0xA07) &&& 0xFFF) ∧
    Completes (.procStart p v) s (fun t => getReg t 0x300 &&& 0x1FF = v &&& 0x1FF) ∧
    (∀ a, Completes (.tampCfg p a v) s (fun t => getReg t (if a then 0x781 else 0x780) &&& 0x7F = v &&& 0x7F)) ∧
    (∀ (k : BitVec 12) r, sealedSet.contains k.toNat = true → regRow k.toNat = some r →
      Completes (.sealedRegisterWrite p k v) s (fun t => getReg t k.toNat = merged r k.toNat (getReg s k.toNat) v)) ∧
    Completes (.recStageCfg p v) s (fun t => t.bureau.stageFault = false) ∧
    (bitAt v 16 = true → s.hutch.st = 3 → s.hutch.flReq = false →
      Completes (.flEn p v) s (fun t => t.hutch.flReq = true ∧ t.hutch.flDuty = fld v 8 8)) ∧
    (s.chain.up.st = 0 → s.chain.dn.st = 0 →
      Completes (.chainCtrl p v) s (fun t => getReg t 0x690 &&& 3 = v &&& 3)) ∧
    (s.power.vauxValid = true → bitAt v 1 = true →
      Completes (.auxCtrl p v) s (fun t => t.power.loadAux = true ∧ getReg t 0x116 &&& 0x33 = v &&& 0x33)) ∧
    (∀ (n : BitVec 12) r, regRow n.toNat = some r → quietWrite n.toNat = true →
      Completes (.registerWrite p n v) s (fun t => ∀ i, i < 20 → r.rw.testBit i = true →
        bitAt (getReg t n.toNat) i = bitAt (adjust n.toNat v) i))) ∧
  -- ports and the chain: 04, 11
  (∀ (cyc n now : Nat) (b : List Byte) (chars : List (BitVec 144)) (stops : List (BitVec 16)) (f : RxFrame) (p : PortId) (s : State),
    (let u := portsBy s cyc
     let r := passedCrc u .host
     let k := parsePacket b
     portsUp u = true → portExec u .host = false → wholePacket b = true → checksPass r .host k = true → authSlot r k = none →
       Completes (.hostPacketWrite cyc b) s (fun t => ∃ e, (portOf t .host).exec = some e ∧ e.pkt = k ∧ e.wait = 1)) ∧
    (let u := portsBy s cyc
     let d := unescape (chars.map uartByte)
     let r := passedCrc (delimiterAt u cyc) .maint
     let k := parsePacket d
     mrxOn u = true → stops.any uartBadStop = false → chars ≠ [] → d.length ≤ 254 → portExec u .maint = false →
       wholePacket d = true → d.length = packetLen (lenOf d) (nth d 3 0) → checksPass r .maint k = true → authSlot r k = none →
       Completes (.maintFrame cyc chars stops) s (fun t => ∃ e, (portOf t .maint).exec = some e ∧ e.pkt = k ∧ e.wait = 1)) ∧
    (mrxOn s = true → Completes .maintGapTimeout s (fun t => t = portLost s .maint)) ∧
    (receives s f.side = true → f.crcOk = true → f.dest ≠ ownPos s → linkReady s (sideTo s f.dest) = true →
      ∀ (i : Instr) (type : Nat), (i = .pktFrame cyc f ∧ type = 1) ∨ (i = .rplFrame f ∧ type = 2) ∨ (i = .mrqFrame f ∧ type = 3) ∨
        (i = .mrsFrame f ∧ type = 4) ∨ (i = .enumRspFrame f ∧ type = 6) →
      Completes i s (fun t => t.chain.sent = s.chain.sent ++ [{ side := sideTo s f.dest, type := type, dest := f.dest
                                                                src := f.src, ltag := f.ltag, payload := f.payload }])) ∧
    (receives s f.side = true → f.crcOk = true →
      Completes (.enumFrame f) s (fun t => ∃ x ∈ t.chain.sent, x.side = f.side ∧ x.type = 6 ∧ x.dest = f.src ∧ x.ltag = f.ltag)) ∧
    (∀ w, s.ports.forwards.find? (fun v => v.port == p && v.ticks == 0) = some w →
      Completes (.forwardTimeout p) s (fun t => ∃ r, (portOf t p).reply = some r ∧ r.tag = w.tag ∧ r.status = stTimeout)) ∧
    (∀ r, (replyReady s .host).ports.host.reply = some r → portsListen (replyReady s .host) = true → (replyBytes r).length ≤ n →
      Completes (.replyRead n) s (fun t => (portOf t .host).reply = none)) ∧
    (∀ e, portsUp s = true → p ≠ .chain → (portOf s p).exec = some e → refusalDue e = true →
      Completes (.deniedReply p) s (fun t => (portOf t p).exec = none ∧
        ∃ r, (portOf t p).reply = some r ∧ r.tag = e.pkt.tag ∧ r.status = stDenied)) ∧
    (∀ x, (portOf s p).nonce = some x → x.issued + 60 * 4096000 ≤ max s.aon.time (now * 125) →
      Completes (.nonceStale p now) s (fun t => (portOf t p).nonce = none)) ∧
    (∀ x, s.aon.lockUntil = some x → x ≤ max s.aon.time (now * 125) →
      Completes (.authLockEnd now) s (fun t => t.aon.lockUntil = none)) ∧
    (maintReady s (tickClock s) = true → Completes .maintReplyTransmit s (fun t => t.ports.sending = true)) ∧
    (s.ports.sending = true → Completes .maintReplySent s (fun t => t.ports.sending = false ∧ (portOf t .maint).reply = none)) ∧
    (∀ k, s.ports.idleUnits = some k → 500 * (msClock : Int) ≤ k + tickClock s → s.ports.maint.reply = none →
      Completes .mtxRelease s (fun t => t.ports.mtxReq = false)) ∧
    (mrqDue s = true → Completes .mrqService s (fun t => t = serveIf (takeMrq s) 6)) ∧
    (∀ q, s.chain.remote.find? (fun q => q.retry) = some q → (linkOf s q.side).st = 2 →
      Completes .mrqBusyRetry s (fun t => ∃ x ∈ t.chain.sent, x.type = 3 ∧ x.dest = q.chip ∧ x.ltag = q.ltag)) ∧
    (∀ q, s.chain.remote.find? (fun q => q.ticks == 0) = some q →
      Completes .remoteTimeout s (fun t => t = endRemote s q stTimeout 0 [])) ∧
    (∀ e, s.chain.enum = some e → e.ticks = 0 →
      Completes .enumTimeout s (fun t => t.chain.enum = none ∧ ∃ r, (portOf t e.wait.land.port).reply = some r ∧ r.status = 12)) ∧
    (∀ wired, domOn s 11 = true → s.chain.wiringDone = false →
      Completes (.wiringTest wired) s (fun t => t.chain.wiringDone = true ∧ t.chain.wired = wired)) ∧
    (∀ d (x : Byte), domOn s 11 = true → s.seq.st ≠ .gasp → bitsOf x.toNat 5 3 = 5 → x.toNat % 2 = 0 → x.getLsbD 4 = false →
      (linkOf s d).st ≠ 2 → Completes (.idleByte d x) s (fun t => (linkOf t d).aligned = satInc (linkOf s d).aligned 64)) ∧
    (∀ d, coreOn s = true → (linkOf s d).st = 1 → 64 ≤ (linkOf s d).aligned → (linkOf s d).rxok = true →
      s.chain.posValid = true → (linkOf s d).held = false → linkDriven s d = true →
      Completes (.linkUp d) s (fun t => (linkOf t d).st = 2)) ∧
    (∀ d, coreOn s = true → (linkOf s d).st = 1 → Completes (.linkDown d) s (fun t => (linkOf t d).st = 0))) ∧
  -- power: 02
  (∀ (mv vaux vbc : Nat) (d : Fin 12) (s : State),
    (s.power.pd1 = false → 3000 ≤ mv → Completes (.pd1Start mv vaux) s (fun t => t.power.pd1 = true ∧ domOn t 1 = true)) ∧
    (s.power.pd1 = true → coreOn s = false → s.power.coldStarting = false → 3600 ≤ mv →
      Completes (.coldStart mv) s (fun t => t.power.coldStarting = true)) ∧
    (s.power.coldStarting = true → s.power.testHold = false →
      Completes (.coreResetRelease false) s (fun t => t.seq.st = .cold ∧ t.power.coldStarting = false)) ∧
    (s.power.pd1 = true → mv < 2900 → coreOn s = true → s.seq.st ≠ .gasp → s.power.loadAux = false →
      Completes (.pfail mv) s (fun t => t.seq.st = .gasp)) ∧
    (s.power.pd1 = true → mv < 2500 → s.power.loadAux = false →
      Completes (.hardOff mv) s (fun t => t.seq.st = .off ∧ t.power.on = 1)) ∧
    Completes .allSourcesLost s (fun t => t.seq.st = .off ∧ t.aon.powered = false) ∧
    (s.power.pd1 = true → s.power.shunt = false → 5500 ≤ mv → Completes (.shuntOn mv) s (fun t => t.power.shunt = true)) ∧
    (s.power.pd1 = true → s.power.belowLow = false → mv < lowResMv s →
      Completes (.lowRes mv) s (fun t => t.power.belowLow = true)) ∧
    (s.power.pd1 = true → s.power.autoReq = true → lowResMv s + 200 ≤ mv →
      Completes (.autoSettleFullRequest mv) s (fun t => t.power.autoReq = false)) ∧
    (s.power.pd1 = true → s.power.vauxValid = false → 4300 ≤ vaux →
      Completes (.vauxUp vaux) s (fun t => t.power.vauxValid = true)) ∧
    (s.power.vauxValid = true → 2900 ≤ mv → Completes (.vauxDown mv) s (fun t => t.power.vauxValid = false)) ∧
    (s.power.vbcOk = true → vbc < 2200 → Completes (.vbcLow vbc) s (fun t => t.power.vbcOk = false)) ∧
    (coreOn s = true → s.seq.st ≠ .gasp → (∃ c, 4 ≤ c ∧ c ≤ 9 ∧ mv + 200 < floorOf (setVres s mv) c ∧ s.power.granted.getLsbD c = true) →
      Completes (.floorRevoke mv) s (fun t => t = grantEffects s.power.granted (revokeFloors (setVres s mv)))) ∧
    (s.power.ramping.getLsbD d.val = true → Completes (.domainRampEnd d) s (fun t => domOn t d.val = true)) ∧
    (s.aon.powered = false → Completes .pd0PowerUp s (fun t => t.aon.powered = true)) ∧
    Completes (.aonSourceChange mv vbc) s (fun t => t.power.vres = mv ∧ t.power.vbc = vbc) ∧
    (s.seq.st = .gasp → s.nvm.op = none →
      (∀ r, s.power.gaspBureauEnded = false → s.bureau.open_ = some r → recSlotBlank s s.bureau.nextSlot = true →
        Completes .gaspBureauClose s (fun t => t.power.gaspBureauEnded = true ∧ t.bureau.open_ = none)) ∧
      (s.power.gaspBureauEnded = true → s.power.gaspEnergyEnded = false → s.energy.restored = true →
        nvmBlank s (energySlotAt s.energy.nextSlot) 256 = true →
        Completes .gaspEnergySave s (fun t => t.power.gaspEnergyEnded = true ∧ t.energy.slot = s.energy.nextSlot)) ∧
      (s.power.gaspPanelStarted = false → s.power.gaspPanelEnded = false → panelLive s = false →
        Completes .gaspPanelDischarge s (fun t => t.power.gaspPanelEnded = true)) ∧
      (s.power.gaspBureauEnded = true → s.power.gaspEnergyEnded = true → s.power.gaspPanelEnded = true →
        Completes (.gaspEnd mv) s (fun t => t.seq.st = .off ∧ t.power.on = 3)))) ∧
  -- the sequencer: 03
  (∀ (e : TickIn) (s : State),
    (s.seq.st ≠ .off → s.seq.st ≠ .gasp → did s .entered = false → (endTick s e).seq.st ≠ .load →
      let a := endTick s e
      let c := stateStep (countStep (sealedCompare (compareStep (snapshotStep (domainStep (grantStep (modeStep (commitStep a))))))))
      Completes (.tickBoundary e) s (fun t => t = newTick a (running c && !running a) (a.seq.commitMask.getLsbD 2) c)) ∧
    (s.seq.st = .cold → s.seq.stateTicks = 15 → did s .entered = false → trimValid s = true →
      Completes .coldEnd s (fun t => t.seq.st = .load)) ∧
    (s.seq.st = .load → did s .entered = false → s.seq.resetReq = false → loadFalls s = false → (loadSteps s).seq.loaded ≠ 0 →
      Completes .loadEnd s (fun t => t.seq.st = if t.power.settle then .settle else .run)) ∧
    (s.seq.st = .hold → s.seq.holdRestore = true → did s .entered = false →
      Completes .holdRestore s (fun t => t.seq.holdRestore = false)) ∧
    (s.seq.resetReq = true → running s = true → s.seq.stopping = false →
      Completes .orderlyStop s (fun t => t.seq.stopping = true ∧ t.bureau.open_ = none)) ∧
    (resetReady s = true → Completes .softResetApply s (fun t => t.seq.st = .cold ∧ t.seq.soft = true)) ∧
    (coreOn s = true → s.seq.st ≠ .gasp → Registers.wf s = true → ∀ k, k < 4 →
      pairDiffers (middleSteps (runAll s)) k = true → 4 ≤ nth s.seq.mism k 0 →
      Completes .cfgMismatch s (fun t => bitAt (getReg t 0x193) k = true)) ∧
    (running s = true → s.bureau.units + tickUnits s ≥ 8000 → did s .timeBase = false → did s .wake = false →
      getReg s 0x197 = 1 → Registers.wf s = true → Completes .wake s (fun t => statusBit t srcWake = true))) ∧
  -- line, cycles, harmonics, energy, pulses: 08, 09
  (∀ (x : Fin 4) (s : State),
    (running s = true → s.seq.item = 4 → (schedNow s).w ≠ 0 → s.line.itemOn = true → s.line.enter = false →
      (inSched s (refStream s) = true → s.line.refOn = true) → rawCrossing s = none →
      (s.line.st = 1 → s.line.exp ≤ s.line.clk → did s .flywheel = false →
        Completes .flywheelCrossing s (fun t => t.line.st = 2 ∧ t.line.last = s.line.exp)) ∧
      (s.line.st = 3 → s.line.exp ≤ s.line.clk → did s .nominal = false →
        Completes .nominalCrossing s (fun t => t.line.last = s.line.exp ∧ t.line.exp = s.line.exp + nominalP0 s)) ∧
      (s.line.st = 0 → s.line.provStart = none → s.line.entered + nominalP0 s * 3 / 2 ≤ s.line.clk →
        did s .acquireTimeout = false → Completes .acquireTimeout s (fun t => t.line.st = 3))) ∧
    (running s = true → s.seq.item = 7 → s.line.itemOn = true → did s .half = false → s.line.cross.isSome = true →
      Completes .halfCycleBoundary s (fun t => t.line.halfPrev = s.line.halfCur ∧ t.line.halfNow = true)) ∧
    (cyclePublicationDue (runAll s) = true → Completes .cyclePublication s (fun t => t.line.tail = none)) ∧
    (∀ j, running s = true → s.seq.item = 16 → did s .harmPub = false → s.harm.job = some j → j.ready = true →
      Completes .harmonicPublication s (fun t => t.seq.item = 17)) ∧
    (∀ j, running s = true → s.seq.item = 15 → did s .bgShort = false → windowEndsNow s = true → s.harm.job = some j →
      j.ready = false → Registers.wf s = true → Completes .bgShort s (fun t => t.harm.job = none ∧ statusBit t srcBgShort = true)) ∧
    (periodicDue s = true → Completes .periodicSave s (fun t => t.energy.saveReq = true)) ∧
    (∀ k b, s.nvm.op = some (.energyProg k b) → s.seq.st ≠ .gasp → s.seq.st ≠ .off → Registers.wf s = true →
      Completes (.energySaveDone true) s (fun t => t.energy.slot = k ∧
        t.nvm.data = sputs erasedByte s.nvm.data (energySlotAt k) b)) ∧
    (∀ k, s.nvm.op = some (.energyErase k) → Completes .energySectorEraseDone s (fun t => t.energy.erasing = false ∧
      ∀ i, energySlotAt (4 * k) ≤ i → i < energySlotAt (4 * k) + 1024 → sget erasedByte t.nvm.data i = 0xFF)) ∧
    (running s = true → cfOn s x.val = true → s.energy.cf.length = 4 →
      (∀ i, cfNext s (cfGet s x.val) = .start i → (cfGet s x.val).lastStart ≠ some i →
        Completes (.cfPulseStart x) s (fun t => (cfGet t x.val).high = true)) ∧
      (cfNext s (cfGet s x.val) = .ends → Completes (.cfPulseEnd x) s (fun t => (cfGet t x.val).high = false)))) ∧
  -- the Stool, converters, detectors and process integrators: 05 to 07, 15
  (∀ (c : Fin 11) (g : Fin 6) (d : Fin 4) (n : Fin 8) (neg : Bool) (x : Int) (s : State),
    (let u := runAll s
     (stepDue u = true → Completes .stoolStepEnd s (fun t => did t .stoolStep = true)) ∧
     (did (rotationDoneOp u) .rotation = true → did u .rotation = false →
       Completes .rotationDone s (fun t => did t .rotation = true)) ∧
     (takeoverDue u = true → switchBlocked u = false →
       Completes .takeover s (fun t => t.stool.carrying = true ∧ t.stool.st = 3)) ∧
     (takeoverDue u = true → deferralOver u = true → switchBlocked u = true →
       Completes .takeoverAbandon s (fun t => t.stool.due = false ∧ t.stool.cause = 3)) ∧
     (handbackDue u = true → switchBlocked u = false → u.stool.target ≤ 9 → u.streams.conv.length = 11 →
       Completes .handback s (fun t => t.stool.carrying = false)) ∧
     (handbackDue u = true → deferralOver u = true → u.stool.stalled = false →
       Completes .handbackStall s (fun t => t.stool.stalled = true ∧ t.stool.cause = 4)) ∧
     (procOn u = true → procStartSel u = 1 → snapN u 0x302 ≠ 0 → 8 * snapN u 0x302 ≤ u.proc.timerUnits + tickUnits u →
       did u .procTimer = false → procBusy u = false →
       Completes .procTimerFire s (fun t => t = startSeq (mark u .procTimer) (getReg u) (some (regN u 0x303 + 6144)))) ∧
     (coreOn u = true → nth u.streams.settling c.val 0 = 1 → u.streams.settling.length = 11 → did u (.settled c.val) = false →
       Completes (.filtSettlingEnd c) s (fun t => nth t.streams.settling c.val 0 = 0))) ∧
    (coreOn s = true → works s (streamDomain c.val) = true → s.streams.conv.length = 11 →
      Completes (.overrange c neg) s (fun t => (nth t.streams.conv c.val Conv.reset).ovr = 17 ∧
        (nth t.streams.conv c.val Conv.reset).y16 = if neg then -8388592 else 8388592)) ∧
    (coreOn s = true → guardOn s g.val = true → works s (streamDomain (guardConv s g.val)) = true → did s (.peak g.val) = false →
      (guardSample (guardNeed s) (nth s.streams.guards g.val { count := 0, blocked := false, thrRaw := 0 }) x).2 = true →
      Completes (.peak g x) s (fun t => t.cap.peakSeen = true)) ∧
    (running s = true → s.seq.item = 11 → did s (.detBlock d.val) = false → detOn s d.val = true → s.streams.dets.length = 4 →
      (nth s.streams.dets d.val freshDet).active = true → detLen s d.val ≤ (nth s.streams.dets d.val freshDet).n + 1 →
      Completes (.detBlockDone d) s (fun t => (nth t.streams.dets d.val freshDet).n = 0 ∧ Pub.irq srcDetDone ∈ t.seq.pub)) ∧
    (earliest (procEvents s) = some (s.proc.delay, evDelay) →
      Completes .procDelayEnd s (fun t => t.proc.delaying = false)) ∧
    (∀ cyc rising, s.proc.urgentAt = none → trigSeen (parksBy s cyc) = true → procOn (parksBy s cyc) = true →
      let u := procTo (parksBy s cyc) cyc
      procBusy u = true → edgeMatches u.proc.ctrl rising = true → u.proc.waiting = true →
      entryMode (seqEntry u u.proc.group) = 2 → Completes (.trigEdge rising cyc) s (fun t => t.proc.isOpen = true)) ∧
    (earliest (procEvents s) = some (s.proc.openCyc, evFixed) →
      Completes .fixedWindowClose s (fun t => t = closeGroup s s.proc.openCyc 0)) ∧
    (earliest (procEvents s) = some (s.proc.openCyc, evPwm) →
      Completes .pwmTimeout s (fun t => t = closeGroup s s.proc.openCyc 3)) ∧
    (∀ m k r, s.proc.lineDue = (m, k) :: r →
      earliest (procEvents s) = some (cclkDown s (((m : Int) - s.line.clk).toNat / cycleClock s), evLine) →
      procOn s = true → procBusy s = true → s.proc.isOpen = true → s.proc.openMode = 0 →
      Completes .lineBoundary s (fun t => t = closeGroup { s with proc := { s.proc with lineDue := r } }
        (cclkDown s (((m : Int) - s.line.clk).toNat / cycleClock s)) k)) ∧
    (∀ (pair : Fin 9) b net rd w sat v, s.proc.wins.find? (fun u => u.closed && u.pair == pair.val && u.integB == b) = some v →
      Completes (.runDownEnd pair b net rd w sat) s (fun t => t.proc.fresh.length = s.proc.fresh.length + 1)) ∧
    (s.pins.parked.getLsbD n.val = true →
      (trigLead s ≠ some n.val ∨ s.pins.board.getLsbD n.val = s.pins.latched.getLsbD n.val) →
      Completes (.parkEnd n) s (fun t => t.pins.parked.getLsbD n.val = false))) ∧
  -- capture memory, the Bureau, NVM: 09, 10, 12, 13
  (∀ (r : Fin 8) (k : Fin 2) (s : State),
    (boardUp s = true → serveAway s = none →
      (∀ q c, winner s = some (q, c) → q.r = r.val →
        Completes (.memoryRequest r) s (fun t => t = grantReq s q c)) ∧
      (∀ q c, winner s = some (q, c) → q.r = 0 → Completes .capQueueDrain s (fun t => t = grantReq s q c)) ∧
      (∀ q c, stageMore s = s → winner s = some (q, c) → q.r = 7 → Completes .recordStage s (fun t => t = grantReq s q c))) ∧
    (s.cap.written = true → s.cap.st = 2 → Completes .capDone s (fun t => t.cap.st = 3)) ∧
    (regN s 0x622 ≠ 0 → frozen s = false → coreOn s = true → Registers.wf s = true →
      (∃ q ∈ s.mem.reqs, q.r = r.val ∧ q.gone = false ∧ q.reported = false ∧
        regN s 0x622 < q.starve + (idleCycles s - (q.at_ - s.mem.busy))) →
      Completes (.arbStarve r) s (fun t => bitAt (getReg t 0x623) r.val = true)) ∧
    (bankInitDue s k.val = true → bankOn s k.val = true → Completes (.bankInitDone k) s (fun t => bankReady t k.val = true)) ∧
    (boardUp s = true → frozen s = false → (∀ q c, winner s = some (q, c) → s.mem.busy < c) → s.mem.busy < 6144 →
      s.mem.poison = none → s.mem.writeBack = none → 0 < s.mem.backlog → scrubInt s ≠ 0 → s.mem.scrubPos < 65535 →
      bankOn s (bankOf (16 * s.mem.scrubPos)) = true → bankReady s (bankOf (16 * s.mem.scrubPos)) = true →
      Completes .scrubStep s (fun t => t.mem.scrubPos = s.mem.scrubPos + 1)) ∧
    (did s .scrubYield = false → frozen s = true → 0 < s.mem.scrubDue → s.mem.scrubDue ≤ s.mem.backlog → Registers.wf s = true →
      Completes .scrubYield s (fun t => getReg t 0x60B = wd (min (regN s 0x60B + s.mem.scrubDue) 0xFFFFF))) ∧
    (coalesceDue (runAll s) = true → Completes .coalesceTimeout s (fun t => t.bureau.open_ = none)) ∧
    (hourRolls (runAll s) = true → did (runAll s) .hour = false → Completes .hourRoll s (fun t => did t .hour = true)) ∧
    (∀ m e rest, s.nvm.op = some (.bureauProg m) → s.bureau.queue = e :: rest → s.seq.st ≠ .gasp →
      Completes (.recordProgramDone true) s (fun t => t.bureau.queue = rest ∧
        t.nvm.data = sputs erasedByte s.nvm.data (recSlotAt m) (recBytes e))) ∧
    (∀ m, s.nvm.op = some (.bureauErase m) → Completes .bureauEraseDone s (fun t => t.bureau.erasing = false)) ∧
    (∀ m b, s.nvm.op = some (.timeProg m b) → Completes (.timeStoreEntry true) s (fun t =>
      t.bureau.tsNext = (m + 1) % 128 ∧ t.nvm.data = sputs erasedByte s.nvm.data (timeAt m) b)) ∧
    (∀ m, s.nvm.op = some (.timeErase m) → Completes .timeStoreEraseDone s (fun t =>
      ∀ i, timeAt (64 * m) ≤ i → i < timeAt (64 * m) + 1024 → sget erasedByte t.nvm.data i = 0xFF)) ∧
    (∀ m b, s.nvm.op = some (.evidProg m b) → m < 254 → Completes (.evidenceProgramDone true) s (fun t =>
      t.evid.next = m + 1 ∧ t.nvm.data = sputs erasedByte s.nvm.data (evidAt m) b)) ∧
    (s.evid.checkDue = true → portsUp s = true → Completes .sealCheck s (fun t => t.evid.checkDue = false)) ∧
    (∀ w : Waiting, w.land.port ≠ .chain → w.land.noreply = false → s.seq.st ≠ .gasp →
      (∀ copy gen image, s.nvm.op = some (.cfgSave copy gen image w) →
        Completes .cfgSaveDone s (fun t => t.seq.image = some (copy, gen) ∧ replied t w.land stOk)) ∧
      (∀ cnt slot b, s.nvm.op = some (.calSeal cnt slot b false w) →
        Completes .calSealDone s (fun t => t.evid.sealSt = 1 ∧ replied t w.land stOk)))) ∧
  -- tamper monitors: 13
  (∀ (l : Bool) (ohms now : Nat) (tc : Int) (s : State), Registers.wf s = true → s.aon.powered = true →
    (loopSelected s l = true → 40000 < ohms → (if l then s.aon.loop1 else s.aon.loop0) = 0 → classOn s (b2n l) = true →
      Completes (.loopTest l ohms now) s (fun t => t.aon.cond.getLsbD (b2n l) = true ∧
        getReg t (0x790 + b2n l) = wd (min (regN s (0x790 + b2n l) + 1) 0xFFFFF))) ∧
    (cellStood (atOsc s now) = true → aonSource s.power.vres s.power.vauxValid 0 ≠ .none → classOn s 2 = true →
      Completes (.cell now) s (fun t => t.aon.cond.getLsbD 2 = true ∧ getReg t 0x792 = wd (min (regN s 0x792 + 1) 0xFFFFF))) ∧
    (portsUp s = true → classOn s 3 = true →
      Completes (.glitch now) s (fun t => getReg t 0x793 = wd (min (regN s 0x793 + 1) 0xFFFFF))) ∧
    (portsUp s = true → classOn s 4 = true → s.aon.cond.getLsbD 4 = false →
      Completes (.slow now) s (fun t => t.aon.cond.getLsbD 4 = true ∧ getReg t 0x794 = wd (min (regN s 0x794 + 1) 0xFFFFF))) ∧
    (s.aon.cond.getLsbD 5 = false → s.aon.tempOut = true → (tc < -45 ∨ 95 < tc) →
      Completes (.tempRead tc now) s (fun t => t.aon.cond.getLsbD 5 = true ∧ t.aon.tempC = tc)) ∧
    (portsUp s = true → (∀ n ∈ shadowed, sget shadowReset s.aon.regShadow n = ~~~(getReg s n)) →
      s.aon.flagShadow = ~~~(authFlags (atOsc s now)) → s.aon.failShadow = inverse s.aon.fails →
      Completes (.shadowCompare now) s (fun t => t = atOsc s now))) ∧
  -- the Hutch: 14
  (∀ (rail : Fin 4) (mv tc : Int) (ohms : Nat) (s : State), domOn s 10 = true →
    (s.hutch.st = 1 →
      (s.hutch.phase = 0 → Completes .pavddOn s (fun t => t.hutch.pavdd = true ∧ t.hutch.phase = 1)) ∧
      (s.hutch.phase = 1 → Completes .vglOn s (fun t => t.hutch.vgl = true ∧ t.hutch.phase = 2)) ∧
      (s.hutch.phase = 2 → Completes .vghOn s (fun t => t.hutch.vgh = true ∧ t.hutch.phase = 3)) ∧
      (s.hutch.phase = 3 → Completes .vcomOn s (fun t => t.hutch.vcom = true ∧ t.hutch.phase = 4)) ∧
      (s.hutch.phase = 4 → Completes .panelStart s (fun t => t.hutch.st = 2 ∧ t.hutch.frame = 0 ∧ t.hutch.xdis = true))) ∧
    (s.hutch.st = 3 → Completes .frameStart s (fun t => t.hutch.st = 3 ∧ t.hutch.frame = s.hutch.frame + 1 ∧ t.hutch.row = 0)) ∧
    (boardUp s = true → requesting s 2 = false → engineAway s 2 = false → s.hutch.st = 2 →
      s.hutch.row < heightOf s.hutch.size → Completes .rowRefresh s (fun t => t.hutch.row = s.hutch.row + 1 ∧
        t.hutch.levels = List.replicate (widthOf s.hutch.size) (clrLevel s.hutch))) ∧
    (boardUp s = true → s.hutch.st = 3 → requesting s 3 = true → serveAway s = none → ∀ q c, winner s = some (q, c) → q.r = 3 →
      Completes .rectCopyStep s (fun t => t = grantReq s q c)) ∧
    (railGood s.hutch rail.val mv = false → s.hutch.pavdd = true → s.hutch.vgl = true → s.hutch.vgh = true → s.hutch.vcom = true →
      s.hutch.st = 3 → Completes (.railFault ⟨rail, mv⟩) s (fun t => t.hutch.st = 6 ∧ t.hutch.discharging = true)) ∧
    (s.hutch.st = 3 → 2000 ≤ ohms → Completes (.crackTest ohms) s (fun t => t.hutch.st = 4 ∧ t.hutch.crack = true)) ∧
    (s.hutch.discharging = true →
      Completes .discharge s (fun t => t.hutch.pavdd = false ∧ t.hutch.vgl = false ∧ t.hutch.vgh = false) ∧
      Completes .dischargeEnd s (fun t => t.hutch.discharging = false ∧ t.hutch.st = if s.hutch.after = 0 then 0 else 5)) ∧
    (coreOn s = true → s.hutch.flReq = true → s.power.granted.getLsbD 8 = true →
      Completes .flOn s (fun t => t.hutch.flOn = true)) ∧
    (coreOn s = true → bitAt (getReg s 0x808) 4 = false → Completes (.dispTempRead tc) s (fun t => t.hutch.temp = tc)))
end

