-- ==== Sys2Proof/Laws/Sparse.lean ====
section
/-!
SUPPORT. Laws of the sparse tables: reading after writing, and the canonical form, kept by every operation.
-/

namespace Sys2Proof.Machine

variable {α : Type} [DecidableEq α] (d : Nat → α)

/-- A read at the key just set gives the value set. -/
theorem sget_sset_same (m : List (Nat × α)) (lo : Option Nat) (h : swfFrom d lo m = true) (k : Nat) (v : α) :
    sget d (sset d m k v) k = v := by
  induction m generalizing lo with
  | nil => by_cases e : v = d k <;> simp [sset, sget, e]
  | cons a r ih =>
    obtain ⟨j, x⟩ := a
    simp only [swfFrom, Bool.and_eq_true] at h
    simp only [sset]
    split
    · rename_i hj
      simp [sget, ih _ h.2, Nat.ne_of_lt hj]
    · split
      · rename_i hj hjk
        subst hjk
        split
        · rename_i hv
          subst hv
          suffices ∀ (l : List (Nat × α)) (b : Nat), j ≤ b → swfFrom d (some b) l = true → sget d l j = d j from
            this r j (Nat.le_refl _) h.2
          intro l
          induction l with
          | nil => intros; rfl
          | cons c l ihl =>
            intro b hb hl
            obtain ⟨i, y⟩ := c
            simp only [swfFrom, Bool.and_eq_true, decide_eq_true_eq] at hl
            have : i ≠ j := by omega
            simp only [sget, this, if_false]
            exact ihl i (by omega) hl.2
        · simp [sget]
      · rename_i hj hjk
        split
        · rename_i hv
          subst hv
          have hne : j ≠ k := hjk
          suffices ∀ (l : List (Nat × α)) (b : Nat), k ≤ b → swfFrom d (some b) l = true → sget d l k = d k by
            simp only [sget, hne, if_false]
            exact this r j (by omega) h.2
          intro l
          induction l with
          | nil => intros; rfl
          | cons c l ihl =>
            intro b hb hl
            obtain ⟨i, y⟩ := c
            simp only [swfFrom, Bool.and_eq_true, decide_eq_true_eq] at hl
            have : i ≠ k := by omega
            simp only [sget, this, if_false]
            exact ihl i (by omega) hl.2
        · simp [sget]

/-- A read at any other key gives what it gave before. -/
theorem sget_sset_other (m : List (Nat × α)) (k i : Nat) (v : α) (hne : i ≠ k) :
    sget d (sset d m k v) i = sget d m i := by
  induction m with
  | nil => by_cases e : v = d k <;> simp [sset, sget, e, Ne.symm hne]
  | cons a r ih =>
    obtain ⟨j, x⟩ := a
    simp only [sset]
    split
    · simp only [sget, ih]
    · split
      · rename_i hj hjk
        subst hjk
        split <;> simp [sget, Ne.symm hne]
      · split
        · rfl
        · simp [sget, Ne.symm hne]

/-- A canonical table may start from any lower bound. -/
theorem swfFrom_mono (m : List (Nat × α)) (a b : Option Nat)
    (hab : ∀ x, a = some x → ∀ p ∈ m.head?, x < p.1) (h : swfFrom d b m = true) : swfFrom d a m = true := by
  cases m with
  | nil => rfl
  | cons p r =>
    obtain ⟨j, x⟩ := p
    simp only [swfFrom, Bool.and_eq_true] at h ⊢
    refine ⟨⟨?_, h.1.2⟩, h.2⟩
    cases a with
    | none => rfl
    | some y => simpa using hab y rfl (j, x) (by simp)

/-- Setting a key keeps the canonical form, above any bound below that key. -/
theorem swfFrom_sset (m : List (Nat × α)) (lo : Option Nat) (k : Nat) (v : α) (hk : ∀ x, lo = some x → x < k)
    (h : swfFrom d lo m = true) : swfFrom d lo (sset d m k v) = true := by
  induction m generalizing lo with
  | nil =>
    by_cases e : v = d k
    · simp [sset, e, swfFrom]
    · cases lo with
      | none => simp [sset, e, swfFrom]
      | some x => simp [sset, e, swfFrom, hk x rfl]
  | cons a r ih =>
    obtain ⟨j, x⟩ := a
    have h0 := h
    simp only [swfFrom, Bool.and_eq_true] at h
    simp only [sset]
    split
    · rename_i hj
      simp only [swfFrom, Bool.and_eq_true]
      exact ⟨h.1, ih (some j) (by intro y hy; cases hy; exact hj) h.2⟩
    · split
      · rename_i hj hjk
        subst hjk
        split
        · refine swfFrom_mono d r lo (some j) ?_ h.2
          intro y hy p hp
          cases r with
          | nil => simp at hp
          | cons c l =>
            simp only [List.head?_cons, Option.mem_some_iff] at hp
            subst hp
            have := h.2
            simp only [swfFrom, Bool.and_eq_true, decide_eq_true_eq] at this
            have := this.1.1
            have := hk y hy
            omega
        · rename_i hv
          simp only [swfFrom, Bool.and_eq_true]
          exact ⟨⟨h.1.1, by simp [hv]⟩, h.2⟩
      · rename_i hj hjk
        split
        · exact h0
        · rename_i hv
          have hkj : k < j := by omega
          simp only [swfFrom, Bool.and_eq_true, decide_eq_true_eq]
          refine ⟨⟨?_, by simp [hv]⟩, ⟨hkj, h.1.2⟩, h.2⟩
          cases lo with
          | none => rfl
          | some y => simpa using hk y rfl

/-- Setting a key keeps the canonical form. -/
theorem swf_sset (m : List (Nat × α)) (k : Nat) (v : α) (h : swf d m = true) : swf d (sset d m k v) = true :=
  swfFrom_sset d m none k v (by intro x hx; cases hx) h

/-- Setting consecutive keys keeps the canonical form. -/
theorem swf_sputs (l : List α) (m : List (Nat × α)) (k : Nat) (h : swf d m = true) :
    swf d (sputs d m k l) = true := by
  induction l generalizing m k with
  | nil => exact h
  | cons v r ih => exact ih _ _ (swf_sset d m k v h)

/-- The bound of a canonical table is below every key. -/
theorem swfFrom_lt (m : List (Nat × α)) (lo : Nat) (h : swfFrom d (some lo) m = true) : ∀ e ∈ m, lo < e.1 := by
  induction m generalizing lo with
  | nil => simp
  | cons a r ih =>
    obtain ⟨j, x⟩ := a
    simp only [swfFrom, Bool.and_eq_true, decide_eq_true_eq] at h
    intro e he
    rcases List.mem_cons.mp he with rfl | he
    · exact h.1.1
    · have := ih j h.2 e he
      omega

/-- Dropping entries keeps the canonical form. -/
theorem swfFrom_sfilter (p : Nat → Bool) (m : List (Nat × α)) (lo : Option Nat) (h : swfFrom d lo m = true) :
    swfFrom d lo (sfilter p m) = true := by
  induction m generalizing lo with
  | nil => rfl
  | cons a r ih =>
    obtain ⟨j, x⟩ := a
    simp only [swfFrom, Bool.and_eq_true] at h
    have hr := ih (some j) h.2
    by_cases hp : p j = true
    · simp only [sfilter, List.filter_cons, hp, if_true, swfFrom, Bool.and_eq_true]
      exact ⟨h.1, hr⟩
    · have hp' : p j = false := by simpa using hp
      simp only [sfilter, List.filter_cons, hp', Bool.false_eq_true, if_false]
      refine swfFrom_mono d _ lo (some j) ?_ hr
      intro y hy e he
      have hm : e ∈ sfilter p r := List.mem_of_mem_head? he
      have := swfFrom_lt d _ j hr e hm
      subst hy
      have h1 := h.1.1
      simp only [decide_eq_true_eq] at h1
      omega

/-- Dropping entries keeps the canonical form. -/
theorem swf_sfilter (p : Nat → Bool) (m : List (Nat × α)) (h : swf d m = true) : swf d (sfilter p m) = true :=
  swfFrom_sfilter d p m none h

/-- A read at the key just set gives the value set. -/
theorem sget_sset_self (m : List (Nat × α)) (h : swf d m = true) (k : Nat) (v : α) : sget d (sset d m k v) k = v :=
  sget_sset_same d m none h k v

/-- A key outside the consecutive ones set reads as before. -/
theorem sget_sputs_other (l : List α) (m : List (Nat × α)) (k i : Nat) (h : i < k ∨ k + l.length ≤ i) :
    sget d (sputs d m k l) i = sget d m i := by
  induction l generalizing m k with
  | nil => rfl
  | cons v r ih =>
    simp only [List.length_cons] at h
    simp only [sputs]
    rw [ih _ _ (by omega), sget_sset_other d m k i v (by omega)]

/-- A key among the consecutive ones set reads as the value set there. -/
theorem sget_sputs_same (l : List α) (m : List (Nat × α)) (hm : swf d m = true) (k j : Nat) (h : j < l.length) :
    sget d (sputs d m k l) (k + j) = l[j] := by
  induction l generalizing m k j with
  | nil => simp at h
  | cons v r ih =>
    simp only [sputs]
    cases j with
    | zero =>
      simp only [Nat.add_zero, List.getElem_cons_zero]
      rw [sget_sputs_other d r _ _ _ (by omega)]
      exact sget_sset_self d m hm k v
    | succ j =>
      simp only [List.length_cons] at h
      have := ih (sset d m k v) (swf_sset d m k v hm) (k + 1) j (by omega)
      simpa [Nat.add_assoc, Nat.add_comm 1 j] using this

omit [DecidableEq α] in
/-- A dropped key reads as its default, a kept one as before. -/
theorem sget_sfilter (p : Nat → Bool) (m : List (Nat × α)) (i : Nat) :
    sget d (sfilter p m) i = if p i then sget d m i else d i := by
  induction m with
  | nil => simp [sfilter, sget]
  | cons a r ih =>
    obtain ⟨j, x⟩ := a
    by_cases hp : p j = true
    · simp only [sfilter, List.filter_cons, hp, if_true, sget]
      by_cases e : j = i
      · subst e; simp [hp]
      · simpa [e, sfilter] using ih
    · have hp' : p j = false := by simpa using hp
      simp only [sfilter, List.filter_cons, hp', Bool.false_eq_true, if_false, sget]
      by_cases e : j = i
      · subst e; simpa [hp', sfilter] using ih
      · simpa [e, sfilter] using ih

end Sys2Proof.Machine
end

