-- ==== Sys2Proof/Laws/State.lean ====
section
/-!
SUPPORT. Laws of the state: for every named update and every component of State it does not write, that the component
is left as it is; and what the register operations read and write.
-/

namespace Sys2Proof.Machine

/-! ### setReg -/

@[simp] theorem setReg_pending (s : State) (n : Nat) (v : Word) : (setReg s n v).pending = s.pending := by unfold setReg; split <;> rfl
@[simp] theorem setReg_free (s : State) (n : Nat) (v : Word) : (setReg s n v).free = s.free := by unfold setReg; split <;> rfl
@[simp] theorem setReg_inForce (s : State) (n : Nat) (v : Word) : (setReg s n v).inForce = s.inForce := by unfold setReg; split <;> rfl
@[simp] theorem setReg_snap (s : State) (n : Nat) (v : Word) : (setReg s n v).snap = s.snap := by unfold setReg; split <;> rfl
@[simp] theorem setReg_fir (s : State) (n : Nat) (v : Word) : (setReg s n v).fir = s.fir := by unfold setReg; split <;> rfl
@[simp] theorem setReg_firActive (s : State) (n : Nat) (v : Word) : (setReg s n v).firActive = s.firActive := by unfold setReg; split <;> rfl
@[simp] theorem setReg_od (s : State) (n : Nat) (v : Word) : (setReg s n v).od = s.od := by unfold setReg; split <;> rfl
@[simp] theorem setReg_power (s : State) (n : Nat) (v : Word) : (setReg s n v).power = s.power := by unfold setReg; split <;> rfl
@[simp] theorem setReg_seq (s : State) (n : Nat) (v : Word) : (setReg s n v).seq = s.seq := by unfold setReg; split <;> rfl
@[simp] theorem setReg_ports (s : State) (n : Nat) (v : Word) : (setReg s n v).ports = s.ports := by unfold setReg; split <;> rfl
@[simp] theorem setReg_streams (s : State) (n : Nat) (v : Word) : (setReg s n v).streams = s.streams := by unfold setReg; split <;> rfl
@[simp] theorem setReg_stool (s : State) (n : Nat) (v : Word) : (setReg s n v).stool = s.stool := by unfold setReg; split <;> rfl
@[simp] theorem setReg_proc (s : State) (n : Nat) (v : Word) : (setReg s n v).proc = s.proc := by unfold setReg; split <;> rfl
@[simp] theorem setReg_line (s : State) (n : Nat) (v : Word) : (setReg s n v).line = s.line := by unfold setReg; split <;> rfl
@[simp] theorem setReg_energy (s : State) (n : Nat) (v : Word) : (setReg s n v).energy = s.energy := by unfold setReg; split <;> rfl
@[simp] theorem setReg_harm (s : State) (n : Nat) (v : Word) : (setReg s n v).harm = s.harm := by unfold setReg; split <;> rfl
@[simp] theorem setReg_pq (s : State) (n : Nat) (v : Word) : (setReg s n v).pq = s.pq := by unfold setReg; split <;> rfl
@[simp] theorem setReg_cap (s : State) (n : Nat) (v : Word) : (setReg s n v).cap = s.cap := by unfold setReg; split <;> rfl
@[simp] theorem setReg_mem (s : State) (n : Nat) (v : Word) : (setReg s n v).mem = s.mem := by unfold setReg; split <;> rfl
@[simp] theorem setReg_dresser (s : State) (n : Nat) (v : Word) : (setReg s n v).dresser = s.dresser := by unfold setReg; split <;> rfl
@[simp] theorem setReg_chain (s : State) (n : Nat) (v : Word) : (setReg s n v).chain = s.chain := by unfold setReg; split <;> rfl
@[simp] theorem setReg_bureau (s : State) (n : Nat) (v : Word) : (setReg s n v).bureau = s.bureau := by unfold setReg; split <;> rfl
@[simp] theorem setReg_evid (s : State) (n : Nat) (v : Word) : (setReg s n v).evid = s.evid := by unfold setReg; split <;> rfl
@[simp] theorem setReg_hutch (s : State) (n : Nat) (v : Word) : (setReg s n v).hutch = s.hutch := by unfold setReg; split <;> rfl
@[simp] theorem setReg_pins (s : State) (n : Nat) (v : Word) : (setReg s n v).pins = s.pins := by unfold setReg; split <;> rfl
@[simp] theorem setReg_nvm (s : State) (n : Nat) (v : Word) : (setReg s n v).nvm = s.nvm := by unfold setReg; split <;> rfl

/-! ### setForce -/

@[simp] theorem setForce_pending (s : State) (n : Nat) (v : Word) : (setForce s n v).pending = s.pending := rfl
@[simp] theorem setForce_free (s : State) (n : Nat) (v : Word) : (setForce s n v).free = s.free := rfl
@[simp] theorem setForce_regs (s : State) (n : Nat) (v : Word) : (setForce s n v).regs = s.regs := rfl
@[simp] theorem setForce_snap (s : State) (n : Nat) (v : Word) : (setForce s n v).snap = s.snap := rfl
@[simp] theorem setForce_fir (s : State) (n : Nat) (v : Word) : (setForce s n v).fir = s.fir := rfl
@[simp] theorem setForce_firActive (s : State) (n : Nat) (v : Word) : (setForce s n v).firActive = s.firActive := rfl
@[simp] theorem setForce_od (s : State) (n : Nat) (v : Word) : (setForce s n v).od = s.od := rfl
@[simp] theorem setForce_power (s : State) (n : Nat) (v : Word) : (setForce s n v).power = s.power := rfl
@[simp] theorem setForce_seq (s : State) (n : Nat) (v : Word) : (setForce s n v).seq = s.seq := rfl
@[simp] theorem setForce_aon (s : State) (n : Nat) (v : Word) : (setForce s n v).aon = s.aon := rfl
@[simp] theorem setForce_ports (s : State) (n : Nat) (v : Word) : (setForce s n v).ports = s.ports := rfl
@[simp] theorem setForce_streams (s : State) (n : Nat) (v : Word) : (setForce s n v).streams = s.streams := rfl
@[simp] theorem setForce_stool (s : State) (n : Nat) (v : Word) : (setForce s n v).stool = s.stool := rfl
@[simp] theorem setForce_proc (s : State) (n : Nat) (v : Word) : (setForce s n v).proc = s.proc := rfl
@[simp] theorem setForce_line (s : State) (n : Nat) (v : Word) : (setForce s n v).line = s.line := rfl
@[simp] theorem setForce_energy (s : State) (n : Nat) (v : Word) : (setForce s n v).energy = s.energy := rfl
@[simp] theorem setForce_harm (s : State) (n : Nat) (v : Word) : (setForce s n v).harm = s.harm := rfl
@[simp] theorem setForce_pq (s : State) (n : Nat) (v : Word) : (setForce s n v).pq = s.pq := rfl
@[simp] theorem setForce_cap (s : State) (n : Nat) (v : Word) : (setForce s n v).cap = s.cap := rfl
@[simp] theorem setForce_mem (s : State) (n : Nat) (v : Word) : (setForce s n v).mem = s.mem := rfl
@[simp] theorem setForce_dresser (s : State) (n : Nat) (v : Word) : (setForce s n v).dresser = s.dresser := rfl
@[simp] theorem setForce_chain (s : State) (n : Nat) (v : Word) : (setForce s n v).chain = s.chain := rfl
@[simp] theorem setForce_bureau (s : State) (n : Nat) (v : Word) : (setForce s n v).bureau = s.bureau := rfl
@[simp] theorem setForce_evid (s : State) (n : Nat) (v : Word) : (setForce s n v).evid = s.evid := rfl
@[simp] theorem setForce_hutch (s : State) (n : Nat) (v : Word) : (setForce s n v).hutch = s.hutch := rfl
@[simp] theorem setForce_pins (s : State) (n : Nat) (v : Word) : (setForce s n v).pins = s.pins := rfl
@[simp] theorem setForce_nvm (s : State) (n : Nat) (v : Word) : (setForce s n v).nvm = s.nvm := rfl

/-! ### orReg -/

@[simp] theorem orReg_pending (s : State) (n m : Nat) : (orReg s n m).pending = s.pending := setReg_pending s _ _
@[simp] theorem orReg_free (s : State) (n m : Nat) : (orReg s n m).free = s.free := setReg_free s _ _
@[simp] theorem orReg_inForce (s : State) (n m : Nat) : (orReg s n m).inForce = s.inForce := setReg_inForce s _ _
@[simp] theorem orReg_snap (s : State) (n m : Nat) : (orReg s n m).snap = s.snap := setReg_snap s _ _
@[simp] theorem orReg_fir (s : State) (n m : Nat) : (orReg s n m).fir = s.fir := setReg_fir s _ _
@[simp] theorem orReg_firActive (s : State) (n m : Nat) : (orReg s n m).firActive = s.firActive := setReg_firActive s _ _
@[simp] theorem orReg_od (s : State) (n m : Nat) : (orReg s n m).od = s.od := setReg_od s _ _
@[simp] theorem orReg_power (s : State) (n m : Nat) : (orReg s n m).power = s.power := setReg_power s _ _
@[simp] theorem orReg_seq (s : State) (n m : Nat) : (orReg s n m).seq = s.seq := setReg_seq s _ _
@[simp] theorem orReg_ports (s : State) (n m : Nat) : (orReg s n m).ports = s.ports := setReg_ports s _ _
@[simp] theorem orReg_streams (s : State) (n m : Nat) : (orReg s n m).streams = s.streams := setReg_streams s _ _
@[simp] theorem orReg_stool (s : State) (n m : Nat) : (orReg s n m).stool = s.stool := setReg_stool s _ _
@[simp] theorem orReg_proc (s : State) (n m : Nat) : (orReg s n m).proc = s.proc := setReg_proc s _ _
@[simp] theorem orReg_line (s : State) (n m : Nat) : (orReg s n m).line = s.line := setReg_line s _ _
@[simp] theorem orReg_energy (s : State) (n m : Nat) : (orReg s n m).energy = s.energy := setReg_energy s _ _
@[simp] theorem orReg_harm (s : State) (n m : Nat) : (orReg s n m).harm = s.harm := setReg_harm s _ _
@[simp] theorem orReg_pq (s : State) (n m : Nat) : (orReg s n m).pq = s.pq := setReg_pq s _ _
@[simp] theorem orReg_cap (s : State) (n m : Nat) : (orReg s n m).cap = s.cap := setReg_cap s _ _
@[simp] theorem orReg_mem (s : State) (n m : Nat) : (orReg s n m).mem = s.mem := setReg_mem s _ _
@[simp] theorem orReg_dresser (s : State) (n m : Nat) : (orReg s n m).dresser = s.dresser := setReg_dresser s _ _
@[simp] theorem orReg_chain (s : State) (n m : Nat) : (orReg s n m).chain = s.chain := setReg_chain s _ _
@[simp] theorem orReg_bureau (s : State) (n m : Nat) : (orReg s n m).bureau = s.bureau := setReg_bureau s _ _
@[simp] theorem orReg_evid (s : State) (n m : Nat) : (orReg s n m).evid = s.evid := setReg_evid s _ _
@[simp] theorem orReg_hutch (s : State) (n m : Nat) : (orReg s n m).hutch = s.hutch := setReg_hutch s _ _
@[simp] theorem orReg_pins (s : State) (n m : Nat) : (orReg s n m).pins = s.pins := setReg_pins s _ _
@[simp] theorem orReg_nvm (s : State) (n m : Nat) : (orReg s n m).nvm = s.nvm := setReg_nvm s _ _

/-! ### clearReg -/

@[simp] theorem clearReg_pending (s : State) (n m : Nat) : (clearReg s n m).pending = s.pending := setReg_pending s _ _
@[simp] theorem clearReg_free (s : State) (n m : Nat) : (clearReg s n m).free = s.free := setReg_free s _ _
@[simp] theorem clearReg_inForce (s : State) (n m : Nat) : (clearReg s n m).inForce = s.inForce := setReg_inForce s _ _
@[simp] theorem clearReg_snap (s : State) (n m : Nat) : (clearReg s n m).snap = s.snap := setReg_snap s _ _
@[simp] theorem clearReg_fir (s : State) (n m : Nat) : (clearReg s n m).fir = s.fir := setReg_fir s _ _
@[simp] theorem clearReg_firActive (s : State) (n m : Nat) : (clearReg s n m).firActive = s.firActive := setReg_firActive s _ _
@[simp] theorem clearReg_od (s : State) (n m : Nat) : (clearReg s n m).od = s.od := setReg_od s _ _
@[simp] theorem clearReg_power (s : State) (n m : Nat) : (clearReg s n m).power = s.power := setReg_power s _ _
@[simp] theorem clearReg_seq (s : State) (n m : Nat) : (clearReg s n m).seq = s.seq := setReg_seq s _ _
@[simp] theorem clearReg_ports (s : State) (n m : Nat) : (clearReg s n m).ports = s.ports := setReg_ports s _ _
@[simp] theorem clearReg_streams (s : State) (n m : Nat) : (clearReg s n m).streams = s.streams := setReg_streams s _ _
@[simp] theorem clearReg_stool (s : State) (n m : Nat) : (clearReg s n m).stool = s.stool := setReg_stool s _ _
@[simp] theorem clearReg_proc (s : State) (n m : Nat) : (clearReg s n m).proc = s.proc := setReg_proc s _ _
@[simp] theorem clearReg_line (s : State) (n m : Nat) : (clearReg s n m).line = s.line := setReg_line s _ _
@[simp] theorem clearReg_energy (s : State) (n m : Nat) : (clearReg s n m).energy = s.energy := setReg_energy s _ _
@[simp] theorem clearReg_harm (s : State) (n m : Nat) : (clearReg s n m).harm = s.harm := setReg_harm s _ _
@[simp] theorem clearReg_pq (s : State) (n m : Nat) : (clearReg s n m).pq = s.pq := setReg_pq s _ _
@[simp] theorem clearReg_cap (s : State) (n m : Nat) : (clearReg s n m).cap = s.cap := setReg_cap s _ _
@[simp] theorem clearReg_mem (s : State) (n m : Nat) : (clearReg s n m).mem = s.mem := setReg_mem s _ _
@[simp] theorem clearReg_dresser (s : State) (n m : Nat) : (clearReg s n m).dresser = s.dresser := setReg_dresser s _ _
@[simp] theorem clearReg_chain (s : State) (n m : Nat) : (clearReg s n m).chain = s.chain := setReg_chain s _ _
@[simp] theorem clearReg_bureau (s : State) (n m : Nat) : (clearReg s n m).bureau = s.bureau := setReg_bureau s _ _
@[simp] theorem clearReg_evid (s : State) (n m : Nat) : (clearReg s n m).evid = s.evid := setReg_evid s _ _
@[simp] theorem clearReg_hutch (s : State) (n m : Nat) : (clearReg s n m).hutch = s.hutch := setReg_hutch s _ _
@[simp] theorem clearReg_pins (s : State) (n m : Nat) : (clearReg s n m).pins = s.pins := setReg_pins s _ _
@[simp] theorem clearReg_nvm (s : State) (n m : Nat) : (clearReg s n m).nvm = s.nvm := setReg_nvm s _ _

/-! ### addReg -/

@[simp] theorem addReg_pending (s : State) (n k : Nat) : (addReg s n k).pending = s.pending := setReg_pending s _ _
@[simp] theorem addReg_free (s : State) (n k : Nat) : (addReg s n k).free = s.free := setReg_free s _ _
@[simp] theorem addReg_inForce (s : State) (n k : Nat) : (addReg s n k).inForce = s.inForce := setReg_inForce s _ _
@[simp] theorem addReg_snap (s : State) (n k : Nat) : (addReg s n k).snap = s.snap := setReg_snap s _ _
@[simp] theorem addReg_fir (s : State) (n k : Nat) : (addReg s n k).fir = s.fir := setReg_fir s _ _
@[simp] theorem addReg_firActive (s : State) (n k : Nat) : (addReg s n k).firActive = s.firActive := setReg_firActive s _ _
@[simp] theorem addReg_od (s : State) (n k : Nat) : (addReg s n k).od = s.od := setReg_od s _ _
@[simp] theorem addReg_power (s : State) (n k : Nat) : (addReg s n k).power = s.power := setReg_power s _ _
@[simp] theorem addReg_seq (s : State) (n k : Nat) : (addReg s n k).seq = s.seq := setReg_seq s _ _
@[simp] theorem addReg_ports (s : State) (n k : Nat) : (addReg s n k).ports = s.ports := setReg_ports s _ _
@[simp] theorem addReg_streams (s : State) (n k : Nat) : (addReg s n k).streams = s.streams := setReg_streams s _ _
@[simp] theorem addReg_stool (s : State) (n k : Nat) : (addReg s n k).stool = s.stool := setReg_stool s _ _
@[simp] theorem addReg_proc (s : State) (n k : Nat) : (addReg s n k).proc = s.proc := setReg_proc s _ _
@[simp] theorem addReg_line (s : State) (n k : Nat) : (addReg s n k).line = s.line := setReg_line s _ _
@[simp] theorem addReg_energy (s : State) (n k : Nat) : (addReg s n k).energy = s.energy := setReg_energy s _ _
@[simp] theorem addReg_harm (s : State) (n k : Nat) : (addReg s n k).harm = s.harm := setReg_harm s _ _
@[simp] theorem addReg_pq (s : State) (n k : Nat) : (addReg s n k).pq = s.pq := setReg_pq s _ _
@[simp] theorem addReg_cap (s : State) (n k : Nat) : (addReg s n k).cap = s.cap := setReg_cap s _ _
@[simp] theorem addReg_mem (s : State) (n k : Nat) : (addReg s n k).mem = s.mem := setReg_mem s _ _
@[simp] theorem addReg_dresser (s : State) (n k : Nat) : (addReg s n k).dresser = s.dresser := setReg_dresser s _ _
@[simp] theorem addReg_chain (s : State) (n k : Nat) : (addReg s n k).chain = s.chain := setReg_chain s _ _
@[simp] theorem addReg_bureau (s : State) (n k : Nat) : (addReg s n k).bureau = s.bureau := setReg_bureau s _ _
@[simp] theorem addReg_evid (s : State) (n k : Nat) : (addReg s n k).evid = s.evid := setReg_evid s _ _
@[simp] theorem addReg_hutch (s : State) (n k : Nat) : (addReg s n k).hutch = s.hutch := setReg_hutch s _ _
@[simp] theorem addReg_pins (s : State) (n k : Nat) : (addReg s n k).pins = s.pins := setReg_pins s _ _
@[simp] theorem addReg_nvm (s : State) (n k : Nat) : (addReg s n k).nvm = s.nvm := setReg_nvm s _ _

/-! ### incReg -/

@[simp] theorem incReg_pending (s : State) (n : Nat) : (incReg s n).pending = s.pending := setReg_pending s _ _
@[simp] theorem incReg_free (s : State) (n : Nat) : (incReg s n).free = s.free := setReg_free s _ _
@[simp] theorem incReg_inForce (s : State) (n : Nat) : (incReg s n).inForce = s.inForce := setReg_inForce s _ _
@[simp] theorem incReg_snap (s : State) (n : Nat) : (incReg s n).snap = s.snap := setReg_snap s _ _
@[simp] theorem incReg_fir (s : State) (n : Nat) : (incReg s n).fir = s.fir := setReg_fir s _ _
@[simp] theorem incReg_firActive (s : State) (n : Nat) : (incReg s n).firActive = s.firActive := setReg_firActive s _ _
@[simp] theorem incReg_od (s : State) (n : Nat) : (incReg s n).od = s.od := setReg_od s _ _
@[simp] theorem incReg_power (s : State) (n : Nat) : (incReg s n).power = s.power := setReg_power s _ _
@[simp] theorem incReg_seq (s : State) (n : Nat) : (incReg s n).seq = s.seq := setReg_seq s _ _
@[simp] theorem incReg_ports (s : State) (n : Nat) : (incReg s n).ports = s.ports := setReg_ports s _ _
@[simp] theorem incReg_streams (s : State) (n : Nat) : (incReg s n).streams = s.streams := setReg_streams s _ _
@[simp] theorem incReg_stool (s : State) (n : Nat) : (incReg s n).stool = s.stool := setReg_stool s _ _
@[simp] theorem incReg_proc (s : State) (n : Nat) : (incReg s n).proc = s.proc := setReg_proc s _ _
@[simp] theorem incReg_line (s : State) (n : Nat) : (incReg s n).line = s.line := setReg_line s _ _
@[simp] theorem incReg_energy (s : State) (n : Nat) : (incReg s n).energy = s.energy := setReg_energy s _ _
@[simp] theorem incReg_harm (s : State) (n : Nat) : (incReg s n).harm = s.harm := setReg_harm s _ _
@[simp] theorem incReg_pq (s : State) (n : Nat) : (incReg s n).pq = s.pq := setReg_pq s _ _
@[simp] theorem incReg_cap (s : State) (n : Nat) : (incReg s n).cap = s.cap := setReg_cap s _ _
@[simp] theorem incReg_mem (s : State) (n : Nat) : (incReg s n).mem = s.mem := setReg_mem s _ _
@[simp] theorem incReg_dresser (s : State) (n : Nat) : (incReg s n).dresser = s.dresser := setReg_dresser s _ _
@[simp] theorem incReg_chain (s : State) (n : Nat) : (incReg s n).chain = s.chain := setReg_chain s _ _
@[simp] theorem incReg_bureau (s : State) (n : Nat) : (incReg s n).bureau = s.bureau := setReg_bureau s _ _
@[simp] theorem incReg_evid (s : State) (n : Nat) : (incReg s n).evid = s.evid := setReg_evid s _ _
@[simp] theorem incReg_hutch (s : State) (n : Nat) : (incReg s n).hutch = s.hutch := setReg_hutch s _ _
@[simp] theorem incReg_pins (s : State) (n : Nat) : (incReg s n).pins = s.pins := setReg_pins s _ _
@[simp] theorem incReg_nvm (s : State) (n : Nat) : (incReg s n).nvm = s.nvm := setReg_nvm s _ _

/-! ### incMod -/

@[simp] theorem incMod_pending (s : State) (n : Nat) : (incMod s n).pending = s.pending := setReg_pending s _ _
@[simp] theorem incMod_free (s : State) (n : Nat) : (incMod s n).free = s.free := setReg_free s _ _
@[simp] theorem incMod_inForce (s : State) (n : Nat) : (incMod s n).inForce = s.inForce := setReg_inForce s _ _
@[simp] theorem incMod_snap (s : State) (n : Nat) : (incMod s n).snap = s.snap := setReg_snap s _ _
@[simp] theorem incMod_fir (s : State) (n : Nat) : (incMod s n).fir = s.fir := setReg_fir s _ _
@[simp] theorem incMod_firActive (s : State) (n : Nat) : (incMod s n).firActive = s.firActive := setReg_firActive s _ _
@[simp] theorem incMod_od (s : State) (n : Nat) : (incMod s n).od = s.od := setReg_od s _ _
@[simp] theorem incMod_power (s : State) (n : Nat) : (incMod s n).power = s.power := setReg_power s _ _
@[simp] theorem incMod_seq (s : State) (n : Nat) : (incMod s n).seq = s.seq := setReg_seq s _ _
@[simp] theorem incMod_ports (s : State) (n : Nat) : (incMod s n).ports = s.ports := setReg_ports s _ _
@[simp] theorem incMod_streams (s : State) (n : Nat) : (incMod s n).streams = s.streams := setReg_streams s _ _
@[simp] theorem incMod_stool (s : State) (n : Nat) : (incMod s n).stool = s.stool := setReg_stool s _ _
@[simp] theorem incMod_proc (s : State) (n : Nat) : (incMod s n).proc = s.proc := setReg_proc s _ _
@[simp] theorem incMod_line (s : State) (n : Nat) : (incMod s n).line = s.line := setReg_line s _ _
@[simp] theorem incMod_energy (s : State) (n : Nat) : (incMod s n).energy = s.energy := setReg_energy s _ _
@[simp] theorem incMod_harm (s : State) (n : Nat) : (incMod s n).harm = s.harm := setReg_harm s _ _
@[simp] theorem incMod_pq (s : State) (n : Nat) : (incMod s n).pq = s.pq := setReg_pq s _ _
@[simp] theorem incMod_cap (s : State) (n : Nat) : (incMod s n).cap = s.cap := setReg_cap s _ _
@[simp] theorem incMod_mem (s : State) (n : Nat) : (incMod s n).mem = s.mem := setReg_mem s _ _
@[simp] theorem incMod_dresser (s : State) (n : Nat) : (incMod s n).dresser = s.dresser := setReg_dresser s _ _
@[simp] theorem incMod_chain (s : State) (n : Nat) : (incMod s n).chain = s.chain := setReg_chain s _ _
@[simp] theorem incMod_bureau (s : State) (n : Nat) : (incMod s n).bureau = s.bureau := setReg_bureau s _ _
@[simp] theorem incMod_evid (s : State) (n : Nat) : (incMod s n).evid = s.evid := setReg_evid s _ _
@[simp] theorem incMod_hutch (s : State) (n : Nat) : (incMod s n).hutch = s.hutch := setReg_hutch s _ _
@[simp] theorem incMod_pins (s : State) (n : Nat) : (incMod s n).pins = s.pins := setReg_pins s _ _
@[simp] theorem incMod_nvm (s : State) (n : Nat) : (incMod s n).nvm = s.nvm := setReg_nvm s _ _

/-! ### mark -/

@[simp] theorem mark_pending (s : State) (d : Did) : (mark s d).pending = s.pending := rfl
@[simp] theorem mark_free (s : State) (d : Did) : (mark s d).free = s.free := rfl
@[simp] theorem mark_regs (s : State) (d : Did) : (mark s d).regs = s.regs := rfl
@[simp] theorem mark_inForce (s : State) (d : Did) : (mark s d).inForce = s.inForce := rfl
@[simp] theorem mark_snap (s : State) (d : Did) : (mark s d).snap = s.snap := rfl
@[simp] theorem mark_fir (s : State) (d : Did) : (mark s d).fir = s.fir := rfl
@[simp] theorem mark_firActive (s : State) (d : Did) : (mark s d).firActive = s.firActive := rfl
@[simp] theorem mark_od (s : State) (d : Did) : (mark s d).od = s.od := rfl
@[simp] theorem mark_power (s : State) (d : Did) : (mark s d).power = s.power := rfl
@[simp] theorem mark_aon (s : State) (d : Did) : (mark s d).aon = s.aon := rfl
@[simp] theorem mark_ports (s : State) (d : Did) : (mark s d).ports = s.ports := rfl
@[simp] theorem mark_streams (s : State) (d : Did) : (mark s d).streams = s.streams := rfl
@[simp] theorem mark_stool (s : State) (d : Did) : (mark s d).stool = s.stool := rfl
@[simp] theorem mark_proc (s : State) (d : Did) : (mark s d).proc = s.proc := rfl
@[simp] theorem mark_line (s : State) (d : Did) : (mark s d).line = s.line := rfl
@[simp] theorem mark_energy (s : State) (d : Did) : (mark s d).energy = s.energy := rfl
@[simp] theorem mark_harm (s : State) (d : Did) : (mark s d).harm = s.harm := rfl
@[simp] theorem mark_pq (s : State) (d : Did) : (mark s d).pq = s.pq := rfl
@[simp] theorem mark_cap (s : State) (d : Did) : (mark s d).cap = s.cap := rfl
@[simp] theorem mark_mem (s : State) (d : Did) : (mark s d).mem = s.mem := rfl
@[simp] theorem mark_dresser (s : State) (d : Did) : (mark s d).dresser = s.dresser := rfl
@[simp] theorem mark_chain (s : State) (d : Did) : (mark s d).chain = s.chain := rfl
@[simp] theorem mark_bureau (s : State) (d : Did) : (mark s d).bureau = s.bureau := rfl
@[simp] theorem mark_evid (s : State) (d : Did) : (mark s d).evid = s.evid := rfl
@[simp] theorem mark_hutch (s : State) (d : Did) : (mark s d).hutch = s.hutch := rfl
@[simp] theorem mark_pins (s : State) (d : Did) : (mark s d).pins = s.pins := rfl
@[simp] theorem mark_nvm (s : State) (d : Did) : (mark s d).nvm = s.nvm := rfl

/-! ### publish -/

@[simp] theorem publish_pending (s : State) (p : Pub) : (publish s p).pending = s.pending := rfl
@[simp] theorem publish_free (s : State) (p : Pub) : (publish s p).free = s.free := rfl
@[simp] theorem publish_regs (s : State) (p : Pub) : (publish s p).regs = s.regs := rfl
@[simp] theorem publish_inForce (s : State) (p : Pub) : (publish s p).inForce = s.inForce := rfl
@[simp] theorem publish_snap (s : State) (p : Pub) : (publish s p).snap = s.snap := rfl
@[simp] theorem publish_fir (s : State) (p : Pub) : (publish s p).fir = s.fir := rfl
@[simp] theorem publish_firActive (s : State) (p : Pub) : (publish s p).firActive = s.firActive := rfl
@[simp] theorem publish_od (s : State) (p : Pub) : (publish s p).od = s.od := rfl
@[simp] theorem publish_power (s : State) (p : Pub) : (publish s p).power = s.power := rfl
@[simp] theorem publish_aon (s : State) (p : Pub) : (publish s p).aon = s.aon := rfl
@[simp] theorem publish_ports (s : State) (p : Pub) : (publish s p).ports = s.ports := rfl
@[simp] theorem publish_streams (s : State) (p : Pub) : (publish s p).streams = s.streams := rfl
@[simp] theorem publish_stool (s : State) (p : Pub) : (publish s p).stool = s.stool := rfl
@[simp] theorem publish_proc (s : State) (p : Pub) : (publish s p).proc = s.proc := rfl
@[simp] theorem publish_line (s : State) (p : Pub) : (publish s p).line = s.line := rfl
@[simp] theorem publish_energy (s : State) (p : Pub) : (publish s p).energy = s.energy := rfl
@[simp] theorem publish_harm (s : State) (p : Pub) : (publish s p).harm = s.harm := rfl
@[simp] theorem publish_pq (s : State) (p : Pub) : (publish s p).pq = s.pq := rfl
@[simp] theorem publish_cap (s : State) (p : Pub) : (publish s p).cap = s.cap := rfl
@[simp] theorem publish_mem (s : State) (p : Pub) : (publish s p).mem = s.mem := rfl
@[simp] theorem publish_dresser (s : State) (p : Pub) : (publish s p).dresser = s.dresser := rfl
@[simp] theorem publish_chain (s : State) (p : Pub) : (publish s p).chain = s.chain := rfl
@[simp] theorem publish_bureau (s : State) (p : Pub) : (publish s p).bureau = s.bureau := rfl
@[simp] theorem publish_evid (s : State) (p : Pub) : (publish s p).evid = s.evid := rfl
@[simp] theorem publish_hutch (s : State) (p : Pub) : (publish s p).hutch = s.hutch := rfl
@[simp] theorem publish_pins (s : State) (p : Pub) : (publish s p).pins = s.pins := rfl
@[simp] theorem publish_nvm (s : State) (p : Pub) : (publish s p).nvm = s.nvm := rfl

/-! ### publishAll -/

@[simp] theorem publishAll_pending (s : State) (ps : List Pub) : (publishAll s ps).pending = s.pending := rfl
@[simp] theorem publishAll_free (s : State) (ps : List Pub) : (publishAll s ps).free = s.free := rfl
@[simp] theorem publishAll_regs (s : State) (ps : List Pub) : (publishAll s ps).regs = s.regs := rfl
@[simp] theorem publishAll_inForce (s : State) (ps : List Pub) : (publishAll s ps).inForce = s.inForce := rfl
@[simp] theorem publishAll_snap (s : State) (ps : List Pub) : (publishAll s ps).snap = s.snap := rfl
@[simp] theorem publishAll_fir (s : State) (ps : List Pub) : (publishAll s ps).fir = s.fir := rfl
@[simp] theorem publishAll_firActive (s : State) (ps : List Pub) : (publishAll s ps).firActive = s.firActive := rfl
@[simp] theorem publishAll_od (s : State) (ps : List Pub) : (publishAll s ps).od = s.od := rfl
@[simp] theorem publishAll_power (s : State) (ps : List Pub) : (publishAll s ps).power = s.power := rfl
@[simp] theorem publishAll_aon (s : State) (ps : List Pub) : (publishAll s ps).aon = s.aon := rfl
@[simp] theorem publishAll_ports (s : State) (ps : List Pub) : (publishAll s ps).ports = s.ports := rfl
@[simp] theorem publishAll_streams (s : State) (ps : List Pub) : (publishAll s ps).streams = s.streams := rfl
@[simp] theorem publishAll_stool (s : State) (ps : List Pub) : (publishAll s ps).stool = s.stool := rfl
@[simp] theorem publishAll_proc (s : State) (ps : List Pub) : (publishAll s ps).proc = s.proc := rfl
@[simp] theorem publishAll_line (s : State) (ps : List Pub) : (publishAll s ps).line = s.line := rfl
@[simp] theorem publishAll_energy (s : State) (ps : List Pub) : (publishAll s ps).energy = s.energy := rfl
@[simp] theorem publishAll_harm (s : State) (ps : List Pub) : (publishAll s ps).harm = s.harm := rfl
@[simp] theorem publishAll_pq (s : State) (ps : List Pub) : (publishAll s ps).pq = s.pq := rfl
@[simp] theorem publishAll_cap (s : State) (ps : List Pub) : (publishAll s ps).cap = s.cap := rfl
@[simp] theorem publishAll_mem (s : State) (ps : List Pub) : (publishAll s ps).mem = s.mem := rfl
@[simp] theorem publishAll_dresser (s : State) (ps : List Pub) : (publishAll s ps).dresser = s.dresser := rfl
@[simp] theorem publishAll_chain (s : State) (ps : List Pub) : (publishAll s ps).chain = s.chain := rfl
@[simp] theorem publishAll_bureau (s : State) (ps : List Pub) : (publishAll s ps).bureau = s.bureau := rfl
@[simp] theorem publishAll_evid (s : State) (ps : List Pub) : (publishAll s ps).evid = s.evid := rfl
@[simp] theorem publishAll_hutch (s : State) (ps : List Pub) : (publishAll s ps).hutch = s.hutch := rfl
@[simp] theorem publishAll_pins (s : State) (ps : List Pub) : (publishAll s ps).pins = s.pins := rfl
@[simp] theorem publishAll_nvm (s : State) (ps : List Pub) : (publishAll s ps).nvm = s.nvm := rfl

/-! ### nextFree -/

@[simp] theorem nextFree_pending (s : State) : (nextFree s).pending = s.pending := rfl
@[simp] theorem nextFree_regs (s : State) : (nextFree s).regs = s.regs := rfl
@[simp] theorem nextFree_inForce (s : State) : (nextFree s).inForce = s.inForce := rfl
@[simp] theorem nextFree_snap (s : State) : (nextFree s).snap = s.snap := rfl
@[simp] theorem nextFree_fir (s : State) : (nextFree s).fir = s.fir := rfl
@[simp] theorem nextFree_firActive (s : State) : (nextFree s).firActive = s.firActive := rfl
@[simp] theorem nextFree_od (s : State) : (nextFree s).od = s.od := rfl
@[simp] theorem nextFree_power (s : State) : (nextFree s).power = s.power := rfl
@[simp] theorem nextFree_seq (s : State) : (nextFree s).seq = s.seq := rfl
@[simp] theorem nextFree_aon (s : State) : (nextFree s).aon = s.aon := rfl
@[simp] theorem nextFree_ports (s : State) : (nextFree s).ports = s.ports := rfl
@[simp] theorem nextFree_streams (s : State) : (nextFree s).streams = s.streams := rfl
@[simp] theorem nextFree_stool (s : State) : (nextFree s).stool = s.stool := rfl
@[simp] theorem nextFree_proc (s : State) : (nextFree s).proc = s.proc := rfl
@[simp] theorem nextFree_line (s : State) : (nextFree s).line = s.line := rfl
@[simp] theorem nextFree_energy (s : State) : (nextFree s).energy = s.energy := rfl
@[simp] theorem nextFree_harm (s : State) : (nextFree s).harm = s.harm := rfl
@[simp] theorem nextFree_pq (s : State) : (nextFree s).pq = s.pq := rfl
@[simp] theorem nextFree_cap (s : State) : (nextFree s).cap = s.cap := rfl
@[simp] theorem nextFree_mem (s : State) : (nextFree s).mem = s.mem := rfl
@[simp] theorem nextFree_dresser (s : State) : (nextFree s).dresser = s.dresser := rfl
@[simp] theorem nextFree_chain (s : State) : (nextFree s).chain = s.chain := rfl
@[simp] theorem nextFree_bureau (s : State) : (nextFree s).bureau = s.bureau := rfl
@[simp] theorem nextFree_evid (s : State) : (nextFree s).evid = s.evid := rfl
@[simp] theorem nextFree_hutch (s : State) : (nextFree s).hutch = s.hutch := rfl
@[simp] theorem nextFree_pins (s : State) : (nextFree s).pins = s.pins := rfl
@[simp] theorem nextFree_nvm (s : State) : (nextFree s).nvm = s.nvm := rfl

/-! ### atOsc -/

@[simp] theorem atOsc_pending (s : State) (now : Nat) : (atOsc s now).pending = s.pending := rfl
@[simp] theorem atOsc_free (s : State) (now : Nat) : (atOsc s now).free = s.free := rfl
@[simp] theorem atOsc_regs (s : State) (now : Nat) : (atOsc s now).regs = s.regs := rfl
@[simp] theorem atOsc_inForce (s : State) (now : Nat) : (atOsc s now).inForce = s.inForce := rfl
@[simp] theorem atOsc_snap (s : State) (now : Nat) : (atOsc s now).snap = s.snap := rfl
@[simp] theorem atOsc_fir (s : State) (now : Nat) : (atOsc s now).fir = s.fir := rfl
@[simp] theorem atOsc_firActive (s : State) (now : Nat) : (atOsc s now).firActive = s.firActive := rfl
@[simp] theorem atOsc_od (s : State) (now : Nat) : (atOsc s now).od = s.od := rfl
@[simp] theorem atOsc_power (s : State) (now : Nat) : (atOsc s now).power = s.power := rfl
@[simp] theorem atOsc_seq (s : State) (now : Nat) : (atOsc s now).seq = s.seq := rfl
@[simp] theorem atOsc_ports (s : State) (now : Nat) : (atOsc s now).ports = s.ports := rfl
@[simp] theorem atOsc_streams (s : State) (now : Nat) : (atOsc s now).streams = s.streams := rfl
@[simp] theorem atOsc_stool (s : State) (now : Nat) : (atOsc s now).stool = s.stool := rfl
@[simp] theorem atOsc_proc (s : State) (now : Nat) : (atOsc s now).proc = s.proc := rfl
@[simp] theorem atOsc_line (s : State) (now : Nat) : (atOsc s now).line = s.line := rfl
@[simp] theorem atOsc_energy (s : State) (now : Nat) : (atOsc s now).energy = s.energy := rfl
@[simp] theorem atOsc_harm (s : State) (now : Nat) : (atOsc s now).harm = s.harm := rfl
@[simp] theorem atOsc_pq (s : State) (now : Nat) : (atOsc s now).pq = s.pq := rfl
@[simp] theorem atOsc_cap (s : State) (now : Nat) : (atOsc s now).cap = s.cap := rfl
@[simp] theorem atOsc_mem (s : State) (now : Nat) : (atOsc s now).mem = s.mem := rfl
@[simp] theorem atOsc_dresser (s : State) (now : Nat) : (atOsc s now).dresser = s.dresser := rfl
@[simp] theorem atOsc_chain (s : State) (now : Nat) : (atOsc s now).chain = s.chain := rfl
@[simp] theorem atOsc_bureau (s : State) (now : Nat) : (atOsc s now).bureau = s.bureau := rfl
@[simp] theorem atOsc_evid (s : State) (now : Nat) : (atOsc s now).evid = s.evid := rfl
@[simp] theorem atOsc_hutch (s : State) (now : Nat) : (atOsc s now).hutch = s.hutch := rfl
@[simp] theorem atOsc_pins (s : State) (now : Nat) : (atOsc s now).pins = s.pins := rfl
@[simp] theorem atOsc_nvm (s : State) (now : Nat) : (atOsc s now).nvm = s.nvm := rfl

/-! ### deliver -/

@[simp] theorem deliver_pending (s : State) (e : BEvent) : (deliver s e).pending = s.pending := by unfold deliver; split <;> rfl
@[simp] theorem deliver_free (s : State) (e : BEvent) : (deliver s e).free = s.free := by unfold deliver; split <;> rfl
@[simp] theorem deliver_regs (s : State) (e : BEvent) : (deliver s e).regs = s.regs := by unfold deliver; split <;> rfl
@[simp] theorem deliver_inForce (s : State) (e : BEvent) : (deliver s e).inForce = s.inForce := by unfold deliver; split <;> rfl
@[simp] theorem deliver_snap (s : State) (e : BEvent) : (deliver s e).snap = s.snap := by unfold deliver; split <;> rfl
@[simp] theorem deliver_fir (s : State) (e : BEvent) : (deliver s e).fir = s.fir := by unfold deliver; split <;> rfl
@[simp] theorem deliver_firActive (s : State) (e : BEvent) : (deliver s e).firActive = s.firActive := by unfold deliver; split <;> rfl
@[simp] theorem deliver_od (s : State) (e : BEvent) : (deliver s e).od = s.od := by unfold deliver; split <;> rfl
@[simp] theorem deliver_power (s : State) (e : BEvent) : (deliver s e).power = s.power := by unfold deliver; split <;> rfl
@[simp] theorem deliver_seq (s : State) (e : BEvent) : (deliver s e).seq = s.seq := by unfold deliver; split <;> rfl
@[simp] theorem deliver_aon (s : State) (e : BEvent) : (deliver s e).aon = s.aon := by unfold deliver; split <;> rfl
@[simp] theorem deliver_ports (s : State) (e : BEvent) : (deliver s e).ports = s.ports := by unfold deliver; split <;> rfl
@[simp] theorem deliver_streams (s : State) (e : BEvent) : (deliver s e).streams = s.streams := by unfold deliver; split <;> rfl
@[simp] theorem deliver_stool (s : State) (e : BEvent) : (deliver s e).stool = s.stool := by unfold deliver; split <;> rfl
@[simp] theorem deliver_proc (s : State) (e : BEvent) : (deliver s e).proc = s.proc := by unfold deliver; split <;> rfl
@[simp] theorem deliver_line (s : State) (e : BEvent) : (deliver s e).line = s.line := by unfold deliver; split <;> rfl
@[simp] theorem deliver_energy (s : State) (e : BEvent) : (deliver s e).energy = s.energy := by unfold deliver; split <;> rfl
@[simp] theorem deliver_harm (s : State) (e : BEvent) : (deliver s e).harm = s.harm := by unfold deliver; split <;> rfl
@[simp] theorem deliver_pq (s : State) (e : BEvent) : (deliver s e).pq = s.pq := by unfold deliver; split <;> rfl
@[simp] theorem deliver_cap (s : State) (e : BEvent) : (deliver s e).cap = s.cap := by unfold deliver; split <;> rfl
@[simp] theorem deliver_mem (s : State) (e : BEvent) : (deliver s e).mem = s.mem := by unfold deliver; split <;> rfl
@[simp] theorem deliver_dresser (s : State) (e : BEvent) : (deliver s e).dresser = s.dresser := by unfold deliver; split <;> rfl
@[simp] theorem deliver_chain (s : State) (e : BEvent) : (deliver s e).chain = s.chain := by unfold deliver; split <;> rfl
@[simp] theorem deliver_evid (s : State) (e : BEvent) : (deliver s e).evid = s.evid := by unfold deliver; split <;> rfl
@[simp] theorem deliver_hutch (s : State) (e : BEvent) : (deliver s e).hutch = s.hutch := by unfold deliver; split <;> rfl
@[simp] theorem deliver_pins (s : State) (e : BEvent) : (deliver s e).pins = s.pins := by unfold deliver; split <;> rfl
@[simp] theorem deliver_nvm (s : State) (e : BEvent) : (deliver s e).nvm = s.nvm := by unfold deliver; split <;> rfl

/-! ### deliverSource -/

@[simp] theorem deliverSource_pending (s : State) (src : Nat) : (deliverSource s src).pending = s.pending := rfl
@[simp] theorem deliverSource_free (s : State) (src : Nat) : (deliverSource s src).free = s.free := rfl
@[simp] theorem deliverSource_regs (s : State) (src : Nat) : (deliverSource s src).regs = s.regs := rfl
@[simp] theorem deliverSource_inForce (s : State) (src : Nat) : (deliverSource s src).inForce = s.inForce := rfl
@[simp] theorem deliverSource_snap (s : State) (src : Nat) : (deliverSource s src).snap = s.snap := rfl
@[simp] theorem deliverSource_fir (s : State) (src : Nat) : (deliverSource s src).fir = s.fir := rfl
@[simp] theorem deliverSource_firActive (s : State) (src : Nat) : (deliverSource s src).firActive = s.firActive := rfl
@[simp] theorem deliverSource_od (s : State) (src : Nat) : (deliverSource s src).od = s.od := rfl
@[simp] theorem deliverSource_power (s : State) (src : Nat) : (deliverSource s src).power = s.power := rfl
@[simp] theorem deliverSource_seq (s : State) (src : Nat) : (deliverSource s src).seq = s.seq := rfl
@[simp] theorem deliverSource_aon (s : State) (src : Nat) : (deliverSource s src).aon = s.aon := rfl
@[simp] theorem deliverSource_ports (s : State) (src : Nat) : (deliverSource s src).ports = s.ports := rfl
@[simp] theorem deliverSource_streams (s : State) (src : Nat) : (deliverSource s src).streams = s.streams := rfl
@[simp] theorem deliverSource_stool (s : State) (src : Nat) : (deliverSource s src).stool = s.stool := rfl
@[simp] theorem deliverSource_proc (s : State) (src : Nat) : (deliverSource s src).proc = s.proc := rfl
@[simp] theorem deliverSource_line (s : State) (src : Nat) : (deliverSource s src).line = s.line := rfl
@[simp] theorem deliverSource_energy (s : State) (src : Nat) : (deliverSource s src).energy = s.energy := rfl
@[simp] theorem deliverSource_harm (s : State) (src : Nat) : (deliverSource s src).harm = s.harm := rfl
@[simp] theorem deliverSource_pq (s : State) (src : Nat) : (deliverSource s src).pq = s.pq := rfl
@[simp] theorem deliverSource_cap (s : State) (src : Nat) : (deliverSource s src).cap = s.cap := rfl
@[simp] theorem deliverSource_mem (s : State) (src : Nat) : (deliverSource s src).mem = s.mem := rfl
@[simp] theorem deliverSource_dresser (s : State) (src : Nat) : (deliverSource s src).dresser = s.dresser := rfl
@[simp] theorem deliverSource_chain (s : State) (src : Nat) : (deliverSource s src).chain = s.chain := rfl
@[simp] theorem deliverSource_evid (s : State) (src : Nat) : (deliverSource s src).evid = s.evid := rfl
@[simp] theorem deliverSource_hutch (s : State) (src : Nat) : (deliverSource s src).hutch = s.hutch := rfl
@[simp] theorem deliverSource_pins (s : State) (src : Nat) : (deliverSource s src).pins = s.pins := rfl
@[simp] theorem deliverSource_nvm (s : State) (src : Nat) : (deliverSource s src).nvm = s.nvm := rfl

/-! ### raise -/

@[simp] theorem raise_pending (s : State) (src : Nat) : (raise s src).pending = s.pending := by unfold raise; dsimp only; (repeat (first | split | simp))
@[simp] theorem raise_free (s : State) (src : Nat) : (raise s src).free = s.free := by unfold raise; dsimp only; (repeat (first | split | simp))
@[simp] theorem raise_inForce (s : State) (src : Nat) : (raise s src).inForce = s.inForce := by unfold raise; dsimp only; (repeat (first | split | simp))
@[simp] theorem raise_snap (s : State) (src : Nat) : (raise s src).snap = s.snap := by unfold raise; dsimp only; (repeat (first | split | simp))
@[simp] theorem raise_fir (s : State) (src : Nat) : (raise s src).fir = s.fir := by unfold raise; dsimp only; (repeat (first | split | simp))
@[simp] theorem raise_firActive (s : State) (src : Nat) : (raise s src).firActive = s.firActive := by unfold raise; dsimp only; (repeat (first | split | simp))
@[simp] theorem raise_od (s : State) (src : Nat) : (raise s src).od = s.od := by unfold raise; dsimp only; (repeat (first | split | simp))
@[simp] theorem raise_power (s : State) (src : Nat) : (raise s src).power = s.power := by unfold raise; dsimp only; (repeat (first | split | simp))
@[simp] theorem raise_seq (s : State) (src : Nat) : (raise s src).seq = s.seq := by unfold raise; dsimp only; (repeat (first | split | simp))
@[simp] theorem raise_ports (s : State) (src : Nat) : (raise s src).ports = s.ports := by unfold raise; dsimp only; (repeat (first | split | simp))
@[simp] theorem raise_streams (s : State) (src : Nat) : (raise s src).streams = s.streams := by unfold raise; dsimp only; (repeat (first | split | simp))
@[simp] theorem raise_stool (s : State) (src : Nat) : (raise s src).stool = s.stool := by unfold raise; dsimp only; (repeat (first | split | simp))
@[simp] theorem raise_proc (s : State) (src : Nat) : (raise s src).proc = s.proc := by unfold raise; dsimp only; (repeat (first | split | simp))
@[simp] theorem raise_line (s : State) (src : Nat) : (raise s src).line = s.line := by unfold raise; dsimp only; (repeat (first | split | simp))
@[simp] theorem raise_energy (s : State) (src : Nat) : (raise s src).energy = s.energy := by unfold raise; dsimp only; (repeat (first | split | simp))
@[simp] theorem raise_harm (s : State) (src : Nat) : (raise s src).harm = s.harm := by unfold raise; dsimp only; (repeat (first | split | simp))
@[simp] theorem raise_pq (s : State) (src : Nat) : (raise s src).pq = s.pq := by unfold raise; dsimp only; (repeat (first | split | simp))
@[simp] theorem raise_cap (s : State) (src : Nat) : (raise s src).cap = s.cap := by unfold raise; dsimp only; (repeat (first | split | simp))
@[simp] theorem raise_mem (s : State) (src : Nat) : (raise s src).mem = s.mem := by unfold raise; dsimp only; (repeat (first | split | simp))
@[simp] theorem raise_dresser (s : State) (src : Nat) : (raise s src).dresser = s.dresser := by unfold raise; dsimp only; (repeat (first | split | simp))
@[simp] theorem raise_chain (s : State) (src : Nat) : (raise s src).chain = s.chain := by unfold raise; dsimp only; (repeat (first | split | simp))
@[simp] theorem raise_evid (s : State) (src : Nat) : (raise s src).evid = s.evid := by unfold raise; dsimp only; (repeat (first | split | simp))
@[simp] theorem raise_hutch (s : State) (src : Nat) : (raise s src).hutch = s.hutch := by unfold raise; dsimp only; (repeat (first | split | simp))
@[simp] theorem raise_pins (s : State) (src : Nat) : (raise s src).pins = s.pins := by unfold raise; dsimp only; (repeat (first | split | simp))
@[simp] theorem raise_nvm (s : State) (src : Nat) : (raise s src).nvm = s.nvm := by unfold raise; dsimp only; (repeat (first | split | simp))

/-! ### putPort -/

@[simp] theorem putPort_pending (s : State) (p : PortId) (q : Port) : (putPort s p q).pending = s.pending := by cases p <;> rfl
@[simp] theorem putPort_free (s : State) (p : PortId) (q : Port) : (putPort s p q).free = s.free := by cases p <;> rfl
@[simp] theorem putPort_regs (s : State) (p : PortId) (q : Port) : (putPort s p q).regs = s.regs := by cases p <;> rfl
@[simp] theorem putPort_inForce (s : State) (p : PortId) (q : Port) : (putPort s p q).inForce = s.inForce := by cases p <;> rfl
@[simp] theorem putPort_snap (s : State) (p : PortId) (q : Port) : (putPort s p q).snap = s.snap := by cases p <;> rfl
@[simp] theorem putPort_fir (s : State) (p : PortId) (q : Port) : (putPort s p q).fir = s.fir := by cases p <;> rfl
@[simp] theorem putPort_firActive (s : State) (p : PortId) (q : Port) : (putPort s p q).firActive = s.firActive := by cases p <;> rfl
@[simp] theorem putPort_od (s : State) (p : PortId) (q : Port) : (putPort s p q).od = s.od := by cases p <;> rfl
@[simp] theorem putPort_power (s : State) (p : PortId) (q : Port) : (putPort s p q).power = s.power := by cases p <;> rfl
@[simp] theorem putPort_seq (s : State) (p : PortId) (q : Port) : (putPort s p q).seq = s.seq := by cases p <;> rfl
@[simp] theorem putPort_aon (s : State) (p : PortId) (q : Port) : (putPort s p q).aon = s.aon := by cases p <;> rfl
@[simp] theorem putPort_streams (s : State) (p : PortId) (q : Port) : (putPort s p q).streams = s.streams := by cases p <;> rfl
@[simp] theorem putPort_stool (s : State) (p : PortId) (q : Port) : (putPort s p q).stool = s.stool := by cases p <;> rfl
@[simp] theorem putPort_proc (s : State) (p : PortId) (q : Port) : (putPort s p q).proc = s.proc := by cases p <;> rfl
@[simp] theorem putPort_line (s : State) (p : PortId) (q : Port) : (putPort s p q).line = s.line := by cases p <;> rfl
@[simp] theorem putPort_energy (s : State) (p : PortId) (q : Port) : (putPort s p q).energy = s.energy := by cases p <;> rfl
@[simp] theorem putPort_harm (s : State) (p : PortId) (q : Port) : (putPort s p q).harm = s.harm := by cases p <;> rfl
@[simp] theorem putPort_pq (s : State) (p : PortId) (q : Port) : (putPort s p q).pq = s.pq := by cases p <;> rfl
@[simp] theorem putPort_cap (s : State) (p : PortId) (q : Port) : (putPort s p q).cap = s.cap := by cases p <;> rfl
@[simp] theorem putPort_mem (s : State) (p : PortId) (q : Port) : (putPort s p q).mem = s.mem := by cases p <;> rfl
@[simp] theorem putPort_dresser (s : State) (p : PortId) (q : Port) : (putPort s p q).dresser = s.dresser := by cases p <;> rfl
@[simp] theorem putPort_chain (s : State) (p : PortId) (q : Port) : (putPort s p q).chain = s.chain := by cases p <;> rfl
@[simp] theorem putPort_bureau (s : State) (p : PortId) (q : Port) : (putPort s p q).bureau = s.bureau := by cases p <;> rfl
@[simp] theorem putPort_evid (s : State) (p : PortId) (q : Port) : (putPort s p q).evid = s.evid := by cases p <;> rfl
@[simp] theorem putPort_hutch (s : State) (p : PortId) (q : Port) : (putPort s p q).hutch = s.hutch := by cases p <;> rfl
@[simp] theorem putPort_pins (s : State) (p : PortId) (q : Port) : (putPort s p q).pins = s.pins := by cases p <;> rfl
@[simp] theorem putPort_nvm (s : State) (p : PortId) (q : Port) : (putPort s p q).nvm = s.nvm := by cases p <;> rfl

/-! ### putLink -/

@[simp] theorem putLink_pending (s : State) (d : Side) (l : Link) : (putLink s d l).pending = s.pending := by cases d <;> rfl
@[simp] theorem putLink_free (s : State) (d : Side) (l : Link) : (putLink s d l).free = s.free := by cases d <;> rfl
@[simp] theorem putLink_regs (s : State) (d : Side) (l : Link) : (putLink s d l).regs = s.regs := by cases d <;> rfl
@[simp] theorem putLink_inForce (s : State) (d : Side) (l : Link) : (putLink s d l).inForce = s.inForce := by cases d <;> rfl
@[simp] theorem putLink_snap (s : State) (d : Side) (l : Link) : (putLink s d l).snap = s.snap := by cases d <;> rfl
@[simp] theorem putLink_fir (s : State) (d : Side) (l : Link) : (putLink s d l).fir = s.fir := by cases d <;> rfl
@[simp] theorem putLink_firActive (s : State) (d : Side) (l : Link) : (putLink s d l).firActive = s.firActive := by cases d <;> rfl
@[simp] theorem putLink_od (s : State) (d : Side) (l : Link) : (putLink s d l).od = s.od := by cases d <;> rfl
@[simp] theorem putLink_power (s : State) (d : Side) (l : Link) : (putLink s d l).power = s.power := by cases d <;> rfl
@[simp] theorem putLink_seq (s : State) (d : Side) (l : Link) : (putLink s d l).seq = s.seq := by cases d <;> rfl
@[simp] theorem putLink_aon (s : State) (d : Side) (l : Link) : (putLink s d l).aon = s.aon := by cases d <;> rfl
@[simp] theorem putLink_ports (s : State) (d : Side) (l : Link) : (putLink s d l).ports = s.ports := by cases d <;> rfl
@[simp] theorem putLink_streams (s : State) (d : Side) (l : Link) : (putLink s d l).streams = s.streams := by cases d <;> rfl
@[simp] theorem putLink_stool (s : State) (d : Side) (l : Link) : (putLink s d l).stool = s.stool := by cases d <;> rfl
@[simp] theorem putLink_proc (s : State) (d : Side) (l : Link) : (putLink s d l).proc = s.proc := by cases d <;> rfl
@[simp] theorem putLink_line (s : State) (d : Side) (l : Link) : (putLink s d l).line = s.line := by cases d <;> rfl
@[simp] theorem putLink_energy (s : State) (d : Side) (l : Link) : (putLink s d l).energy = s.energy := by cases d <;> rfl
@[simp] theorem putLink_harm (s : State) (d : Side) (l : Link) : (putLink s d l).harm = s.harm := by cases d <;> rfl
@[simp] theorem putLink_pq (s : State) (d : Side) (l : Link) : (putLink s d l).pq = s.pq := by cases d <;> rfl
@[simp] theorem putLink_cap (s : State) (d : Side) (l : Link) : (putLink s d l).cap = s.cap := by cases d <;> rfl
@[simp] theorem putLink_mem (s : State) (d : Side) (l : Link) : (putLink s d l).mem = s.mem := by cases d <;> rfl
@[simp] theorem putLink_dresser (s : State) (d : Side) (l : Link) : (putLink s d l).dresser = s.dresser := by cases d <;> rfl
@[simp] theorem putLink_bureau (s : State) (d : Side) (l : Link) : (putLink s d l).bureau = s.bureau := by cases d <;> rfl
@[simp] theorem putLink_evid (s : State) (d : Side) (l : Link) : (putLink s d l).evid = s.evid := by cases d <;> rfl
@[simp] theorem putLink_hutch (s : State) (d : Side) (l : Link) : (putLink s d l).hutch = s.hutch := by cases d <;> rfl
@[simp] theorem putLink_pins (s : State) (d : Side) (l : Link) : (putLink s d l).pins = s.pins := by cases d <;> rfl
@[simp] theorem putLink_nvm (s : State) (d : Side) (l : Link) : (putLink s d l).nvm = s.nvm := by cases d <;> rfl

/-! ### sendFrame -/

@[simp] theorem sendFrame_pending (s : State) (f : TxFrame) : (sendFrame s f).pending = s.pending := by unfold sendFrame; split <;> rfl
@[simp] theorem sendFrame_free (s : State) (f : TxFrame) : (sendFrame s f).free = s.free := by unfold sendFrame; split <;> rfl
@[simp] theorem sendFrame_regs (s : State) (f : TxFrame) : (sendFrame s f).regs = s.regs := by unfold sendFrame; split <;> rfl
@[simp] theorem sendFrame_inForce (s : State) (f : TxFrame) : (sendFrame s f).inForce = s.inForce := by unfold sendFrame; split <;> rfl
@[simp] theorem sendFrame_snap (s : State) (f : TxFrame) : (sendFrame s f).snap = s.snap := by unfold sendFrame; split <;> rfl
@[simp] theorem sendFrame_fir (s : State) (f : TxFrame) : (sendFrame s f).fir = s.fir := by unfold sendFrame; split <;> rfl
@[simp] theorem sendFrame_firActive (s : State) (f : TxFrame) : (sendFrame s f).firActive = s.firActive := by unfold sendFrame; split <;> rfl
@[simp] theorem sendFrame_od (s : State) (f : TxFrame) : (sendFrame s f).od = s.od := by unfold sendFrame; split <;> rfl
@[simp] theorem sendFrame_power (s : State) (f : TxFrame) : (sendFrame s f).power = s.power := by unfold sendFrame; split <;> rfl
@[simp] theorem sendFrame_seq (s : State) (f : TxFrame) : (sendFrame s f).seq = s.seq := by unfold sendFrame; split <;> rfl
@[simp] theorem sendFrame_aon (s : State) (f : TxFrame) : (sendFrame s f).aon = s.aon := by unfold sendFrame; split <;> rfl
@[simp] theorem sendFrame_ports (s : State) (f : TxFrame) : (sendFrame s f).ports = s.ports := by unfold sendFrame; split <;> rfl
@[simp] theorem sendFrame_streams (s : State) (f : TxFrame) : (sendFrame s f).streams = s.streams := by unfold sendFrame; split <;> rfl
@[simp] theorem sendFrame_stool (s : State) (f : TxFrame) : (sendFrame s f).stool = s.stool := by unfold sendFrame; split <;> rfl
@[simp] theorem sendFrame_proc (s : State) (f : TxFrame) : (sendFrame s f).proc = s.proc := by unfold sendFrame; split <;> rfl
@[simp] theorem sendFrame_line (s : State) (f : TxFrame) : (sendFrame s f).line = s.line := by unfold sendFrame; split <;> rfl
@[simp] theorem sendFrame_energy (s : State) (f : TxFrame) : (sendFrame s f).energy = s.energy := by unfold sendFrame; split <;> rfl
@[simp] theorem sendFrame_harm (s : State) (f : TxFrame) : (sendFrame s f).harm = s.harm := by unfold sendFrame; split <;> rfl
@[simp] theorem sendFrame_pq (s : State) (f : TxFrame) : (sendFrame s f).pq = s.pq := by unfold sendFrame; split <;> rfl
@[simp] theorem sendFrame_cap (s : State) (f : TxFrame) : (sendFrame s f).cap = s.cap := by unfold sendFrame; split <;> rfl
@[simp] theorem sendFrame_mem (s : State) (f : TxFrame) : (sendFrame s f).mem = s.mem := by unfold sendFrame; split <;> rfl
@[simp] theorem sendFrame_dresser (s : State) (f : TxFrame) : (sendFrame s f).dresser = s.dresser := by unfold sendFrame; split <;> rfl
@[simp] theorem sendFrame_bureau (s : State) (f : TxFrame) : (sendFrame s f).bureau = s.bureau := by unfold sendFrame; split <;> rfl
@[simp] theorem sendFrame_evid (s : State) (f : TxFrame) : (sendFrame s f).evid = s.evid := by unfold sendFrame; split <;> rfl
@[simp] theorem sendFrame_hutch (s : State) (f : TxFrame) : (sendFrame s f).hutch = s.hutch := by unfold sendFrame; split <;> rfl
@[simp] theorem sendFrame_pins (s : State) (f : TxFrame) : (sendFrame s f).pins = s.pins := by unfold sendFrame; split <;> rfl
@[simp] theorem sendFrame_nvm (s : State) (f : TxFrame) : (sendFrame s f).nvm = s.nvm := by unfold sendFrame; split <;> rfl

/-! ### raiseIf -/

@[simp] theorem raiseIf_pending (c : Bool) (src : Nat) (s : State) : (raiseIf c src s).pending = s.pending := by unfold raiseIf; split <;> simp
@[simp] theorem raiseIf_free (c : Bool) (src : Nat) (s : State) : (raiseIf c src s).free = s.free := by unfold raiseIf; split <;> simp
@[simp] theorem raiseIf_inForce (c : Bool) (src : Nat) (s : State) : (raiseIf c src s).inForce = s.inForce := by unfold raiseIf; split <;> simp
@[simp] theorem raiseIf_snap (c : Bool) (src : Nat) (s : State) : (raiseIf c src s).snap = s.snap := by unfold raiseIf; split <;> simp
@[simp] theorem raiseIf_fir (c : Bool) (src : Nat) (s : State) : (raiseIf c src s).fir = s.fir := by unfold raiseIf; split <;> simp
@[simp] theorem raiseIf_firActive (c : Bool) (src : Nat) (s : State) : (raiseIf c src s).firActive = s.firActive := by unfold raiseIf; split <;> simp
@[simp] theorem raiseIf_od (c : Bool) (src : Nat) (s : State) : (raiseIf c src s).od = s.od := by unfold raiseIf; split <;> simp
@[simp] theorem raiseIf_power (c : Bool) (src : Nat) (s : State) : (raiseIf c src s).power = s.power := by unfold raiseIf; split <;> simp
@[simp] theorem raiseIf_seq (c : Bool) (src : Nat) (s : State) : (raiseIf c src s).seq = s.seq := by unfold raiseIf; split <;> simp
@[simp] theorem raiseIf_ports (c : Bool) (src : Nat) (s : State) : (raiseIf c src s).ports = s.ports := by unfold raiseIf; split <;> simp
@[simp] theorem raiseIf_streams (c : Bool) (src : Nat) (s : State) : (raiseIf c src s).streams = s.streams := by unfold raiseIf; split <;> simp
@[simp] theorem raiseIf_stool (c : Bool) (src : Nat) (s : State) : (raiseIf c src s).stool = s.stool := by unfold raiseIf; split <;> simp
@[simp] theorem raiseIf_proc (c : Bool) (src : Nat) (s : State) : (raiseIf c src s).proc = s.proc := by unfold raiseIf; split <;> simp
@[simp] theorem raiseIf_line (c : Bool) (src : Nat) (s : State) : (raiseIf c src s).line = s.line := by unfold raiseIf; split <;> simp
@[simp] theorem raiseIf_energy (c : Bool) (src : Nat) (s : State) : (raiseIf c src s).energy = s.energy := by unfold raiseIf; split <;> simp
@[simp] theorem raiseIf_harm (c : Bool) (src : Nat) (s : State) : (raiseIf c src s).harm = s.harm := by unfold raiseIf; split <;> simp
@[simp] theorem raiseIf_pq (c : Bool) (src : Nat) (s : State) : (raiseIf c src s).pq = s.pq := by unfold raiseIf; split <;> simp
@[simp] theorem raiseIf_cap (c : Bool) (src : Nat) (s : State) : (raiseIf c src s).cap = s.cap := by unfold raiseIf; split <;> simp
@[simp] theorem raiseIf_mem (c : Bool) (src : Nat) (s : State) : (raiseIf c src s).mem = s.mem := by unfold raiseIf; split <;> simp
@[simp] theorem raiseIf_dresser (c : Bool) (src : Nat) (s : State) : (raiseIf c src s).dresser = s.dresser := by unfold raiseIf; split <;> simp
@[simp] theorem raiseIf_chain (c : Bool) (src : Nat) (s : State) : (raiseIf c src s).chain = s.chain := by unfold raiseIf; split <;> simp
@[simp] theorem raiseIf_evid (c : Bool) (src : Nat) (s : State) : (raiseIf c src s).evid = s.evid := by unfold raiseIf; split <;> simp
@[simp] theorem raiseIf_hutch (c : Bool) (src : Nat) (s : State) : (raiseIf c src s).hutch = s.hutch := by unfold raiseIf; split <;> simp
@[simp] theorem raiseIf_pins (c : Bool) (src : Nat) (s : State) : (raiseIf c src s).pins = s.pins := by unfold raiseIf; split <;> simp
@[simp] theorem raiseIf_nvm (c : Bool) (src : Nat) (s : State) : (raiseIf c src s).nvm = s.nvm := by unfold raiseIf; split <;> simp

/-! ### Ports -/

/-- A port just replaced reads as replaced. -/
@[simp] theorem portOf_putPort_self (s : State) (p : PortId) (q : Port) : portOf (putPort s p q) p = q := by
  cases p <;> rfl

/-- The other ports read as before. -/
theorem portOf_putPort_other (s : State) (p r : PortId) (q : Port) (h : r ≠ p) :
    portOf (putPort s p q) r = portOf s r := by
  cases p <;> cases r <;> first | rfl | exact absurd rfl h

/-- A state with the same ports has the same port. -/
theorem portOf_congr (s t : State) (p : PortId) (h : t.ports = s.ports) : portOf t p = portOf s p := by
  cases p <;> simp [portOf, h]

/-! ### Registers -/

/-- Any other register reads as before. -/
theorem getReg_setReg_other (s : State) (n m : Nat) (v : Word) (h : m ≠ n) : getReg (setReg s n v) m = getReg s m := by
  unfold getReg setReg
  split <;> split <;> simp [sget_sset_other, h]

/-- A register just set reads as set, where the register tables are in canonical form. -/
theorem getReg_setReg_self (s : State) (n : Nat) (v : Word) (h : swf regReset s.regs = true)
    (ha : swf regReset s.aon.regs = true) : getReg (setReg s n v) n = v := by
  unfold getReg setReg
  split <;> simp [sget_sset_self, h, ha]

/-- A source's status bit and the event of its rise are all that `raise` changes: the registers but its own read as
before. -/
theorem getReg_raise_other (s : State) (src m : Nat) (h : m ≠ src / 20) : getReg (raise s src) m = getReg s m := by
  have hb : ∀ t : State, getReg (deliverSource t src) m = getReg t m := fun t => rfl
  unfold raise
  dsimp only
  split
  · split
    · rw [hb]; exact getReg_setReg_other _ _ _ _ h
    · exact getReg_setReg_other _ _ _ _ h
  · rfl

end Sys2Proof.Machine
end

