-- ==== Sys2Proof/Laws/Memory.lean ====
section
/-!
SUPPORT. Laws of the memories: every operation that writes capture memory, its tags, the NVM, the overdrive table or the
FIR banks keeps the canonical form, and the reset state has it.
-/

namespace Sys2Proof.Machine

/-- The canonical form, memory by memory. -/
theorem Memory.wf_iff (s : State) : Memory.wf s = true ↔
    swf zeroByte s.mem.data = true ∧ swf zeroTag s.mem.tags = true ∧ swf erasedByte s.nvm.data = true ∧
    swf zeroByte s.od = true ∧ swf (fun _ => (0 : Word)) s.fir = true := by
  simp [Memory.wf, and_assoc]

/-- An update that leaves the memories alone keeps their form. -/
theorem Memory.wf_of_same {s t : State} (hm : t.mem = s.mem) (hn : t.nvm = s.nvm) (ho : t.od = s.od)
    (hf : t.fir = s.fir) (h : Memory.wf s = true) : Memory.wf t = true := by
  unfold Memory.wf at *; rw [hm, hn, ho, hf]; exact h

/-- The memories of the reset state are in canonical form. -/
theorem Memory.wf_reset : Memory.wf State.reset = true := by decide +kernel

/-- A write to a register leaves the memories alone. -/
theorem setReg_memory (s : State) (n : Nat) (v : Word) (h : Memory.wf s = true) : Memory.wf (setReg s n v) = true :=
  Memory.wf_of_same (by simp) (by simp) (by simp) (by simp) h

/-- The event of a source leaves the memories alone. -/
theorem raise_memory (s : State) (src : Nat) (h : Memory.wf s = true) : Memory.wf (raise s src) = true :=
  Memory.wf_of_same (by simp) (by simp) (by simp) (by simp) h

/-! ### Capture memory -/

/-- Storing a tag keeps the canonical form. -/
theorem putTag_memory (s : State) (i : Nat) (t : BitVec 9) (h : Memory.wf s = true) : Memory.wf (putTag s i t) = true := by
  rw [Memory.wf_iff] at *
  exact ⟨h.1, swf_sset _ _ _ _ h.2.1, h.2.2⟩

/-- Writing a line keeps the canonical form. -/
theorem putLine_memory (s : State) (i : Nat) (d : List Byte) (h : Memory.wf s = true) : Memory.wf (putLine s i d) = true := by
  rw [Memory.wf_iff] at *
  exact ⟨swf_sputs _ _ _ _ h.1, swf_sset _ _ _ _ h.2.1, h.2.2⟩

/-- What a read counts and reports leaves the memories alone. -/
theorem noteRead_memory (s : State) (req line : Nat) (r : LineRead) (h : Memory.wf s = true) :
    Memory.wf (noteRead s req line r) = true := by
  have hd : ∀ (u : State) e, Memory.wf u = true → Memory.wf (deliver u e) = true := fun u e hu =>
    Memory.wf_of_same (by simp) (by simp) (by simp) (by simp) hu
  have hi : ∀ (u : State) n, Memory.wf u = true → Memory.wf (incReg u n) = true := fun u n hu => setReg_memory u _ _ hu
  have h2 := setReg_memory _ 0x606 (wd (r.cls * 4096 + req * 512 + r.q * 256 + r.syn)) (setReg_memory s 0x605 (wd line) h)
  unfold noteRead
  split
  · exact h
  · dsimp only
    split
    · exact raise_memory _ _ (hi _ _ h2)
    · split
      · exact raise_memory _ _ (hi _ _ h2)
      · apply hd
        apply raise_memory
        split
        · exact hi _ _ (hi _ _ (hi _ _ h2))
        · exact hi _ _ (hi _ _ h2)

/-- Reading a line, with its poisoning, keeps the canonical form. -/
theorem readLine_memory (s : State) (req i : Nat) (h : Memory.wf s = true) : Memory.wf (readLine s req i).1 = true := by
  unfold readLine
  dsimp only
  split
  · exact putTag_memory _ _ _ (noteRead_memory _ _ _ _ h)
  · exact noteRead_memory _ _ _ _ h

/-- Reading lines keeps the canonical form. -/
theorem readLines_memory (n : Nat) : ∀ (s : State) (req i : Nat), Memory.wf s = true →
    Memory.wf (readLines s req i n).1 = true := by
  induction n with
  | zero => intro s req i h; exact h
  | succ n ih =>
    intro s req i h
    have h1 := readLine_memory s req i h
    simp only [readLines]
    split
    · exact h1
    · exact ih _ _ _ h1

/-- Writing lines keeps the canonical form. -/
theorem putLines_memory (n : Nat) : ∀ (s : State) (i : Nat) (d : List Byte), Memory.wf s = true →
    Memory.wf (putLines s i n d) = true := by
  induction n with
  | zero => intro s i d h; exact h
  | succ n ih => intro s i d h; exact ih _ _ _ (putLine_memory s i _ h)

/-- Write-backs of a list of lines keep the canonical form. -/
theorem putEach_memory (ws : List (Nat × List Byte)) : ∀ (s : State), Memory.wf s = true →
    Memory.wf (ws.foldl (fun a w => putLine a w.1 w.2) s) = true := by
  induction ws with
  | nil => intro s h; exact h
  | cons w ws ih => intro s h; exact ih _ (putLine_memory s _ _ h)

/-- A requester's read keeps the canonical form. -/
theorem memRead_memory (s : State) (req pa count : Nat) (h : Memory.wf s = true) :
    Memory.wf (memRead s req pa count).st = true :=
  putEach_memory _ _ (readLines_memory _ s req _ h)

/-- A requester's write keeps the canonical form. -/
theorem memWrite_memory (s : State) (req pa : Nat) (d : List Byte) (h : Memory.wf s = true) :
    Memory.wf (memWrite s req pa d).st = true := by
  have hr : ∀ (c : Bool) (u : State) (j : Nat) (e : LineRead), Memory.wf u = true →
      Memory.wf (if c then readLine u req j else (u, e)).1 = true := by
    intro c u j e hu
    cases c
    · exact hu
    · exact readLine_memory u req j hu
  unfold memWrite
  extract_lets i last n hp tp p q used pre endOff post
  have hp' : Memory.wf p.1 = true := hr _ _ _ _ h
  have hq : Memory.wf q.1 = true := hr _ _ _ _ hp'
  split
  · exact hp'
  · split
    · exact hq
    · exact putLines_memory _ _ _ _ hq

/-- A partial write whose bytes have been merged keeps the canonical form. -/
theorem memMerge_memory (s : State) (req pa : Nat) (d : List Byte) (h : Memory.wf s = true) :
    Memory.wf (memMerge s req pa d).st = true := by
  unfold memMerge
  dsimp only
  split
  · exact readLine_memory _ _ _ h
  · exact putLine_memory _ _ _ (readLine_memory _ _ _ h)

/-- A requester's atomic keeps the canonical form. -/
theorem memAtomic_memory (s : State) (req pa : Nat) (k : AccKind) (a b : BitVec 32) (h : Memory.wf s = true) :
    Memory.wf (memAtomic s req pa k a b).st = true := by
  unfold memAtomic
  dsimp only
  split
  · exact readLine_memory _ _ _ h
  · exact putLine_memory _ _ _ (readLine_memory _ _ _ h)

/-- A bank that loses its content keeps the canonical form. -/
theorem clearBank_memory (s : State) (b : Nat) (h : Memory.wf s = true) : Memory.wf (clearBank s b) = true := by
  rw [Memory.wf_iff] at *
  exact ⟨swf_sfilter zeroByte (fun k => decide (bankOf k ≠ b)) _ h.1,
    swf_sfilter zeroTag (fun k => decide (bankOf (16 * k) ≠ b)) _ h.2.1, h.2.2⟩

/-- A bank that powers up keeps the canonical form. -/
theorem bankPowerUp_memory (s : State) (b : Nat) (h : Memory.wf s = true) : Memory.wf (bankPowerUp s b) = true :=
  clearBank_memory s b h

/-- A bank that powers down keeps the canonical form. -/
theorem bankPowerDown_memory (s : State) (b : Nat) (h : Memory.wf s = true) : Memory.wf (bankPowerDown s b) = true :=
  clearBank_memory s b h

/-! ### The other memories -/

/-- A program of NVM keeps the canonical form. -/
theorem nvmPut_memory (s : State) (i : Nat) (d : List Byte) (h : Memory.wf s = true) : Memory.wf (nvmPut s i d) = true := by
  rw [Memory.wf_iff] at *
  exact ⟨h.1, h.2.1, swf_sputs _ _ _ _ h.2.2.1, h.2.2.2⟩

/-- An erase of NVM keeps the canonical form. -/
theorem nvmErase_memory (s : State) (i n : Nat) (h : Memory.wf s = true) : Memory.wf (nvmErase s i n) = true := by
  rw [Memory.wf_iff] at *
  exact ⟨h.1, h.2.1, swf_sfilter erasedByte (fun k => decide (k < i) || decide (i + n ≤ k)) _ h.2.2.1, h.2.2.2⟩

/-- A byte of the configuration path keeps the canonical form. -/
theorem cfgPut_memory (s : State) (a : Nat) (b : Byte) (h : Memory.wf s = true) : Memory.wf (cfgPut s a b) = true := by
  unfold cfgPut
  split
  · dsimp only
    split
    · rw [Memory.wf_iff] at *
      exact ⟨h.1, h.2.1, h.2.2.1, h.2.2.2.1, swf_sset _ _ _ _ h.2.2.2.2⟩
    · exact setReg_memory _ _ _ h
  · rw [Memory.wf_iff] at *
    exact ⟨h.1, h.2.1, h.2.2.1, swf_sset _ _ _ _ h.2.2.2.1, h.2.2.2.2⟩
  · exact h

/-- Bytes of the configuration path keep the canonical form. -/
theorem cfgPuts_memory (l : List Byte) : ∀ (s : State) (a : Nat), Memory.wf s = true → Memory.wf (cfgPuts s a l) = true := by
  induction l with
  | nil => intro s a h; exact h
  | cons b r ih => intro s a h; exact ih _ _ (cfgPut_memory s a b h)

end Sys2Proof.Machine
end

