-- ==== Sys2Proof/Laws/Ports.lean ====
section
/-!
SUPPORT. Laws of replies and landings: what answering a packet does to its port and to the rest of the state, and what
an opcode row comes to where its port takes the packet (04 R83, R84, R91, R97).
-/

namespace Sys2Proof.Machine

/-- A status other than those of steps 2, 4 and 5 of R82 leaves no count. -/
theorem noteStatus_quiet (s : State) (p : PortId) (st : Nat) (h : st ≠ stBadCrc ∧ st ≠ stBadOpc ∧ st ≠ stBadLen) :
    noteStatus s p st = s := by
  simp [noteStatus, h.1, h.2.1, h.2.2]

/-- `setDue` writes the ports alone. -/
theorem setDue_eq (s : State) (p : PortId) (c : Nat) : ∃ q, setDue s p c = { s with ports := q } := by
  unfold setDue
  split
  · cases p <;> exact ⟨_, rfl⟩
  · exact ⟨s.ports, rfl⟩

/-- `setDue` leaves the reply as it is. -/
theorem setDue_reply (s : State) (p : PortId) (c : Nat) : (portOf (setDue s p c) p).reply = (portOf s p).reply := by
  unfold setDue; split <;> simp

/-- A stamp depends on the tick alone. -/
theorem stampAt_congr (s t : State) (c k : Nat) (h : t.seq.tick = s.seq.tick) : stampAt t c k = stampAt s c k := by
  simp [stampAt, h]

/-- The reply of a packet under way, and its suppression by NOREPLY (R91). -/
theorem answerAt_reply (s : State) (p : PortId) (tag : Byte) (nr : Bool) (st : Nat) (fs : List Field) (c k : Nat)
    (h : st ≠ stBadCrc ∧ st ≠ stBadOpc ∧ st ≠ stBadLen) :
    (portOf (answerAt s p tag nr st fs c k) p).reply =
      if nr = true ∧ st = stOk then (portOf s p).reply
      else some { tag := tag, status := st, fields := fs, tick := (stampAt s c k).1, cyc := (stampAt s c k).2 } := by
  unfold answerAt
  rw [noteStatus_quiet s p st h]
  have hd := setDue_reply s p (c + k)
  have hs : stampAt (setDue s p (c + k)) c k = stampAt s c k := by
    obtain ⟨q, hq⟩ := setDue_eq s p (c + k)
    exact stampAt_congr _ _ _ _ (by rw [hq])
  by_cases hn : nr = true ∧ st = stOk
  · simp [hn, hd, stOk]
  · have hc : (nr && decide (st = stOk)) = false := by
      cases nr <;> simp_all
    simp only [hc, Bool.false_eq_true, if_false, hn, hs]
    unfold giveReply
    cases p
    · simp [raiseIf, portOf, putPort]
      split <;> simp
    · simp [portOf, putPort]
    · simp only []
      split
      · split <;> simp [portOf, putPort]
      · simp [portOf, putPort]

/-- A reply that is not ready yet raises nothing and is not sent yet: it stands in the ports. -/
theorem giveReply_eq (s : State) (p : PortId) (r : Reply) (h : (portOf s p).due.isSome = true) :
    ∃ q, giveReply s p r = { s with ports := q } := by
  cases p with
  | host =>
    have : (putPort s .host { portOf s .host with reply := some r }).ports.host.due.isNone = false := by
      simpa [portOf, putPort, Option.isSome_iff_ne_none] using h
    exact ⟨_, by simp only [giveReply, raiseIf, this]; rfl⟩
  | maint => exact ⟨_, rfl⟩
  | chain =>
    obtain ⟨c, hc⟩ := Option.isSome_iff_exists.mp h
    have hc2 : (putPort s .chain { portOf s .chain with reply := some r }).ports.chain.due = some c := hc
    unfold giveReply
    dsimp only
    split
    · rw [hc2]
      exact ⟨_, rfl⟩
    · exact ⟨_, rfl⟩

/-- An answer to a packet under way writes the ports alone. -/
theorem answerAt_eq (s : State) (p : PortId) (tag : Byte) (nr : Bool) (st : Nat) (fs : List Field) (c k : Nat)
    (h : st ≠ stBadCrc ∧ st ≠ stBadOpc ∧ st ≠ stBadLen) (hd : (portOf s p).due.isSome = true) :
    ∃ q, answerAt s p tag nr st fs c k = { s with ports := q } := by
  unfold answerAt
  rw [noteStatus_quiet s p st h]
  have hs : setDue s p (c + k) = putPort s p { portOf s p with due := some (c + k) } := by
    simp [setDue, hd]
  dsimp only
  split
  · exact setDue_eq s p (c + k)
  · obtain ⟨q, hq⟩ := setDue_eq s p (c + k)
    obtain ⟨r, hr⟩ := giveReply_eq (setDue s p (c + k)) p
      { tag := tag, status := st, fields := fs, tick := (stampAt (setDue s p (c + k)) c k).1
        cyc := (stampAt (setDue s p (c + k)) c k).2 } (by simp [hs])
    exact ⟨r, by rw [hr, hq]⟩

/-- The packet that lands is under way in the state it finds. -/
@[simp] theorem landState_due (s : State) (p : PortId) : (portOf (landState s p) p).due = some executing := by
  simp [landState]

/-- Making a reply ready moves no time. -/
@[simp] theorem replyReady_seq (s : State) (p : PortId) : (replyReady s p).seq = s.seq := by
  unfold replyReady
  split
  · rfl
  · cases p <;> simp

/-- Discarding a reply moves no time. -/
@[simp] theorem forgetReply_seq (s : State) (p : PortId) : (forgetReply s p).seq = s.seq := by
  unfold forgetReply
  cases p <;> dsimp only
  · simp
  · split <;> simp
  · simp

/-- An opcode row whose port takes the packet: its operation acts on the state of the landing. -/
theorem opcodeRow_takes (s : State) (l : Land) (n : Nat) (f : State → Nat → State) (h : takes s l.port = true) :
    opcodeRow s l n f = afterLanding s l.port n (f (landState s l.port) (landCycle s)) := by
  have hf := forgetReply_seq s l.port
  simp only [takes, Bool.and_eq_true] at h
  have hp : portsUp (forgetReply s l.port) = true := by
    have := h.1
    simp only [portsUp, running, hf] at this ⊢
    exact this
  have hs : starting (forgetReply s l.port) = false := by
    have := h.1
    simp only [portsUp, running, starting, hf] at this ⊢
    cases hq : s.seq.st <;> simp_all
  simp only [opcodeRow, h.2, if_true, landing, hs, Bool.false_eq_true, if_false, hp, Bool.not_true, afterLanding,
    landState, landCycle, hf]

/-- What follows a landing writes the ports and the time alone. -/
theorem afterLanding_eq (s : State) (p : PortId) (n : Nat) (v : State) :
    ∃ q, afterLanding s p n v = { v with ports := q, seq := { v.seq with cycle := s.seq.cycle + n } } := by
  by_cases h : (portOf v p).due = some executing <;> cases p <;>
    (simp only [afterLanding, landed, h, if_true, if_false, reduceCtorEq]; exact ⟨_, rfl⟩)

/-- What follows a landing leaves the reply as the operation has left it. -/
theorem afterLanding_reply (s : State) (p : PortId) (n : Nat) (v : State) :
    (portOf (afterLanding s p n v) p).reply = (portOf v p).reply := by
  by_cases h : (portOf v p).due = some executing <;> cases p <;>
    (simp only [afterLanding, landed, h, if_true, if_false, reduceCtorEq]; rfl)

/-- Statuses that leave no count. -/
theorem quiet_ok : stOk ≠ stBadCrc ∧ stOk ≠ stBadOpc ∧ stOk ≠ stBadLen := by decide
theorem quiet_busy : stBusy ≠ stBadCrc ∧ stBusy ≠ stBadOpc ∧ stBusy ≠ stBadLen := by decide
theorem quiet_reg : stBadReg ≠ stBadCrc ∧ stBadReg ≠ stBadOpc ∧ stBadReg ≠ stBadLen := by decide
theorem quiet_down : stChainDown ≠ stBadCrc ∧ stChainDown ≠ stBadOpc ∧ stChainDown ≠ stBadLen := by decide
theorem quiet_wait : stRectWait ≠ stBadCrc ∧ stRectWait ≠ stBadOpc ∧ stRectWait ≠ stBadLen := by decide

/-- The packet that lands is under way in the state it finds. -/
theorem landState_under_way (s : State) (p : PortId) : (portOf (landState s p) p).due.isSome = true := by simp

/-- The landing cycle lies in the tick. -/
theorem landCycle_le (s : State) : landCycle s ≤ 6143 := Nat.min_le_right _ _

/-- A packet under way that is answered: the reply it leaves, in terms of the state it found, and everything besides: the
ports and the time, and what its operation has done. -/
theorem landed_answer_of (s : State) (l : Land) (n : Nat) (u v : State) (c st : Nat) (fs : List Field)
    (h : st ≠ stBadCrc ∧ st ≠ stBadOpc ∧ st ≠ stBadLen) (hd : (portOf u l.port).due.isSome = true)
    (hp : v.ports = u.ports) (ht : v.seq.tick = u.seq.tick) :
    answered u (afterLanding s l.port n (answer v l c st fs)) l st fs c 8 ∧
    ∃ q, afterLanding s l.port n (answer v l c st fs) =
        { v with ports := q, seq := { v.seq with cycle := s.seq.cycle + n } } := by
  constructor
  · unfold answered answer
    rw [afterLanding_reply, answerAt_reply _ _ _ _ _ _ _ _ h, portOf_congr u v _ hp, stampAt_congr u v _ _ ht]
  · obtain ⟨r, hr⟩ := answerAt_eq v l.port l.tag l.noreply st fs c 8 h (by rw [portOf_congr u v _ hp]; exact hd)
    obtain ⟨q, hq⟩ := afterLanding_eq s l.port n (answer v l c st fs)
    exact ⟨q, by rw [hq]; simp only [answer, hr]⟩

/-- The frame of an operation answered in its landing cycle, from the frame of the operation alone. -/
theorem sameBut_answered (ps : List Part) (u v t : State) (q : Ports) (sq : Seq)
    (e : t = { v with ports := q, seq := sq }) (h : sameBut ps u v) : sameBut (.seq :: .ports :: ps) u t := by
  subst e
  intro r hr
  simp only [List.mem_cons, not_or] at hr
  have := h r hr.2.2
  cases r <;> first | exact this | simp at hr

/-- An operation answered in its landing cycle: its reply and its frame. -/
theorem landed_answer_frame (ps : List Part) (s u v : State) (l : Land) (n c st : Nat) (fs : List Field)
    (h : st ≠ stBadCrc ∧ st ≠ stBadOpc ∧ st ≠ stBadLen) (hd : (portOf u l.port).due.isSome = true)
    (hp : v.ports = u.ports) (ht : v.seq.tick = u.seq.tick) (hs : sameBut ps u v) :
    answered u (afterLanding s l.port n (answer v l c st fs)) l st fs c 8 ∧
      sameBut (.seq :: .ports :: ps) u (afterLanding s l.port n (answer v l c st fs)) := by
  obtain ⟨ga, q, ge⟩ := landed_answer_of s l n u v c st fs h hd hp ht
  exact ⟨ga, sameBut_answered ps u v _ q _ ge hs⟩

end Sys2Proof.Machine
end

