-- ==== Sys2Proof/Laws/Tables.lean ====
section
/-!
SUPPORT. Laws of the tables' canonical form: the forms of an update, and the operations over registers, flags and power.
-/

namespace Sys2Proof.Machine

/-! ### Basic forms -/

/-- The canonical form, table by table. -/
theorem Tables.wf_iff (s : State) : Tables.wf s = true ↔
    swf zeroByte s.mem.data = true ∧ swf zeroTag s.mem.tags = true ∧ swf erasedByte s.nvm.data = true ∧
    swf regReset s.regs = true ∧ swf regReset s.aon.regs = true ∧ swf regReset s.inForce = true ∧
    swf regReset s.snap = true ∧ swf zeroByte s.od = true ∧ swf (fun _ => (0 : Word)) s.fir = true := by
  simp only [Tables.wf, Memory.wf, Registers.wf, Bool.and_eq_true]
  tauto

/-- An update that leaves the tables alone keeps their form. -/
theorem wf_mk {t : State} {v_pending v_free v_firActive v_power v_seq v_ports v_streams v_stool v_proc v_line
      v_energy v_harm v_pq v_cap v_dresser v_chain v_bureau v_evid v_hutch v_pins} (h : Tables.wf t = true) :
    Tables.wf (State.mk v_pending v_free t.regs t.inForce t.snap t.fir v_firActive t.od v_power v_seq t.aon v_ports
      v_streams v_stool v_proc v_line v_energy v_harm v_pq v_cap t.mem v_dresser v_chain v_bureau v_evid v_hutch
      v_pins t.nvm) = true := h

/-- The same for an update of the component that holds tables, its tables left alone. -/
theorem wf_mkAon {t : State} {v_pending v_free v_firActive v_power v_seq aon_powered aon_time aon_key0 aon_key1
      aon_flagShadow aon_regShadow aon_fails aon_failShadow aon_lockUntil aon_hist aon_sinceQual aon_loop0 aon_loop1
      aon_normal0 aon_normal1 aon_cond aon_slowBack aon_tempOut aon_tempC aon_darkFrom aon_evQueue aon_darkLost
      aon_logClosed aon_heldSense aon_heldQual aon_heldHours aon_heldSoh aon_heldPcc aon_aonLost aon_sel6 aon_sel7
      v_ports v_streams v_stool v_proc v_line v_energy v_harm v_pq v_cap v_dresser v_chain v_bureau v_evid v_hutch
      v_pins} (h : Tables.wf t = true) :
    Tables.wf (State.mk v_pending v_free t.regs t.inForce t.snap t.fir v_firActive t.od v_power v_seq (Aon.mk
      aon_powered aon_time t.aon.regs aon_key0 aon_key1 aon_flagShadow aon_regShadow aon_fails aon_failShadow
      aon_lockUntil aon_hist aon_sinceQual aon_loop0 aon_loop1 aon_normal0 aon_normal1 aon_cond aon_slowBack
      aon_tempOut aon_tempC aon_darkFrom aon_evQueue aon_darkLost aon_logClosed aon_heldSense aon_heldQual
      aon_heldHours aon_heldSoh aon_heldPcc aon_aonLost aon_sel6 aon_sel7) v_ports v_streams v_stool v_proc v_line
      v_energy v_harm v_pq v_cap t.mem v_dresser v_chain v_bureau v_evid v_hutch v_pins t.nvm) = true := h

/-- The same for an update of the component that holds tables, its tables left alone. -/
theorem wf_mkMem {t : State} {v_pending v_free v_firActive v_power v_seq v_ports v_streams v_stool v_proc v_line
      v_energy v_harm v_pq v_cap mem_ready mem_init mem_initCyc mem_reqs mem_busy mem_owner mem_drained mem_scrubPos
      mem_scrubUnits mem_scrubSteps mem_backlog mem_scrubDue mem_writeBack mem_poison mem_lagReported v_dresser
      v_chain v_bureau v_evid v_hutch v_pins} (h : Tables.wf t = true) :
    Tables.wf (State.mk v_pending v_free t.regs t.inForce t.snap t.fir v_firActive t.od v_power v_seq t.aon v_ports
      v_streams v_stool v_proc v_line v_energy v_harm v_pq v_cap (Mem.mk t.mem.data t.mem.tags mem_ready mem_init
      mem_initCyc mem_reqs mem_busy mem_owner mem_drained mem_scrubPos mem_scrubUnits mem_scrubSteps mem_backlog
      mem_scrubDue mem_writeBack mem_poison mem_lagReported) v_dresser v_chain v_bureau v_evid v_hutch v_pins t.nvm)
      = true := h

/-- The same for an update of the component that holds tables, its tables left alone. -/
theorem wf_mkNvm {t : State} {v_pending v_free v_firActive v_power v_seq v_ports v_streams v_stool v_proc v_line
      v_energy v_harm v_pq v_cap v_dresser v_chain v_bureau v_evid v_hutch v_pins nvm_op nvm_units nvm_waiting
      nvm_undef} (h : Tables.wf t = true) :
    Tables.wf (State.mk v_pending v_free t.regs t.inForce t.snap t.fir v_firActive t.od v_power v_seq t.aon v_ports
      v_streams v_stool v_proc v_line v_energy v_harm v_pq v_cap t.mem v_dresser v_chain v_bureau v_evid v_hutch
      v_pins (Nvm.mk t.nvm.data nvm_op nvm_units nvm_waiting nvm_undef)) = true := h

/-- The same for an update of the component that holds tables, its tables left alone. -/
theorem wf_mkAonMem {t : State} {v_pending v_free v_firActive v_power v_seq aon_powered aon_time aon_key0 aon_key1
      aon_flagShadow aon_regShadow aon_fails aon_failShadow aon_lockUntil aon_hist aon_sinceQual aon_loop0 aon_loop1
      aon_normal0 aon_normal1 aon_cond aon_slowBack aon_tempOut aon_tempC aon_darkFrom aon_evQueue aon_darkLost
      aon_logClosed aon_heldSense aon_heldQual aon_heldHours aon_heldSoh aon_heldPcc aon_aonLost aon_sel6 aon_sel7
      v_ports v_streams v_stool v_proc v_line v_energy v_harm v_pq v_cap mem_ready mem_init mem_initCyc mem_reqs
      mem_busy mem_owner mem_drained mem_scrubPos mem_scrubUnits mem_scrubSteps mem_backlog mem_scrubDue
      mem_writeBack mem_poison mem_lagReported v_dresser v_chain v_bureau v_evid v_hutch v_pins} (h : Tables.wf t =
      true) :
    Tables.wf (State.mk v_pending v_free t.regs t.inForce t.snap t.fir v_firActive t.od v_power v_seq (Aon.mk
      aon_powered aon_time t.aon.regs aon_key0 aon_key1 aon_flagShadow aon_regShadow aon_fails aon_failShadow
      aon_lockUntil aon_hist aon_sinceQual aon_loop0 aon_loop1 aon_normal0 aon_normal1 aon_cond aon_slowBack
      aon_tempOut aon_tempC aon_darkFrom aon_evQueue aon_darkLost aon_logClosed aon_heldSense aon_heldQual
      aon_heldHours aon_heldSoh aon_heldPcc aon_aonLost aon_sel6 aon_sel7) v_ports v_streams v_stool v_proc v_line
      v_energy v_harm v_pq v_cap (Mem.mk t.mem.data t.mem.tags mem_ready mem_init mem_initCyc mem_reqs mem_busy
      mem_owner mem_drained mem_scrubPos mem_scrubUnits mem_scrubSteps mem_backlog mem_scrubDue mem_writeBack
      mem_poison mem_lagReported) v_dresser v_chain v_bureau v_evid v_hutch v_pins t.nvm) = true := h

/-- The same for an update of the component that holds tables, its tables left alone. -/
theorem wf_mkAonNvm {t : State} {v_pending v_free v_firActive v_power v_seq aon_powered aon_time aon_key0 aon_key1
      aon_flagShadow aon_regShadow aon_fails aon_failShadow aon_lockUntil aon_hist aon_sinceQual aon_loop0 aon_loop1
      aon_normal0 aon_normal1 aon_cond aon_slowBack aon_tempOut aon_tempC aon_darkFrom aon_evQueue aon_darkLost
      aon_logClosed aon_heldSense aon_heldQual aon_heldHours aon_heldSoh aon_heldPcc aon_aonLost aon_sel6 aon_sel7
      v_ports v_streams v_stool v_proc v_line v_energy v_harm v_pq v_cap v_dresser v_chain v_bureau v_evid v_hutch
      v_pins nvm_op nvm_units nvm_waiting nvm_undef} (h : Tables.wf t = true) :
    Tables.wf (State.mk v_pending v_free t.regs t.inForce t.snap t.fir v_firActive t.od v_power v_seq (Aon.mk
      aon_powered aon_time t.aon.regs aon_key0 aon_key1 aon_flagShadow aon_regShadow aon_fails aon_failShadow
      aon_lockUntil aon_hist aon_sinceQual aon_loop0 aon_loop1 aon_normal0 aon_normal1 aon_cond aon_slowBack
      aon_tempOut aon_tempC aon_darkFrom aon_evQueue aon_darkLost aon_logClosed aon_heldSense aon_heldQual
      aon_heldHours aon_heldSoh aon_heldPcc aon_aonLost aon_sel6 aon_sel7) v_ports v_streams v_stool v_proc v_line
      v_energy v_harm v_pq v_cap t.mem v_dresser v_chain v_bureau v_evid v_hutch v_pins (Nvm.mk t.nvm.data nvm_op
      nvm_units nvm_waiting nvm_undef)) = true := h

/-- The same for an update of the component that holds tables, its tables left alone. -/
theorem wf_mkMemNvm {t : State} {v_pending v_free v_firActive v_power v_seq v_ports v_streams v_stool v_proc v_line
      v_energy v_harm v_pq v_cap mem_ready mem_init mem_initCyc mem_reqs mem_busy mem_owner mem_drained mem_scrubPos
      mem_scrubUnits mem_scrubSteps mem_backlog mem_scrubDue mem_writeBack mem_poison mem_lagReported v_dresser
      v_chain v_bureau v_evid v_hutch v_pins nvm_op nvm_units nvm_waiting nvm_undef} (h : Tables.wf t = true) :
    Tables.wf (State.mk v_pending v_free t.regs t.inForce t.snap t.fir v_firActive t.od v_power v_seq t.aon v_ports
      v_streams v_stool v_proc v_line v_energy v_harm v_pq v_cap (Mem.mk t.mem.data t.mem.tags mem_ready mem_init
      mem_initCyc mem_reqs mem_busy mem_owner mem_drained mem_scrubPos mem_scrubUnits mem_scrubSteps mem_backlog
      mem_scrubDue mem_writeBack mem_poison mem_lagReported) v_dresser v_chain v_bureau v_evid v_hutch v_pins
      (Nvm.mk t.nvm.data nvm_op nvm_units nvm_waiting nvm_undef)) = true := h

/-- A choice between two states. -/
theorem wf_ite {c : Prop} [Decidable c] {a b : State} (h : c → Tables.wf a = true) (k : ¬c → Tables.wf b = true) :
    Tables.wf (if c then a else b) = true := by split <;> simp_all

/-- A run over a list. -/
theorem wf_foldl {α : Type} {f : State → α → State} {l : List α} {s : State}
    (hf : ∀ t x, Tables.wf t = true → Tables.wf (f t x) = true) (h : Tables.wf s = true) :
    Tables.wf (l.foldl f s) = true := by
  induction l generalizing s with
  | nil => exact h
  | cons a l ih => exact ih (hf _ _ h)

/-! ### Reset contents -/

/-- The reset contents of the registers are in canonical form, and so are those of AON. -/
theorem resetRegs_wf : swf regReset State.reset.regs = true ∧ swf regReset State.reset.inForce = true ∧
    swf regReset State.reset.snap = true ∧ swf regReset Aon.reset.regs = true := by decide +kernel

/-! ### Ops -/

/-- `setReg` keeps the canonical form of the tables. -/
theorem setReg_wf (s : State) (n : Nat) (v : Word) (hw : Tables.wf s = true) : Tables.wf (setReg s n v) = true := by
  rw [Tables.wf_iff] at hw ⊢
  obtain ⟨a, b, c, d, e, f, g, i, j⟩ := hw
  unfold setReg
  split
  · exact ⟨a, b, c, d, swf_sset _ _ _ _ e, f, g, i, j⟩
  · exact ⟨a, b, c, swf_sset _ _ _ _ d, e, f, g, i, j⟩

/-- `setForce` keeps the canonical form of the tables. -/
theorem setForce_wf (s : State) (n : Nat) (v : Word) (hw : Tables.wf s = true) :
    Tables.wf (setForce s n v) = true := by
  rw [Tables.wf_iff] at hw ⊢
  obtain ⟨a, b, c, d, e, f, g, i, j⟩ := hw
  exact ⟨a, b, c, d, e, swf_sset _ _ _ _ f, g, i, j⟩

/-- `orReg` keeps the canonical form of the tables. -/
theorem orReg_wf (s : State) (n m : Nat) (hw : Tables.wf s = true) :
    Tables.wf (orReg s n m) = true := by
  unfold orReg
  repeat' first
    | with_reducible assumption
    | with_reducible apply setReg_wf

/-- `clearReg` keeps the canonical form of the tables. -/
theorem clearReg_wf (s : State) (n m : Nat) (hw : Tables.wf s = true) :
    Tables.wf (clearReg s n m) = true := by
  unfold clearReg
  repeat' first
    | with_reducible assumption
    | with_reducible apply setReg_wf

/-- `addReg` keeps the canonical form of the tables. -/
theorem addReg_wf (s : State) (n k : Nat) (hw : Tables.wf s = true) :
    Tables.wf (addReg s n k) = true := by
  unfold addReg
  repeat' first
    | with_reducible assumption
    | with_reducible apply setReg_wf

/-- `incReg` keeps the canonical form of the tables. -/
theorem incReg_wf (s : State) (n : Nat) (hw : Tables.wf s = true) :
    Tables.wf (incReg s n) = true := by
  unfold incReg
  repeat' first
    | with_reducible assumption
    | with_reducible apply addReg_wf

/-- `incMod` keeps the canonical form of the tables. -/
theorem incMod_wf (s : State) (n : Nat) (hw : Tables.wf s = true) :
    Tables.wf (incMod s n) = true := by
  unfold incMod
  repeat' first
    | with_reducible assumption
    | with_reducible apply setReg_wf

/-- `setRegs` keeps the canonical form of the tables. -/
theorem setRegs_wf (l : List Word) : ∀ (s : State) (n : Nat), Tables.wf s = true → Tables.wf (setRegs s n l) = true := by
  induction l with
  | nil => intro s n hw; exact hw
  | cons v r ih => intro s n hw; exact ih _ _ (setReg_wf _ _ _ hw)

/-- `mark` keeps the canonical form of the tables. -/
theorem mark_wf (s : State) (d : Did) (hw : Tables.wf s = true) :
    Tables.wf (mark s d) = true := by
  unfold mark
  repeat' first
    | with_reducible assumption
    | fail_if_no_progress (with_reducible apply wf_mk)

/-- `publish` keeps the canonical form of the tables. -/
theorem publish_wf (s : State) (p : Pub) (hw : Tables.wf s = true) :
    Tables.wf (publish s p) = true := by
  unfold publish
  repeat' first
    | with_reducible assumption
    | fail_if_no_progress (with_reducible apply wf_mk)

/-- `publishAll` keeps the canonical form of the tables. -/
theorem publishAll_wf (s : State) (ps : List Pub) (hw : Tables.wf s = true) :
    Tables.wf (publishAll s ps) = true := by
  unfold publishAll
  repeat' first
    | with_reducible assumption
    | fail_if_no_progress (with_reducible apply wf_mk)

/-- `nextFree` keeps the canonical form of the tables. -/
theorem nextFree_wf (s : State) (hw : Tables.wf s = true) :
    Tables.wf (nextFree s) = true := by
  unfold nextFree
  repeat' first
    | with_reducible assumption
    | fail_if_no_progress (with_reducible apply wf_mk)

/-- `atOsc` keeps the canonical form of the tables. -/
theorem atOsc_wf (s : State) (now : Nat) (hw : Tables.wf s = true) :
    Tables.wf (atOsc s now) = true := by
  unfold atOsc
  repeat' first
    | with_reducible assumption
    | fail_if_no_progress (with_reducible apply wf_mk)
    | fail_if_no_progress (with_reducible apply wf_mkAon)

/-! ### Flags -/

/-- `deliver` keeps the canonical form of the tables. -/
theorem deliver_wf (s : State) (e : BEvent) (hw : Tables.wf s = true) :
    Tables.wf (deliver s e) = true := by
  unfold deliver
  repeat' first
    | with_reducible assumption
    | (with_reducible apply wf_ite <;> intro _)
    | fail_if_no_progress (with_reducible apply wf_mk)

/-- `deliverSource` keeps the canonical form of the tables. -/
theorem deliverSource_wf (s : State) (src : Nat) (hw : Tables.wf s = true) :
    Tables.wf (deliverSource s src) = true := by
  unfold deliverSource
  repeat' first
    | with_reducible assumption
    | fail_if_no_progress (with_reducible apply wf_mk)

/-- `raise` keeps the canonical form of the tables. -/
theorem raise_wf (s : State) (src : Nat) (hw : Tables.wf s = true) :
    Tables.wf (raise s src) = true := by
  unfold raise
  repeat' first
    | with_reducible assumption
    | (with_reducible apply wf_ite <;> intro _)
    | with_reducible apply orReg_wf
    | with_reducible apply deliverSource_wf

/-- `raiseAll` keeps the canonical form of the tables. -/
theorem raiseAll_wf (s : State) (srcs : List Nat) (hw : Tables.wf s = true) :
    Tables.wf (raiseAll s srcs) = true := by
  unfold raiseAll
  repeat' first
    | with_reducible assumption
    | with_reducible apply raise_wf
    | (with_reducible apply wf_foldl; intro _ _ _; try beta_reduce)

/-- `raiseIf` keeps the canonical form of the tables. -/
theorem raiseIf_wf (c : Bool) (src : Nat) (s : State) (hw : Tables.wf s = true) :
    Tables.wf (raiseIf c src s) = true := by
  unfold raiseIf
  repeat' first
    | with_reducible assumption
    | (with_reducible apply wf_ite <;> intro _)
    | with_reducible apply raise_wf

/-! ### Power -/

/-- `lostAon` keeps the canonical form of the tables. -/
theorem lostAon_wf (s : State) (hw : Tables.wf s = true) :
    Tables.wf (lostAon s) = true := by
  rw [Tables.wf_iff] at hw ⊢
  obtain ⟨a, b, c, d, e, f⟩ := hw
  exact ⟨a, b, c, d, resetRegs_wf.2.2.2, f⟩

/-- `aonUp` keeps the canonical form of the tables. -/
theorem aonUp_wf (s : State) (hw : Tables.wf s = true) :
    Tables.wf (aonUp s) = true := by
  rw [Tables.wf_iff] at hw ⊢
  obtain ⟨a, b, c, d, e, f⟩ := hw
  exact ⟨a, b, c, d, resetRegs_wf.2.2.2, f⟩

/-- `aonFollow` keeps the canonical form of the tables. -/
theorem aonFollow_wf (s : State) (hw : Tables.wf s = true) :
    Tables.wf (aonFollow s) = true := by
  unfold aonFollow
  repeat' first
    | with_reducible assumption
    | (with_reducible apply wf_ite <;> intro _)
    | with_reducible apply lostAon_wf
    | with_reducible apply aonUp_wf

/-- `chargeFollow` keeps the canonical form of the tables. -/
theorem chargeFollow_wf (s : State) (hw : Tables.wf s = true) :
    Tables.wf (chargeFollow s) = true := by
  unfold chargeFollow
  repeat' first
    | with_reducible assumption
    | fail_if_no_progress (with_reducible apply wf_mk)

/-- `chooseLoad` keeps the canonical form of the tables. -/
theorem chooseLoad_wf (s : State) (hw : Tables.wf s = true) :
    Tables.wf (chooseLoad s) = true := by
  unfold chooseLoad
  repeat' first
    | with_reducible assumption
    | with_reducible apply chargeFollow_wf
    | fail_if_no_progress (with_reducible apply wf_mk)

/-- `compareLow` keeps the canonical form of the tables. -/
theorem compareLow_wf (s : State) (hw : Tables.wf s = true) :
    Tables.wf (compareLow s) = true := by
  unfold compareLow
  repeat' first
    | with_reducible assumption
    | with_reducible apply raiseIf_wf
    | fail_if_no_progress (with_reducible apply wf_mk)

/-- `levelLow` keeps the canonical form of the tables. -/
theorem levelLow_wf (s : State) (hw : Tables.wf s = true) :
    Tables.wf (levelLow s) = true := by
  unfold levelLow
  repeat' first
    | with_reducible assumption
    | fail_if_no_progress (with_reducible apply wf_mk)

/-- `setVres` keeps the canonical form of the tables. -/
theorem setVres_wf (s : State) (mv : Nat) (hw : Tables.wf s = true) :
    Tables.wf (setVres s mv) = true := by
  unfold setVres
  repeat' first
    | with_reducible assumption
    | with_reducible apply aonFollow_wf
    | with_reducible apply compareLow_wf
    | with_reducible apply chargeFollow_wf
    | fail_if_no_progress (with_reducible apply wf_mk)

/-- `setVbc` keeps the canonical form of the tables. -/
theorem setVbc_wf (s : State) (mv : Nat) (hw : Tables.wf s = true) :
    Tables.wf (setVbc s mv) = true := by
  unfold setVbc
  repeat' first
    | with_reducible assumption
    | with_reducible apply aonFollow_wf
    | with_reducible apply raiseIf_wf
    | fail_if_no_progress (with_reducible apply wf_mk)

/-- `evalConsumer` keeps the canonical form of the tables. -/
theorem evalConsumer_wf (s : State) (c : Nat) (hw : Tables.wf s = true) :
    Tables.wf (evalConsumer s c) = true := by
  unfold evalConsumer
  repeat' first
    | with_reducible assumption
    | (with_reducible apply wf_ite <;> intro _)
    | with_reducible apply raiseIf_wf
    | fail_if_no_progress (with_reducible apply wf_mk)

/-- `evaluateGrants` keeps the canonical form of the tables. -/
theorem evaluateGrants_wf (s : State) (hw : Tables.wf s = true) :
    Tables.wf (evaluateGrants s) = true := by
  unfold evaluateGrants
  repeat' first
    | with_reducible assumption
    | with_reducible apply evalConsumer_wf
    | (with_reducible apply wf_foldl; intro _ _ _; try beta_reduce)

/-- `dropGrant` keeps the canonical form of the tables. -/
theorem dropGrant_wf (s : State) (c : Nat) (hw : Tables.wf s = true) :
    Tables.wf (dropGrant s c) = true := by
  unfold dropGrant
  repeat' first
    | with_reducible assumption
    | (with_reducible apply wf_ite <;> intro _)
    | with_reducible apply raise_wf
    | fail_if_no_progress (with_reducible apply wf_mk)

/-- `revokeFloors` keeps the canonical form of the tables. -/
theorem revokeFloors_wf (s : State) (hw : Tables.wf s = true) :
    Tables.wf (revokeFloors s) = true := by
  unfold revokeFloors
  repeat' first
    | with_reducible assumption
    | (with_reducible apply wf_ite <;> intro _)
    | with_reducible apply dropGrant_wf
    | (with_reducible apply wf_foldl; intro _ _ _; try beta_reduce)

/-- `revokeCeiling` keeps the canonical form of the tables. -/
theorem revokeCeiling_wf (s : State) (hw : Tables.wf s = true) :
    Tables.wf (revokeCeiling s) = true := by
  unfold revokeCeiling
  repeat' first
    | with_reducible assumption
    | (with_reducible apply wf_ite <;> intro _)
    | with_reducible apply dropGrant_wf
    | (with_reducible apply wf_foldl; intro _ _ _; try beta_reduce)

/-- `decideMode` keeps the canonical form of the tables. -/
theorem decideMode_wf (s : State) (hw : Tables.wf s = true) :
    Tables.wf (decideMode s) = true := by
  unfold decideMode
  repeat' first
    | with_reducible assumption
    | (with_reducible apply wf_ite <;> intro _)
    | with_reducible apply raiseIf_wf
    | with_reducible apply raise_wf
    | fail_if_no_progress (with_reducible apply wf_mk)

/-- `modeAfterLoad` keeps the canonical form of the tables. -/
theorem modeAfterLoad_wf (s : State) (hw : Tables.wf s = true) :
    Tables.wf (modeAfterLoad s) = true := by
  unfold modeAfterLoad
  repeat' first
    | with_reducible assumption
    | fail_if_no_progress (with_reducible apply wf_mk)

end Sys2Proof.Machine
end

