-- ==== Sys2Proof/Laws/TablesItems.lean ====
section
/-!
SUPPORT. Laws of the tables' canonical form: the items of the tick: converters, line, energy, process, harmonics, Stool, capture; capture memory.
-/

namespace Sys2Proof.Machine

/-! ### Streams -/

/-- `guardHit` keeps the canonical form of the tables. -/
theorem guardHit_wf (s : State) (g : Nat) (hw : Tables.wf s = true) :
    Tables.wf (guardHit s g) = true := by
  unfold guardHit
  repeat' first
    | with_reducible assumption
    | with_reducible apply raise_wf
    | with_reducible apply orReg_wf
    | fail_if_no_progress (with_reducible apply wf_mk)

/-- `guardTick` keeps the canonical form of the tables. -/
theorem guardTick_wf (s : State) (c : Nat) (xs : List Int) (hw : Tables.wf s = true) :
    Tables.wf (guardTick s c xs) = true := by
  unfold guardTick
  repeat' first
    | with_reducible assumption
    | (with_reducible apply wf_ite <;> intro _)
    | with_reducible apply guardHit_wf
    | fail_if_no_progress (with_reducible apply wf_mk)
    | extract_lets
    | split

/-- `peakEvent` keeps the canonical form of the tables. -/
theorem peakEvent_wf (s : State) (g : Nat) (x : Int) (hw : Tables.wf s = true) :
    Tables.wf (peakEvent s g x) = true := by
  unfold peakEvent
  repeat' first
    | with_reducible assumption
    | (with_reducible apply wf_ite <;> intro _)
    | with_reducible apply mark_wf
    | with_reducible apply guardHit_wf
    | fail_if_no_progress (with_reducible apply wf_mk)

/-- `frontsTick` keeps the canonical form of the tables. -/
theorem frontsTick_wf (s : State) (bits : List (BitVec 512)) (hw : Tables.wf s = true) :
    Tables.wf (frontsTick s bits) = true := by
  unfold frontsTick
  repeat' first
    | with_reducible assumption
    | (with_reducible apply wf_ite <;> intro _)
    | with_reducible apply guardTick_wf
    | (with_reducible apply wf_foldl; intro _ _ _; try beta_reduce)
    | fail_if_no_progress (with_reducible apply wf_mk)

/-- `dcBlocksTick` keeps the canonical form of the tables. -/
theorem dcBlocksTick_wf (s : State) (hw : Tables.wf s = true) : Tables.wf (dcBlocksTick s) = true := by
  unfold dcBlocksTick
  repeat' first
    | with_reducible assumption
    | (with_reducible apply wf_ite <;> intro _)
    | with_reducible apply raise_wf
    | with_reducible apply orReg_wf
    | (with_reducible apply wf_foldl; intro _ _ _; try beta_reduce)
    | fail_if_no_progress (with_reducible apply wf_mk)

/-- `overrangeEvent` keeps the canonical form of the tables. -/
theorem overrangeEvent_wf (s : State) (c : Nat) (neg : Bool) (hw : Tables.wf s = true) :
    Tables.wf (overrangeEvent s c neg) = true := by
  unfold overrangeEvent
  repeat' first
    | with_reducible assumption
    | (with_reducible apply wf_ite <;> intro _)
    | with_reducible apply raise_wf
    | with_reducible apply orReg_wf
    | fail_if_no_progress (with_reducible apply wf_mk)

/-- `item2` keeps the canonical form of the tables. -/
theorem item2_wf (s : State) (hw : Tables.wf s = true) :
    Tables.wf (item2 s) = true := by
  unfold item2
  repeat' first
    | with_reducible assumption
    | (with_reducible apply wf_ite <;> intro _)
    | with_reducible apply publishAll_wf
    | fail_if_no_progress (with_reducible apply wf_mk)

/-- `item3` keeps the canonical form of the tables. -/
theorem item3_wf (s : State) (hw : Tables.wf s = true) :
    Tables.wf (item3 s) = true := by
  unfold item3
  repeat' first
    | with_reducible assumption
    | (with_reducible apply wf_ite <;> intro _)
    | with_reducible apply publishAll_wf
    | fail_if_no_progress (with_reducible apply wf_mk)

/-- `startSettling` keeps the canonical form of the tables. -/
theorem startSettling_wf (s : State) (m : Nat → Bool) (hw : Tables.wf s = true) :
    Tables.wf (startSettling s m) = true := by
  unfold startSettling
  repeat' first
    | with_reducible assumption
    | fail_if_no_progress (with_reducible apply wf_mk)

/-- `settlingEnd` keeps the canonical form of the tables. -/
theorem settlingEnd_wf (s : State) (n : Nat) (hw : Tables.wf s = true) :
    Tables.wf (settlingEnd s n) = true := by
  unfold settlingEnd
  repeat' first
    | with_reducible assumption
    | (with_reducible apply wf_ite <;> intro _)
    | with_reducible apply mark_wf
    | fail_if_no_progress (with_reducible apply wf_mk)

/-- `settlingTick` keeps the canonical form of the tables. -/
theorem settlingTick_wf (s : State) (hw : Tables.wf s = true) :
    Tables.wf (settlingTick s) = true := by
  unfold settlingTick
  repeat' first
    | with_reducible assumption
    | with_reducible apply settlingEnd_wf
    | (with_reducible apply wf_foldl; intro _ _ _; try beta_reduce)
    | fail_if_no_progress (with_reducible apply wf_mk)

/-- `clearHist` keeps the canonical form of the tables. -/
theorem clearHist_wf (s : State) (hw : Tables.wf s = true) :
    Tables.wf (clearHist s) = true := by
  unfold clearHist
  repeat' first
    | with_reducible assumption
    | fail_if_no_progress (with_reducible apply wf_mk)

/-! ### Dets -/

/-- `detTick` keeps the canonical form of the tables. -/
theorem detTick_wf (s : State) (d : Nat) (hw : Tables.wf s = true) :
    Tables.wf (detTick s d) = true := by
  unfold detTick
  repeat' first
    | with_reducible assumption
    | (with_reducible apply wf_ite <;> intro _)
    | with_reducible apply mark_wf
    | with_reducible apply publishAll_wf
    | fail_if_no_progress (with_reducible apply wf_mk)

/-- `item11` keeps the canonical form of the tables. -/
theorem item11_wf (s : State) (hw : Tables.wf s = true) :
    Tables.wf (item11 s) = true := by
  unfold item11
  repeat' first
    | with_reducible assumption
    | with_reducible apply detTick_wf
    | (with_reducible apply wf_foldl; intro _ _ _; try beta_reduce)

/-- `restartDet` keeps the canonical form of the tables. -/
theorem restartDet_wf (s : State) (d : Nat) (hw : Tables.wf s = true) :
    Tables.wf (restartDet s d) = true := by
  unfold restartDet
  repeat' first
    | with_reducible assumption
    | fail_if_no_progress (with_reducible apply wf_mk)

/-- `retuneDet` keeps the canonical form of the tables. -/
theorem retuneDet_wf (s : State) (d : Nat) (hw : Tables.wf s = true) :
    Tables.wf (retuneDet s d) = true := by
  unfold retuneDet
  repeat' first
    | with_reducible assumption
    | with_reducible apply setReg_wf

/-! ### Line -/

/-- `enterAcquire` keeps the canonical form of the tables. -/
theorem enterAcquire_wf (s0 : State) (hw : Tables.wf s0 = true) :
    Tables.wf (enterAcquire s0) = true := by
  unfold enterAcquire
  repeat' first
    | with_reducible assumption
    | (with_reducible apply wf_ite <;> intro _)
    | with_reducible apply publishAll_wf
    | fail_if_no_progress (with_reducible apply wf_mk)

/-- `report` keeps the canonical form of the tables. -/
theorem report_wf (s : State) (m : Int) (k : Nat) (e : Int) (hw : Tables.wf s = true) :
    Tables.wf (report s m k e) = true := by
  unfold report
  repeat' first
    | with_reducible assumption
    | fail_if_no_progress (with_reducible apply wf_mk)

/-- `acceptAt` keeps the canonical form of the tables. -/
theorem acceptAt_wf (s : State) (t pg : Int) (hw : Tables.wf s = true) :
    Tables.wf (acceptAt s t pg) = true := by
  unfold acceptAt
  repeat' first
    | with_reducible assumption
    | with_reducible apply report_wf
    | fail_if_no_progress (with_reducible apply wf_mk)

/-- `acquireLost` keeps the canonical form of the tables. -/
theorem acquireLost_wf (s : State) (m : Int) (hw : Tables.wf s = true) :
    Tables.wf (acquireLost s m) = true := by
  unfold acquireLost
  repeat' first
    | with_reducible assumption
    | with_reducible apply report_wf
    | with_reducible apply mark_wf
    | with_reducible apply publishAll_wf
    | fail_if_no_progress (with_reducible apply wf_mk)

/-- `trackAcquire` keeps the canonical form of the tables. -/
theorem trackAcquire_wf (s : State) (raw : Option Int) (hw : Tables.wf s = true) :
    Tables.wf (trackAcquire s raw) = true := by
  unfold trackAcquire
  repeat' first
    | with_reducible assumption
    | (with_reducible apply wf_ite <;> intro _)
    | with_reducible apply acceptAt_wf
    | with_reducible apply acquireLost_wf
    | fail_if_no_progress (with_reducible apply wf_mk)
    | split

/-- `trackLocked` keeps the canonical form of the tables. -/
theorem trackLocked_wf (s : State) (raw : Option Int) (hw : Tables.wf s = true) :
    Tables.wf (trackLocked s raw) = true := by
  unfold trackLocked
  repeat' first
    | with_reducible assumption
    | (with_reducible apply wf_ite <;> intro _)
    | with_reducible apply report_wf
    | with_reducible apply mark_wf
    | with_reducible apply publishAll_wf
    | with_reducible apply acceptAt_wf
    | fail_if_no_progress (with_reducible apply wf_mk)
    | extract_lets
    | split

/-- `trackFree` keeps the canonical form of the tables. -/
theorem trackFree_wf (s : State) (raw : Option Int) (hw : Tables.wf s = true) :
    Tables.wf (trackFree s raw) = true := by
  unfold trackFree
  repeat' first
    | with_reducible assumption
    | (with_reducible apply wf_ite <;> intro _)
    | with_reducible apply mark_wf
    | with_reducible apply report_wf
    | with_reducible apply publishAll_wf
    | with_reducible apply acceptAt_wf
    | fail_if_no_progress (with_reducible apply wf_mk)
    | extract_lets
    | split

/-- `item4` keeps the canonical form of the tables. -/
theorem item4_wf (s0 : State) (hw : Tables.wf s0 = true) :
    Tables.wf (item4 s0) = true := by
  unfold item4
  repeat' first
    | with_reducible assumption
    | (with_reducible apply wf_ite <;> intro _)
    | with_reducible apply enterAcquire_wf
    | with_reducible apply trackAcquire_wf
    | with_reducible apply trackLocked_wf
    | with_reducible apply trackFree_wf
    | with_reducible apply publish_wf
    | fail_if_no_progress (with_reducible apply wf_mk)

/-- `item5` keeps the canonical form of the tables. -/
theorem item5_wf (s : State) (hw : Tables.wf s = true) :
    Tables.wf (item5 s) = true := by
  unfold item5
  repeat' first
    | with_reducible assumption
    | fail_if_no_progress (with_reducible apply wf_mk)

/-- `closeCycle` keeps the canonical form of the tables. -/
theorem closeCycle_wf (s : State) (a : Span) (m : Int) (hw : Tables.wf s = true) :
    Tables.wf (closeCycle s a m) = true := by
  unfold closeCycle
  repeat' first
    | with_reducible assumption
    | (with_reducible apply wf_ite <;> intro _)
    | fail_if_no_progress (with_reducible apply wf_mk)

/-- `item6` keeps the canonical form of the tables. -/
theorem item6_wf (s : State) (hw : Tables.wf s = true) :
    Tables.wf (item6 s) = true := by
  unfold item6
  repeat' first
    | with_reducible assumption
    | (with_reducible apply wf_ite <;> intro _)
    | with_reducible apply closeCycle_wf
    | fail_if_no_progress (with_reducible apply wf_mk)
    | extract_lets
    | split

/-- `halfWork` keeps the canonical form of the tables. -/
theorem halfWork_wf (s : State) (hw : Tables.wf s = true) :
    Tables.wf (halfWork s) = true := by
  unfold halfWork
  repeat' first
    | with_reducible assumption
    | (with_reducible apply wf_ite <;> intro _)
    | with_reducible apply mark_wf
    | with_reducible apply publishAll_wf
    | fail_if_no_progress (with_reducible apply wf_mk)

/-- `item7` keeps the canonical form of the tables. -/
theorem item7_wf (s : State) (hw : Tables.wf s = true) :
    Tables.wf (item7 s) = true := by
  unfold item7
  repeat' first
    | with_reducible assumption
    | (with_reducible apply wf_ite <;> intro _)
    | with_reducible apply halfWork_wf
    | fail_if_no_progress (with_reducible apply wf_mk)

/-- `publishCycle` keeps the canonical form of the tables. -/
theorem publishCycle_wf (s : State) (hw : Tables.wf s = true) :
    Tables.wf (publishCycle s) = true := by
  unfold publishCycle
  repeat' first
    | with_reducible assumption
    | (with_reducible apply wf_ite <;> intro _)
    | with_reducible apply setReg_wf
    | with_reducible apply raise_wf
    | with_reducible apply incMod_wf
    | with_reducible apply orReg_wf
    | (with_reducible apply wf_foldl; intro _ _ _; try beta_reduce)
    | fail_if_no_progress (with_reducible apply wf_mk)
    | extract_lets
    | split

/-- `tailTick` keeps the canonical form of the tables. -/
theorem tailTick_wf (s : State) (hw : Tables.wf s = true) :
    Tables.wf (tailTick s) = true := by
  unfold tailTick
  repeat' first
    | with_reducible assumption
    | (with_reducible apply wf_ite <;> intro _)
    | with_reducible apply publishCycle_wf
    | fail_if_no_progress (with_reducible apply wf_mk)

/-! ### Energy -/

/-- `energyStep` keeps the canonical form of the tables. -/
theorem energyStep_wf (s : State) (q : Nat) (hw : Tables.wf s = true) :
    Tables.wf (energyStep s q) = true := by
  unfold energyStep
  repeat' first
    | with_reducible assumption
    | (with_reducible apply wf_ite <;> intro _)
    | fail_if_no_progress (with_reducible apply wf_mk)

/-- `item9` keeps the canonical form of the tables. -/
theorem item9_wf (s : State) (hw : Tables.wf s = true) :
    Tables.wf (item9 s) = true := by
  unfold item9
  repeat' first
    | with_reducible assumption
    | with_reducible apply energyStep_wf
    | (with_reducible apply wf_foldl; intro _ _ _; try beta_reduce)
    | fail_if_no_progress (with_reducible apply wf_mk)

/-- `putWide` keeps the canonical form of the tables. -/
theorem putWide_wf (s : State) (n v : Nat) (hw : Tables.wf s = true) :
    Tables.wf (putWide s n v) = true := by
  unfold putWide
  repeat' first
    | with_reducible assumption
    | with_reducible apply setReg_wf

/-- `showWide` keeps the canonical form of the tables. -/
theorem showWide_wf (s : State) (n v : Nat) (hw : Tables.wf s = true) :
    Tables.wf (showWide s n v) = true := by
  unfold showWide
  repeat' first
    | with_reducible assumption
    | (with_reducible apply wf_ite <;> intro _)
    | with_reducible apply putWide_wf

/-- `publishEnergy` keeps the canonical form of the tables. -/
theorem publishEnergy_wf (s : State) (hw : Tables.wf s = true) :
    Tables.wf (publishEnergy s) = true := by
  unfold publishEnergy
  repeat' first
    | with_reducible assumption
    | (with_reducible apply wf_ite <;> intro _)
    | with_reducible apply showWide_wf
    | with_reducible apply raise_wf
    | with_reducible apply orReg_wf
    | (with_reducible apply wf_foldl; intro _ _ _; try beta_reduce)

/-- `energyPreset` keeps the canonical form of the tables. -/
theorem energyPreset_wf (s : State) (q v : Nat) (hw : Tables.wf s = true) :
    Tables.wf (energyPreset s q v) = true := by
  unfold energyPreset
  repeat' first
    | with_reducible assumption
    | (with_reducible apply wf_ite <;> intro _)
    | with_reducible apply clearReg_wf
    | with_reducible apply putWide_wf
    | with_reducible apply mark_wf
    | with_reducible apply raise_wf
    | with_reducible apply orReg_wf
    | fail_if_no_progress (with_reducible apply wf_mk)

/-- `cfPut` keeps the canonical form of the tables. -/
theorem cfPut_wf (s : State) (x : Nat) (c : CfOut) (hw : Tables.wf s = true) :
    Tables.wf (cfPut s x c) = true := by
  unfold cfPut
  repeat' first
    | with_reducible assumption
    | fail_if_no_progress (with_reducible apply wf_mk)

/-- `cfCount` keeps the canonical form of the tables. -/
theorem cfCount_wf (s : State) (x : Nat) (hw : Tables.wf s = true) :
    Tables.wf (cfCount s x) = true := by
  unfold cfCount
  repeat' first
    | with_reducible assumption
    | (with_reducible apply wf_ite <;> intro _)
    | with_reducible apply cfPut_wf

/-- `item10` keeps the canonical form of the tables. -/
theorem item10_wf (s : State) (hw : Tables.wf s = true) :
    Tables.wf (item10 s) = true := by
  unfold item10
  repeat' first
    | with_reducible assumption
    | with_reducible apply cfCount_wf
    | (with_reducible apply wf_foldl; intro _ _ _; try beta_reduce)

/-- `cfLose` keeps the canonical form of the tables. -/
theorem cfLose_wf (s : State) (x k : Nat) (hw : Tables.wf s = true) :
    Tables.wf (cfLose s x k) = true := by
  unfold cfLose
  repeat' first
    | with_reducible assumption
    | with_reducible apply raise_wf
    | with_reducible apply orReg_wf
    | with_reducible apply addReg_wf

/-- `cfFallsDue` keeps the canonical form of the tables. -/
theorem cfFallsDue_wf (s : State) (x : Nat) (t : Int) (hw : Tables.wf s = true) :
    Tables.wf (cfFallsDue s x t) = true := by
  unfold cfFallsDue
  repeat' first
    | with_reducible assumption
    | (with_reducible apply wf_ite <;> intro _)
    | with_reducible apply cfPut_wf
    | with_reducible apply cfLose_wf
    | fail_if_no_progress (with_reducible apply wf_mk)
    | extract_lets
    | split

/-- `cfEvent` keeps the canonical form of the tables. -/
theorem cfEvent_wf (s : State) (x : Nat) (hw : Tables.wf s = true) :
    Tables.wf (cfEvent s x) = true := by
  unfold cfEvent
  repeat' first
    | with_reducible assumption
    | with_reducible apply cfPut_wf
    | with_reducible apply cfFallsDue_wf
    | fail_if_no_progress (with_reducible apply wf_mk)
    | extract_lets
    | split

/-- `cfUntil` keeps the canonical form of the tables. -/
theorem cfUntil_wf (stop : CfOut → CfOut → Bool) (n : Nat) : ∀ (s : State) (x : Nat) (u : State), Tables.wf s = true →
    Tables.wf u = true → Tables.wf ((cfUntil stop n s x).getD u) = true := by
  induction n with
  | zero => intro s x u _ hu; exact hu
  | succ n ih =>
    intro s x u hs hu
    unfold cfUntil
    split
    · exact hu
    · dsimp only
      split
      · exact cfEvent_wf _ _ hs
      · exact ih _ _ _ (cfEvent_wf _ _ hs) hu

/-- `cfPulseStart` keeps the canonical form of the tables. -/
theorem cfPulseStart_wf (s : State) (x : Nat) (hw : Tables.wf s = true) :
    Tables.wf (cfPulseStart s x) = true := by
  unfold cfPulseStart
  repeat' first
    | with_reducible assumption
    | (with_reducible apply wf_ite <;> intro _)
    | with_reducible apply cfUntil_wf

/-- `cfPulseEnd` keeps the canonical form of the tables. -/
theorem cfPulseEnd_wf (s : State) (x : Nat) (hw : Tables.wf s = true) :
    Tables.wf (cfPulseEnd s x) = true := by
  unfold cfPulseEnd
  repeat' first
    | with_reducible assumption
    | (with_reducible apply wf_ite <;> intro _)
    | with_reducible apply cfUntil_wf

/-- `cfRun` keeps the canonical form of the tables. -/
theorem cfRun_wf (n : Nat) : ∀ (s : State) (x : Nat), Tables.wf s = true → Tables.wf (cfRun n s x) = true := by
  induction n with
  | zero => intro s x hw; exact hw
  | succ n ih =>
    intro s x hw
    unfold cfRun
    split
    · exact hw
    · exact ih _ _ (cfEvent_wf _ _ hw)

/-- `cfFlush` keeps the canonical form of the tables. -/
theorem cfFlush_wf (s : State) (hw : Tables.wf s = true) :
    Tables.wf (cfFlush s) = true := by
  unfold cfFlush
  repeat' first
    | with_reducible assumption
    | (with_reducible apply wf_ite <;> intro _)
    | with_reducible apply cfRun_wf
    | (with_reducible apply wf_foldl; intro _ _ _; try beta_reduce)

/-- `cfTick` keeps the canonical form of the tables. -/
theorem cfTick_wf (s : State) (hw : Tables.wf s = true) :
    Tables.wf (cfTick s) = true := by
  unfold cfTick
  repeat' first
    | with_reducible assumption
    | (with_reducible apply wf_ite <;> intro _)
    | with_reducible apply cfPut_wf
    | (with_reducible apply wf_foldl; intro _ _ _; try beta_reduce)

/-- `cfStopAll` keeps the canonical form of the tables. -/
theorem cfStopAll_wf (s : State) (hw : Tables.wf s = true) :
    Tables.wf (cfStopAll s) = true := by
  unfold cfStopAll
  repeat' first
    | with_reducible assumption
    | fail_if_no_progress (with_reducible apply wf_mk)

/-! ### Mem -/

/-- `putTag` keeps the canonical form of the tables. -/
theorem putTag_wf (s : State) (i : Nat) (t : BitVec 9) (hw : Tables.wf s = true) :
    Tables.wf (putTag s i t) = true := by
  rw [Tables.wf_iff] at hw ⊢
  obtain ⟨a, b, c⟩ := hw
  exact ⟨a, swf_sset _ _ _ _ b, c⟩

/-- `putLine` keeps the canonical form of the tables. -/
theorem putLine_wf (s : State) (i : Nat) (d : List Byte) (hw : Tables.wf s = true) :
    Tables.wf (putLine s i d) = true := by
  rw [Tables.wf_iff] at hw ⊢
  obtain ⟨a, b, c⟩ := hw
  exact ⟨swf_sputs _ _ _ _ a, swf_sset _ _ _ _ b, c⟩

/-- `noteRead` keeps the canonical form of the tables. -/
theorem noteRead_wf (s : State) (req line : Nat) (r : LineRead) (hw : Tables.wf s = true) :
    Tables.wf (noteRead s req line r) = true := by
  unfold noteRead
  repeat' first
    | with_reducible assumption
    | (with_reducible apply wf_ite <;> intro _)
    | with_reducible apply setReg_wf
    | with_reducible apply raise_wf
    | with_reducible apply incReg_wf
    | with_reducible apply deliver_wf

/-- `readLine` keeps the canonical form of the tables. -/
theorem readLine_wf (s : State) (req i : Nat) (hw : Tables.wf s = true) :
    Tables.wf (readLine s req i).1 = true := by
  unfold readLine
  repeat' first
    | with_reducible assumption
    | with_reducible apply noteRead_wf
    | with_reducible apply putTag_wf
    | extract_lets
    | split

/-- `readLines` keeps the canonical form of the tables. -/
theorem readLines_wf (n : Nat) : ∀ (s : State) (req i : Nat), Tables.wf s = true →
    Tables.wf (readLines s req i n).st = true := by
  induction n with
  | zero => intro s req i hw; exact hw
  | succ n ih =>
    intro s req i hw
    have h1 := readLine_wf s req i hw
    simp only [readLines]
    split
    · exact h1
    · exact ih _ _ _ h1

/-- `writeBacks` keeps the canonical form of the tables. -/
theorem writeBacks_wf (s : State) (l : List (Nat × List Byte)) (hw : Tables.wf s = true) :
    Tables.wf (writeBacks s l) = true := by
  unfold writeBacks
  repeat' first
    | with_reducible assumption
    | with_reducible apply putLine_wf
    | (with_reducible apply wf_foldl; intro _ _ _; try beta_reduce)

/-- `memRead` keeps the canonical form of the tables. -/
theorem memRead_wf (s : State) (req pa count : Nat) (hw : Tables.wf s = true) :
    Tables.wf (memRead s req pa count).st = true :=
  writeBacks_wf _ _ (readLines_wf _ _ _ _ hw)

/-- `putLines` keeps the canonical form of the tables. -/
theorem putLines_wf (n : Nat) : ∀ (s : State) (i : Nat) (d : List Byte), Tables.wf s = true → Tables.wf (putLines s i n d) = true := by
  induction n with
  | zero => intro s i d hw; exact hw
  | succ n ih => intro s i d hw; exact ih _ _ _ (putLine_wf _ _ _ hw)

/-- `memWrite` keeps the canonical form of the tables. -/
theorem memWrite_wf (s : State) (req pa : Nat) (d : List Byte) (hw : Tables.wf s = true) :
    Tables.wf (memWrite s req pa d).st = true := by
  have hr : ∀ (c : Bool) (u : State) (j : Nat) (e : LineRead), Tables.wf u = true →
      Tables.wf (if c then readLine u req j else (u, e)).1 = true := by
    intro c u j e hu
    cases c
    · exact hu
    · exact readLine_wf u req j hu
  unfold memWrite
  extract_lets i last n hp tp p q used pre endOff post
  have hp' : Tables.wf p.1 = true := hr _ _ _ _ hw
  have hq : Tables.wf q.1 = true := hr _ _ _ _ hp'
  split
  · exact hp'
  · split
    · exact hq
    · exact putLines_wf _ _ _ _ hq

/-- `memMerge` keeps the canonical form of the tables. -/
theorem memMerge_wf (s : State) (req pa : Nat) (d : List Byte) (hw : Tables.wf s = true) :
    Tables.wf (memMerge s req pa d).st = true := by
  unfold memMerge
  repeat' first
    | with_reducible assumption
    | with_reducible apply readLine_wf
    | with_reducible apply putLine_wf
    | extract_lets
    | split

/-- `memAtomic` keeps the canonical form of the tables. -/
theorem memAtomic_wf (s : State) (req pa : Nat) (k : AccKind) (op1 op2 : BitVec 32) (hw : Tables.wf s = true) :
    Tables.wf (memAtomic s req pa k op1 op2).st = true := by
  unfold memAtomic
  repeat' first
    | with_reducible assumption
    | with_reducible apply readLine_wf
    | with_reducible apply putLine_wf
    | extract_lets
    | split

/-- `raiseAt` keeps the canonical form of the tables. -/
theorem raiseAt_wf (s : State) (r : Nat) (op : MemOp) (c : Nat) (hw : Tables.wf s = true) :
    Tables.wf (raiseAt s r op c) = true := by
  unfold raiseAt
  repeat' first
    | with_reducible assumption
    | (with_reducible apply wf_ite <;> intro _)
    | fail_if_no_progress (with_reducible apply wf_mk)
    | fail_if_no_progress (with_reducible apply wf_mkMem)
    | extract_lets
    | split

/-- `raiseReq` keeps the canonical form of the tables. -/
theorem raiseReq_wf (s : State) (r : Nat) (op : MemOp) (hw : Tables.wf s = true) :
    Tables.wf (raiseReq s r op) = true := by
  unfold raiseReq
  repeat' first
    | with_reducible assumption
    | with_reducible apply raiseAt_wf

/-- `endReq` keeps the canonical form of the tables. -/
theorem endReq_wf (s : State) (r : Nat) (hw : Tables.wf s = true) :
    Tables.wf (endReq s r) = true := by
  unfold endReq
  repeat' first
    | with_reducible assumption
    | fail_if_no_progress (with_reducible apply wf_mk)
    | fail_if_no_progress (with_reducible apply wf_mkMem)

/-- `withdrawReq` keeps the canonical form of the tables. -/
theorem withdrawReq_wf (s : State) (r : Nat) (hw : Tables.wf s = true) :
    Tables.wf (withdrawReq s r) = true := by
  unfold withdrawReq
  repeat' first
    | with_reducible assumption
    | fail_if_no_progress (with_reducible apply wf_mk)
    | fail_if_no_progress (with_reducible apply wf_mkMem)

/-- `forgetGone` keeps the canonical form of the tables. -/
theorem forgetGone_wf (s : State) (hw : Tables.wf s = true) :
    Tables.wf (forgetGone s) = true := by
  unfold forgetGone
  repeat' first
    | with_reducible assumption
    | fail_if_no_progress (with_reducible apply wf_mk)
    | fail_if_no_progress (with_reducible apply wf_mkMem)

/-- `starveCheck` keeps the canonical form of the tables. -/
theorem starveCheck_wf (s : State) (r slack : Nat) (hw : Tables.wf s = true) :
    Tables.wf (starveCheck s r slack) = true := by
  unfold starveCheck
  repeat' first
    | with_reducible assumption
    | (with_reducible apply wf_ite <;> intro _)
    | with_reducible apply raise_wf
    | with_reducible apply orReg_wf
    | fail_if_no_progress (with_reducible apply wf_mk)
    | fail_if_no_progress (with_reducible apply wf_mkMem)

/-- `noteWait` keeps the canonical form of the tables. -/
theorem noteWait_wf (s : State) (q : Req) (hw : Tables.wf s = true) :
    Tables.wf (noteWait s q) = true := by
  unfold noteWait
  repeat' first
    | with_reducible assumption
    | (with_reducible apply wf_ite <;> intro _)
    | with_reducible apply setReg_wf

/-- `boardTo` keeps the canonical form of the tables. -/
theorem boardTo_wf (s : State) (c : Nat) (hw : Tables.wf s = true) :
    Tables.wf (boardTo s c) = true := by
  unfold boardTo
  repeat' first
    | with_reducible assumption
    | (with_reducible apply wf_ite <;> intro _)
    | with_reducible apply starveCheck_wf
    | with_reducible apply noteWait_wf
    | (with_reducible apply wf_foldl; intro _ _ _; try beta_reduce)
    | fail_if_no_progress (with_reducible apply wf_mk)
    | fail_if_no_progress (with_reducible apply wf_mkMem)

/-- `drainCheck` keeps the canonical form of the tables. -/
theorem drainCheck_wf (s : State) (hw : Tables.wf s = true) :
    Tables.wf (drainCheck s) = true := by
  unfold drainCheck
  repeat' first
    | with_reducible assumption
    | with_reducible apply raiseIf_wf
    | fail_if_no_progress (with_reducible apply wf_mk)
    | fail_if_no_progress (with_reducible apply wf_mkMem)

/-- `scrubDueTick` keeps the canonical form of the tables. -/
theorem scrubDueTick_wf (s : State) (hw : Tables.wf s = true) :
    Tables.wf (scrubDueTick s) = true := by
  unfold scrubDueTick
  repeat' first
    | with_reducible assumption
    | (with_reducible apply wf_ite <;> intro _)
    | with_reducible apply raiseIf_wf
    | fail_if_no_progress (with_reducible apply wf_mk)
    | fail_if_no_progress (with_reducible apply wf_mkMem)

/-- `scrubAdvance` keeps the canonical form of the tables. -/
theorem scrubAdvance_wf (s : State) (hw : Tables.wf s = true) :
    Tables.wf (scrubAdvance s) = true := by
  unfold scrubAdvance
  repeat' first
    | with_reducible assumption
    | (with_reducible apply wf_ite <;> intro _)
    | with_reducible apply raise_wf
    | with_reducible apply incMod_wf
    | fail_if_no_progress (with_reducible apply wf_mk)
    | fail_if_no_progress (with_reducible apply wf_mkMem)

/-- `scrubTake` keeps the canonical form of the tables. -/
theorem scrubTake_wf (s : State) (hw : Tables.wf s = true) :
    Tables.wf (scrubTake s) = true := by
  unfold scrubTake
  repeat' first
    | with_reducible assumption
    | (with_reducible apply wf_ite <;> intro _)
    | with_reducible apply boardTo_wf
    | with_reducible apply noteRead_wf
    | with_reducible apply scrubAdvance_wf
    | fail_if_no_progress (with_reducible apply wf_mk)
    | fail_if_no_progress (with_reducible apply wf_mkMem)

/-- `scrubCycle` keeps the canonical form of the tables. -/
theorem scrubCycle_wf (s : State) (hw : Tables.wf s = true) :
    Tables.wf (scrubCycle s) = true := by
  unfold scrubCycle
  repeat' first
    | with_reducible assumption
    | with_reducible apply putTag_wf
    | with_reducible apply boardTo_wf
    | with_reducible apply putLine_wf
    | with_reducible apply scrubTake_wf
    | fail_if_no_progress (with_reducible apply wf_mk)
    | fail_if_no_progress (with_reducible apply wf_mkMem)
    | extract_lets
    | split

/-- `scrubRun` keeps the canonical form of the tables. -/
theorem scrubRun_wf (n : Nat) : ∀ (s : State) (c : Nat), Tables.wf s = true → Tables.wf (scrubRun n s c) = true := by
  induction n with
  | zero => intro s c hw; exact hw
  | succ n ih =>
    intro s c hw
    simp only [scrubRun]
    split
    · exact ih _ _ (scrubCycle_wf _ hw)
    · exact hw

/-- `idleTo` keeps the canonical form of the tables. -/
theorem idleTo_wf (s : State) (c : Nat) (hw : Tables.wf s = true) :
    Tables.wf (idleTo s c) = true := by
  unfold idleTo
  repeat' first
    | with_reducible assumption
    | with_reducible apply boardTo_wf
    | with_reducible apply scrubRun_wf

/-- `scrubTickEnd` keeps the canonical form of the tables. -/
theorem scrubTickEnd_wf (s : State) (hw : Tables.wf s = true) :
    Tables.wf (scrubTickEnd s) = true := by
  unfold scrubTickEnd
  repeat' first
    | with_reducible assumption
    | (with_reducible apply wf_ite <;> intro _)
    | with_reducible apply idleTo_wf
    | with_reducible apply mark_wf
    | with_reducible apply addReg_wf

/-- `scrubYieldOp` keeps the canonical form of the tables. -/
theorem scrubYieldOp_wf (s : State) (hw : Tables.wf s = true) :
    Tables.wf (scrubYieldOp s) = true := by
  unfold scrubYieldOp
  repeat' first
    | with_reducible assumption
    | (with_reducible apply wf_ite <;> intro _)
    | with_reducible apply scrubTickEnd_wf

/-- `clearBank` keeps the canonical form of the tables. -/
theorem clearBank_wf (s : State) (b : Nat) (hw : Tables.wf s = true) :
    Tables.wf (clearBank s b) = true := by
  rw [Tables.wf_iff] at hw ⊢
  obtain ⟨h1, h2, h3⟩ := hw
  exact ⟨swf_sfilter zeroByte (fun k => decide (bankOf k ≠ b)) _ h1,
    swf_sfilter zeroTag (fun k => decide (bankOf (16 * k) ≠ b)) _ h2, h3⟩

/-- `bankPowerUp` keeps the canonical form of the tables. -/
theorem bankPowerUp_wf (s : State) (b : Nat) (hw : Tables.wf s = true) :
    Tables.wf (bankPowerUp s b) = true := by
  unfold bankPowerUp
  repeat' first
    | with_reducible assumption
    | with_reducible apply clearBank_wf
    | fail_if_no_progress (with_reducible apply wf_mk)
    | fail_if_no_progress (with_reducible apply wf_mkMem)

/-- `bankPowerDown` keeps the canonical form of the tables. -/
theorem bankPowerDown_wf (s : State) (b : Nat) (hw : Tables.wf s = true) :
    Tables.wf (bankPowerDown s b) = true := by
  unfold bankPowerDown
  repeat' first
    | with_reducible assumption
    | with_reducible apply clearBank_wf
    | fail_if_no_progress (with_reducible apply wf_mk)
    | fail_if_no_progress (with_reducible apply wf_mkMem)

/-- `bankReadyNow` keeps the canonical form of the tables. -/
theorem bankReadyNow_wf (s : State) (b : Nat) (hw : Tables.wf s = true) :
    Tables.wf (bankReadyNow s b) = true := by
  unfold bankReadyNow
  repeat' first
    | with_reducible assumption
    | fail_if_no_progress (with_reducible apply wf_mk)
    | fail_if_no_progress (with_reducible apply wf_mkMem)

/-- `bankInitDone` keeps the canonical form of the tables. -/
theorem bankInitDone_wf (s : State) (b : Nat) (hw : Tables.wf s = true) :
    Tables.wf (bankInitDone s b) = true := by
  unfold bankInitDone
  repeat' first
    | with_reducible assumption
    | (with_reducible apply wf_ite <;> intro _)
    | with_reducible apply bankReadyNow_wf

/-- `bankInitTick` keeps the canonical form of the tables. -/
theorem bankInitTick_wf (s : State) (b : Nat) (hw : Tables.wf s = true) :
    Tables.wf (bankInitTick s b) = true := by
  unfold bankInitTick
  repeat' first
    | with_reducible assumption
    | (with_reducible apply wf_ite <;> intro _)
    | fail_if_no_progress (with_reducible apply wf_mk)
    | fail_if_no_progress (with_reducible apply wf_mkMem)

/-! ### Harm -/

/-- `harmDeadline` keeps the canonical form of the tables. -/
theorem harmDeadline_wf (s : State) (hw : Tables.wf s = true) :
    Tables.wf (harmDeadline s) = true := by
  unfold harmDeadline
  repeat' first
    | with_reducible assumption
    | (with_reducible apply wf_ite <;> intro _)
    | with_reducible apply mark_wf
    | with_reducible apply raise_wf
    | with_reducible apply incReg_wf
    | fail_if_no_progress (with_reducible apply wf_mk)
    | split

/-- `item15` keeps the canonical form of the tables. -/
theorem item15_wf (s0 : State) (hw : Tables.wf s0 = true) :
    Tables.wf (item15 s0) = true := by
  unfold item15
  repeat' first
    | with_reducible assumption
    | (with_reducible apply wf_ite <;> intro _)
    | with_reducible apply harmDeadline_wf
    | fail_if_no_progress (with_reducible apply wf_mk)

/-- `closureTick` keeps the canonical form of the tables. -/
theorem closureTick_wf (s : State) (hw : Tables.wf s = true) :
    Tables.wf (closureTick s) = true := by
  unfold closureTick
  repeat' first
    | with_reducible assumption
    | fail_if_no_progress (with_reducible apply wf_mk)

/-- `harmTakeUp` keeps the canonical form of the tables. -/
theorem harmTakeUp_wf (s : State) (hw : Tables.wf s = true) :
    Tables.wf (harmTakeUp s) = true := by
  unfold harmTakeUp
  repeat' first
    | with_reducible assumption
    | (with_reducible apply wf_ite <;> intro _)
    | fail_if_no_progress (with_reducible apply wf_mk)
    | extract_lets
    | split

/-- `harmBackground` keeps the canonical form of the tables. -/
theorem harmBackground_wf (s : State) (hw : Tables.wf s = true) :
    Tables.wf (harmBackground s) = true := by
  unfold harmBackground
  repeat' first
    | with_reducible assumption
    | (with_reducible apply wf_ite <;> intro _)
    | with_reducible apply harmTakeUp_wf
    | with_reducible apply closureTick_wf
    | fail_if_no_progress (with_reducible apply wf_mk)
    | extract_lets
    | split

/-- `harmFault` keeps the canonical form of the tables. -/
theorem harmFault_wf (s : State) (cause : Nat) (hw : Tables.wf s = true) :
    Tables.wf (harmFault s cause) = true := by
  unfold harmFault
  repeat' first
    | with_reducible assumption
    | with_reducible apply raise_wf
    | with_reducible apply setReg_wf

/-- `dropEngine` keeps the canonical form of the tables. -/
theorem dropEngine_wf (s : State) (es : List Engine) (hw : Tables.wf s = true) :
    Tables.wf (dropEngine s es) = true := by
  unfold dropEngine
  repeat' first
    | with_reducible assumption
    | fail_if_no_progress (with_reducible apply wf_mk)

/-- `harmCopyDrop` keeps the canonical form of the tables. -/
theorem harmCopyDrop_wf (s : State) (hw : Tables.wf s = true) :
    Tables.wf (harmCopyDrop s) = true := by
  unfold harmCopyDrop
  repeat' first
    | with_reducible assumption
    | (with_reducible apply wf_ite <;> intro _)
    | with_reducible apply harmFault_wf
    | with_reducible apply dropEngine_wf
    | with_reducible apply withdrawReq_wf
    | fail_if_no_progress (with_reducible apply wf_mk)

/-- `harmCopyStart` keeps the canonical form of the tables. -/
theorem harmCopyStart_wf (s0 : State) (g : List (List Nat)) (hw : Tables.wf s0 = true) :
    Tables.wf (harmCopyStart s0 g) = true := by
  unfold harmCopyStart
  repeat' first
    | with_reducible assumption
    | (with_reducible apply wf_ite <;> intro _)
    | with_reducible apply harmCopyDrop_wf
    | with_reducible apply raiseReq_wf
    | fail_if_no_progress (with_reducible apply wf_mk)

/-- `harmPublish` keeps the canonical form of the tables. -/
theorem harmPublish_wf (s : State) (hw : Tables.wf s = true) :
    Tables.wf (harmPublish s) = true := by
  unfold harmPublish
  repeat' first
    | with_reducible assumption
    | (with_reducible apply wf_ite <;> intro _)
    | with_reducible apply setReg_wf
    | with_reducible apply mark_wf
    | with_reducible apply harmCopyStart_wf
    | with_reducible apply raise_wf
    | (with_reducible apply wf_foldl; intro _ _ _; try beta_reduce)
    | fail_if_no_progress (with_reducible apply wf_mk)
    | extract_lets
    | split

/-- `harmSkip` keeps the canonical form of the tables. -/
theorem harmSkip_wf (s : State) (hw : Tables.wf s = true) :
    Tables.wf (harmSkip s) = true := by
  unfold harmSkip
  repeat' first
    | with_reducible assumption
    | (with_reducible apply wf_ite <;> intro _)
    | with_reducible apply raise_wf
    | with_reducible apply incReg_wf
    | fail_if_no_progress (with_reducible apply wf_mk)

/-- `pqFlags` keeps the canonical form of the tables. -/
theorem pqFlags_wf (s : State) (p : Nat) (hw : Tables.wf s = true) :
    Tables.wf (pqFlags s p) = true := by
  unfold pqFlags
  repeat' first
    | with_reducible assumption
    | (with_reducible apply wf_ite <;> intro _)
    | fail_if_no_progress (with_reducible apply wf_mk)

/-- `pqPut` keeps the canonical form of the tables. -/
theorem pqPut_wf (s : State) (t : Nat) (e : PqEvent) (hw : Tables.wf s = true) :
    Tables.wf (pqPut s t e) = true := by
  unfold pqPut
  repeat' first
    | with_reducible assumption
    | (with_reducible apply wf_ite <;> intro _)
    | fail_if_no_progress (with_reducible apply wf_mk)

/-- `pqJudge` keeps the canonical form of the tables. -/
theorem pqJudge_wf (s : State) (t : Nat) (hw : Tables.wf s = true) :
    Tables.wf (pqJudge s t) = true := by
  unfold pqJudge
  repeat' first
    | with_reducible assumption
    | (with_reducible apply wf_ite <;> intro _)
    | with_reducible apply pqPut_wf
    | with_reducible apply publishAll_wf
    | fail_if_no_progress (with_reducible apply wf_mk)

/-- `item8` keeps the canonical form of the tables. -/
theorem item8_wf (s0 : State) (hw : Tables.wf s0 = true) :
    Tables.wf (item8 s0) = true := by
  unfold item8
  repeat' first
    | with_reducible assumption
    | (with_reducible apply wf_ite <;> intro _)
    | with_reducible apply pqFlags_wf
    | with_reducible apply pqJudge_wf
    | with_reducible apply publish_wf
    | (with_reducible apply wf_foldl; intro _ _ _; try beta_reduce)
    | fail_if_no_progress (with_reducible apply wf_mk)

/-- `pqTick` keeps the canonical form of the tables. -/
theorem pqTick_wf (s : State) (hw : Tables.wf s = true) :
    Tables.wf (pqTick s) = true := by
  unfold pqTick
  repeat' first
    | with_reducible assumption
    | fail_if_no_progress (with_reducible apply wf_mk)

/-- `pqCutOne` keeps the canonical form of the tables. -/
theorem pqCutOne_wf (s : State) (t : Nat) (hw : Tables.wf s = true) :
    Tables.wf (pqCutOne s t) = true := by
  unfold pqCutOne
  repeat' first
    | with_reducible assumption
    | (with_reducible apply wf_ite <;> intro _)
    | with_reducible apply raise_wf
    | with_reducible apply setReg_wf
    | with_reducible apply pqPut_wf
    | (with_reducible apply wf_foldl; intro _ _ _; try beta_reduce)

/-- `pqCuts` keeps the canonical form of the tables. -/
theorem pqCuts_wf (s : State) (hold : Bool) (hw : Tables.wf s = true) :
    Tables.wf (pqCuts s hold) = true := by
  unfold pqCuts
  repeat' first
    | with_reducible assumption
    | (with_reducible apply wf_ite <;> intro _)
    | with_reducible apply pqCutOne_wf
    | with_reducible apply setReg_wf
    | (with_reducible apply wf_foldl; intro _ _ _; try beta_reduce)

/-! ### Capture -/

/-- `capDrop` keeps the canonical form of the tables. -/
theorem capDrop_wf (s : State) (cause : Nat) (hw : Tables.wf s = true) :
    Tables.wf (capDrop s cause) = true := by
  unfold capDrop
  repeat' first
    | with_reducible assumption
    | with_reducible apply dropEngine_wf
    | with_reducible apply withdrawReq_wf
    | fail_if_no_progress (with_reducible apply wf_mk)

/-- `capFault` keeps the canonical form of the tables. -/
theorem capFault_wf (s : State) (cause : Nat) (hw : Tables.wf s = true) :
    Tables.wf (capFault s cause) = true := by
  unfold capFault
  repeat' first
    | with_reducible assumption
    | with_reducible apply capDrop_wf
    | with_reducible apply raise_wf
    | fail_if_no_progress (with_reducible apply wf_mk)

/-- `capArm` keeps the canonical form of the tables. -/
theorem capArm_wf (s : State) (hw : Tables.wf s = true) :
    Tables.wf (capArm s) = true := by
  unfold capArm
  repeat' first
    | with_reducible assumption
    | (with_reducible apply wf_ite <;> intro _)
    | with_reducible apply publish_wf
    | with_reducible apply capDrop_wf
    | fail_if_no_progress (with_reducible apply wf_mk)

/-- `capTrigger` keeps the canonical form of the tables. -/
theorem capTrigger_wf (s : State) (hw : Tables.wf s = true) :
    Tables.wf (capTrigger s) = true := by
  unfold capTrigger
  repeat' first
    | with_reducible assumption
    | (with_reducible apply wf_ite <;> intro _)
    | with_reducible apply publishAll_wf
    | with_reducible apply publish_wf
    | fail_if_no_progress (with_reducible apply wf_mk)

/-- `capFrame` keeps the canonical form of the tables. -/
theorem capFrame_wf (s : State) (hw : Tables.wf s = true) :
    Tables.wf (capFrame s) = true := by
  unfold capFrame
  repeat' first
    | with_reducible assumption
    | (with_reducible apply wf_ite <;> intro _)
    | with_reducible apply publishAll_wf
    | with_reducible apply raiseReq_wf
    | fail_if_no_progress (with_reducible apply wf_mk)

/-- `capStop` keeps the canonical form of the tables. -/
theorem capStop_wf (s : State) (hw : Tables.wf s = true) :
    Tables.wf (capStop s) = true := by
  unfold capStop
  repeat' first
    | with_reducible assumption
    | fail_if_no_progress (with_reducible apply wf_mk)

/-- `item13` keeps the canonical form of the tables. -/
theorem item13_wf (s0 : State) (hw : Tables.wf s0 = true) :
    Tables.wf (item13 s0) = true := by
  unfold item13
  repeat' first
    | with_reducible assumption
    | (with_reducible apply wf_ite <;> intro _)
    | with_reducible apply capStop_wf
    | with_reducible apply capArm_wf
    | with_reducible apply capTrigger_wf
    | with_reducible apply capFrame_wf
    | fail_if_no_progress (with_reducible apply wf_mk)

/-- `capCtrl` keeps the canonical form of the tables. -/
theorem capCtrl_wf (s : State) (v : Word) (hw : Tables.wf s = true) :
    Tables.wf (capCtrl s v) = true := by
  unfold capCtrl
  repeat' first
    | with_reducible assumption
    | fail_if_no_progress (with_reducible apply wf_mk)

/-- `capDoneOp` keeps the canonical form of the tables. -/
theorem capDoneOp_wf (s : State) (hw : Tables.wf s = true) :
    Tables.wf (capDoneOp s) = true := by
  unfold capDoneOp
  repeat' first
    | with_reducible assumption
    | (with_reducible apply wf_ite <;> intro _)
    | with_reducible apply raise_wf
    | fail_if_no_progress (with_reducible apply wf_mk)

/-- `capBoundary` keeps the canonical form of the tables. -/
theorem capBoundary_wf (s : State) (hold : Bool) (hw : Tables.wf s = true) :
    Tables.wf (capBoundary s hold) = true := by
  unfold capBoundary
  repeat' first
    | with_reducible assumption
    | (with_reducible apply wf_ite <;> intro _)
    | with_reducible apply capFault_wf

/-! ### Stool -/

/-- `stoolFault` keeps the canonical form of the tables. -/
theorem stoolFault_wf (s : State) (cause : Nat) (hw : Tables.wf s = true) :
    Tables.wf (stoolFault s cause) = true := by
  unfold stoolFault
  repeat' first
    | with_reducible assumption
    | with_reducible apply raise_wf
    | fail_if_no_progress (with_reducible apply wf_mk)

/-- `stoolStep` keeps the canonical form of the tables. -/
theorem stoolStep_wf (s : State) (st step : Nat) (hw : Tables.wf s = true) :
    Tables.wf (stoolStep s st step) = true := by
  unfold stoolStep
  repeat' first
    | with_reducible assumption
    | fail_if_no_progress (with_reducible apply wf_mk)

/-- `startSelf` keeps the canonical form of the tables. -/
theorem startSelf_wf (s : State) (hw : Tables.wf s = true) :
    Tables.wf (startSelf s) = true := by
  unfold startSelf
  repeat' first
    | with_reducible assumption
    | with_reducible apply stoolStep_wf
    | fail_if_no_progress (with_reducible apply wf_mk)

/-- `startOverlap` keeps the canonical form of the tables. -/
theorem startOverlap_wf (s : State) (n : Nat) (hw : Tables.wf s = true) :
    Tables.wf (startOverlap s n) = true := by
  unfold startOverlap
  repeat' first
    | with_reducible assumption
    | with_reducible apply stoolStep_wf
    | fail_if_no_progress (with_reducible apply wf_mk)

/-- `rotationEnd` keeps the canonical form of the tables. -/
theorem rotationEnd_wf (s : State) (hw : Tables.wf s = true) :
    Tables.wf (rotationEnd s) = true := by
  unfold rotationEnd
  repeat' first
    | with_reducible assumption
    | (with_reducible apply wf_ite <;> intro _)
    | with_reducible apply mark_wf
    | with_reducible apply raise_wf
    | with_reducible apply incMod_wf
    | fail_if_no_progress (with_reducible apply wf_mk)

/-- `serveNext` keeps the canonical form of the tables. -/
theorem serveNext_wf (s : State) (hw : Tables.wf s = true) :
    Tables.wf (serveNext s) = true := by
  unfold serveNext
  repeat' first
    | with_reducible assumption
    | with_reducible apply startOverlap_wf
    | with_reducible apply startSelf_wf
    | with_reducible apply rotationEnd_wf
    | fail_if_no_progress (with_reducible apply wf_mk)
    | split

/-- `serveSelected` keeps the canonical form of the tables. -/
theorem serveSelected_wf (s : State) (n : Nat) (hw : Tables.wf s = true) :
    Tables.wf (serveSelected s n) = true := by
  unfold serveSelected
  repeat' first
    | with_reducible assumption
    | (with_reducible apply wf_ite <;> intro _)
    | with_reducible apply startSelf_wf
    | with_reducible apply startOverlap_wf
    | with_reducible apply serveNext_wf
    | fail_if_no_progress (with_reducible apply wf_mk)

/-- `stoolAdvance` keeps the canonical form of the tables. -/
theorem stoolAdvance_wf (s : State) (hw : Tables.wf s = true) :
    Tables.wf (stoolAdvance s) = true := by
  unfold stoolAdvance
  repeat' first
    | with_reducible assumption
    | (with_reducible apply wf_ite <;> intro _)
    | with_reducible apply rotationEnd_wf
    | with_reducible apply serveSelected_wf
    | with_reducible apply serveNext_wf
    | fail_if_no_progress (with_reducible apply wf_mk)
    | extract_lets
    | split

/-- `item14` keeps the canonical form of the tables. -/
theorem item14_wf (s : State) (hw : Tables.wf s = true) :
    Tables.wf (item14 s) = true := by
  unfold item14
  repeat' first
    | with_reducible assumption
    | (with_reducible apply wf_ite <;> intro _)
    | fail_if_no_progress (with_reducible apply wf_mk)

/-- `putField` keeps the canonical form of the tables. -/
theorem putField_wf (apply : Bool) (s : State) (n : Nat) (v : Int) (hw : Tables.wf s = true) :
    Tables.wf (putField apply s n v) = true := by
  unfold putField
  repeat' first
    | with_reducible assumption
    | (with_reducible apply wf_ite <;> intro _)
    | with_reducible apply setReg_wf
    | fail_if_no_progress (with_reducible apply wf_mk)

/-- `calibrate` keeps the canonical form of the tables. -/
theorem calibrate_wf (s : State) (c : Nat) (hw : Tables.wf s = true) :
    Tables.wf (calibrate s c) = true := by
  unfold calibrate
  repeat' first
    | with_reducible assumption
    | (with_reducible apply wf_ite <;> intro _)
    | with_reducible apply stoolFault_wf
    | with_reducible apply putField_wf
    | fail_if_no_progress (with_reducible apply wf_mk)
    | extract_lets
    | split

/-- `takeMean` keeps the canonical form of the tables. -/
theorem takeMean_wf (s : State) (hw : Tables.wf s = true) :
    Tables.wf (takeMean s) = true := by
  unfold takeMean
  repeat' first
    | with_reducible assumption
    | fail_if_no_progress (with_reducible apply wf_mk)

/-- `abandonSlice` keeps the canonical form of the tables. -/
theorem abandonSlice_wf (s : State) (counted : Bool) (hw : Tables.wf s = true) :
    Tables.wf (abandonSlice s counted) = true := by
  unfold abandonSlice
  repeat' first
    | with_reducible assumption
    | (with_reducible apply wf_ite <;> intro _)
    | with_reducible apply stoolAdvance_wf
    | with_reducible apply addReg_wf

/-- `stoolStepEnd` keeps the canonical form of the tables. -/
theorem stoolStepEnd_wf (s : State) (hw : Tables.wf s = true) :
    Tables.wf (stoolStepEnd s) = true := by
  unfold stoolStepEnd
  repeat' first
    | with_reducible assumption
    | (with_reducible apply wf_ite <;> intro _)
    | with_reducible apply stoolStep_wf
    | with_reducible apply takeMean_wf
    | with_reducible apply stoolAdvance_wf
    | with_reducible apply calibrate_wf
    | with_reducible apply abandonSlice_wf
    | with_reducible apply stoolFault_wf
    | fail_if_no_progress (with_reducible apply wf_mk)

/-- `stoolStepEndOp` keeps the canonical form of the tables. -/
theorem stoolStepEndOp_wf (s : State) (hw : Tables.wf s = true) :
    Tables.wf (stoolStepEndOp s) = true := by
  unfold stoolStepEndOp
  repeat' first
    | with_reducible assumption
    | (with_reducible apply wf_ite <;> intro _)
    | with_reducible apply mark_wf
    | with_reducible apply stoolStepEnd_wf

/-- `switchMade` keeps the canonical form of the tables. -/
theorem switchMade_wf (s : State) (hw : Tables.wf s = true) :
    Tables.wf (switchMade s) = true := by
  unfold switchMade
  repeat' first
    | with_reducible assumption
    | with_reducible apply raise_wf
    | with_reducible apply setReg_wf
    | fail_if_no_progress (with_reducible apply wf_mk)

/-- `takeoverMade` keeps the canonical form of the tables. -/
theorem takeoverMade_wf (s : State) (hw : Tables.wf s = true) :
    Tables.wf (takeoverMade s) = true := by
  unfold takeoverMade
  repeat' first
    | with_reducible assumption
    | with_reducible apply switchMade_wf
    | with_reducible apply stoolStep_wf
    | fail_if_no_progress (with_reducible apply wf_mk)

/-- `handbackMade` keeps the canonical form of the tables. -/
theorem handbackMade_wf (s : State) (hw : Tables.wf s = true) :
    Tables.wf (handbackMade s) = true := by
  unfold handbackMade
  repeat' first
    | with_reducible assumption
    | with_reducible apply switchMade_wf
    | with_reducible apply stoolAdvance_wf
    | fail_if_no_progress (with_reducible apply wf_mk)

/-- `deferSwitch` keeps the canonical form of the tables. -/
theorem deferSwitch_wf (s : State) (hw : Tables.wf s = true) :
    Tables.wf (deferSwitch s) = true := by
  unfold deferSwitch
  repeat' first
    | with_reducible assumption
    | (with_reducible apply wf_ite <;> intro _)
    | with_reducible apply raise_wf
    | with_reducible apply addReg_wf
    | fail_if_no_progress (with_reducible apply wf_mk)

/-- `takeoverOp` keeps the canonical form of the tables. -/
theorem takeoverOp_wf (s : State) (hw : Tables.wf s = true) :
    Tables.wf (takeoverOp s) = true := by
  unfold takeoverOp
  repeat' first
    | with_reducible assumption
    | (with_reducible apply wf_ite <;> intro _)
    | with_reducible apply deferSwitch_wf
    | with_reducible apply takeoverMade_wf

/-- `handbackOp` keeps the canonical form of the tables. -/
theorem handbackOp_wf (s : State) (hw : Tables.wf s = true) :
    Tables.wf (handbackOp s) = true := by
  unfold handbackOp
  repeat' first
    | with_reducible assumption
    | (with_reducible apply wf_ite <;> intro _)
    | with_reducible apply deferSwitch_wf
    | with_reducible apply handbackMade_wf

/-- `takeoverAbandonOp` keeps the canonical form of the tables. -/
theorem takeoverAbandonOp_wf (s : State) (hw : Tables.wf s = true) :
    Tables.wf (takeoverAbandonOp s) = true := by
  unfold takeoverAbandonOp
  repeat' first
    | with_reducible assumption
    | (with_reducible apply wf_ite <;> intro _)
    | with_reducible apply abandonSlice_wf
    | with_reducible apply stoolFault_wf

/-- `handbackStallOp` keeps the canonical form of the tables. -/
theorem handbackStallOp_wf (s : State) (hw : Tables.wf s = true) :
    Tables.wf (handbackStallOp s) = true := by
  unfold handbackStallOp
  repeat' first
    | with_reducible assumption
    | (with_reducible apply wf_ite <;> intro _)
    | with_reducible apply stoolFault_wf
    | fail_if_no_progress (with_reducible apply wf_mk)

/-- `stoolTickEnd` keeps the canonical form of the tables. -/
theorem stoolTickEnd_wf (s : State) (hw : Tables.wf s = true) :
    Tables.wf (stoolTickEnd s) = true := by
  unfold stoolTickEnd
  repeat' first
    | with_reducible assumption
    | (with_reducible apply wf_ite <;> intro _)
    | with_reducible apply stoolStepEndOp_wf
    | with_reducible apply stoolStep_wf
    | with_reducible apply handbackOp_wf
    | with_reducible apply takeoverOp_wf
    | with_reducible apply handbackStallOp_wf
    | with_reducible apply takeoverAbandonOp_wf
    | fail_if_no_progress (with_reducible apply wf_mk)

/-- `rotationDoneOp` keeps the canonical form of the tables. -/
theorem rotationDoneOp_wf (s : State) (hw : Tables.wf s = true) :
    Tables.wf (rotationDoneOp s) = true := by
  unfold rotationDoneOp
  repeat' first
    | with_reducible assumption
    | (with_reducible apply wf_ite <;> intro _)
    | with_reducible apply takeoverAbandonOp_wf
    | with_reducible apply handbackOp_wf
    | with_reducible apply stoolStepEndOp_wf
    | with_reducible apply mark_wf

/-- `stoolModeChange` keeps the canonical form of the tables. -/
theorem stoolModeChange_wf (s : State) (hw : Tables.wf s = true) :
    Tables.wf (stoolModeChange s) = true := by
  unfold stoolModeChange
  repeat' first
    | with_reducible assumption
    | (with_reducible apply wf_ite <;> intro _)
    | with_reducible apply stoolStep_wf
    | fail_if_no_progress (with_reducible apply wf_mk)

/-- `carryBroken` keeps the canonical form of the tables. -/
theorem carryBroken_wf (s : State) (hw : Tables.wf s = true) :
    Tables.wf (carryBroken s) = true := by
  unfold carryBroken
  repeat' first
    | with_reducible assumption
    | (with_reducible apply wf_ite <;> intro _)
    | with_reducible apply stoolFault_wf
    | fail_if_no_progress (with_reducible apply wf_mk)

/-- `stoolAct` keeps the canonical form of the tables. -/
theorem stoolAct_wf (s : State) (a : Nat × Nat) (hw : Tables.wf s = true) :
    Tables.wf (stoolAct s a) = true := by
  unfold stoolAct
  repeat' first
    | with_reducible assumption
    | (with_reducible apply wf_ite <;> intro _)
    | with_reducible apply stoolAdvance_wf
    | fail_if_no_progress (with_reducible apply wf_mk)

/-- `stoolNewTick` keeps the canonical form of the tables. -/
theorem stoolNewTick_wf (s : State) (hw : Tables.wf s = true) :
    Tables.wf (stoolNewTick s) = true := by
  unfold stoolNewTick
  repeat' first
    | with_reducible assumption
    | (with_reducible apply wf_ite <;> intro _)
    | with_reducible apply startSelf_wf
    | with_reducible apply abandonSlice_wf
    | with_reducible apply addReg_wf
    | with_reducible apply startOverlap_wf
    | with_reducible apply stoolStep_wf
    | with_reducible apply stoolAct_wf
    | (with_reducible apply wf_foldl; intro _ _ _; try beta_reduce)
    | fail_if_no_progress (with_reducible apply wf_mk)

/-- `stoolCtrl` keeps the canonical form of the tables. -/
theorem stoolCtrl_wf (s : State) (action slice : Nat) (hw : Tables.wf s = true) :
    Tables.wf (stoolCtrl s action slice).1 = true := by
  unfold stoolCtrl
  repeat' first
    | with_reducible assumption
    | fail_if_no_progress (with_reducible apply wf_mk)
    | split

/-! ### Pins -/

/-- `applyPinmux` keeps the canonical form of the tables. -/
theorem applyPinmux_wf (s : State) (a b : Word) (hw : Tables.wf s = true) :
    Tables.wf (applyPinmux s a b) = true := by
  unfold applyPinmux
  repeat' first
    | with_reducible assumption
    | with_reducible apply setForce_wf
    | fail_if_no_progress (with_reducible apply wf_mk)
    | fail_if_no_progress (with_reducible apply wf_mkAon)

/-! ### Proc -/

/-- `setQual` keeps the canonical form of the tables. -/
theorem setQual_wf (s : State) (i code : Nat) (hw : Tables.wf s = true) :
    Tables.wf (setQual s i code) = true := by
  unfold setQual
  repeat' first
    | with_reducible assumption
    | with_reducible apply setReg_wf

/-- `latchSeq` keeps the canonical form of the tables. -/
theorem latchSeq_wf (s : State) (rd : Nat → Word) (hw : Tables.wf s = true) :
    Tables.wf (latchSeq s rd) = true := by
  unfold latchSeq
  repeat' first
    | with_reducible assumption
    | (with_reducible apply wf_ite <;> intro _)
    | with_reducible apply setQual_wf
    | (with_reducible apply wf_foldl; intro _ _ _; try beta_reduce)
    | fail_if_no_progress (with_reducible apply wf_mk)

/-- `openWindows` keeps the canonical form of the tables. -/
theorem openWindows_wf (s : State) (cyc kind : Nat) (hw : Tables.wf s = true) :
    Tables.wf (openWindows s cyc kind) = true := by
  unfold openWindows
  repeat' first
    | with_reducible assumption
    | fail_if_no_progress (with_reducible apply wf_mk)

/-- `openGroup` keeps the canonical form of the tables. -/
theorem openGroup_wf (s : State) (cyc : Nat) (hw : Tables.wf s = true) :
    Tables.wf (openGroup s cyc) = true := by
  unfold openGroup
  repeat' first
    | with_reducible assumption
    | (with_reducible apply wf_ite <;> intro _)
    | with_reducible apply openWindows_wf
    | fail_if_no_progress (with_reducible apply wf_mk)

/-- `startSeq` keeps the canonical form of the tables. -/
theorem startSeq_wf (s : State) (rd : Nat → Word) (delay : Option Nat) (hw : Tables.wf s = true) :
    Tables.wf (startSeq s rd delay) = true := by
  unfold startSeq
  repeat' first
    | with_reducible assumption
    | with_reducible apply latchSeq_wf
    | with_reducible apply openGroup_wf
    | fail_if_no_progress (with_reducible apply wf_mk)
    | extract_lets
    | split

/-- `restartSeq` keeps the canonical form of the tables. -/
theorem restartSeq_wf (s : State) (cyc kind : Nat) (hw : Tables.wf s = true) :
    Tables.wf (restartSeq s cyc kind) = true := by
  unfold restartSeq
  repeat' first
    | with_reducible assumption
    | with_reducible apply latchSeq_wf
    | with_reducible apply openWindows_wf
    | fail_if_no_progress (with_reducible apply wf_mk)
    | extract_lets
    | split

/-- `closeGroup` keeps the canonical form of the tables. -/
theorem closeGroup_wf (s : State) (cyc kind : Nat) (hw : Tables.wf s = true) :
    Tables.wf (closeGroup s cyc kind) = true := by
  unfold closeGroup
  repeat' first
    | with_reducible assumption
    | (with_reducible apply wf_ite <;> intro _)
    | with_reducible apply openWindows_wf
    | with_reducible apply restartSeq_wf
    | fail_if_no_progress (with_reducible apply wf_mk)
    | extract_lets
    | split

/-- `procOverrun` keeps the canonical form of the tables. -/
theorem procOverrun_wf (s : State) (hw : Tables.wf s = true) :
    Tables.wf (procOverrun s) = true := by
  unfold procOverrun
  repeat' first
    | with_reducible assumption
    | with_reducible apply raise_wf
    | with_reducible apply incReg_wf

/-- `procTimerFire` keeps the canonical form of the tables. -/
theorem procTimerFire_wf (s : State) (hw : Tables.wf s = true) :
    Tables.wf (procTimerFire s) = true := by
  unfold procTimerFire
  repeat' first
    | with_reducible assumption
    | (with_reducible apply wf_ite <;> intro _)
    | with_reducible apply mark_wf
    | with_reducible apply procOverrun_wf
    | with_reducible apply startSeq_wf

/-- `lineFalls` keeps the canonical form of the tables. -/
theorem lineFalls_wf (s : State) (cyc : Nat) (hw : Tables.wf s = true) :
    Tables.wf (lineFalls s cyc) = true := by
  unfold lineFalls
  repeat' first
    | with_reducible assumption
    | (with_reducible apply wf_ite <;> intro _)
    | with_reducible apply closeGroup_wf
    | with_reducible apply openWindows_wf
    | fail_if_no_progress (with_reducible apply wf_mk)
    | extract_lets
    | split

/-- `procHappens` keeps the canonical form of the tables. -/
theorem procHappens_wf (s : State) (e : Nat × Nat) (hw : Tables.wf s = true) :
    Tables.wf (procHappens s e) = true := by
  unfold procHappens
  repeat' first
    | with_reducible assumption
    | (with_reducible apply wf_ite <;> intro _)
    | with_reducible apply openGroup_wf
    | with_reducible apply lineFalls_wf
    | with_reducible apply closeGroup_wf

/-- `procRun` keeps the canonical form of the tables. -/
theorem procRun_wf (n : Nat) : ∀ (s : State) (c : Nat), Tables.wf s = true → Tables.wf (procRun n s c) = true := by
  induction n with
  | zero => intro s c hw; exact hw
  | succ n ih =>
    intro s c hw
    simp only [procRun]
    split
    · split
      · exact ih _ _ (procHappens_wf _ _ hw)
      · exact hw
    · exact hw

/-- `procTo` keeps the canonical form of the tables. -/
theorem procTo_wf (s : State) (c : Nat) (hw : Tables.wf s = true) :
    Tables.wf (procTo s c) = true := by
  unfold procTo
  repeat' first
    | with_reducible assumption
    | with_reducible apply procRun_wf

/-- `procUntil` keeps the canonical form of the tables. -/
theorem procUntil_wf (k n : Nat) : ∀ (s : State), Tables.wf s = true → Tables.wf (procUntil k n s) = true := by
  induction n with
  | zero => intro s hw; exact hw
  | succ n ih =>
    intro s hw
    simp only [procUntil]
    split
    · split
      · exact procHappens_wf _ _ hw
      · exact ih _ (procHappens_wf _ _ hw)
    · exact hw

/-- `procRow` keeps the canonical form of the tables. -/
theorem procRow_wf (k : Nat) (s : State) (hw : Tables.wf s = true) :
    Tables.wf (procRow k s) = true := by
  unfold procRow
  repeat' first
    | with_reducible assumption
    | (with_reducible apply wf_ite <;> intro _)
    | with_reducible apply procUntil_wf

/-- `procDelayEnd` keeps the canonical form of the tables. -/
theorem procDelayEnd_wf (s : State) (hw : Tables.wf s = true) :
    Tables.wf (procDelayEnd s) = true := by
  unfold procDelayEnd
  repeat' first
    | with_reducible assumption
    | with_reducible apply procRow_wf

/-- `lineBoundaryOp` keeps the canonical form of the tables. -/
theorem lineBoundaryOp_wf (s : State) (hw : Tables.wf s = true) :
    Tables.wf (lineBoundaryOp s) = true := by
  unfold lineBoundaryOp
  repeat' first
    | with_reducible assumption
    | with_reducible apply procRow_wf

/-- `fixedCloseOp` keeps the canonical form of the tables. -/
theorem fixedCloseOp_wf (s : State) (hw : Tables.wf s = true) :
    Tables.wf (fixedCloseOp s) = true := by
  unfold fixedCloseOp
  repeat' first
    | with_reducible assumption
    | with_reducible apply procRow_wf

/-- `pwmTimeoutOp` keeps the canonical form of the tables. -/
theorem pwmTimeoutOp_wf (s : State) (hw : Tables.wf s = true) :
    Tables.wf (pwmTimeoutOp s) = true := by
  unfold pwmTimeoutOp
  repeat' first
    | with_reducible assumption
    | with_reducible apply procRow_wf

/-- `trigStart` keeps the canonical form of the tables. -/
theorem trigStart_wf (s : State) (rising : Bool) (cyc : Nat) (hw : Tables.wf s = true) :
    Tables.wf (trigStart s rising cyc) = true := by
  unfold trigStart
  repeat' first
    | with_reducible assumption
    | (with_reducible apply wf_ite <;> intro _)
    | with_reducible apply procOverrun_wf
    | with_reducible apply startSeq_wf

/-- `trigEdge` keeps the canonical form of the tables. -/
theorem trigEdge_wf (s0 : State) (rising : Bool) (cyc : Nat) (hw : Tables.wf s0 = true) :
    Tables.wf (trigEdge s0 rising cyc) = true := by
  unfold trigEdge
  repeat' first
    | with_reducible assumption
    | (with_reducible apply wf_ite <;> intro _)
    | with_reducible apply procTo_wf
    | with_reducible apply openWindows_wf
    | with_reducible apply closeGroup_wf
    | with_reducible apply trigStart_wf

/-- `convertNowOp` keeps the canonical form of the tables. -/
theorem convertNowOp_wf (s : State) (e : Word) (hw : Tables.wf s = true) :
    Tables.wf (convertNowOp s e).1 = true := by
  unfold convertNowOp
  repeat' first
    | with_reducible assumption
    | with_reducible apply raise_wf
    | with_reducible apply incReg_wf
    | fail_if_no_progress (with_reducible apply wf_mk)
    | extract_lets
    | split

/-- `runDownEndOp` keeps the canonical form of the tables. -/
theorem runDownEndOp_wf (s : State) (pair : Nat) (b : Bool) (net rd : Int) (w : Nat) (sat : Bool) (hw : Tables.wf s = true) :
    Tables.wf (runDownEndOp s pair b net rd w sat) = true := by
  unfold runDownEndOp
  repeat' first
    | with_reducible assumption
    | fail_if_no_progress (with_reducible apply wf_mk)
    | split

/-- `loopCheck` keeps the canonical form of the tables. -/
theorem loopCheck_wf (s : State) (c : Nat) (t : Int) (hw : Tables.wf s = true) :
    Tables.wf (loopCheck s c t) = true := by
  unfold loopCheck
  repeat' first
    | with_reducible assumption
    | (with_reducible apply wf_ite <;> intro _)
    | with_reducible apply publishAll_wf
    | fail_if_no_progress (with_reducible apply wf_mk)

/-- `procResult` keeps the canonical form of the tables. -/
theorem procResult_wf (s : State) (h : ProcHeld) (hw : Tables.wf s = true) :
    Tables.wf (procResult s h) = true := by
  unfold procResult
  repeat' first
    | with_reducible assumption
    | with_reducible apply publishAll_wf
    | with_reducible apply loopCheck_wf
    | with_reducible apply incMod_wf
    | fail_if_no_progress (with_reducible apply wf_mk)

/-- `item12` keeps the canonical form of the tables. -/
theorem item12_wf (s : State) (hw : Tables.wf s = true) :
    Tables.wf (item12 s) = true := by
  unfold item12
  repeat' first
    | with_reducible assumption
    | (with_reducible apply wf_ite <;> intro _)
    | with_reducible apply procResult_wf
    | (with_reducible apply wf_foldl; intro _ _ _; try beta_reduce)
    | fail_if_no_progress (with_reducible apply wf_mk)

/-- `procEnded` keeps the canonical form of the tables. -/
theorem procEnded_wf (s : State) (hw : Tables.wf s = true) :
    Tables.wf (procEnded s) = true := by
  unfold procEnded
  repeat' first
    | with_reducible assumption
    | (with_reducible apply wf_ite <;> intro _)
    | fail_if_no_progress (with_reducible apply wf_mk)

/-- `abortWindows` keeps the canonical form of the tables. -/
theorem abortWindows_wf (s : State) (hw : Tables.wf s = true) :
    Tables.wf (abortWindows s) = true := by
  unfold abortWindows
  repeat' first
    | with_reducible assumption
    | with_reducible apply setQual_wf
    | with_reducible apply addReg_wf
    | (with_reducible apply wf_foldl; intro _ _ _; try beta_reduce)
    | fail_if_no_progress (with_reducible apply wf_mk)

/-- `procModeChange` keeps the canonical form of the tables. -/
theorem procModeChange_wf (s : State) (hw : Tables.wf s = true) :
    Tables.wf (procModeChange s) = true := by
  unfold procModeChange
  repeat' first
    | with_reducible assumption
    | (with_reducible apply wf_ite <;> intro _)
    | with_reducible apply abortWindows_wf
    | with_reducible apply openGroup_wf

/-- `procClear` keeps the canonical form of the tables. -/
theorem procClear_wf (s : State) (hw : Tables.wf s = true) :
    Tables.wf (procClear s) = true := by
  unfold procClear
  repeat' first
    | with_reducible assumption
    | fail_if_no_progress (with_reducible apply wf_mk)

/-- `procHalt` keeps the canonical form of the tables. -/
theorem procHalt_wf (s : State) (hw : Tables.wf s = true) :
    Tables.wf (procHalt s) = true := by
  unfold procHalt
  repeat' first
    | with_reducible assumption
    | with_reducible apply procClear_wf
    | with_reducible apply abortWindows_wf

/-- `procTickEnd` keeps the canonical form of the tables. -/
theorem procTickEnd_wf (s : State) (hw : Tables.wf s = true) :
    Tables.wf (procTickEnd s) = true := by
  unfold procTickEnd
  repeat' first
    | with_reducible assumption
    | with_reducible apply procTimerFire_wf
    | fail_if_no_progress (with_reducible apply wf_mk)

/-- `procNewTick` keeps the canonical form of the tables. -/
theorem procNewTick_wf (s : State) (hw : Tables.wf s = true) :
    Tables.wf (procNewTick s) = true := by
  unfold procNewTick
  repeat' first
    | with_reducible assumption
    | (with_reducible apply wf_ite <;> intro _)
    | with_reducible apply procClear_wf
    | with_reducible apply openGroup_wf
    | with_reducible apply openWindows_wf
    | with_reducible apply startSeq_wf
    | fail_if_no_progress (with_reducible apply wf_mk)

/-- `procFlush` keeps the canonical form of the tables. -/
theorem procFlush_wf (s : State) (hw : Tables.wf s = true) :
    Tables.wf (procFlush s) = true := by
  unfold procFlush
  repeat' first
    | with_reducible assumption
    | with_reducible apply procTo_wf

/-- `parkEndOp` keeps the canonical form of the tables. -/
theorem parkEndOp_wf (s : State) (n : Nat) (hw : Tables.wf s = true) :
    Tables.wf (parkEndOp s n) = true := by
  unfold parkEndOp
  repeat' first
    | with_reducible assumption
    | (with_reducible apply wf_ite <;> intro _)
    | with_reducible apply trigEdge_wf
    | fail_if_no_progress (with_reducible apply wf_mk)
    | fail_if_no_progress (with_reducible apply wf_mkAon)

/-- `parkFlush` keeps the canonical form of the tables. -/
theorem parkFlush_wf (s : State) (hw : Tables.wf s = true) :
    Tables.wf (parkFlush s) = true := by
  unfold parkFlush
  repeat' first
    | with_reducible assumption
    | with_reducible apply parkEndOp_wf
    | (with_reducible apply wf_foldl; intro _ _ _; try beta_reduce)

/-- `parksBy` keeps the canonical form of the tables. -/
theorem parksBy_wf (s : State) (c : Nat) (hw : Tables.wf s = true) :
    Tables.wf (parksBy s c) = true := by
  unfold parksBy
  repeat' first
    | with_reducible assumption
    | (with_reducible apply wf_ite <;> intro _)
    | with_reducible apply parkFlush_wf

/-- `trigEdgeOp` keeps the canonical form of the tables. -/
theorem trigEdgeOp_wf (s0 : State) (rising : Bool) (cyc : Nat) (hw : Tables.wf s0 = true) :
    Tables.wf (trigEdgeOp s0 rising cyc) = true := by
  unfold trigEdgeOp
  repeat' first
    | with_reducible assumption
    | (with_reducible apply wf_ite <;> intro _)
    | with_reducible apply parksBy_wf
    | with_reducible apply trigEdge_wf

end Sys2Proof.Machine
end

