-- ==== Sys2Proof/Laws/TablesUnits.lean ====
section
/-!
SUPPORT. Laws of the tables' canonical form: the units: records, replies, tamper, Bureau, Dresser, Hutch, memory service.
-/

namespace Sys2Proof.Machine

/-! ### RecSlots -/

/-- `nvmPut` keeps the canonical form of the tables. -/
theorem nvmPut_wf (s : State) (i : Nat) (d : List Byte) (hw : Tables.wf s = true) :
    Tables.wf (nvmPut s i d) = true := by
  rw [Tables.wf_iff] at hw ⊢
  obtain ⟨h1, h2, h3, h4⟩ := hw
  exact ⟨h1, h2, swf_sputs _ _ _ _ h3, h4⟩

/-- `nvmErase` keeps the canonical form of the tables. -/
theorem nvmErase_wf (s : State) (i n : Nat) (hw : Tables.wf s = true) :
    Tables.wf (nvmErase s i n) = true := by
  rw [Tables.wf_iff] at hw ⊢
  obtain ⟨h1, h2, h3, h4⟩ := hw
  exact ⟨h1, h2, swf_sfilter erasedByte (fun k => decide (k < i) || decide (i + n ≤ k)) _ h3, h4⟩

/-! ### ReadReg -/

/-- `putPort` keeps the canonical form of the tables. -/
theorem putPort_wf (s : State) (p : PortId) (q : Port) (hw : Tables.wf s = true) :
    Tables.wf (putPort s p q) = true := by
  unfold putPort
  repeat' first
    | with_reducible assumption
    | fail_if_no_progress (with_reducible apply wf_mk)
    | split

/-! ### Replies -/

/-- `putLink` keeps the canonical form of the tables. -/
theorem putLink_wf (s : State) (d : Side) (l : Link) (hw : Tables.wf s = true) :
    Tables.wf (putLink s d l) = true := by
  unfold putLink
  repeat' first
    | with_reducible assumption
    | fail_if_no_progress (with_reducible apply wf_mk)
    | split

/-- `sendFrame` keeps the canonical form of the tables. -/
theorem sendFrame_wf (s : State) (f : TxFrame) (hw : Tables.wf s = true) :
    Tables.wf (sendFrame s f) = true := by
  unfold sendFrame
  repeat' first
    | with_reducible assumption
    | (with_reducible apply wf_ite <;> intro _)
    | fail_if_no_progress (with_reducible apply wf_mk)

/-- `takeLtag` keeps the canonical form of the tables. -/
theorem takeLtag_wf (s : State) (hw : Tables.wf s = true) :
    Tables.wf (takeLtag s).1 = true := by
  unfold takeLtag
  repeat' first
    | with_reducible assumption
    | fail_if_no_progress (with_reducible apply wf_mk)

/-- `incTen` keeps the canonical form of the tables. -/
theorem incTen_wf (s : State) (n lo : Nat) (hw : Tables.wf s = true) :
    Tables.wf (incTen s n lo) = true := by
  unfold incTen
  repeat' first
    | with_reducible assumption
    | with_reducible apply setReg_wf

/-- `portLost` keeps the canonical form of the tables. -/
theorem portLost_wf (s : State) (p : PortId) (hw : Tables.wf s = true) :
    Tables.wf (portLost s p) = true := by
  unfold portLost
  repeat' first
    | with_reducible assumption
    | with_reducible apply raise_wf
    | with_reducible apply incTen_wf

/-- `noteStatus` keeps the canonical form of the tables. -/
theorem noteStatus_wf (s : State) (p : PortId) (status : Nat) (hw : Tables.wf s = true) :
    Tables.wf (noteStatus s p status) = true := by
  unfold noteStatus
  repeat' first
    | with_reducible assumption
    | (with_reducible apply wf_ite <;> intro _)
    | with_reducible apply incTen_wf
    | with_reducible apply raise_wf

/-- `setDue` keeps the canonical form of the tables. -/
theorem setDue_wf (s : State) (p : PortId) (c : Nat) (hw : Tables.wf s = true) :
    Tables.wf (setDue s p c) = true := by
  unfold setDue
  repeat' first
    | with_reducible assumption
    | (with_reducible apply wf_ite <;> intro _)
    | with_reducible apply putPort_wf

/-- `replyReady` keeps the canonical form of the tables. -/
theorem replyReady_wf (s : State) (p : PortId) (hw : Tables.wf s = true) :
    Tables.wf (replyReady s p) = true := by
  unfold replyReady
  repeat' first
    | with_reducible assumption
    | (with_reducible apply wf_ite <;> intro _)
    | with_reducible apply putPort_wf
    | with_reducible apply raiseIf_wf
    | fail_if_no_progress (with_reducible apply wf_mk)
    | extract_lets
    | split

/-- `chainReplies` keeps the canonical form of the tables. -/
theorem chainReplies_wf (s : State) (c : Nat) (hw : Tables.wf s = true) :
    Tables.wf (chainReplies s c) = true := by
  unfold chainReplies
  repeat' first
    | with_reducible assumption
    | with_reducible apply sendFrame_wf
    | (with_reducible apply wf_foldl; intro _ _ _; try beta_reduce)
    | fail_if_no_progress (with_reducible apply wf_mk)

/-- `repliesDue` keeps the canonical form of the tables. -/
theorem repliesDue_wf (s : State) (c : Nat) (hw : Tables.wf s = true) :
    Tables.wf (repliesDue s c) = true := by
  unfold repliesDue
  repeat' first
    | with_reducible assumption
    | (with_reducible apply wf_ite <;> intro _)
    | with_reducible apply chainReplies_wf
    | with_reducible apply replyReady_wf
    | (with_reducible apply wf_foldl; intro _ _ _; try beta_reduce)
    | fail_if_no_progress (with_reducible apply wf_mk)
    | split

/-- `duesPass` keeps the canonical form of the tables. -/
theorem duesPass_wf (s : State) (hw : Tables.wf s = true) :
    Tables.wf (duesPass s) = true := by
  unfold duesPass
  repeat' first
    | with_reducible assumption
    | fail_if_no_progress (with_reducible apply wf_mk)

/-- `giveReply` keeps the canonical form of the tables. -/
theorem giveReply_wf (s : State) (p : PortId) (r : Reply) (hw : Tables.wf s = true) :
    Tables.wf (giveReply s p r) = true := by
  unfold giveReply
  repeat' first
    | with_reducible assumption
    | with_reducible apply putPort_wf
    | with_reducible apply raiseIf_wf
    | with_reducible apply sendFrame_wf
    | fail_if_no_progress (with_reducible apply wf_mk)
    | extract_lets
    | split

/-- `answerAt` keeps the canonical form of the tables. -/
theorem answerAt_wf (s : State) (p : PortId) (tag : Byte) (noreply : Bool) (status : Nat) (fs : List Field) (c k : Nat) (hw : Tables.wf s = true) :
    Tables.wf (answerAt s p tag noreply status fs c k) = true := by
  unfold answerAt
  repeat' first
    | with_reducible assumption
    | (with_reducible apply wf_ite <;> intro _)
    | with_reducible apply setDue_wf
    | with_reducible apply noteStatus_wf
    | with_reducible apply giveReply_wf

/-- `answer` keeps the canonical form of the tables. -/
theorem answer_wf (s : State) (l : Land) (c status : Nat) (fs : List Field) (hw : Tables.wf s = true) :
    Tables.wf (answer s l c status fs) = true := by
  unfold answer
  repeat' first
    | with_reducible assumption
    | with_reducible apply answerAt_wf

/-- `finishAt` keeps the canonical form of the tables. -/
theorem finishAt_wf (s : State) (w : Waiting) (c status : Nat) (fs : List Field) (hw : Tables.wf s = true) :
    Tables.wf (finishAt s w c status fs) = true := by
  unfold finishAt
  repeat' first
    | with_reducible assumption
    | (with_reducible apply wf_ite <;> intro _)
    | with_reducible apply putPort_wf
    | with_reducible apply answer_wf
    | fail_if_no_progress (with_reducible apply wf_mk)

/-- `finish` keeps the canonical form of the tables. -/
theorem finish_wf (s : State) (w : Waiting) (status : Nat) (fs : List Field) (hw : Tables.wf s = true) :
    Tables.wf (finish s w status fs) = true := by
  unfold finish
  repeat' first
    | with_reducible assumption
    | with_reducible apply finishAt_wf

/-- `setBusy` keeps the canonical form of the tables. -/
theorem setBusy_wf (s : State) (w : Waiting) (hw : Tables.wf s = true) :
    Tables.wf (setBusy s w) = true := by
  unfold setBusy
  repeat' first
    | with_reducible assumption
    | with_reducible apply putPort_wf

/-! ### Tamper -/

/-- `syncFlags` keeps the canonical form of the tables. -/
theorem syncFlags_wf (s : State) (hw : Tables.wf s = true) :
    Tables.wf (syncFlags s) = true := by
  unfold syncFlags
  repeat' first
    | with_reducible assumption
    | fail_if_no_progress (with_reducible apply wf_mk)
    | fail_if_no_progress (with_reducible apply wf_mkAon)

/-- `syncShadow` keeps the canonical form of the tables. -/
theorem syncShadow_wf (s : State) (n : Nat) (hw : Tables.wf s = true) :
    Tables.wf (syncShadow s n) = true := by
  unfold syncShadow
  repeat' first
    | with_reducible assumption
    | (with_reducible apply wf_ite <;> intro _)
    | fail_if_no_progress (with_reducible apply wf_mk)
    | fail_if_no_progress (with_reducible apply wf_mkAon)

/-- `syncSealed` keeps the canonical form of the tables. -/
theorem syncSealed_wf (s : State) (n : Nat) (hw : Tables.wf s = true) :
    Tables.wf (syncSealed s n) = true := by
  unfold syncSealed
  repeat' first
    | with_reducible assumption
    | (with_reducible apply wf_ite <;> intro _)
    | fail_if_no_progress (with_reducible apply wf_mk)

/-- `setSeal` keeps the canonical form of the tables. -/
theorem setSeal_wf (s : State) (v : Nat) (hw : Tables.wf s = true) :
    Tables.wf (setSeal s v) = true := by
  unfold setSeal
  repeat' first
    | with_reducible assumption
    | fail_if_no_progress (with_reducible apply wf_mk)

/-- `loseEvidence` keeps the canonical form of the tables. -/
theorem loseEvidence_wf (s : State) (k : Nat) (hw : Tables.wf s = true) :
    Tables.wf (loseEvidence s k) = true := by
  unfold loseEvidence
  repeat' first
    | with_reducible assumption
    | (with_reducible apply wf_ite <;> intro _)
    | with_reducible apply addReg_wf
    | with_reducible apply raise_wf
    | fail_if_no_progress (with_reducible apply wf_mk)
    | fail_if_no_progress (with_reducible apply wf_mkAon)

/-- `queueEvidence` keeps the canonical form of the tables. -/
theorem queueEvidence_wf (s : State) (e : List Byte) (hw : Tables.wf s = true) :
    Tables.wf (queueEvidence s e) = true := by
  unfold queueEvidence
  repeat' first
    | with_reducible assumption
    | (with_reducible apply wf_ite <;> intro _)
    | with_reducible apply loseEvidence_wf
    | fail_if_no_progress (with_reducible apply wf_mk)
    | fail_if_no_progress (with_reducible apply wf_mkAon)

/-- `eraseCupboard` keeps the canonical form of the tables. -/
theorem eraseCupboard_wf (s : State) (hw : Tables.wf s = true) :
    Tables.wf (eraseCupboard s) = true := by
  unfold eraseCupboard
  repeat' first
    | with_reducible assumption
    | (with_reducible apply wf_ite <;> intro _)
    | with_reducible apply syncFlags_wf
    | with_reducible apply setSeal_wf
    | with_reducible apply raise_wf
    | with_reducible apply addReg_wf
    | fail_if_no_progress (with_reducible apply wf_mk)
    | fail_if_no_progress (with_reducible apply wf_mkAon)

/-- `installKey` keeps the canonical form of the tables. -/
theorem installKey_wf (s : State) (slot : Bool) (k : BitVec 128) (hw : Tables.wf s = true) :
    Tables.wf (installKey s slot k) = true := by
  unfold installKey
  repeat' first
    | with_reducible assumption
    | with_reducible apply syncFlags_wf
    | fail_if_no_progress (with_reducible apply wf_mk)
    | fail_if_no_progress (with_reducible apply wf_mkAon)
    | split

/-- `qualify` keeps the canonical form of the tables. -/
theorem qualify_wf (s : State) (c : Nat) (hw : Tables.wf s = true) :
    Tables.wf (qualify s c) = true := by
  unfold qualify
  repeat' first
    | with_reducible assumption
    | (with_reducible apply wf_ite <;> intro _)
    | with_reducible apply eraseCupboard_wf
    | with_reducible apply deliver_wf
    | with_reducible apply raise_wf
    | with_reducible apply queueEvidence_wf
    | with_reducible apply orReg_wf
    | fail_if_no_progress (with_reducible apply wf_mk)
    | fail_if_no_progress (with_reducible apply wf_mkAon)

/-- `sense` keeps the canonical form of the tables. -/
theorem sense_wf (s : State) (c : Nat) (hw : Tables.wf s = true) :
    Tables.wf (sense s c) = true := by
  unfold sense
  repeat' first
    | with_reducible assumption
    | (with_reducible apply wf_ite <;> intro _)
    | with_reducible apply addReg_wf
    | with_reducible apply orReg_wf
    | with_reducible apply deliver_wf
    | with_reducible apply raise_wf
    | with_reducible apply qualify_wf
    | fail_if_no_progress (with_reducible apply wf_mk)
    | fail_if_no_progress (with_reducible apply wf_mkAon)

/-- `setCond` keeps the canonical form of the tables. -/
theorem setCond_wf (s : State) (c : Nat) (b : Bool) (hw : Tables.wf s = true) :
    Tables.wf (setCond s c b) = true := by
  unfold setCond
  repeat' first
    | with_reducible assumption
    | fail_if_no_progress (with_reducible apply wf_mk)
    | fail_if_no_progress (with_reducible apply wf_mkAon)

/-- `logicFault` keeps the canonical form of the tables. -/
theorem logicFault_wf (s : State) (hw : Tables.wf s = true) :
    Tables.wf (logicFault s) = true := by
  unfold logicFault
  repeat' first
    | with_reducible assumption
    | (with_reducible apply wf_ite <;> intro _)
    | with_reducible apply sense_wf

/-- `loopTestOp` keeps the canonical form of the tables. -/
theorem loopTestOp_wf (s0 : State) (l : Bool) (ohms now : Nat) (hw : Tables.wf s0 = true) :
    Tables.wf (loopTestOp s0 l ohms now) = true := by
  unfold loopTestOp
  repeat' first
    | with_reducible assumption
    | (with_reducible apply wf_ite <;> intro _)
    | with_reducible apply atOsc_wf
    | with_reducible apply setCond_wf
    | with_reducible apply sense_wf
    | fail_if_no_progress (with_reducible apply wf_mk)
    | fail_if_no_progress (with_reducible apply wf_mkAon)
    | extract_lets
    | split

/-- `tempReadOp` keeps the canonical form of the tables. -/
theorem tempReadOp_wf (s0 : State) (t : Int) (now : Nat) (hw : Tables.wf s0 = true) :
    Tables.wf (tempReadOp s0 t now) = true := by
  unfold tempReadOp
  repeat' first
    | with_reducible assumption
    | (with_reducible apply wf_ite <;> intro _)
    | with_reducible apply atOsc_wf
    | with_reducible apply setCond_wf
    | with_reducible apply sense_wf
    | fail_if_no_progress (with_reducible apply wf_mk)
    | fail_if_no_progress (with_reducible apply wf_mkAon)

/-- `glitchOp` keeps the canonical form of the tables. -/
theorem glitchOp_wf (s : State) (now : Nat) (hw : Tables.wf s = true) :
    Tables.wf (glitchOp s now) = true := by
  unfold glitchOp
  repeat' first
    | with_reducible assumption
    | (with_reducible apply wf_ite <;> intro _)
    | with_reducible apply sense_wf
    | with_reducible apply atOsc_wf

/-- `slowOp` keeps the canonical form of the tables. -/
theorem slowOp_wf (s : State) (now : Nat) (hw : Tables.wf s = true) :
    Tables.wf (slowOp s now) = true := by
  unfold slowOp
  repeat' first
    | with_reducible assumption
    | (with_reducible apply wf_ite <;> intro _)
    | with_reducible apply setCond_wf
    | with_reducible apply atOsc_wf
    | with_reducible apply sense_wf
    | fail_if_no_progress (with_reducible apply wf_mk)
    | fail_if_no_progress (with_reducible apply wf_mkAon)

/-- `supplyConds` keeps the canonical form of the tables. -/
theorem supplyConds_wf (s : State) (vcoreMv : Nat) (hw : Tables.wf s = true) :
    Tables.wf (supplyConds s vcoreMv) = true := by
  unfold supplyConds
  repeat' first
    | with_reducible assumption
    | (with_reducible apply wf_ite <;> intro _)
    | with_reducible apply setCond_wf
    | fail_if_no_progress (with_reducible apply wf_mk)
    | fail_if_no_progress (with_reducible apply wf_mkAon)
    | extract_lets
    | split

/-- `compareOne` keeps the canonical form of the tables. -/
theorem compareOne_wf (s : State) (n : Nat) (hw : Tables.wf s = true) :
    Tables.wf (compareOne s n) = true := by
  unfold compareOne
  repeat' first
    | with_reducible assumption
    | (with_reducible apply wf_ite <;> intro _)
    | with_reducible apply sense_wf
    | with_reducible apply syncShadow_wf
    | with_reducible apply setReg_wf

/-- `compareFlags` keeps the canonical form of the tables. -/
theorem compareFlags_wf (s : State) (hw : Tables.wf s = true) :
    Tables.wf (compareFlags s) = true := by
  unfold compareFlags
  repeat' first
    | with_reducible assumption
    | (with_reducible apply wf_ite <;> intro _)
    | with_reducible apply sense_wf
    | with_reducible apply setReg_wf
    | fail_if_no_progress (with_reducible apply wf_mk)
    | fail_if_no_progress (with_reducible apply wf_mkAon)

/-- `compareHistory` keeps the canonical form of the tables. -/
theorem compareHistory_wf (s : State) (hw : Tables.wf s = true) :
    Tables.wf (compareHistory s) = true := by
  unfold compareHistory
  repeat' first
    | with_reducible assumption
    | (with_reducible apply wf_ite <;> intro _)
    | with_reducible apply sense_wf
    | with_reducible apply setReg_wf
    | fail_if_no_progress (with_reducible apply wf_mk)
    | fail_if_no_progress (with_reducible apply wf_mkAon)

/-- `shadowCompareOp` keeps the canonical form of the tables. -/
theorem shadowCompareOp_wf (s0 : State) (now : Nat) (hw : Tables.wf s0 = true) :
    Tables.wf (shadowCompareOp s0 now) = true := by
  unfold shadowCompareOp
  repeat' first
    | with_reducible assumption
    | (with_reducible apply wf_ite <;> intro _)
    | with_reducible apply compareHistory_wf
    | with_reducible apply compareFlags_wf
    | with_reducible apply compareOne_wf
    | with_reducible apply atOsc_wf
    | (with_reducible apply wf_foldl; intro _ _ _; try beta_reduce)

/-- `compareSealed` keeps the canonical form of the tables. -/
theorem compareSealed_wf (s : State) (n : Nat) (hw : Tables.wf s = true) :
    Tables.wf (compareSealed s n) = true := by
  unfold compareSealed
  repeat' first
    | with_reducible assumption
    | (with_reducible apply wf_ite <;> intro _)
    | with_reducible apply sense_wf
    | with_reducible apply syncSealed_wf
    | with_reducible apply setReg_wf

/-- `sealedCompare` keeps the canonical form of the tables. -/
theorem sealedCompare_wf (s0 : State) (hw : Tables.wf s0 = true) :
    Tables.wf (sealedCompare s0) = true := by
  unfold sealedCompare
  repeat' first
    | with_reducible assumption
    | (with_reducible apply wf_ite <;> intro _)
    | with_reducible apply compareSealed_wf
    | with_reducible apply sense_wf
    | with_reducible apply setSeal_wf
    | with_reducible apply setReg_wf
    | (with_reducible apply wf_foldl; intro _ _ _; try beta_reduce)

/-- `breakSeal` keeps the canonical form of the tables. -/
theorem breakSeal_wf (s : State) (reg port : Nat) (hw : Tables.wf s = true) :
    Tables.wf (breakSeal s reg port) = true := by
  unfold breakSeal
  repeat' first
    | with_reducible assumption
    | with_reducible apply setSeal_wf
    | with_reducible apply queueEvidence_wf
    | with_reducible apply deliver_wf

/-- `decideSeal` keeps the canonical form of the tables. -/
theorem decideSeal_wf (s : State) (hw : Tables.wf s = true) :
    Tables.wf (decideSeal s) = true := by
  unfold decideSeal
  repeat' first
    | with_reducible assumption
    | (with_reducible apply wf_ite <;> intro _)
    | with_reducible apply setSeal_wf
    | with_reducible apply breakSeal_wf
    | fail_if_no_progress (with_reducible apply wf_mk)
    | extract_lets
    | split

/-- `sealCheckOp` keeps the canonical form of the tables. -/
theorem sealCheckOp_wf (s : State) (hw : Tables.wf s = true) :
    Tables.wf (sealCheckOp s) = true := by
  unfold sealCheckOp
  repeat' first
    | with_reducible assumption
    | (with_reducible apply wf_ite <;> intro _)
    | with_reducible apply decideSeal_wf
    | fail_if_no_progress (with_reducible apply wf_mk)

/-- `authFailure` keeps the canonical form of the tables. -/
theorem authFailure_wf (s : State) (hw : Tables.wf s = true) :
    Tables.wf (authFailure s) = true := by
  unfold authFailure
  repeat' first
    | with_reducible assumption
    | (with_reducible apply wf_ite <;> intro _)
    | with_reducible apply addReg_wf
    | with_reducible apply raise_wf
    | with_reducible apply syncFlags_wf
    | fail_if_no_progress (with_reducible apply wf_mk)
    | fail_if_no_progress (with_reducible apply wf_mkAon)

/-- `lockEnd` keeps the canonical form of the tables. -/
theorem lockEnd_wf (s : State) (hw : Tables.wf s = true) :
    Tables.wf (lockEnd s) = true := by
  unfold lockEnd
  repeat' first
    | with_reducible assumption
    | (with_reducible apply wf_ite <;> intro _)
    | with_reducible apply syncFlags_wf
    | fail_if_no_progress (with_reducible apply wf_mk)
    | fail_if_no_progress (with_reducible apply wf_mkAon)
    | split

/-- `authLockEndOp` keeps the canonical form of the tables. -/
theorem authLockEndOp_wf (s : State) (now : Nat) (hw : Tables.wf s = true) :
    Tables.wf (authLockEndOp s now) = true := by
  unfold authLockEndOp
  repeat' first
    | with_reducible assumption
    | with_reducible apply lockEnd_wf
    | with_reducible apply atOsc_wf

/-- `staleNonce` keeps the canonical form of the tables. -/
theorem staleNonce_wf (s : State) (p : PortId) (hw : Tables.wf s = true) :
    Tables.wf (staleNonce s p) = true := by
  unfold staleNonce
  repeat' first
    | with_reducible assumption
    | (with_reducible apply wf_ite <;> intro _)
    | with_reducible apply putPort_wf
    | fail_if_no_progress (with_reducible apply wf_mk)
    | split

/-- `nonceStaleOp` keeps the canonical form of the tables. -/
theorem nonceStaleOp_wf (s : State) (p : PortId) (now : Nat) (hw : Tables.wf s = true) :
    Tables.wf (nonceStaleOp s p now) = true := by
  unfold nonceStaleOp
  repeat' first
    | with_reducible assumption
    | with_reducible apply staleNonce_wf
    | with_reducible apply atOsc_wf

/-! ### Bureau -/

/-- `timeAdvance` keeps the canonical form of the tables. -/
theorem timeAdvance_wf (s : State) (hw : Tables.wf s = true) :
    Tables.wf (timeAdvance s) = true := by
  unfold timeAdvance
  repeat' first
    | with_reducible assumption
    | (with_reducible apply wf_ite <;> intro _)
    | with_reducible apply mark_wf
    | fail_if_no_progress (with_reducible apply wf_mk)

/-- `wakeOp` keeps the canonical form of the tables. -/
theorem wakeOp_wf (s : State) (hw : Tables.wf s = true) :
    Tables.wf (wakeOp s) = true := by
  unfold wakeOp
  repeat' first
    | with_reducible assumption
    | (with_reducible apply wf_ite <;> intro _)
    | with_reducible apply mark_wf
    | with_reducible apply raise_wf
    | with_reducible apply setReg_wf

/-- `recLost` keeps the canonical form of the tables. -/
theorem recLost_wf (s : State) (hw : Tables.wf s = true) :
    Tables.wf (recLost s) = true := by
  unfold recLost
  repeat' first
    | with_reducible assumption
    | with_reducible apply raise_wf
    | with_reducible apply addReg_wf

/-- `enqueueRec` keeps the canonical form of the tables. -/
theorem enqueueRec_wf (s : State) (r : BRec) (hw : Tables.wf s = true) :
    Tables.wf (enqueueRec s r) = true := by
  unfold enqueueRec
  repeat' first
    | with_reducible assumption
    | (with_reducible apply wf_ite <;> intro _)
    | with_reducible apply recLost_wf
    | with_reducible apply raiseReq_wf
    | fail_if_no_progress (with_reducible apply wf_mk)

/-- `closeOpen` keeps the canonical form of the tables. -/
theorem closeOpen_wf (s : State) (hw : Tables.wf s = true) :
    Tables.wf (closeOpen s) = true := by
  unfold closeOpen
  repeat' first
    | with_reducible assumption
    | with_reducible apply enqueueRec_wf
    | fail_if_no_progress (with_reducible apply wf_mk)
    | split

/-- `coalesceOp` keeps the canonical form of the tables. -/
theorem coalesceOp_wf (s : State) (hw : Tables.wf s = true) :
    Tables.wf (coalesceOp s) = true := by
  unfold coalesceOp
  repeat' first
    | with_reducible assumption
    | (with_reducible apply wf_ite <;> intro _)
    | with_reducible apply mark_wf
    | with_reducible apply closeOpen_wf

/-- `openRecord` keeps the canonical form of the tables. -/
theorem openRecord_wf (s0 : State) (e : BEvent) (hw : Tables.wf s0 = true) :
    Tables.wf (openRecord s0 e) = true := by
  unfold openRecord
  repeat' first
    | with_reducible assumption
    | (with_reducible apply wf_ite <;> intro _)
    | with_reducible apply closeOpen_wf
    | with_reducible apply enqueueRec_wf
    | fail_if_no_progress (with_reducible apply wf_mk)

/-- `suppress` keeps the canonical form of the tables. -/
theorem suppress_wf (s0 : State) (e : BEvent) (hw : Tables.wf s0 = true) :
    Tables.wf (suppress s0 e) = true := by
  unfold suppress
  repeat' first
    | with_reducible assumption
    | with_reducible apply closeOpen_wf
    | with_reducible apply raiseIf_wf
    | with_reducible apply addReg_wf
    | fail_if_no_progress (with_reducible apply wf_mk)

/-- `takeEvent` keeps the canonical form of the tables. -/
theorem takeEvent_wf (s : State) (e : BEvent) (hw : Tables.wf s = true) :
    Tables.wf (takeEvent s e) = true := by
  unfold takeEvent
  repeat' first
    | with_reducible assumption
    | (with_reducible apply wf_ite <;> intro _)
    | with_reducible apply closeOpen_wf
    | with_reducible apply suppress_wf
    | with_reducible apply openRecord_wf
    | fail_if_no_progress (with_reducible apply wf_mk)
    | extract_lets
    | split

/-- `makeSummaries` keeps the canonical form of the tables. -/
theorem makeSummaries_wf (s : State) (hw : Tables.wf s = true) :
    Tables.wf (makeSummaries s) = true := by
  unfold makeSummaries
  repeat' first
    | with_reducible assumption
    | (with_reducible apply wf_ite <;> intro _)
    | with_reducible apply openRecord_wf
    | (with_reducible apply wf_foldl; intro _ _ _; try beta_reduce)
    | fail_if_no_progress (with_reducible apply wf_mk)

/-- `hourRollOp` keeps the canonical form of the tables. -/
theorem hourRollOp_wf (s : State) (hw : Tables.wf s = true) :
    Tables.wf (hourRollOp s) = true := by
  unfold hourRollOp
  repeat' first
    | with_reducible assumption
    | (with_reducible apply wf_ite <;> intro _)
    | with_reducible apply mark_wf
    | with_reducible apply makeSummaries_wf
    | with_reducible apply coalesceOp_wf
    | with_reducible apply timeAdvance_wf

/-- `stageSettings` keeps the canonical form of the tables. -/
theorem stageSettings_wf (s : State) (hw : Tables.wf s = true) :
    Tables.wf (stageSettings s) = true := by
  unfold stageSettings
  repeat' first
    | with_reducible assumption
    | (with_reducible apply wf_ite <;> intro _)
    | fail_if_no_progress (with_reducible apply wf_mk)

/-- `lostEvent` keeps the canonical form of the tables. -/
theorem lostEvent_wf (s : State) (hw : Tables.wf s = true) :
    Tables.wf (lostEvent s) = true := by
  unfold lostEvent
  repeat' first
    | with_reducible assumption
    | (with_reducible apply wf_ite <;> intro _)
    | with_reducible apply deliver_wf
    | fail_if_no_progress (with_reducible apply wf_mk)

/-- `answerMarks` keeps the canonical form of the tables. -/
theorem answerMarks_wf (s : State) (hw : Tables.wf s = true) :
    Tables.wf (answerMarks s) = true := by
  unfold answerMarks
  repeat' first
    | with_reducible assumption
    | with_reducible apply finishAt_wf
    | (with_reducible apply wf_foldl; intro _ _ _; try beta_reduce)
    | fail_if_no_progress (with_reducible apply wf_mk)
    | split

/-- `takeEvents` keeps the canonical form of the tables. -/
theorem takeEvents_wf (s : State) (hw : Tables.wf s = true) :
    Tables.wf (takeEvents s) = true := by
  unfold takeEvents
  repeat' first
    | with_reducible assumption
    | with_reducible apply takeEvent_wf
    | (with_reducible apply wf_foldl; intro _ _ _; try beta_reduce)
    | fail_if_no_progress (with_reducible apply wf_mk)

/-- `bureauBoundary` keeps the canonical form of the tables. -/
theorem bureauBoundary_wf (s0 : State) (hw : Tables.wf s0 = true) :
    Tables.wf (bureauBoundary s0) = true := by
  unfold bureauBoundary
  repeat' first
    | with_reducible assumption
    | with_reducible apply wakeOp_wf
    | with_reducible apply timeAdvance_wf
    | with_reducible apply hourRollOp_wf
    | with_reducible apply coalesceOp_wf
    | with_reducible apply stageSettings_wf
    | with_reducible apply takeEvents_wf
    | with_reducible apply lostEvent_wf
    | fail_if_no_progress (with_reducible apply wf_mk)

/-- `showWindow` keeps the canonical form of the tables. -/
theorem showWindow_wf (s : State) (p : PortId) (hw : Tables.wf s = true) :
    Tables.wf (showWindow s p) = true := by
  unfold showWindow
  repeat' first
    | with_reducible assumption
    | (with_reducible apply wf_ite <;> intro _)
    | with_reducible apply putPort_wf
    | fail_if_no_progress (with_reducible apply wf_mk)

/-- `showWindows` keeps the canonical form of the tables. -/
theorem showWindows_wf (s : State) (hw : Tables.wf s = true) :
    Tables.wf (showWindows s) = true := by
  unfold showWindows
  repeat' first
    | with_reducible assumption
    | with_reducible apply showWindow_wf
    | (with_reducible apply wf_foldl; intro _ _ _; try beta_reduce)

/-- `putCursor` keeps the canonical form of the tables. -/
theorem putCursor_wf (s : State) (p : PortId) (v : Word) (c : Nat) (hw : Tables.wf s = true) :
    Tables.wf (putCursor s p v c) = true := by
  unfold putCursor
  repeat' first
    | with_reducible assumption
    | with_reducible apply putPort_wf

/-- `cursorsBy` keeps the canonical form of the tables. -/
theorem cursorsBy_wf (s : State) (c : Nat) (hw : Tables.wf s = true) :
    Tables.wf (cursorsBy s c) = true := by
  unfold cursorsBy
  repeat' first
    | with_reducible assumption
    | (with_reducible apply wf_ite <;> intro _)
    | with_reducible apply showWindow_wf
    | with_reducible apply putPort_wf
    | (with_reducible apply wf_foldl; intro _ _ _; try beta_reduce)
    | fail_if_no_progress (with_reducible apply wf_mk)
    | split

/-- `freshWindows` keeps the canonical form of the tables. -/
theorem freshWindows_wf (s : State) (hw : Tables.wf s = true) :
    Tables.wf (freshWindows s) = true := by
  unfold freshWindows
  repeat' first
    | with_reducible assumption
    | with_reducible apply showWindows_wf
    | fail_if_no_progress (with_reducible apply wf_mk)

/-- `restoreRecords` keeps the canonical form of the tables. -/
theorem restoreRecords_wf (s : State) (hw : Tables.wf s = true) :
    Tables.wf (restoreRecords s) = true := by
  unfold restoreRecords
  repeat' first
    | with_reducible assumption
    | with_reducible apply addReg_wf
    | fail_if_no_progress (with_reducible apply wf_mk)
    | fail_if_no_progress (with_reducible apply wf_mkNvm)
    | extract_lets
    | split

/-- `restoreTime` keeps the canonical form of the tables. -/
theorem restoreTime_wf (s : State) (hw : Tables.wf s = true) :
    Tables.wf (restoreTime s) = true := by
  unfold restoreTime
  repeat' first
    | with_reducible assumption
    | fail_if_no_progress (with_reducible apply wf_mk)

/-- `restoreBureau` keeps the canonical form of the tables. -/
theorem restoreBureau_wf (s : State) (hw : Tables.wf s = true) :
    Tables.wf (restoreBureau s) = true := by
  unfold restoreBureau
  repeat' first
    | with_reducible assumption
    | with_reducible apply restoreTime_wf
    | with_reducible apply restoreRecords_wf

/-- `deliverSet` keeps the canonical form of the tables. -/
theorem deliverSet_wf (s : State) (hw : Tables.wf s = true) :
    Tables.wf (deliverSet s) = true := by
  unfold deliverSet
  repeat' first
    | with_reducible assumption
    | (with_reducible apply wf_ite <;> intro _)
    | with_reducible apply deliverSource_wf
    | (with_reducible apply wf_foldl; intro _ _ _; try beta_reduce)

/-- `deliverDark` keeps the canonical form of the tables. -/
theorem deliverDark_wf (s : State) (c : Nat) (hw : Tables.wf s = true) :
    Tables.wf (deliverDark s c) = true := by
  unfold deliverDark
  repeat' first
    | with_reducible assumption
    | (with_reducible apply wf_ite <;> intro _)
    | with_reducible apply deliver_wf
    | with_reducible apply raise_wf
    | with_reducible apply raiseIf_wf
    | fail_if_no_progress (with_reducible apply wf_mk)
    | extract_lets
    | split

/-- `startEvents` keeps the canonical form of the tables. -/
theorem startEvents_wf (s0 : State) (hw : Tables.wf s0 = true) :
    Tables.wf (startEvents s0) = true := by
  unfold startEvents
  repeat' first
    | with_reducible assumption
    | (with_reducible apply wf_ite <;> intro _)
    | with_reducible apply deliver_wf
    | with_reducible apply setReg_wf
    | with_reducible apply loseEvidence_wf
    | with_reducible apply deliverDark_wf
    | with_reducible apply raise_wf
    | with_reducible apply deliverSet_wf
    | (with_reducible apply wf_foldl; intro _ _ _; try beta_reduce)
    | fail_if_no_progress (with_reducible apply wf_mk)
    | fail_if_no_progress (with_reducible apply wf_mkAon)

/-! ### Dresser -/

/-- `lookupTime` keeps the canonical form of the tables. -/
theorem lookupTime_wf (s : State) (c gr : Nat) (hw : Tables.wf s = true) :
    Tables.wf (lookupTime s c gr).1 = true := by
  unfold lookupTime
  repeat' first
    | with_reducible assumption
    | (with_reducible apply wf_ite <;> intro _)
    | with_reducible apply addReg_wf
    | fail_if_no_progress (with_reducible apply wf_mk)

/-- `segFault` keeps the canonical form of the tables. -/
theorem segFault_wf (s : State) (c va : Nat) (k : AccKind) (cause : Nat) (g : Option Nat) (hw : Tables.wf s = true) :
    Tables.wf (segFault s c va k cause g) = true := by
  unfold segFault
  repeat' first
    | with_reducible assumption
    | with_reducible apply raise_wf
    | with_reducible apply addReg_wf
    | with_reducible apply setReg_wf

/-- `cfgPut` keeps the canonical form of the tables. -/
theorem cfgPut_wf (s : State) (a : Nat) (b : Byte) (hw : Tables.wf s = true) :
    Tables.wf (cfgPut s a b) = true := by
  unfold cfgPut
  split
  · dsimp only
    split
    · rw [Tables.wf_iff] at hw ⊢
      obtain ⟨h1, h2, h3, h4, h5, h6, h7, h8, h9⟩ := hw
      exact ⟨h1, h2, h3, h4, h5, h6, h7, h8, swf_sset _ _ _ _ h9⟩
    · exact setReg_wf _ _ _ hw
  · rw [Tables.wf_iff] at hw ⊢
    obtain ⟨h1, h2, h3, h4, h5, h6, h7, h8, h9⟩ := hw
    exact ⟨h1, h2, h3, h4, h5, h6, h7, swf_sset _ _ _ _ h8, h9⟩
  · exact hw

/-- `cfgPuts` keeps the canonical form of the tables. -/
theorem cfgPuts_wf (l : List Byte) : ∀ (s : State) (a : Nat), Tables.wf s = true → Tables.wf (cfgPuts s a l) = true := by
  induction l with
  | nil => intro s a hw; exact hw
  | cons b r ih => intro s a hw; exact ih _ _ (cfgPut_wf _ _ _ hw)

/-- `offAcc` keeps the canonical form of the tables. -/
theorem offAcc_wf (s : State) (k : Nat) (hw : Tables.wf s = true) :
    Tables.wf (offAcc s k).st = true := by
  unfold offAcc
  repeat' first
    | with_reducible assumption
    | with_reducible apply orReg_wf

/-- `memAccess` keeps the canonical form of the tables. -/
theorem memAccess_wf (s : State) (req : Nat) (a : Access) (hw : Tables.wf s = true) :
    Tables.wf (memAccess s req a).st = true := by
  have e : ∀ r : MemResult, (ofMem r).st = r.st := fun r => by unfold ofMem; split <;> rfl
  unfold memAccess
  split
  all_goals rw [e]
  · with_reducible exact memRead_wf _ _ _ _ hw
  · with_reducible exact memWrite_wf _ _ _ _ hw
  · with_reducible exact memAtomic_wf _ _ _ _ _ _ hw

/-- `captureAccess` keeps the canonical form of the tables. -/
theorem captureAccess_wf (s : State) (req : Nat) (a : Access) (hw : Tables.wf s = true) :
    Tables.wf (captureAccess s req a).st = true := by
  have e : ∀ r : MemResult, (ofMem r).st = r.st := fun r => by unfold ofMem; split <;> rfl
  unfold captureAccess
  extract_lets last n0 r first
  have h1 : Tables.wf first.st = true := by
    unfold first
    split
    · exact memRead_wf _ _ _ _ hw
    · split
      · exact memWrite_wf _ _ _ _ hw
      · split
        · exact hw
        · exact readLine_wf _ _ _ hw
  clear_value first
  split
  · exact offAcc_wf _ _ hw
  · split
    · exact memAccess_wf _ _ _ hw
    · split
      · rw [e]
        exact h1
      · exact offAcc_wf _ _ h1

/-- `drawNvm` keeps the canonical form of the tables. -/
theorem drawNvm_wf (s : State) (a n : Nat) (hw : Tables.wf s = true) :
    Tables.wf (drawNvm s a n) = true := by
  unfold drawNvm
  repeat' first
    | with_reducible assumption
    | (with_reducible apply wf_ite <;> intro _)
    | with_reducible apply nextFree_wf

/-- `localAccess` keeps the canonical form of the tables. -/
theorem localAccess_wf (s : State) (req ctx : Nat) (a : Access) (hw : Tables.wf s = true) :
    Tables.wf (localAccess s req ctx a).st = true := by
  unfold localAccess
  repeat' first
    | with_reducible assumption
    | with_reducible apply captureAccess_wf
    | with_reducible apply drawNvm_wf
    | with_reducible apply cfgPuts_wf
    | fail_if_no_progress (with_reducible apply wf_mk)
    | extract_lets
    | split

/-- `sendMrq`, where it sends, keeps the canonical form of the tables. -/
theorem sendMrq_wf {s t : State} {u : RemoteUser} {a : Access} {chip : BitVec 2} {ctx va g : Nat} (hw : Tables.wf s = true)
    (e : sendMrq s u a chip ctx va g = some t) : Tables.wf t = true := by
  unfold sendMrq at e
  dsimp only at e
  split at e
  · obtain rfl := Option.some.inj e
    with_reducible apply wf_mk
    exact sendFrame_wf _ _ (takeLtag_wf _ hw)
  · exact absurd e (by simp)

/-! ### Hutch -/

/-- `putHutch` keeps the canonical form of the tables. -/
theorem putHutch_wf (s : State) (h : Hutch) (hw : Tables.wf s = true) :
    Tables.wf (putHutch s h) = true := by
  unfold putHutch
  repeat' first
    | with_reducible assumption
    | fail_if_no_progress (with_reducible apply wf_mk)

/-- `dropCopy` keeps the canonical form of the tables. -/
theorem dropCopy_wf (s : State) (hw : Tables.wf s = true) :
    Tables.wf (dropCopy s) = true := by
  unfold dropCopy
  repeat' first
    | with_reducible assumption
    | with_reducible apply dropEngine_wf
    | with_reducible apply withdrawReq_wf
    | with_reducible apply putHutch_wf

/-- `rectError` keeps the canonical form of the tables. -/
theorem rectError_wf (s : State) (i : Nat) (hw : Tables.wf s = true) :
    Tables.wf (rectError s i) = true := by
  unfold rectError
  repeat' first
    | with_reducible assumption
    | (with_reducible apply wf_ite <;> intro _)
    | with_reducible apply putHutch_wf
    | with_reducible apply dropCopy_wf
    | with_reducible apply raise_wf
    | with_reducible apply orReg_wf

/-- `freeRects` keeps the canonical form of the tables. -/
theorem freeRects_wf (s : State) (hw : Tables.wf s = true) :
    Tables.wf (freeRects s) = true := by
  unfold freeRects
  repeat' first
    | with_reducible assumption
    | (with_reducible apply wf_ite <;> intro _)
    | with_reducible apply rectError_wf
    | (with_reducible apply wf_foldl; intro _ _ _; try beta_reduce)

/-- `blkTake` keeps the canonical form of the tables. -/
theorem blkTake_wf (s : State) (w : Nat) (hw : Tables.wf s = true) :
    Tables.wf (blkTake s w) = true := by
  unfold blkTake
  split
  · exact hw
  · exact putHutch_wf _ _ (setRegs_wf _ _ _ hw)

/-- `blkFit` keeps the canonical form of the tables. -/
theorem blkFit_wf (s : State) (w : Nat) (hw : Tables.wf s = true) :
    Tables.wf (blkFit s w) = true := by
  unfold blkFit
  repeat' first
    | with_reducible assumption
    | (with_reducible apply wf_ite <;> intro _)
    | with_reducible apply setReg_wf

/-- `blkPast` keeps the canonical form of the tables. -/
theorem blkPast_wf (s : State) (w : Nat) (hw : Tables.wf s = true) :
    Tables.wf (blkPast s w) = true := by
  unfold blkPast
  repeat' first
    | with_reducible assumption
    | (with_reducible apply wf_ite <;> intro _)
    | with_reducible apply putHutch_wf

/-- `driveRow` keeps the canonical form of the tables. -/
theorem driveRow_wf (s : State) (y : Nat) (ls : List Nat) (hw : Tables.wf s = true) :
    Tables.wf (driveRow s y ls) = true := by
  unfold driveRow
  repeat' first
    | with_reducible assumption
    | with_reducible apply putHutch_wf

/-- `clearRow` keeps the canonical form of the tables. -/
theorem clearRow_wf (s : State) (y : Nat) (hw : Tables.wf s = true) :
    Tables.wf (clearRow s y) = true := by
  unfold clearRow
  repeat' first
    | with_reducible assumption
    | with_reducible apply driveRow_wf

/-- `showRow` keeps the canonical form of the tables. -/
theorem showRow_wf (s : State) (y : Nat) (prev cur : List Byte) (hw : Tables.wf s = true) :
    Tables.wf (showRow s y prev cur) = true := by
  unfold showRow
  repeat' first
    | with_reducible assumption
    | with_reducible apply driveRow_wf

/-- `failRow` keeps the canonical form of the tables. -/
theorem failRow_wf (s : State) (y : Nat) (hw : Tables.wf s = true) :
    Tables.wf (failRow s y) = true := by
  unfold failRow
  repeat' first
    | with_reducible assumption
    | with_reducible apply raise_wf
    | with_reducible apply addReg_wf
    | with_reducible apply clearRow_wf

/-- `rectStepDone` keeps the canonical form of the tables. -/
theorem rectStepDone_wf (s : State) (i : Nat) (hw : Tables.wf s = true) :
    Tables.wf (rectStepDone s i) = true := by
  unfold rectStepDone
  repeat' first
    | with_reducible assumption
    | (with_reducible apply wf_ite <;> intro _)
    | with_reducible apply putHutch_wf
    | with_reducible apply raise_wf

/-- `flDrop` keeps the canonical form of the tables. -/
theorem flDrop_wf (s : State) (hw : Tables.wf s = true) :
    Tables.wf (flDrop s) = true := by
  unfold flDrop
  repeat' first
    | with_reducible assumption
    | fail_if_no_progress (with_reducible apply wf_mk)

/-- `flRaise` keeps the canonical form of the tables. -/
theorem flRaise_wf (s : State) (hw : Tables.wf s = true) :
    Tables.wf (flRaise s) = true := by
  unfold flRaise
  repeat' first
    | with_reducible assumption
    | (with_reducible apply wf_ite <;> intro _)
    | with_reducible apply putHutch_wf

/-- `flFollow` keeps the canonical form of the tables. -/
theorem flFollow_wf (s : State) (hw : Tables.wf s = true) :
    Tables.wf (flFollow s) = true := by
  unfold flFollow
  repeat' first
    | with_reducible assumption
    | (with_reducible apply wf_ite <;> intro _)
    | with_reducible apply flRaise_wf
    | with_reducible apply flDrop_wf

/-- `flRevoked` keeps the canonical form of the tables. -/
theorem flRevoked_wf (s : State) (hw : Tables.wf s = true) :
    Tables.wf (flRevoked s) = true := by
  unfold flRevoked
  repeat' first
    | with_reducible assumption
    | with_reducible apply putHutch_wf
    | with_reducible apply flRaise_wf

/-- `flOnOp` keeps the canonical form of the tables. -/
theorem flOnOp_wf (s : State) (hw : Tables.wf s = true) :
    Tables.wf (flOnOp s) = true := by
  unfold flOnOp
  repeat' first
    | with_reducible assumption
    | (with_reducible apply wf_ite <;> intro _)
    | with_reducible apply putHutch_wf

/-- `hutchFault` keeps the canonical form of the tables. -/
theorem hutchFault_wf (s : State) (cause : Nat) (hw : Tables.wf s = true) :
    Tables.wf (hutchFault s cause) = true := by
  unfold hutchFault
  repeat' first
    | with_reducible assumption
    | with_reducible apply raise_wf
    | with_reducible apply putHutch_wf

/-- `startDischarge` keeps the canonical form of the tables. -/
theorem startDischarge_wf (s : State) (st after : Nat) (hw : Tables.wf s = true) :
    Tables.wf (startDischarge s st after) = true := by
  unfold startDischarge
  repeat' first
    | with_reducible assumption
    | with_reducible apply flDrop_wf
    | with_reducible apply freeRects_wf
    | with_reducible apply dropEngine_wf
    | with_reducible apply withdrawReq_wf
    | with_reducible apply putHutch_wf

/-- `hutchUp` keeps the canonical form of the tables. -/
theorem hutchUp_wf (s : State) (hw : Tables.wf s = true) :
    Tables.wf (hutchUp s) = true := by
  unfold hutchUp
  repeat' first
    | with_reducible assumption
    | (with_reducible apply wf_ite <;> intro _)
    | with_reducible apply hutchFault_wf
    | with_reducible apply putHutch_wf

/-- `hutchDown` keeps the canonical form of the tables. -/
theorem hutchDown_wf (s : State) (after : Nat) (hw : Tables.wf s = true) :
    Tables.wf (hutchDown s after) = true := by
  unfold hutchDown
  repeat' first
    | with_reducible assumption
    | with_reducible apply flDrop_wf
    | with_reducible apply freeRects_wf
    | with_reducible apply dropEngine_wf
    | with_reducible apply withdrawReq_wf
    | with_reducible apply putHutch_wf

/-- `hutchStop` keeps the canonical form of the tables. -/
theorem hutchStop_wf (s : State) (hw : Tables.wf s = true) :
    Tables.wf (hutchStop s) = true := by
  unfold hutchStop
  repeat' first
    | with_reducible assumption
    | (with_reducible apply wf_ite <;> intro _)
    | with_reducible apply hutchDown_wf
    | with_reducible apply startDischarge_wf

/-- `hutchAuto` keeps the canonical form of the tables. -/
theorem hutchAuto_wf (s : State) (hw : Tables.wf s = true) :
    Tables.wf (hutchAuto s) = true := by
  unfold hutchAuto
  repeat' first
    | with_reducible assumption
    | (with_reducible apply wf_ite <;> intro _)
    | with_reducible apply hutchUp_wf

/-- `pavddOnOp` keeps the canonical form of the tables. -/
theorem pavddOnOp_wf (s : State) (hw : Tables.wf s = true) :
    Tables.wf (pavddOnOp s) = true := by
  unfold pavddOnOp
  repeat' first
    | with_reducible assumption
    | (with_reducible apply wf_ite <;> intro _)
    | with_reducible apply putHutch_wf

/-- `vglOnOp` keeps the canonical form of the tables. -/
theorem vglOnOp_wf (s : State) (hw : Tables.wf s = true) :
    Tables.wf (vglOnOp s) = true := by
  unfold vglOnOp
  repeat' first
    | with_reducible assumption
    | (with_reducible apply wf_ite <;> intro _)
    | with_reducible apply putHutch_wf

/-- `vghOnOp` keeps the canonical form of the tables. -/
theorem vghOnOp_wf (s : State) (hw : Tables.wf s = true) :
    Tables.wf (vghOnOp s) = true := by
  unfold vghOnOp
  repeat' first
    | with_reducible assumption
    | (with_reducible apply wf_ite <;> intro _)
    | with_reducible apply putHutch_wf

/-- `vcomOnOp` keeps the canonical form of the tables. -/
theorem vcomOnOp_wf (s : State) (hw : Tables.wf s = true) :
    Tables.wf (vcomOnOp s) = true := by
  unfold vcomOnOp
  repeat' first
    | with_reducible assumption
    | (with_reducible apply wf_ite <;> intro _)
    | with_reducible apply putHutch_wf

/-- `frameSettings` keeps the canonical form of the tables. -/
theorem frameSettings_wf (s : State) (hw : Tables.wf s = true) :
    Tables.wf (frameSettings s) = true := by
  unfold frameSettings
  repeat' first
    | with_reducible assumption
    | (with_reducible apply wf_ite <;> intro _)
    | with_reducible apply putHutch_wf
    | with_reducible apply blkFit_wf
    | with_reducible apply freeRects_wf
    | (with_reducible apply wf_foldl; intro _ _ _; try beta_reduce)

/-- `panelStartOp` keeps the canonical form of the tables. -/
theorem panelStartOp_wf (s : State) (hw : Tables.wf s = true) :
    Tables.wf (panelStartOp s) = true := by
  unfold panelStartOp
  repeat' first
    | with_reducible assumption
    | (with_reducible apply wf_ite <;> intro _)
    | with_reducible apply frameSettings_wf
    | with_reducible apply blkTake_wf
    | with_reducible apply putHutch_wf
    | (with_reducible apply wf_foldl; intro _ _ _; try beta_reduce)

/-- `newFrame` keeps the canonical form of the tables. -/
theorem newFrame_wf (s : State) (hw : Tables.wf s = true) :
    Tables.wf (newFrame s) = true := by
  unfold newFrame
  repeat' first
    | with_reducible assumption
    | with_reducible apply blkPast_wf
    | with_reducible apply frameSettings_wf
    | with_reducible apply blkTake_wf
    | with_reducible apply putHutch_wf
    | (with_reducible apply wf_foldl; intro _ _ _; try beta_reduce)

/-- `frameStartOp` keeps the canonical form of the tables. -/
theorem frameStartOp_wf (s : State) (hw : Tables.wf s = true) :
    Tables.wf (frameStartOp s) = true := by
  unfold frameStartOp
  repeat' first
    | with_reducible assumption
    | (with_reducible apply wf_ite <;> intro _)
    | with_reducible apply startDischarge_wf
    | with_reducible apply newFrame_wf
    | with_reducible apply putHutch_wf
    | with_reducible apply flRaise_wf
    | with_reducible apply raise_wf

/-- `railFaultOp` keeps the canonical form of the tables. -/
theorem railFaultOp_wf (s : State) (rail : Nat) (mv : Int) (hw : Tables.wf s = true) :
    Tables.wf (railFaultOp s rail mv) = true := by
  unfold railFaultOp
  repeat' first
    | with_reducible assumption
    | (with_reducible apply wf_ite <;> intro _)
    | with_reducible apply startDischarge_wf

/-- `crackTestOp` keeps the canonical form of the tables. -/
theorem crackTestOp_wf (s : State) (ohms : Nat) (hw : Tables.wf s = true) :
    Tables.wf (crackTestOp s ohms) = true := by
  unfold crackTestOp
  repeat' first
    | with_reducible assumption
    | (with_reducible apply wf_ite <;> intro _)
    | with_reducible apply putHutch_wf
    | with_reducible apply hutchFault_wf
    | with_reducible apply hutchDown_wf

/-- `dischargeOp` keeps the canonical form of the tables. -/
theorem dischargeOp_wf (s : State) (hw : Tables.wf s = true) :
    Tables.wf (dischargeOp s) = true := by
  unfold dischargeOp
  repeat' first
    | with_reducible assumption
    | (with_reducible apply wf_ite <;> intro _)
    | with_reducible apply putHutch_wf

/-- `dischargeEndOp` keeps the canonical form of the tables. -/
theorem dischargeEndOp_wf (s : State) (hw : Tables.wf s = true) :
    Tables.wf (dischargeEndOp s) = true := by
  unfold dischargeEndOp
  repeat' first
    | with_reducible assumption
    | (with_reducible apply wf_ite <;> intro _)
    | with_reducible apply putHutch_wf
    | with_reducible apply raiseIf_wf
    | with_reducible apply orReg_wf
    | fail_if_no_progress (with_reducible apply wf_mk)

/-- `dispTempOp` keeps the canonical form of the tables. -/
theorem dispTempOp_wf (s : State) (tc : Int) (hw : Tables.wf s = true) :
    Tables.wf (dispTempOp s tc) = true := by
  unfold dispTempOp
  repeat' first
    | with_reducible assumption
    | (with_reducible apply wf_ite <;> intro _)
    | with_reducible apply putHutch_wf

/-- `dispRectOp` keeps the canonical form of the tables. -/
theorem dispRectOp_wf (s : State) (x0 y0 w ht : Nat) (hw : Tables.wf s = true) :
    Tables.wf (dispRectOp s x0 y0 w ht).1 = true := by
  unfold dispRectOp
  repeat' first
    | with_reducible assumption
    | with_reducible apply putHutch_wf
    | fail_if_no_progress (with_reducible apply wf_mk)
    | extract_lets
    | split

/-- `dispBlinkOp` keeps the canonical form of the tables. -/
theorem dispBlinkOp_wf (s : State) (f : List Nat) (hw : Tables.wf s = true) :
    Tables.wf (dispBlinkOp s f).1 = true := by
  unfold dispBlinkOp
  repeat' first
    | with_reducible assumption
    | with_reducible apply putHutch_wf
    | fail_if_no_progress (with_reducible apply wf_mk)
    | extract_lets
    | split

/-- `dispUpOp` keeps the canonical form of the tables. -/
theorem dispUpOp_wf (s : State) (hw : Tables.wf s = true) :
    Tables.wf (dispUpOp s).1 = true := by
  unfold dispUpOp
  repeat' first
    | with_reducible assumption
    | with_reducible apply hutchUp_wf
    | extract_lets
    | split

/-- `dispDownOp` keeps the canonical form of the tables. -/
theorem dispDownOp_wf (s : State) (hw : Tables.wf s = true) :
    Tables.wf (dispDownOp s).1 = true := by
  unfold dispDownOp
  repeat' first
    | with_reducible assumption
    | with_reducible apply hutchDown_wf
    | extract_lets
    | split

/-! ### Service -/

/-- `lineDone` keeps the canonical form of the tables. -/
theorem lineDone_wf (s : State) (e : Engine) (hw : Tables.wf s = true) :
    Tables.wf (lineDone s e) = true := by
  unfold lineDone
  repeat' first
    | with_reducible assumption
    | fail_if_no_progress (with_reducible apply wf_mk)
    | split

/-- `lineServe` keeps the canonical form of the tables. -/
theorem lineServe_wf (s : State) (req : Nat) (a : LineAcc) (pa : Nat) (hw : Tables.wf s = true) :
    Tables.wf (lineServe s req a pa).1.st = true := by
  have e : ∀ r : MemResult, (ofMem r).st = r.st := fun r => by unfold ofMem; split <;> rfl
  unfold lineServe
  split
  · exact localAccess_wf _ _ _ _ hw
  · split
    · exact readLine_wf _ _ _ hw
    · dsimp only
      split
      · rw [e]; exact memMerge_wf _ _ _ _ hw
      · exact localAccess_wf _ _ _ _ hw

/-- `runLines` keeps the canonical form of the tables. -/
theorem runLines_wf (e : Engine) (grant : Bool) (l : List LineAcc) : ∀ (s : State) (got : List (List Byte))
    (back : List (Nat × List Byte)), Tables.wf s = true → Tables.wf (runLines s e grant l got back).1 = true := by
  induction l with
  | nil => intro s got back hw; exact writeBacks_wf _ _ hw
  | cons a r ih =>
    intro s got back hw
    have ht := lookupTime_wf s a.ctx (a.va / 16) hw
    simp only [runLines]
    split
    · exact segFault_wf _ _ _ _ _ _ (lookupTime_wf _ _ _ (writeBacks_wf _ _ hw))
    · rename_i pa _ _
      have hl := lineServe_wf (lookupTime s a.ctx (a.va / 16)).1 (engineReq e) a pa ht
      split
      · split
        · exact writeBacks_wf _ _ hw
        · split
          · exact ih _ _ _ (lineDone_wf _ _ hl)
          · split
            · exact segFault_wf _ _ _ _ _ _ (writeBacks_wf _ _ hl)
            · exact writeBacks_wf _ _ hl
      · split
        · exact sendMrq_wf (writeBacks_wf _ _ ht) (by assumption)
        · exact writeBacks_wf _ _ ht

/-- `nextRow` keeps the canonical form of the tables. -/
theorem nextRow_wf (s : State) (hw : Tables.wf s = true) :
    Tables.wf (nextRow s) = true := by
  unfold nextRow
  repeat' first
    | with_reducible assumption
    | with_reducible apply putHutch_wf

/-- `loseToStage` keeps the canonical form of the tables. -/
theorem loseToStage_wf (s : State) (hw : Tables.wf s = true) :
    Tables.wf (loseToStage s) = true := by
  unfold loseToStage
  repeat' first
    | with_reducible assumption
    | with_reducible apply recLost_wf
    | (with_reducible apply wf_foldl; intro _ _ _; try beta_reduce)
    | fail_if_no_progress (with_reducible apply wf_mk)

/-- `stageMore` keeps the canonical form of the tables. -/
theorem stageMore_wf (s : State) (hw : Tables.wf s = true) :
    Tables.wf (stageMore s) = true := by
  unfold stageMore
  repeat' first
    | with_reducible assumption
    | (with_reducible apply wf_ite <;> intro _)
    | with_reducible apply raiseReq_wf

/-- `unstage` keeps the canonical form of the tables. -/
theorem unstage_wf (s : State) (hw : Tables.wf s = true) :
    Tables.wf (unstage s) = true := by
  unfold unstage
  repeat' first
    | with_reducible assumption
    | fail_if_no_progress (with_reducible apply wf_mk)

/-- `engineFail` keeps the canonical form of the tables. -/
theorem engineFail_wf (s : State) (e : Engine) (cause : Nat) (hw : Tables.wf s = true) :
    Tables.wf (engineFail s e cause) = true := by
  unfold engineFail
  repeat' first
    | with_reducible assumption
    | (with_reducible apply wf_ite <;> intro _)
    | with_reducible apply capFault_wf
    | with_reducible apply harmFault_wf
    | with_reducible apply nextRow_wf
    | with_reducible apply failRow_wf
    | with_reducible apply rectError_wf
    | with_reducible apply stageMore_wf
    | with_reducible apply loseToStage_wf
    | with_reducible apply recLost_wf
    | with_reducible apply unstage_wf
    | fail_if_no_progress (with_reducible apply wf_mk)
    | split

/-- `engineEnd` keeps the canonical form of the tables. -/
theorem engineEnd_wf (s : State) (e : Engine) (got : List (List Byte)) (hw : Tables.wf s = true) :
    Tables.wf (engineEnd s e got) = true := by
  unfold engineEnd
  repeat' first
    | with_reducible assumption
    | (with_reducible apply wf_ite <;> intro _)
    | with_reducible apply raiseReq_wf
    | with_reducible apply nextRow_wf
    | with_reducible apply showRow_wf
    | with_reducible apply rectStepDone_wf
    | with_reducible apply stageMore_wf
    | with_reducible apply engineFail_wf
    | with_reducible apply unstage_wf
    | fail_if_no_progress (with_reducible apply wf_mk)
    | extract_lets
    | split

/-- `engineResult` keeps the canonical form of the tables. -/
theorem engineResult_wf (p : State × Nat × Ran) (e : Engine) (hw : Tables.wf p.1 = true) :
    Tables.wf (engineResult p e).1 = true := by
  unfold engineResult
  split
  · exact hw
  · exact engineFail_wf _ _ _ hw
  · exact engineEnd_wf _ _ _ hw
  · exact raiseReq_wf _ _ _ hw

/-- `runEngine` keeps the canonical form of the tables. -/
theorem runEngine_wf (s : State) (e : Engine) (grant : Bool) (l : List LineAcc) (got : List (List Byte))
    (hw : Tables.wf s = true) : Tables.wf (runEngine s e grant l got).1 = true := by
  have hp := runLines_wf e grant l s got [] hw
  unfold runEngine
  dsimp only
  split
  · split
    · exact engineResult_wf _ _ (runLines_wf _ _ _ _ _ _ hp)
    · exact hp
  · exact engineResult_wf _ _ hp

/-- `portServe` keeps the canonical form of the tables. -/
theorem portServe_wf (s : State) (w : Waiting) (a : Access) (ctx va g look : Nat) (hw : Tables.wf s = true) :
    Tables.wf (portServe s w a ctx va g look).1 = true := by
  unfold portServe
  repeat' first
    | with_reducible assumption
    | (with_reducible apply wf_ite <;> intro _)
    | with_reducible apply localAccess_wf
    | with_reducible apply segFault_wf
    | with_reducible apply finishAt_wf

/-- `sendMrs` keeps the canonical form of the tables. -/
theorem sendMrs_wf (s : State) (side : Side) (dest : BitVec 2) (ltag : Byte) (status cause : Nat) (d : List Byte) (hw : Tables.wf s = true) :
    Tables.wf (sendMrs s side dest ltag status cause d) = true := by
  unfold sendMrs
  repeat' first
    | with_reducible assumption
    | with_reducible apply sendFrame_wf

/-- `remoteServe` keeps the canonical form of the tables. -/
theorem remoteServe_wf (s : State) (a : Access) (side : Side) (src : BitVec 2) (ltag : Byte) (hw : Tables.wf s = true) :
    Tables.wf (remoteServe s a side src ltag).1 = true := by
  unfold remoteServe
  repeat' first
    | with_reducible assumption
    | with_reducible apply localAccess_wf
    | with_reducible apply sendMrs_wf

/-- `serveOp` keeps the canonical form of the tables. -/
theorem serveOp_wf (s : State) (op : MemOp) (hw : Tables.wf s = true) :
    Tables.wf (serveOp s op).1 = true := by
  unfold serveOp
  repeat' first
    | with_reducible assumption
    | with_reducible apply portServe_wf
    | with_reducible apply remoteServe_wf
    | with_reducible apply runEngine_wf
    | fail_if_no_progress (with_reducible apply wf_mk)
    | extract_lets
    | split

/-- `ownedUntil` keeps the canonical form of the tables. -/
theorem ownedUntil_wf (s : State) (r c k : Nat) (hw : Tables.wf s = true) :
    Tables.wf (ownedUntil s r c k) = true := by
  unfold ownedUntil
  repeat' first
    | with_reducible assumption
    | with_reducible apply boardTo_wf
    | fail_if_no_progress (with_reducible apply wf_mk)
    | fail_if_no_progress (with_reducible apply wf_mkMem)

/-- `deadCycle` keeps the canonical form of the tables. -/
theorem deadCycle_wf (s : State) (r c : Nat) (hw : Tables.wf s = true) :
    Tables.wf (deadCycle s r c) = true := by
  unfold deadCycle
  repeat' first
    | with_reducible assumption
    | with_reducible apply boardTo_wf
    | with_reducible apply addReg_wf
    | fail_if_no_progress (with_reducible apply wf_mk)
    | fail_if_no_progress (with_reducible apply wf_mkMem)

/-- `holdOp` keeps the canonical form of the tables. -/
theorem holdOp_wf (s : State) (op : MemOp) (hw : Tables.wf s = true) :
    Tables.wf (holdOp s op) = true := by
  unfold holdOp
  repeat' first
    | with_reducible assumption
    | fail_if_no_progress (with_reducible apply wf_mk)

/-- `placeOp` keeps the canonical form of the tables. -/
theorem placeOp_wf (s : State) (r : Nat) (op : MemOp) (a : Access) (c : Nat) (hw : Tables.wf s = true) :
    Tables.wf (placeOp s r op a c) = true := by
  unfold placeOp
  repeat' first
    | with_reducible assumption
    | (with_reducible apply wf_ite <;> intro _)
    | with_reducible apply holdOp_wf
    | with_reducible apply raiseAt_wf
    | with_reducible apply cfgPuts_wf
    | with_reducible apply serveOp_wf
    | fail_if_no_progress (with_reducible apply wf_mk)
    | split

/-- `releaseHeld` keeps the canonical form of the tables. -/
theorem releaseHeld_wf (s : State) (hw : Tables.wf s = true) :
    Tables.wf (releaseHeld s) = true := by
  unfold releaseHeld
  repeat' first
    | with_reducible assumption
    | with_reducible apply placeOp_wf
    | (with_reducible apply wf_foldl; intro _ _ _; try beta_reduce)
    | fail_if_no_progress (with_reducible apply wf_mk)
    | split

/-- `grantReq` keeps the canonical form of the tables. -/
theorem grantReq_wf (s : State) (q : Req) (c : Nat) (hw : Tables.wf s = true) :
    Tables.wf (grantReq s q c) = true := by
  unfold grantReq
  repeat' first
    | with_reducible assumption
    | (with_reducible apply wf_ite <;> intro _)
    | with_reducible apply forgetGone_wf
    | with_reducible apply idleTo_wf
    | with_reducible apply deadCycle_wf
    | with_reducible apply serveOp_wf
    | with_reducible apply endReq_wf
    | with_reducible apply ownedUntil_wf
    | with_reducible apply releaseHeld_wf

/-- `serveAway`, where an engine goes on without the Sideboard, keeps the canonical form of the tables. -/
theorem serveAway_wf {s t : State} (hw : Tables.wf s = true) (e : serveAway s = some t) : Tables.wf t = true := by
  unfold serveAway at e
  split at e
  · obtain rfl := Option.some.inj e
    exact runEngine_wf _ _ _ _ _ (endReq_wf _ _ hw)
  · exact nomatch e

/-- `serveIf` keeps the canonical form of the tables. -/
theorem serveIf_wf (s0 : State) (r : Nat) (hw : Tables.wf s0 = true) : Tables.wf (serveIf s0 r) = true := by
  have h1 : Tables.wf ((serveAway s0).getD s0) = true := by
    cases e : serveAway s0 with
    | none => exact hw
    | some t => exact serveAway_wf hw e
  unfold serveIf
  dsimp only
  split
  · split
    · exact grantReq_wf _ _ _ h1
    · exact h1
  · exact h1

/-- `memoryRequestOp` keeps the canonical form of the tables. -/
theorem memoryRequestOp_wf (s : State) (r : Nat) (hw : Tables.wf s = true) :
    Tables.wf (memoryRequestOp s r) = true := by
  unfold memoryRequestOp
  repeat' first
    | with_reducible assumption
    | (with_reducible apply wf_ite <;> intro _)
    | with_reducible apply serveIf_wf

/-- `scrubStepOp` keeps the canonical form of the tables. -/
theorem scrubStepOp_wf (s : State) (hw : Tables.wf s = true) :
    Tables.wf (scrubStepOp s) = true := by
  unfold scrubStepOp
  repeat' first
    | with_reducible assumption
    | (with_reducible apply wf_ite <;> intro _)
    | with_reducible apply scrubCycle_wf

/-- `rejectMrq` keeps the canonical form of the tables. -/
theorem rejectMrq_wf (s : State) (side : Side) (src : BitVec 2) (ltag : Byte) (a : Access) (hw : Tables.wf s = true) :
    Tables.wf (rejectMrq s side src ltag a) = true := by
  unfold rejectMrq
  repeat' first
    | with_reducible assumption
    | with_reducible apply setReg_wf
    | with_reducible apply addReg_wf
    | with_reducible apply sendMrs_wf
    | with_reducible apply raise_wf

/-- `takeMrq` keeps the canonical form of the tables. -/
theorem takeMrq_wf (s : State) (hw : Tables.wf s = true) :
    Tables.wf (takeMrq s) = true := by
  unfold takeMrq
  repeat' first
    | with_reducible assumption
    | (with_reducible apply wf_ite <;> intro _)
    | with_reducible apply sendMrs_wf
    | with_reducible apply rejectMrq_wf
    | with_reducible apply placeOp_wf
    | fail_if_no_progress (with_reducible apply wf_mk)
    | extract_lets
    | split

/-- `mrqServiceOp` keeps the canonical form of the tables. -/
theorem mrqServiceOp_wf (s : State) (hw : Tables.wf s = true) :
    Tables.wf (mrqServiceOp s) = true := by
  unfold mrqServiceOp
  repeat' first
    | with_reducible assumption
    | (with_reducible apply wf_ite <;> intro _)
    | with_reducible apply serveIf_wf
    | with_reducible apply takeMrq_wf

/-- `portRemote` keeps the canonical form of the tables. -/
theorem portRemote_wf (s : State) (w : Waiting) (q : Remote) (status cause : Nat) (d : List Byte) (hw : Tables.wf s = true) :
    Tables.wf (portRemote s w q status cause d) = true := by
  unfold portRemote
  repeat' first
    | with_reducible assumption
    | (with_reducible apply wf_ite <;> intro _)
    | with_reducible apply segFault_wf
    | with_reducible apply finish_wf

/-- `engineRemote` keeps the canonical form of the tables. -/
theorem engineRemote_wf (s : State) (e : Engine) (todo : List LineAcc) (got : List (List Byte)) (q : Remote) (status cause : Nat) (d : List Byte) (hw : Tables.wf s = true) :
    Tables.wf (engineRemote s e todo got q status cause d) = true := by
  unfold engineRemote
  repeat' first
    | with_reducible assumption
    | (with_reducible apply wf_ite <;> intro _)
    | with_reducible apply runEngine_wf
    | with_reducible apply lineDone_wf
    | with_reducible apply segFault_wf
    | with_reducible apply engineFail_wf

/-- `endRemote` keeps the canonical form of the tables. -/
theorem endRemote_wf (s : State) (q : Remote) (status cause : Nat) (d : List Byte) (hw : Tables.wf s = true) :
    Tables.wf (endRemote s q status cause d) = true := by
  unfold endRemote
  repeat' first
    | with_reducible assumption
    | with_reducible apply portRemote_wf
    | with_reducible apply engineRemote_wf
    | fail_if_no_progress (with_reducible apply wf_mk)
    | extract_lets
    | split

/-- `memStart` keeps the canonical form of the tables. -/
theorem memStart_wf (s0 : State) (l : Land) (opc : Nat) (a : Access) (hw : Tables.wf s0 = true) :
    Tables.wf (memStart s0 l opc a) = true := by
  unfold memStart
  repeat' first
    | with_reducible assumption
    | (with_reducible apply wf_ite <;> intro _)
    | with_reducible apply lookupTime_wf
    | with_reducible apply answerAt_wf
    | with_reducible apply segFault_wf
    | with_reducible apply placeOp_wf
    | with_reducible apply setBusy_wf
    | (with_reducible refine sendMrq_wf ?_ (by assumption))
    | fail_if_no_progress (with_reducible apply wf_mk)
    | extract_lets
    | split

/-- `serveAll` keeps the canonical form of the tables. -/
theorem serveAll_wf (n : Nat) : ∀ (s : State) (c : Nat), Tables.wf s = true → Tables.wf (serveAll n s c) = true := by
  induction n with
  | zero => intro s c hw; exact hw
  | succ n ih =>
    intro s c hw
    unfold serveAll
    extract_lets t
    have h1 : Tables.wf t = true := by
      with_reducible apply wf_ite <;> intro _
      · exact takeMrq_wf _ hw
      · exact hw
    clear_value t
    split
    · exact ih _ _ (serveAway_wf h1 (by assumption))
    · split
      · split
        · exact ih _ _ (grantReq_wf _ _ _ h1)
        · exact h1
      · with_reducible apply wf_ite <;> intro _
        · exact ih _ _ h1
        · exact h1

/-- `memTo` keeps the canonical form of the tables. -/
theorem memTo_wf (s : State) (c : Nat) (hw : Tables.wf s = true) :
    Tables.wf (memTo s c) = true := by
  unfold memTo
  repeat' first
    | with_reducible assumption
    | (with_reducible apply wf_ite <;> intro _)
    | with_reducible apply idleTo_wf
    | with_reducible apply serveAll_wf

/-- `memFlush` keeps the canonical form of the tables. -/
theorem memFlush_wf (s : State) (hw : Tables.wf s = true) :
    Tables.wf (memFlush s) = true := by
  unfold memFlush
  repeat' first
    | with_reducible assumption
    | (with_reducible apply wf_ite <;> intro _)
    | with_reducible apply bankReadyNow_wf
    | with_reducible apply memTo_wf
    | with_reducible apply bankInitTick_wf
    | with_reducible apply serveAll_wf

/-- `boardPass` keeps the canonical form of the tables. -/
theorem boardPass_wf (s : State) (hw : Tables.wf s = true) :
    Tables.wf (boardPass s) = true := by
  unfold boardPass
  repeat' first
    | with_reducible assumption
    | with_reducible apply forgetGone_wf
    | with_reducible apply boardTo_wf
    | fail_if_no_progress (with_reducible apply wf_mk)
    | fail_if_no_progress (with_reducible apply wf_mkMem)

/-- `capQueueDrainOp` keeps the canonical form of the tables. -/
theorem capQueueDrainOp_wf (s : State) (hw : Tables.wf s = true) :
    Tables.wf (capQueueDrainOp s) = true := by
  unfold capQueueDrainOp
  repeat' first
    | with_reducible assumption
    | (with_reducible apply wf_ite <;> intro _)
    | with_reducible apply serveIf_wf

/-- `recordStageOp` keeps the canonical form of the tables. -/
theorem recordStageOp_wf (s : State) (hw : Tables.wf s = true) :
    Tables.wf (recordStageOp s) = true := by
  unfold recordStageOp
  repeat' first
    | with_reducible assumption
    | (with_reducible apply wf_ite <;> intro _)
    | with_reducible apply serveIf_wf
    | with_reducible apply stageMore_wf

/-- `rowLate` keeps the canonical form of the tables. -/
theorem rowLate_wf (s : State) (hw : Tables.wf s = true) :
    Tables.wf (rowLate s) = true := by
  unfold rowLate
  repeat' first
    | with_reducible assumption
    | (with_reducible apply wf_ite <;> intro _)
    | with_reducible apply nextRow_wf
    | with_reducible apply failRow_wf
    | with_reducible apply dropEngine_wf
    | with_reducible apply withdrawReq_wf

/-- `frameStartRow` keeps the canonical form of the tables. -/
theorem frameStartRow_wf (s : State) (hw : Tables.wf s = true) :
    Tables.wf (frameStartRow s) = true := by
  unfold frameStartRow
  repeat' first
    | with_reducible assumption
    | (with_reducible apply wf_ite <;> intro _)
    | with_reducible apply frameStartOp_wf
    | with_reducible apply rowLate_wf

/-- `rowRefreshOp` keeps the canonical form of the tables. -/
theorem rowRefreshOp_wf (s0 : State) (hw : Tables.wf s0 = true) :
    Tables.wf (rowRefreshOp s0) = true := by
  unfold rowRefreshOp
  repeat' first
    | with_reducible assumption
    | (with_reducible apply wf_ite <;> intro _)
    | with_reducible apply rowLate_wf
    | with_reducible apply serveIf_wf
    | with_reducible apply raiseReq_wf
    | with_reducible apply nextRow_wf
    | with_reducible apply clearRow_wf

/-- `rectCopyStepOp` keeps the canonical form of the tables. -/
theorem rectCopyStepOp_wf (s : State) (hw : Tables.wf s = true) :
    Tables.wf (rectCopyStepOp s) = true := by
  unfold rectCopyStepOp
  repeat' first
    | with_reducible assumption
    | (with_reducible apply wf_ite <;> intro _)
    | with_reducible apply serveIf_wf
    | with_reducible apply raiseReq_wf
    | with_reducible apply putHutch_wf
    | fail_if_no_progress (with_reducible apply wf_mk)
    | split

/-! ### Chain -/

/-- `frameBad` keeps the canonical form of the tables. -/
theorem frameBad_wf (s : State) (d : Side) (hw : Tables.wf s = true) :
    Tables.wf (frameBad s d) = true := by
  unfold frameBad
  repeat' first
    | with_reducible assumption
    | with_reducible apply incTen_wf

/-- `answerNow` keeps the canonical form of the tables. -/
theorem answerNow_wf (s : State) (p : PortId) (tag : Byte) (status : Nat) (hw : Tables.wf s = true) :
    Tables.wf (answerNow s p tag status) = true := by
  unfold answerNow
  repeat' first
    | with_reducible assumption
    | with_reducible apply answerAt_wf

/-- `dropForwards` keeps the canonical form of the tables. -/
theorem dropForwards_wf (s : State) (d : Side) (hw : Tables.wf s = true) :
    Tables.wf (dropForwards s d) = true := by
  unfold dropForwards
  repeat' first
    | with_reducible assumption
    | with_reducible apply answerNow_wf
    | (with_reducible apply wf_foldl; intro _ _ _; try beta_reduce)
    | fail_if_no_progress (with_reducible apply wf_mk)

/-- `dropRemotes` keeps the canonical form of the tables. -/
theorem dropRemotes_wf (s : State) (d : Side) (hw : Tables.wf s = true) :
    Tables.wf (dropRemotes s d) = true := by
  unfold dropRemotes
  repeat' first
    | with_reducible assumption
    | with_reducible apply endRemote_wf
    | (with_reducible apply wf_foldl; intro _ _ _; try beta_reduce)

/-- `finishEnum` keeps the canonical form of the tables. -/
theorem finishEnum_wf (s : State) (status : Nat) (fs : List Field) (hw : Tables.wf s = true) :
    Tables.wf (finishEnum s status fs) = true := by
  unfold finishEnum
  repeat' first
    | with_reducible assumption
    | with_reducible apply finish_wf
    | fail_if_no_progress (with_reducible apply wf_mk)
    | split

/-- `dropEnum` keeps the canonical form of the tables. -/
theorem dropEnum_wf (s : State) (d : Side) (hw : Tables.wf s = true) :
    Tables.wf (dropEnum s d) = true := by
  unfold dropEnum
  repeat' first
    | with_reducible assumption
    | (with_reducible apply wf_ite <;> intro _)
    | with_reducible apply finishEnum_wf
    | extract_lets
    | split

/-- `linkTo` keeps the canonical form of the tables. -/
theorem linkTo_wf (s : State) (d : Side) (st : Nat) (held : Bool) (hw : Tables.wf s = true) :
    Tables.wf (linkTo s d st held) = true := by
  unfold linkTo
  repeat' first
    | with_reducible assumption
    | (with_reducible apply wf_ite <;> intro _)
    | with_reducible apply putLink_wf
    | with_reducible apply raise_wf
    | with_reducible apply incTen_wf
    | with_reducible apply dropEnum_wf
    | with_reducible apply dropRemotes_wf
    | with_reducible apply dropForwards_wf
    | fail_if_no_progress (with_reducible apply wf_mk)

/-- `linkDownOp` keeps the canonical form of the tables. -/
theorem linkDownOp_wf (s : State) (d : Side) (hw : Tables.wf s = true) :
    Tables.wf (linkDownOp s d) = true := by
  unfold linkDownOp
  repeat' first
    | with_reducible assumption
    | (with_reducible apply wf_ite <;> intro _)
    | with_reducible apply linkTo_wf

/-- `linkUpOp` keeps the canonical form of the tables. -/
theorem linkUpOp_wf (s : State) (d : Side) (hw : Tables.wf s = true) :
    Tables.wf (linkUpOp s d) = true := by
  unfold linkUpOp
  repeat' first
    | with_reducible assumption
    | (with_reducible apply wf_ite <;> intro _)
    | with_reducible apply raise_wf
    | with_reducible apply putLink_wf

/-- `linksFollow` keeps the canonical form of the tables. -/
theorem linksFollow_wf (s : State) (hw : Tables.wf s = true) :
    Tables.wf (linksFollow s) = true := by
  unfold linksFollow
  repeat' first
    | with_reducible assumption
    | (with_reducible apply wf_ite <;> intro _)
    | with_reducible apply linkDownOp_wf
    | (with_reducible apply wf_foldl; intro _ _ _; try beta_reduce)

/-- `wiringTestOp` keeps the canonical form of the tables. -/
theorem wiringTestOp_wf (s : State) (wired : Bool) (hw : Tables.wf s = true) :
    Tables.wf (wiringTestOp s wired) = true := by
  unfold wiringTestOp
  repeat' first
    | with_reducible assumption
    | (with_reducible apply wf_ite <;> intro _)
    | with_reducible apply raise_wf
    | fail_if_no_progress (with_reducible apply wf_mk)

/-- `conflictOn` keeps the canonical form of the tables. -/
theorem conflictOn_wf (s : State) (d : Side) (hw : Tables.wf s = true) :
    Tables.wf (conflictOn s d) = true := by
  unfold conflictOn
  repeat' first
    | with_reducible assumption
    | with_reducible apply raiseIf_wf
    | with_reducible apply linkTo_wf
    | fail_if_no_progress (with_reducible apply wf_mk)

/-- `idlePosition` keeps the canonical form of the tables. -/
theorem idlePosition_wf (s : State) (d : Side) (known : Bool) (pos : Nat) (hw : Tables.wf s = true) :
    Tables.wf (idlePosition s d known pos) = true := by
  unfold idlePosition
  repeat' first
    | with_reducible assumption
    | (with_reducible apply wf_ite <;> intro _)
    | with_reducible apply conflictOn_wf
    | with_reducible apply raise_wf
    | fail_if_no_progress (with_reducible apply wf_mk)
    | split

/-- `idleByteOp` keeps the canonical form of the tables. -/
theorem idleByteOp_wf (s : State) (d : Side) (b : Byte) (hw : Tables.wf s = true) :
    Tables.wf (idleByteOp s d b) = true := by
  unfold idleByteOp
  repeat' first
    | with_reducible assumption
    | (with_reducible apply wf_ite <;> intro _)
    | with_reducible apply putLink_wf
    | with_reducible apply linkTo_wf
    | with_reducible apply idlePosition_wf

/-- `passOn` keeps the canonical form of the tables. -/
theorem passOn_wf (s : State) (type : Nat) (f : RxFrame) (d : Side) (hw : Tables.wf s = true) :
    Tables.wf (passOn s type f d) = true := by
  unfold passOn
  repeat' first
    | with_reducible assumption
    | with_reducible apply sendFrame_wf

/-- `frameOp` keeps the canonical form of the tables. -/
theorem frameOp_wf (s : State) (type : Nat) (f : RxFrame) (other mine : State → State) (hw : Tables.wf s = true) (h_other : ∀ t, Tables.wf t = true → Tables.wf (other t) = true) (h_mine : ∀ t, Tables.wf t = true → Tables.wf (mine t) = true) :
    Tables.wf (frameOp s type f other mine) = true := by
  unfold frameOp
  repeat' first
    | with_reducible assumption
    | (with_reducible apply h_other)
    | (with_reducible apply h_mine)
    | (with_reducible apply wf_ite <;> intro _)
    | with_reducible apply frameBad_wf
    | with_reducible apply passOn_wf

/-- `mrqFrameOp` keeps the canonical form of the tables. -/
theorem mrqFrameOp_wf (s : State) (f : RxFrame) (hw : Tables.wf s = true) :
    Tables.wf (mrqFrameOp s f) = true := by
  unfold mrqFrameOp
  with_reducible apply frameOp_wf
  · assumption
  all_goals
    intro t ht
    beta_reduce
    try unfold id
    repeat' first
      | with_reducible assumption
      | (with_reducible apply wf_ite <;> intro _)
      | with_reducible apply sendMrs_wf
      | split
      | fail_if_no_progress (with_reducible apply wf_mk)

/-- `mrsFrameOp` keeps the canonical form of the tables. -/
theorem mrsFrameOp_wf (s : State) (f : RxFrame) (hw : Tables.wf s = true) :
    Tables.wf (mrsFrameOp s f) = true := by
  unfold mrsFrameOp
  with_reducible apply frameOp_wf
  · assumption
  all_goals
    intro t ht
    beta_reduce
    try unfold id
    repeat' first
      | with_reducible assumption
      | (with_reducible apply wf_ite <;> intro _)
      | with_reducible apply endRemote_wf
      | split
      | fail_if_no_progress (with_reducible apply wf_mk)

/-- `mrqBusyRetryOp` keeps the canonical form of the tables. -/
theorem mrqBusyRetryOp_wf (s : State) (hw : Tables.wf s = true) :
    Tables.wf (mrqBusyRetryOp s) = true := by
  unfold mrqBusyRetryOp
  repeat' first
    | with_reducible assumption
    | with_reducible apply sendFrame_wf
    | fail_if_no_progress (with_reducible apply wf_mk)
    | split

/-- `remoteTimeoutOp` keeps the canonical form of the tables. -/
theorem remoteTimeoutOp_wf (s : State) (hw : Tables.wf s = true) :
    Tables.wf (remoteTimeoutOp s) = true := by
  unfold remoteTimeoutOp
  repeat' first
    | with_reducible assumption
    | with_reducible apply endRemote_wf
    | split

/-- `forwardPacket` keeps the canonical form of the tables. -/
theorem forwardPacket_wf (s : State) (p : PortId) (k : Packet) (q : BitVec 2) (cyc : Nat) (hw : Tables.wf s = true) :
    Tables.wf (forwardPacket s p k q cyc) = true := by
  unfold forwardPacket
  repeat' first
    | with_reducible assumption
    | (with_reducible apply wf_ite <;> intro _)
    | with_reducible apply takeLtag_wf
    | with_reducible apply sendFrame_wf
    | with_reducible apply answerAt_wf
    | fail_if_no_progress (with_reducible apply wf_mk)

/-- `rplFrameOp` keeps the canonical form of the tables. -/
theorem rplFrameOp_wf (s : State) (f : RxFrame) (hw : Tables.wf s = true) :
    Tables.wf (rplFrameOp s f) = true := by
  unfold rplFrameOp
  with_reducible apply frameOp_wf
  · assumption
  all_goals
    intro t ht
    beta_reduce
    try unfold id
    repeat' first
      | with_reducible assumption
      | with_reducible apply giveReply_wf
      | split
      | fail_if_no_progress (with_reducible apply wf_mk)

/-- `forwardTimeoutOp` keeps the canonical form of the tables. -/
theorem forwardTimeoutOp_wf (s : State) (p : PortId) (hw : Tables.wf s = true) :
    Tables.wf (forwardTimeoutOp s p) = true := by
  unfold forwardTimeoutOp
  repeat' first
    | with_reducible assumption
    | with_reducible apply answerNow_wf
    | fail_if_no_progress (with_reducible apply wf_mk)
    | split

/-- `enumCheck` keeps the canonical form of the tables. -/
theorem enumCheck_wf (s : State) (hw : Tables.wf s = true) :
    Tables.wf (enumCheck s) = true := by
  unfold enumCheck
  repeat' first
    | with_reducible assumption
    | (with_reducible apply wf_ite <;> intro _)
    | with_reducible apply finishEnum_wf
    | extract_lets
    | split

/-- `enumStart` keeps the canonical form of the tables. -/
theorem enumStart_wf (s : State) (l : Land) (hw : Tables.wf s = true) :
    Tables.wf (enumStart s l) = true := by
  unfold enumStart
  repeat' first
    | with_reducible assumption
    | (with_reducible apply wf_ite <;> intro _)
    | with_reducible apply answer_wf
    | with_reducible apply takeLtag_wf
    | with_reducible apply sendFrame_wf
    | with_reducible apply setBusy_wf
    | with_reducible apply enumCheck_wf
    | fail_if_no_progress (with_reducible apply wf_mk)

/-- `enumFrameOp` keeps the canonical form of the tables. -/
theorem enumFrameOp_wf (s : State) (f : RxFrame) (hw : Tables.wf s = true) :
    Tables.wf (enumFrameOp s f) = true := by
  unfold enumFrameOp
  repeat' first
    | with_reducible assumption
    | (with_reducible apply wf_ite <;> intro _)
    | with_reducible apply frameBad_wf
    | with_reducible apply sendFrame_wf
    | with_reducible apply passOn_wf

/-- `enumRspFrameOp` keeps the canonical form of the tables. -/
theorem enumRspFrameOp_wf (s : State) (f : RxFrame) (hw : Tables.wf s = true) :
    Tables.wf (enumRspFrameOp s f) = true := by
  unfold enumRspFrameOp
  with_reducible apply frameOp_wf
  · assumption
  all_goals
    intro t ht
    beta_reduce
    try unfold id
    repeat' first
      | with_reducible assumption
      | with_reducible apply enumCheck_wf
      | split
      | fail_if_no_progress (with_reducible apply wf_mk)

/-- `enumTimeoutOp` keeps the canonical form of the tables. -/
theorem enumTimeoutOp_wf (s : State) (hw : Tables.wf s = true) :
    Tables.wf (enumTimeoutOp s) = true := by
  unfold enumTimeoutOp
  repeat' first
    | with_reducible assumption
    | (with_reducible apply wf_ite <;> intro _)
    | with_reducible apply finishEnum_wf
    | split

/-- `chainFlush` keeps the canonical form of the tables. -/
theorem chainFlush_wf (s0 : State) (hw : Tables.wf s0 = true) :
    Tables.wf (chainFlush s0) = true := by
  unfold chainFlush
  repeat' first
    | with_reducible assumption
    | with_reducible apply linkUpOp_wf
    | with_reducible apply mrqBusyRetryOp_wf
    | with_reducible apply remoteTimeoutOp_wf
    | with_reducible apply forwardTimeoutOp_wf
    | with_reducible apply enumTimeoutOp_wf
    | (with_reducible apply wf_foldl; intro _ _ _; try beta_reduce)

/-- `chainTick` keeps the canonical form of the tables. -/
theorem chainTick_wf (s : State) (hw : Tables.wf s = true) :
    Tables.wf (chainTick s) = true := by
  unfold chainTick
  repeat' first
    | with_reducible assumption
    | fail_if_no_progress (with_reducible apply wf_mk)

end Sys2Proof.Machine
end

