-- ==== Sys2Proof/Laws/TablesPorts.lean ====
section
/-!
SUPPORT. Laws of the tables' canonical form: chain, domains, register writes, NVM, load, foreground, opcodes, packets.
-/

namespace Sys2Proof.Machine

/-! ### Domains -/

/-- `freshFronts` keeps the canonical form of the tables. -/
theorem freshFronts_wf (s : State) (d : Nat) (hw : Tables.wf s = true) :
    Tables.wf (freshFronts s d) = true := by
  unfold freshFronts
  repeat' first
    | with_reducible assumption
    | fail_if_no_progress (with_reducible apply wf_mk)

/-- `domainDown` keeps the canonical form of the tables. -/
theorem domainDown_wf (s : State) (d : Nat) (hw : Tables.wf s = true) :
    Tables.wf (domainDown s d) = true := by
  unfold domainDown
  repeat' first
    | with_reducible assumption
    | (with_reducible apply wf_ite <;> intro _)
    | with_reducible apply carryBroken_wf
    | with_reducible apply freshFronts_wf
    | with_reducible apply procClear_wf
    | with_reducible apply bankPowerDown_wf
    | with_reducible apply flDrop_wf
    | with_reducible apply dropCopy_wf
    | with_reducible apply putHutch_wf
    | fail_if_no_progress (with_reducible apply wf_mk)

/-- `domainRampEndOp` keeps the canonical form of the tables. -/
theorem domainRampEndOp_wf (s : State) (d : Nat) (hw : Tables.wf s = true) :
    Tables.wf (domainRampEndOp s d) = true := by
  unfold domainRampEndOp
  repeat' first
    | with_reducible assumption
    | (with_reducible apply wf_ite <;> intro _)
    | with_reducible apply freshFronts_wf
    | with_reducible apply bankPowerUp_wf
    | fail_if_no_progress (with_reducible apply wf_mk)

/-- `displayOff` keeps the canonical form of the tables. -/
theorem displayOff_wf (s : State) (hw : Tables.wf s = true) :
    Tables.wf (displayOff s) = true := by
  unfold displayOff
  repeat' first
    | with_reducible assumption
    | (with_reducible apply wf_ite <;> intro _)
    | with_reducible apply hutchStop_wf
    | with_reducible apply putHutch_wf
    | with_reducible apply domainDown_wf

/-- `switchDomain` keeps the canonical form of the tables. -/
theorem switchDomain_wf (s : State) (d : Nat) (hw : Tables.wf s = true) :
    Tables.wf (switchDomain s d) = true := by
  unfold switchDomain
  repeat' first
    | with_reducible assumption
    | (with_reducible apply wf_ite <;> intro _)
    | with_reducible apply putHutch_wf
    | with_reducible apply displayOff_wf
    | with_reducible apply domainDown_wf
    | fail_if_no_progress (with_reducible apply wf_mk)

/-- `switchDomains` keeps the canonical form of the tables. -/
theorem switchDomains_wf (s : State) (hw : Tables.wf s = true) :
    Tables.wf (switchDomains s) = true := by
  unfold switchDomains
  repeat' first
    | with_reducible assumption
    | with_reducible apply switchDomain_wf
    | (with_reducible apply wf_foldl; intro _ _ _; try beta_reduce)

/-- `domainsWork` keeps the canonical form of the tables. -/
theorem domainsWork_wf (s : State) (hw : Tables.wf s = true) :
    Tables.wf (domainsWork s) = true := by
  unfold domainsWork
  repeat' first
    | with_reducible assumption
    | (with_reducible apply wf_ite <;> intro _)
    | with_reducible apply hutchAuto_wf
    | fail_if_no_progress (with_reducible apply wf_mk)

/-- `grantEffects` keeps the canonical form of the tables. -/
theorem grantEffects_wf (old : BitVec 10) (s : State) (hw : Tables.wf s = true) :
    Tables.wf (grantEffects old s) = true := by
  unfold grantEffects
  repeat' first
    | with_reducible assumption
    | (with_reducible apply wf_ite <;> intro _)
    | with_reducible apply flRevoked_wf
    | with_reducible apply linksFollow_wf
    | with_reducible apply putHutch_wf
    | with_reducible apply startDischarge_wf
    | fail_if_no_progress (with_reducible apply wf_mk)

/-- `abandonErase` keeps the canonical form of the tables. -/
theorem abandonErase_wf (s : State) (i n : Nat) (hw : Tables.wf s = true) :
    Tables.wf (abandonErase s i n) = true := by
  unfold abandonErase
  repeat' first
    | with_reducible assumption
    | fail_if_no_progress (with_reducible apply wf_mk)
    | fail_if_no_progress (with_reducible apply wf_mkNvm)

/-- `cutSave` keeps the canonical form of the tables. -/
theorem cutSave_wf (s : State) (copy : Nat) (image : List Byte) (hw : Tables.wf s = true) :
    Tables.wf (cutSave s copy image).1 = true := by
  unfold cutSave
  repeat' first
    | with_reducible assumption
    | with_reducible apply nextFree_wf
    | with_reducible apply abandonErase_wf
    | with_reducible apply nvmErase_wf
    | with_reducible apply nvmPut_wf
    | extract_lets
    | split

/-- `cutSeal` keeps the canonical form of the tables. -/
theorem cutSeal_wf (s : State) (slot : Nat) (bytes : List Byte) (hw : Tables.wf s = true) :
    Tables.wf (cutSeal s slot bytes).1 = true := by
  unfold cutSeal
  repeat' first
    | with_reducible assumption
    | with_reducible apply nextFree_wf
    | with_reducible apply abandonErase_wf
    | with_reducible apply nvmErase_wf
    | extract_lets
    | split

/-- `cutOp` keeps the canonical form of the tables. -/
theorem cutOp_wf (s : State) (op : NvmOp) (hw : Tables.wf s = true) :
    Tables.wf (cutOp s op).1 = true := by
  unfold cutOp
  repeat' first
    | with_reducible assumption
    | with_reducible apply abandonErase_wf
    | with_reducible apply cutSave_wf
    | with_reducible apply cutSeal_wf
    | fail_if_no_progress (with_reducible apply wf_mk)
    | split

/-- `nvmIdle` keeps the canonical form of the tables. -/
theorem nvmIdle_wf (s : State) (hw : Tables.wf s = true) :
    Tables.wf (nvmIdle s) = true := by
  unfold nvmIdle
  repeat' first
    | with_reducible assumption
    | fail_if_no_progress (with_reducible apply wf_mk)
    | fail_if_no_progress (with_reducible apply wf_mkNvm)

/-- `nvmSettled` keeps the canonical form of the tables. -/
theorem nvmSettled_wf (s : State) (hw : Tables.wf s = true) :
    Tables.wf (nvmSettled s) = true := by
  unfold nvmSettled
  repeat' first
    | with_reducible assumption
    | with_reducible apply orReg_wf
    | with_reducible apply nvmIdle_wf

/-- `nvmPfail` keeps the canonical form of the tables. -/
theorem nvmPfail_wf (s : State) (hw : Tables.wf s = true) :
    Tables.wf (nvmPfail s) = true := by
  unfold nvmPfail
  repeat' first
    | with_reducible assumption
    | (with_reducible apply wf_ite <;> intro _)
    | with_reducible apply nvmSettled_wf
    | with_reducible apply cutOp_wf
    | with_reducible apply orReg_wf
    | fail_if_no_progress (with_reducible apply wf_mk)
    | fail_if_no_progress (with_reducible apply wf_mkNvm)
    | extract_lets
    | split

/-- `settleUnit` keeps the canonical form of the tables. -/
theorem settleUnit_wf (s : State) (hw : Tables.wf s = true) :
    Tables.wf (settleUnit s) = true := by
  unfold settleUnit
  repeat' first
    | with_reducible assumption
    | with_reducible apply nvmSettled_wf
    | with_reducible apply nvmPut_wf
    | fail_if_no_progress (with_reducible apply wf_mk)
    | split

/-- `cutProgram` keeps the canonical form of the tables. -/
theorem cutProgram_wf (s : State) (i : Nat) (b : List Byte) (hw : Tables.wf s = true) :
    Tables.wf (cutProgram s i b) = true := by
  unfold cutProgram
  repeat' first
    | with_reducible assumption
    | with_reducible apply nvmPut_wf
    | with_reducible apply nextFree_wf

/-- `nvmHardOff` keeps the canonical form of the tables. -/
theorem nvmHardOff_wf (s : State) (hw : Tables.wf s = true) :
    Tables.wf (nvmHardOff s) = true := by
  unfold nvmHardOff
  extract_lets c
  have hc : Tables.wf c.1 = true := by
    unfold c
    split
    · exact cutOp_wf _ _ hw
    · exact hw
  clear_value c
  split
  · exact nvmIdle_wf _ (cutProgram_wf _ _ _ hc)
  · exact nvmIdle_wf _ hc

/-- `powerDown` keeps the canonical form of the tables. -/
theorem powerDown_wf (s : State) (pd1 : Bool) (hw : Tables.wf s = true) :
    Tables.wf (powerDown s pd1) = true := by
  unfold powerDown
  with_reducible apply levelLow_wf
  with_reducible apply chooseLoad_wf
  rw [Tables.wf_iff] at hw ⊢
  obtain ⟨a, b, c, d, e, f, g, i, j⟩ := hw
  refine ⟨rfl, rfl, c, resetRegs_wf.1, ?_, resetRegs_wf.2.1, resetRegs_wf.2.2.1, rfl, rfl⟩
  show swf regReset (if coreOn s = true then _ else s.aon).regs = true
  split
  · exact e
  · exact e

/-- `hardOffNow` keeps the canonical form of the tables. -/
theorem hardOffNow_wf (s : State) (hw : Tables.wf s = true) :
    Tables.wf (hardOffNow s) = true := by
  unfold hardOffNow
  repeat' first
    | with_reducible assumption
    | with_reducible apply powerDown_wf
    | with_reducible apply nvmHardOff_wf
    | fail_if_no_progress (with_reducible apply wf_mk)

/-- `enterGasp` keeps the canonical form of the tables. -/
theorem enterGasp_wf (s : State) (hw : Tables.wf s = true) :
    Tables.wf (enterGasp s) = true := by
  unfold enterGasp
  repeat' first
    | with_reducible assumption
    | with_reducible apply raise_wf
    | with_reducible apply setReg_wf
    | with_reducible apply addReg_wf
    | with_reducible apply nvmPfail_wf
    | with_reducible apply cfStopAll_wf
    | fail_if_no_progress (with_reducible apply wf_mk)
    | fail_if_no_progress (with_reducible apply wf_mkMem)

/-- `pfailOp` keeps the canonical form of the tables. -/
theorem pfailOp_wf (s : State) (hw : Tables.wf s = true) :
    Tables.wf (pfailOp s) = true := by
  unfold pfailOp
  repeat' first
    | with_reducible assumption
    | (with_reducible apply wf_ite <;> intro _)
    | with_reducible apply enterGasp_wf

/-- `releaseHeldOff` keeps the canonical form of the tables. -/
theorem releaseHeldOff_wf (s : State) (hw : Tables.wf s = true) :
    Tables.wf (releaseHeldOff s) = true := by
  unfold releaseHeldOff
  repeat' first
    | with_reducible assumption
    | (with_reducible apply wf_ite <;> intro _)
    | with_reducible apply hardOffNow_wf
    | with_reducible apply pfailOp_wf

/-- `gaspBureauCloseOp` keeps the canonical form of the tables. -/
theorem gaspBureauCloseOp_wf (s0 : State) (hw : Tables.wf s0 = true) :
    Tables.wf (gaspBureauCloseOp s0) = true := by
  unfold gaspBureauCloseOp
  repeat' first
    | with_reducible assumption
    | (with_reducible apply wf_ite <;> intro _)
    | with_reducible apply settleUnit_wf
    | with_reducible apply orReg_wf
    | with_reducible apply nvmPut_wf
    | fail_if_no_progress (with_reducible apply wf_mk)
    | extract_lets
    | split

/-- `gaspEnergySaveOp` keeps the canonical form of the tables. -/
theorem gaspEnergySaveOp_wf (s : State) (hw : Tables.wf s = true) :
    Tables.wf (gaspEnergySaveOp s) = true := by
  unfold gaspEnergySaveOp
  repeat' first
    | with_reducible assumption
    | (with_reducible apply wf_ite <;> intro _)
    | with_reducible apply orReg_wf
    | with_reducible apply nvmPut_wf
    | fail_if_no_progress (with_reducible apply wf_mk)

/-- `gaspPanelDischargeOp` keeps the canonical form of the tables. -/
theorem gaspPanelDischargeOp_wf (s : State) (hw : Tables.wf s = true) :
    Tables.wf (gaspPanelDischargeOp s) = true := by
  unfold gaspPanelDischargeOp
  repeat' first
    | with_reducible assumption
    | (with_reducible apply wf_ite <;> intro _)
    | with_reducible apply startDischarge_wf
    | with_reducible apply orReg_wf
    | fail_if_no_progress (with_reducible apply wf_mk)

/-- `gaspSkips` keeps the canonical form of the tables. -/
theorem gaspSkips_wf (s0 : State) (hw : Tables.wf s0 = true) :
    Tables.wf (gaspSkips s0) = true := by
  unfold gaspSkips
  repeat' first
    | with_reducible assumption
    | (with_reducible apply wf_ite <;> intro _)
    | with_reducible apply settleUnit_wf
    | with_reducible apply gaspBureauCloseOp_wf
    | with_reducible apply gaspEnergySaveOp_wf
    | with_reducible apply gaspPanelDischargeOp_wf

/-- `gaspEndOp` keeps the canonical form of the tables. -/
theorem gaspEndOp_wf (s : State) (mv : Nat) (hw : Tables.wf s = true) :
    Tables.wf (gaspEndOp s mv) = true := by
  unfold gaspEndOp
  repeat' first
    | with_reducible assumption
    | (with_reducible apply wf_ite <;> intro _)
    | with_reducible apply gaspSkips_wf
    | with_reducible apply powerDown_wf
    | with_reducible apply setReg_wf

/-! ### WriteReg -/

/-- `tampCfgEvent` keeps the canonical form of the tables. -/
theorem tampCfgEvent_wf (s : State) (p n : Nat) (old new : Word) (hw : Tables.wf s = true) :
    Tables.wf (tampCfgEvent s p n old new) = true := by
  unfold tampCfgEvent
  repeat' first
    | with_reducible assumption
    | (with_reducible apply wf_ite <;> intro _)
    | with_reducible apply queueEvidence_wf
    | with_reducible apply deliver_wf

/-- `sealedChange` keeps the canonical form of the tables. -/
theorem sealedChange_wf (s : State) (p n : Nat) (old new : Word) (hw : Tables.wf s = true) :
    Tables.wf (sealedChange s p n old new) = true := by
  unfold sealedChange
  repeat' first
    | with_reducible assumption
    | (with_reducible apply wf_ite <;> intro _)
    | with_reducible apply syncSealed_wf
    | with_reducible apply breakSeal_wf

/-- `seqCtrl` keeps the canonical form of the tables. -/
theorem seqCtrl_wf (s : State) (v : Word) (hw : Tables.wf s = true) :
    Tables.wf (seqCtrl s v) = true := by
  unfold seqCtrl
  repeat' first
    | with_reducible assumption
    | fail_if_no_progress (with_reducible apply wf_mk)

/-- `writeEffect` keeps the canonical form of the tables. -/
theorem writeEffect_wf (s : State) (p : PortId) (n : Nat) (v old new : Word) (hw : Tables.wf s = true) :
    Tables.wf (writeEffect s p n v old new) = true := by
  unfold writeEffect
  repeat' first
    | with_reducible assumption
    | (with_reducible apply wf_ite <;> intro _)
    | with_reducible apply compareLow_wf
    | with_reducible apply releaseHeldOff_wf
    | with_reducible apply chooseLoad_wf
    | with_reducible apply seqCtrl_wf
    | with_reducible apply setReg_wf
    | with_reducible apply capCtrl_wf
    | with_reducible apply drainCheck_wf
    | with_reducible apply linksFollow_wf
    | with_reducible apply stageSettings_wf
    | with_reducible apply tampCfgEvent_wf
    | with_reducible apply syncShadow_wf
    | with_reducible apply flFollow_wf
    | with_reducible apply sealedChange_wf
    | fail_if_no_progress (with_reducible apply wf_mk)

/-- `writeReg` keeps the canonical form of the tables. -/
theorem writeReg_wf (s : State) (p : PortId) (n : Nat) (v : Word) (hw : Tables.wf s = true) :
    Tables.wf (writeReg s p n v) = true := by
  unfold writeReg
  repeat' first
    | with_reducible assumption
    | (with_reducible apply wf_ite <;> intro _)
    | with_reducible apply putCursor_wf
    | with_reducible apply memTo_wf
    | with_reducible apply writeEffect_wf
    | with_reducible apply setReg_wf
    | fail_if_no_progress (with_reducible apply wf_mk)
    | extract_lets
    | split

/-- `portWrite` keeps the canonical form of the tables. -/
theorem portWrite_wf (s : State) (p : PortId) (n : Nat) (v : Word) (hw : Tables.wf s = true) :
    Tables.wf (portWrite s p n v) = true := by
  unfold portWrite
  repeat' first
    | with_reducible assumption
    | (with_reducible apply wf_ite <;> intro _)
    | with_reducible apply writeReg_wf

/-! ### Nvm -/

/-- `nvmWait` keeps the canonical form of the tables. -/
theorem nvmWait_wf (s : State) (op : NvmOp) (hw : Tables.wf s = true) :
    Tables.wf (nvmWait s op) = true := by
  unfold nvmWait
  repeat' first
    | with_reducible assumption
    | fail_if_no_progress (with_reducible apply wf_mk)
    | fail_if_no_progress (with_reducible apply wf_mkNvm)

/-- `cfgSaveOp` keeps the canonical form of the tables. -/
theorem cfgSaveOp_wf (s : State) (l : Land) (c : Nat) (hw : Tables.wf s = true) :
    Tables.wf (cfgSaveOp s l c) = true := by
  unfold cfgSaveOp
  repeat' first
    | with_reducible assumption
    | (with_reducible apply wf_ite <;> intro _)
    | with_reducible apply answer_wf
    | with_reducible apply nvmWait_wf
    | with_reducible apply setBusy_wf

/-- `calSealOp` keeps the canonical form of the tables. -/
theorem calSealOp_wf (s : State) (l : Land) (c : Nat) (hw : Tables.wf s = true) :
    Tables.wf (calSealOp s l c) = true := by
  unfold calSealOp
  repeat' first
    | with_reducible assumption
    | (with_reducible apply wf_ite <;> intro _)
    | with_reducible apply answer_wf
    | with_reducible apply nvmWait_wf
    | with_reducible apply setBusy_wf

/-- `nvmBegin` keeps the canonical form of the tables. -/
theorem nvmBegin_wf (s : State) (op : NvmOp) (hw : Tables.wf s = true) :
    Tables.wf (nvmBegin s op) = true := by
  unfold nvmBegin
  repeat' first
    | with_reducible assumption
    | fail_if_no_progress (with_reducible apply wf_mk)
    | fail_if_no_progress (with_reducible apply wf_mkNvm)
    | extract_lets
    | split

/-- `nvmErases` keeps the canonical form of the tables. -/
theorem nvmErases_wf (s : State) (hw : Tables.wf s = true) :
    Tables.wf (nvmErases s) = true := by
  unfold nvmErases
  repeat' first
    | with_reducible assumption
    | (with_reducible apply wf_ite <;> intro _)
    | with_reducible apply nvmWait_wf
    | fail_if_no_progress (with_reducible apply wf_mk)
    | fail_if_no_progress (with_reducible apply wf_mkNvm)

/-- `nvmStart` keeps the canonical form of the tables. -/
theorem nvmStart_wf (s0 : State) (hw : Tables.wf s0 = true) :
    Tables.wf (nvmStart s0) = true := by
  unfold nvmStart
  repeat' first
    | with_reducible assumption
    | (with_reducible apply wf_ite <;> intro _)
    | with_reducible apply nvmErases_wf
    | with_reducible apply nvmBegin_wf
    | with_reducible apply nextFree_wf
    | extract_lets
    | split

/-- `nvmEnded` keeps the canonical form of the tables. -/
theorem nvmEnded_wf (s : State) (hw : Tables.wf s = true) :
    Tables.wf (nvmEnded s) = true := by
  unfold nvmEnded
  repeat' first
    | with_reducible assumption
    | (with_reducible apply wf_ite <;> intro _)
    | with_reducible apply orReg_wf
    | with_reducible apply releaseHeld_wf
    | with_reducible apply showWindows_wf
    | fail_if_no_progress (with_reducible apply wf_mk)
    | fail_if_no_progress (with_reducible apply wf_mkNvm)

/-- `nvmFollow` keeps the canonical form of the tables. -/
theorem nvmFollow_wf (s : State) (op : NvmOp) (hw : Tables.wf s = true) :
    Tables.wf (nvmFollow s op) = true := by
  unfold nvmFollow
  repeat' first
    | with_reducible assumption
    | (with_reducible apply wf_ite <;> intro _)
    | with_reducible apply nvmEnded_wf
    | with_reducible apply nvmBegin_wf
    | fail_if_no_progress (with_reducible apply wf_mk)
    | fail_if_no_progress (with_reducible apply wf_mkNvm)

/-- `programmed` keeps the canonical form of the tables. -/
theorem programmed_wf (s : State) (i : Nat) (b : List Byte) (ok : Bool) (hw : Tables.wf s = true) :
    Tables.wf (programmed s i b ok) = true := by
  unfold programmed
  repeat' first
    | with_reducible assumption
    | (with_reducible apply wf_ite <;> intro _)
    | with_reducible apply nvmPut_wf
    | with_reducible apply nextFree_wf

/-- `energySaveDoneOp` keeps the canonical form of the tables. -/
theorem energySaveDoneOp_wf (s : State) (ok : Bool) (hw : Tables.wf s = true) :
    Tables.wf (energySaveDoneOp s ok) = true := by
  unfold energySaveDoneOp
  repeat' first
    | with_reducible assumption
    | (with_reducible apply wf_ite <;> intro _)
    | with_reducible apply programmed_wf
    | with_reducible apply raise_wf
    | with_reducible apply nvmFollow_wf
    | with_reducible apply nvmEnded_wf
    | fail_if_no_progress (with_reducible apply wf_mk)
    | extract_lets
    | split

/-- `energyEraseDoneOp` keeps the canonical form of the tables. -/
theorem energyEraseDoneOp_wf (s : State) (hw : Tables.wf s = true) :
    Tables.wf (energyEraseDoneOp s) = true := by
  unfold energyEraseDoneOp
  repeat' first
    | with_reducible assumption
    | with_reducible apply nvmErase_wf
    | with_reducible apply nvmEnded_wf
    | fail_if_no_progress (with_reducible apply wf_mk)
    | extract_lets
    | split

/-- `recordDoneOp` keeps the canonical form of the tables. -/
theorem recordDoneOp_wf (s : State) (ok : Bool) (hw : Tables.wf s = true) :
    Tables.wf (recordDoneOp s ok) = true := by
  unfold recordDoneOp
  repeat' first
    | with_reducible assumption
    | (with_reducible apply wf_ite <;> intro _)
    | with_reducible apply programmed_wf
    | with_reducible apply stageMore_wf
    | with_reducible apply raise_wf
    | with_reducible apply addReg_wf
    | with_reducible apply nvmFollow_wf
    | with_reducible apply nvmEnded_wf
    | fail_if_no_progress (with_reducible apply wf_mk)
    | extract_lets
    | split

/-- `bureauEraseDoneOp` keeps the canonical form of the tables. -/
theorem bureauEraseDoneOp_wf (s : State) (hw : Tables.wf s = true) :
    Tables.wf (bureauEraseDoneOp s) = true := by
  unfold bureauEraseDoneOp
  repeat' first
    | with_reducible assumption
    | with_reducible apply nvmErase_wf
    | with_reducible apply nvmEnded_wf
    | fail_if_no_progress (with_reducible apply wf_mk)
    | extract_lets
    | split

/-- `timeStoreOp` keeps the canonical form of the tables. -/
theorem timeStoreOp_wf (s : State) (ok : Bool) (hw : Tables.wf s = true) :
    Tables.wf (timeStoreOp s ok) = true := by
  unfold timeStoreOp
  repeat' first
    | with_reducible assumption
    | (with_reducible apply wf_ite <;> intro _)
    | with_reducible apply programmed_wf
    | with_reducible apply nvmFollow_wf
    | with_reducible apply nvmEnded_wf
    | fail_if_no_progress (with_reducible apply wf_mk)
    | extract_lets
    | split

/-- `timeEraseDoneOp` keeps the canonical form of the tables. -/
theorem timeEraseDoneOp_wf (s : State) (hw : Tables.wf s = true) :
    Tables.wf (timeEraseDoneOp s) = true := by
  unfold timeEraseDoneOp
  repeat' first
    | with_reducible assumption
    | with_reducible apply nvmEnded_wf
    | with_reducible apply nvmErase_wf
    | split

/-- `closeEvidence` keeps the canonical form of the tables. -/
theorem closeEvidence_wf (s : State) (hw : Tables.wf s = true) :
    Tables.wf (closeEvidence s) = true := by
  unfold closeEvidence
  repeat' first
    | with_reducible assumption
    | (with_reducible apply wf_ite <;> intro _)
    | with_reducible apply deliver_wf
    | with_reducible apply loseEvidence_wf
    | with_reducible apply nvmFollow_wf
    | fail_if_no_progress (with_reducible apply wf_mk)
    | fail_if_no_progress (with_reducible apply wf_mkAon)

/-- `evidenceDoneOp` keeps the canonical form of the tables. -/
theorem evidenceDoneOp_wf (s : State) (ok : Bool) (hw : Tables.wf s = true) :
    Tables.wf (evidenceDoneOp s ok) = true := by
  unfold evidenceDoneOp
  repeat' first
    | with_reducible assumption
    | (with_reducible apply wf_ite <;> intro _)
    | with_reducible apply nvmPut_wf
    | with_reducible apply nextFree_wf
    | with_reducible apply raise_wf
    | with_reducible apply addReg_wf
    | with_reducible apply closeEvidence_wf
    | with_reducible apply loseEvidence_wf
    | with_reducible apply nvmEnded_wf
    | fail_if_no_progress (with_reducible apply wf_mk)
    | fail_if_no_progress (with_reducible apply wf_mkAon)
    | extract_lets
    | split

/-- `eraseOver` keeps the canonical form of the tables. -/
theorem eraseOver_wf (s : State) (i n : Nat) (hw : Tables.wf s = true) :
    Tables.wf (eraseOver s i n) = true := by
  unfold eraseOver
  repeat' first
    | with_reducible assumption
    | (with_reducible apply wf_ite <;> intro _)
    | with_reducible apply nvmEnded_wf
    | with_reducible apply nvmErase_wf
    | fail_if_no_progress (with_reducible apply wf_mk)
    | fail_if_no_progress (with_reducible apply wf_mkNvm)

/-- `eraseTick` keeps the canonical form of the tables. -/
theorem eraseTick_wf (s : State) (hw : Tables.wf s = true) :
    Tables.wf (eraseTick s) = true := by
  unfold eraseTick
  repeat' first
    | with_reducible assumption
    | with_reducible apply eraseOver_wf
    | fail_if_no_progress (with_reducible apply wf_mk)
    | split

/-- `cfgSaveDoneOp` keeps the canonical form of the tables. -/
theorem cfgSaveDoneOp_wf (s : State) (hw : Tables.wf s = true) :
    Tables.wf (cfgSaveDoneOp s) = true := by
  unfold cfgSaveDoneOp
  repeat' first
    | with_reducible assumption
    | with_reducible apply nvmPut_wf
    | with_reducible apply nvmErase_wf
    | with_reducible apply deliver_wf
    | with_reducible apply finish_wf
    | with_reducible apply nvmEnded_wf
    | with_reducible apply settleUnit_wf
    | fail_if_no_progress (with_reducible apply wf_mk)
    | extract_lets
    | split

/-- `calSealDoneOp` keeps the canonical form of the tables. -/
theorem calSealDoneOp_wf (s : State) (hw : Tables.wf s = true) :
    Tables.wf (calSealDoneOp s) = true := by
  unfold calSealDoneOp
  repeat' first
    | with_reducible assumption
    | (with_reducible apply wf_ite <;> intro _)
    | with_reducible apply nvmPut_wf
    | with_reducible apply nvmErase_wf
    | with_reducible apply nvmEnded_wf
    | with_reducible apply setSeal_wf
    | with_reducible apply deliver_wf
    | with_reducible apply finish_wf
    | with_reducible apply queueEvidence_wf
    | with_reducible apply settleUnit_wf
    | fail_if_no_progress (with_reducible apply wf_mk)
    | extract_lets
    | split

/-- `periodicSaveOp` keeps the canonical form of the tables. -/
theorem periodicSaveOp_wf (s : State) (hw : Tables.wf s = true) :
    Tables.wf (periodicSaveOp s) = true := by
  unfold periodicSaveOp
  repeat' first
    | with_reducible assumption
    | (with_reducible apply wf_ite <;> intro _)
    | with_reducible apply mark_wf
    | fail_if_no_progress (with_reducible apply wf_mk)

/-- `energyTime` keeps the canonical form of the tables. -/
theorem energyTime_wf (s : State) (hw : Tables.wf s = true) :
    Tables.wf (energyTime s) = true := by
  unfold energyTime
  repeat' first
    | with_reducible assumption
    | (with_reducible apply wf_ite <;> intro _)
    | fail_if_no_progress (with_reducible apply wf_mk)

/-! ### Load -/

/-- `loadEntry` keeps the canonical form of the tables. -/
theorem loadEntry_wf (s : State) (n : Nat) (v : Word) (hw : Tables.wf s = true) :
    Tables.wf (loadEntry s n v) = true := by
  unfold loadEntry
  repeat' first
    | with_reducible assumption
    | (with_reducible apply wf_ite <;> intro _)
    | with_reducible apply setReg_wf
    | with_reducible apply setForce_wf
    | with_reducible apply syncSealed_wf
    | with_reducible apply syncShadow_wf
    | fail_if_no_progress (with_reducible apply wf_mk)
    | extract_lets
    | split

/-- `loadEntries` keeps the canonical form of the tables. -/
theorem loadEntries_wf (k : Nat) : ∀ (s : State) (l : List Byte), Tables.wf s = true → Tables.wf (loadEntries s l k) = true := by
  induction k with
  | zero => intro s l hw; exact hw
  | succ k ih => intro s l hw; exact ih _ _ (loadEntry_wf _ _ _ hw)

/-- `loadPins` keeps the canonical form of the tables. -/
theorem loadPins_wf (s : State) (hw : Tables.wf s = true) :
    Tables.wf (loadPins s) = true := by
  unfold loadPins
  repeat' first
    | with_reducible assumption
    | with_reducible apply applyPinmux_wf

/-- `loadFollow` keeps the canonical form of the tables. -/
theorem loadFollow_wf (s : State) (hw : Tables.wf s = true) :
    Tables.wf (loadFollow s) = true := by
  unfold loadFollow
  repeat' first
    | with_reducible assumption
    | with_reducible apply chooseLoad_wf
    | with_reducible apply levelLow_wf
    | with_reducible apply stageSettings_wf
    | fail_if_no_progress (with_reducible apply wf_mk)
    | fail_if_no_progress (with_reducible apply wf_mkMem)

/-- `loadCopy` keeps the canonical form of the tables. -/
theorem loadCopy_wf (s : State) (b : List Byte) (hw : Tables.wf s = true) :
    Tables.wf (loadCopy s b) = true := by
  have h1 : ∀ l, swf zeroByte (sputs zeroByte [] 0 l) = true := fun l => swf_sputs _ _ _ _ rfl
  have h2 : ∀ l m, swf (fun _ => (0 : Word)) (sputs (fun _ => (0 : Word)) (sputs (fun _ => (0 : Word)) [] 0 l) 256 m) = true :=
    fun l m => swf_sputs _ _ _ _ (swf_sputs _ _ _ _ rfl)
  unfold loadCopy
  with_reducible apply loadFollow_wf
  with_reducible apply loadEntries_wf
  rw [Tables.wf_iff] at hw ⊢
  obtain ⟨a, b, c, d, e, f, g, i, j⟩ := hw
  with_reducible exact ⟨a, b, c, d, e, f, g, h1 _, h2 _ _⟩

/-- `loadEnergy` keeps the canonical form of the tables. -/
theorem loadEnergy_wf (s : State) (b : List Byte) (hw : Tables.wf s = true) :
    Tables.wf (loadEnergy s b) = true := by
  unfold loadEnergy
  repeat' first
    | with_reducible assumption
    | with_reducible apply putWide_wf
    | with_reducible apply setReg_wf
    | (with_reducible apply wf_foldl; intro _ _ _; try beta_reduce)
    | fail_if_no_progress (with_reducible apply wf_mk)

/-- `surveyEnergy` keeps the canonical form of the tables. -/
theorem surveyEnergy_wf (s : State) (hw : Tables.wf s = true) :
    Tables.wf (surveyEnergy s) = true := by
  unfold surveyEnergy
  repeat' first
    | with_reducible assumption
    | (with_reducible apply wf_ite <;> intro _)
    | with_reducible apply nvmWait_wf
    | fail_if_no_progress (with_reducible apply wf_mk)
    | extract_lets
    | split

/-- `restoreEnergy` keeps the canonical form of the tables. -/
theorem restoreEnergy_wf (s : State) (hw : Tables.wf s = true) :
    Tables.wf (restoreEnergy s) = true := by
  unfold restoreEnergy
  repeat' first
    | with_reducible assumption
    | (with_reducible apply wf_ite <;> intro _)
    | with_reducible apply surveyEnergy_wf
    | with_reducible apply loadEnergy_wf
    | with_reducible apply raise_wf
    | fail_if_no_progress (with_reducible apply wf_mk)
    | extract_lets
    | split

/-- `restoreEvidence` keeps the canonical form of the tables. -/
theorem restoreEvidence_wf (s : State) (hw : Tables.wf s = true) :
    Tables.wf (restoreEvidence s) = true := by
  unfold restoreEvidence
  repeat' first
    | with_reducible assumption
    | (with_reducible apply wf_ite <;> intro _)
    | with_reducible apply deliver_wf
    | with_reducible apply raise_wf
    | with_reducible apply addReg_wf
    | with_reducible apply nvmWait_wf
    | fail_if_no_progress (with_reducible apply wf_mk)
    | fail_if_no_progress (with_reducible apply wf_mkAon)

/-- `eraseAgain` keeps the canonical form of the tables. -/
theorem eraseAgain_wf (s : State) (used : Nat) (hw : Tables.wf s = true) :
    Tables.wf (eraseAgain s used) = true := by
  unfold eraseAgain
  repeat' first
    | with_reducible assumption
    | (with_reducible apply wf_ite <;> intro _)
    | with_reducible apply nvmWait_wf
    | (with_reducible apply wf_foldl; intro _ _ _; try beta_reduce)

/-- `heldLeads` keeps the canonical form of the tables. -/
theorem heldLeads_wf (s : State) (hw : Tables.wf s = true) :
    Tables.wf (heldLeads s) = true := by
  unfold heldLeads
  repeat' first
    | with_reducible assumption
    | with_reducible apply setForce_wf
    | with_reducible apply setReg_wf

/-- `coldEnds` keeps the canonical form of the tables. -/
theorem coldEnds_wf (s : State) (hw : Tables.wf s = true) :
    Tables.wf (coldEnds s) = true := by
  unfold coldEnds
  repeat' first
    | with_reducible assumption
    | (with_reducible apply wf_ite <;> intro _)
    | with_reducible apply raise_wf
    | with_reducible apply mark_wf
    | with_reducible apply loadPins_wf
    | fail_if_no_progress (with_reducible apply wf_mk)

/-- `coldEndOp` keeps the canonical form of the tables. -/
theorem coldEndOp_wf (s : State) (hw : Tables.wf s = true) :
    Tables.wf (coldEndOp s) = true := by
  unfold coldEndOp
  repeat' first
    | with_reducible assumption
    | (with_reducible apply wf_ite <;> intro _)
    | with_reducible apply coldEnds_wf

/-- `loadChosen` keeps the canonical form of the tables. -/
theorem loadChosen_wf (s0 : State) (hw : Tables.wf s0 = true) :
    Tables.wf (loadChosen s0) = true := by
  unfold loadChosen
  repeat' first
    | with_reducible assumption
    | with_reducible apply loadCopy_wf
    | with_reducible apply raiseIf_wf
    | with_reducible apply raise_wf
    | fail_if_no_progress (with_reducible apply wf_mk)
    | extract_lets
    | split

/-- `loadRestores` keeps the canonical form of the tables. -/
theorem loadRestores_wf (s : State) (hw : Tables.wf s = true) :
    Tables.wf (loadRestores s) = true := by
  unfold loadRestores
  repeat' first
    | with_reducible assumption
    | (with_reducible apply wf_ite <;> intro _)
    | with_reducible apply surveyEnergy_wf
    | with_reducible apply restoreEnergy_wf
    | with_reducible apply decideSeal_wf
    | with_reducible apply restoreEvidence_wf
    | with_reducible apply restoreBureau_wf
    | with_reducible apply eraseAgain_wf

/-- `loadSteps` keeps the canonical form of the tables. -/
theorem loadSteps_wf (s : State) (hw : Tables.wf s = true) :
    Tables.wf (loadSteps s) = true := by
  unfold loadSteps
  repeat' first
    | with_reducible assumption
    | with_reducible apply loadRestores_wf
    | with_reducible apply loadChosen_wf

/-- `loadEnds` keeps the canonical form of the tables. -/
theorem loadEnds_wf (s0 : State) (hw : Tables.wf s0 = true) :
    Tables.wf (loadEnds s0) = true := by
  unfold loadEnds
  repeat' first
    | with_reducible assumption
    | (with_reducible apply wf_ite <;> intro _)
    | with_reducible apply mark_wf
    | with_reducible apply loadSteps_wf
    | with_reducible apply raiseIf_wf
    | with_reducible apply raise_wf
    | with_reducible apply modeAfterLoad_wf
    | with_reducible apply loadPins_wf
    | with_reducible apply takeEvents_wf
    | with_reducible apply startEvents_wf
    | with_reducible apply hutchAuto_wf
    | with_reducible apply flRaise_wf
    | fail_if_no_progress (with_reducible apply wf_mk)

/-- `coldReset` keeps the canonical form of the tables. -/
theorem coldReset_wf (s : State) (hw : Tables.wf s = true) :
    Tables.wf (coldReset s) = true := by
  unfold coldReset
  with_reducible apply wf_mkAon
  with_reducible apply levelLow_wf
  with_reducible apply chooseLoad_wf
  with_reducible apply setReg_wf
  with_reducible apply heldLeads_wf
  rw [Tables.wf_iff] at hw ⊢
  obtain ⟨a, b, c, d, e, f, g, i, j⟩ := hw
  exact ⟨a, b, c, resetRegs_wf.1, e, resetRegs_wf.2.1, resetRegs_wf.2.2.1, rfl, rfl⟩

/-- `softReset` keeps the canonical form of the tables. -/
theorem softReset_wf (s : State) (hw : Tables.wf s = true) :
    Tables.wf (softReset s) = true := by
  unfold softReset
  with_reducible apply mark_wf
  with_reducible apply wf_mk
  with_reducible apply compareLow_wf
  with_reducible apply chooseLoad_wf
  with_reducible apply linksFollow_wf
  with_reducible apply heldLeads_wf
  with_reducible apply addReg_wf
  rw [Tables.wf_iff] at hw ⊢
  obtain ⟨a, b, c, d, e, f, g, i, j⟩ := hw
  exact ⟨a, b, c, resetRegs_wf.1, e, resetRegs_wf.2.1, resetRegs_wf.2.2.1, i, j⟩

/-- `orderlyStopOp` keeps the canonical form of the tables. -/
theorem orderlyStopOp_wf (s : State) (hw : Tables.wf s = true) :
    Tables.wf (orderlyStopOp s) = true := by
  unfold orderlyStopOp
  repeat' first
    | with_reducible assumption
    | (with_reducible apply wf_ite <;> intro _)
    | with_reducible apply closeOpen_wf
    | with_reducible apply hutchStop_wf
    | fail_if_no_progress (with_reducible apply wf_mk)

/-- `softResetOp` keeps the canonical form of the tables. -/
theorem softResetOp_wf (s : State) (hw : Tables.wf s = true) :
    Tables.wf (softResetOp s) = true := by
  unfold softResetOp
  repeat' first
    | with_reducible assumption
    | (with_reducible apply wf_ite <;> intro _)
    | with_reducible apply softReset_wf

/-- `loadEndOp` keeps the canonical form of the tables. -/
theorem loadEndOp_wf (s : State) (hw : Tables.wf s = true) :
    Tables.wf (loadEndOp s) = true := by
  unfold loadEndOp
  repeat' first
    | with_reducible assumption
    | (with_reducible apply wf_ite <;> intro _)
    | with_reducible apply softReset_wf
    | with_reducible apply releaseHeldOff_wf
    | with_reducible apply loadChosen_wf
    | with_reducible apply loadEnds_wf

/-- `holdRestoreOp` keeps the canonical form of the tables. -/
theorem holdRestoreOp_wf (s : State) (hw : Tables.wf s = true) :
    Tables.wf (holdRestoreOp s) = true := by
  unfold holdRestoreOp
  repeat' first
    | with_reducible assumption
    | (with_reducible apply wf_ite <;> intro _)
    | with_reducible apply takeEvents_wf
    | with_reducible apply startEvents_wf
    | with_reducible apply restoreBureau_wf
    | with_reducible apply surveyEnergy_wf
    | fail_if_no_progress (with_reducible apply wf_mk)

/-! ### Foreground -/

/-- `applyPub` keeps the canonical form of the tables. -/
theorem applyPub_wf (s : State) (p : Pub) (hw : Tables.wf s = true) :
    Tables.wf (applyPub s p) = true := by
  unfold applyPub
  repeat' first
    | with_reducible assumption
    | with_reducible apply setReg_wf
    | with_reducible apply orReg_wf
    | with_reducible apply clearReg_wf
    | with_reducible apply addReg_wf
    | with_reducible apply incMod_wf
    | with_reducible apply raise_wf
    | split

/-- `applyPubs` keeps the canonical form of the tables. -/
theorem applyPubs_wf (s : State) (hw : Tables.wf s = true) :
    Tables.wf (applyPubs s) = true := by
  unfold applyPubs
  repeat' first
    | with_reducible assumption
    | with_reducible apply applyPub_wf
    | (with_reducible apply wf_foldl; intro _ _ _; try beta_reduce)
    | fail_if_no_progress (with_reducible apply wf_mk)

/-- `item16` keeps the canonical form of the tables. -/
theorem item16_wf (s : State) (hw : Tables.wf s = true) :
    Tables.wf (item16 s) = true := by
  unfold item16
  repeat' first
    | with_reducible assumption
    | with_reducible apply applyPubs_wf
    | with_reducible apply procEnded_wf
    | with_reducible apply harmPublish_wf
    | with_reducible apply publishEnergy_wf
    | fail_if_no_progress (with_reducible apply wf_mk)

/-- `runItem` keeps the canonical form of the tables. -/
theorem runItem_wf (s : State) (m : Nat) (hw : Tables.wf s = true) :
    Tables.wf (runItem s m) = true := by
  unfold runItem
  repeat' first
    | with_reducible assumption
    | with_reducible apply item2_wf
    | with_reducible apply item3_wf
    | with_reducible apply item4_wf
    | with_reducible apply item5_wf
    | with_reducible apply item6_wf
    | with_reducible apply item7_wf
    | with_reducible apply item8_wf
    | with_reducible apply item9_wf
    | with_reducible apply item10_wf
    | with_reducible apply item11_wf
    | with_reducible apply item12_wf
    | with_reducible apply item13_wf
    | with_reducible apply item14_wf
    | with_reducible apply item15_wf
    | with_reducible apply item16_wf
    | split

/-- `itemStep` keeps the canonical form of the tables. -/
theorem itemStep_wf (s : State) (hw : Tables.wf s = true) :
    Tables.wf (itemStep s) = true := by
  unfold itemStep
  repeat' first
    | with_reducible assumption
    | (with_reducible apply wf_ite <;> intro _)
    | with_reducible apply runItem_wf
    | with_reducible apply applyPubs_wf
    | fail_if_no_progress (with_reducible apply wf_mk)

/-- `runUntil` keeps the canonical form of the tables. -/
theorem runUntil_wf (n : Nat) : ∀ (s : State) (c : Nat), Tables.wf s = true → Tables.wf (runUntil n s c) = true := by
  induction n with
  | zero => intro s c hw; exact hw
  | succ n ih =>
    intro s c hw
    simp only [runUntil]
    split
    · exact ih _ _ (itemStep_wf _ hw)
    · exact hw

/-- `replyNow` keeps the canonical form of the tables. -/
theorem replyNow_wf (s : State) (p : PortId) (way : Option From) (tag : Byte) (status c k : Nat) (hw : Tables.wf s = true) :
    Tables.wf (replyNow s p way tag status c k) = true := by
  unfold replyNow
  repeat' first
    | with_reducible assumption
    | with_reducible apply answerAt_wf
    | fail_if_no_progress (with_reducible apply wf_mk)
    | extract_lets
    | split

/-- `refuse` keeps the canonical form of the tables. -/
theorem refuse_wf (s : State) (p : PortId) (way : Option From) (e : Exec) (hw : Tables.wf s = true) :
    Tables.wf (refuse s p way e) = true := by
  unfold refuse
  repeat' first
    | with_reducible assumption
    | (with_reducible apply wf_ite <;> intro _)
    | with_reducible apply raise_wf
    | with_reducible apply authFailure_wf
    | with_reducible apply replyNow_wf

/-- `refuseWhen` keeps the canonical form of the tables. -/
theorem refuseWhen_wf (f : Exec → Bool) (s : State) (p : PortId) (hw : Tables.wf s = true) :
    Tables.wf (refuseWhen f s p) = true := by
  unfold refuseWhen
  repeat' first
    | with_reducible assumption
    | (with_reducible apply wf_ite <;> intro _)
    | with_reducible apply refuse_wf
    | with_reducible apply putPort_wf
    | fail_if_no_progress (with_reducible apply wf_mk)
    | extract_lets
    | split

/-- `refusalsBy` keeps the canonical form of the tables. -/
theorem refusalsBy_wf (s : State) (c : Nat) (hw : Tables.wf s = true) :
    Tables.wf (refusalsBy s c) = true := by
  unfold refusalsBy
  repeat' first
    | with_reducible assumption
    | (with_reducible apply wf_ite <;> intro _)
    | with_reducible apply refuseWhen_wf
    | (with_reducible apply wf_foldl; intro _ _ _; try beta_reduce)

/-- `keyTakes` keeps the canonical form of the tables. -/
theorem keyTakes_wf (s : State) (k : Bool × BitVec 128) (hw : Tables.wf s = true) :
    Tables.wf (keyTakes s k) = true := by
  unfold keyTakes
  repeat' first
    | with_reducible assumption
    | (with_reducible apply wf_ite <;> intro _)
    | with_reducible apply raise_wf
    | with_reducible apply installKey_wf
    | fail_if_no_progress (with_reducible apply wf_mk)

/-- `keysBy` keeps the canonical form of the tables. -/
theorem keysBy_wf (s : State) (c : Nat) (hw : Tables.wf s = true) :
    Tables.wf (keysBy s c) = true := by
  unfold keysBy
  repeat' first
    | with_reducible assumption
    | with_reducible apply keyTakes_wf
    | (with_reducible apply wf_foldl; intro _ _ _; try beta_reduce)
    | fail_if_no_progress (with_reducible apply wf_mk)

/-- `portsBy` keeps the canonical form of the tables. -/
theorem portsBy_wf (s : State) (c : Nat) (hw : Tables.wf s = true) :
    Tables.wf (portsBy s c) = true := by
  unfold portsBy
  repeat' first
    | with_reducible assumption
    | with_reducible apply cursorsBy_wf
    | with_reducible apply repliesDue_wf
    | with_reducible apply keysBy_wf
    | with_reducible apply refusalsBy_wf

/-- `runTo` keeps the canonical form of the tables. -/
theorem runTo_wf (s : State) (c : Nat) (hw : Tables.wf s = true) :
    Tables.wf (runTo s c) = true := by
  unfold runTo
  repeat' first
    | with_reducible assumption
    | with_reducible apply portsBy_wf
    | with_reducible apply runUntil_wf
    | with_reducible apply parksBy_wf

/-- `runAll` keeps the canonical form of the tables. -/
theorem runAll_wf (s : State) (hw : Tables.wf s = true) :
    Tables.wf (runAll s) = true := by
  unfold runAll
  repeat' first
    | with_reducible assumption
    | with_reducible apply runTo_wf

/-- `runThrough` keeps the canonical form of the tables. -/
theorem runThrough_wf (n : Nat) : ∀ (s : State) (m : Nat), Tables.wf s = true → Tables.wf (runThrough n s m) = true := by
  induction n with
  | zero => intro s c hw; exact hw
  | succ n ih =>
    intro s c hw
    simp only [runThrough]
    split
    · exact ih _ _ (itemStep_wf _ hw)
    · exact hw

/-- `itemEvent` keeps the canonical form of the tables. -/
theorem itemEvent_wf (s : State) (m : Nat) (d : Did) (hw : Tables.wf s = true) :
    Tables.wf (itemEvent s m d) = true := by
  unfold itemEvent
  repeat' first
    | with_reducible assumption
    | (with_reducible apply wf_ite <;> intro _)
    | with_reducible apply runThrough_wf

/-- `boundaryEvent` keeps the canonical form of the tables. -/
theorem boundaryEvent_wf (s : State) (due : State → Bool) (f : State → State) (hw : Tables.wf s = true) (h_f : ∀ t, Tables.wf t = true → Tables.wf (f t) = true) :
    Tables.wf (boundaryEvent s due f) = true := by
  unfold boundaryEvent
  repeat' first
    | with_reducible assumption
    | (with_reducible apply h_f)
    | (with_reducible apply wf_ite <;> intro _)
    | with_reducible apply runAll_wf

/-! ### Opcodes -/

/-- `landed` keeps the canonical form of the tables. -/
theorem landed_wf (s : State) (p : PortId) (hw : Tables.wf s = true) :
    Tables.wf (landed s p) = true := by
  unfold landed
  repeat' first
    | with_reducible assumption
    | (with_reducible apply wf_ite <;> intro _)
    | with_reducible apply putPort_wf
    | fail_if_no_progress (with_reducible apply wf_mk)

/-- `landing` keeps the canonical form of the tables. -/
theorem landing_wf (s : State) (l : Land) (n : Nat) (f : State → Nat → State)
    (hf : ∀ t c, Tables.wf t = true → Tables.wf (f t c) = true) (hw : Tables.wf s = true) :
    Tables.wf (landing s l n f) = true := by
  unfold landing
  repeat' first
    | with_reducible assumption
    | (with_reducible apply wf_ite <;> intro _)
    | with_reducible apply answerAt_wf
    | with_reducible apply landed_wf
    | with_reducible apply putPort_wf
    | with_reducible apply runTo_wf
    | with_reducible apply hf
    | fail_if_no_progress (with_reducible apply wf_mk)

/-- `nopOp` keeps the canonical form of the tables. -/
theorem nopOp_wf (l : Land) (s : State) (c : Nat) (hw : Tables.wf s = true) :
    Tables.wf (nopOp l s c) = true := by
  unfold nopOp
  repeat' first
    | with_reducible assumption
    | with_reducible apply answer_wf

/-- `atCycle` keeps the canonical form of the tables. -/
theorem atCycle_wf (s : State) (c : Nat) (hw : Tables.wf s = true) :
    Tables.wf (atCycle s c) = true := by
  unfold atCycle
  repeat' first
    | with_reducible assumption
    | fail_if_no_progress (with_reducible apply wf_mk)

/-- `rdValues` keeps the canonical form of the tables. -/
theorem rdValues_wf (p : PortId) (l : List (BitVec 12)) : ∀ (s : State) (c : Nat), Tables.wf s = true →
    Tables.wf (rdValues p s c l).1 = true := by
  induction l with
  | nil => intro s c hw; exact hw
  | cons n r ih => intro s c hw; exact ih _ _ (atCycle_wf _ _ (runTo_wf _ _ hw))

/-- `rdOp` keeps the canonical form of the tables. -/
theorem rdOp_wf (l : Land) (regs : List (BitVec 12)) (s : State) (c : Nat) (hw : Tables.wf s = true) :
    Tables.wf (rdOp l regs s c) = true := by
  unfold rdOp
  repeat' first
    | with_reducible assumption
    | (with_reducible apply wf_ite <;> intro _)
    | with_reducible apply answer_wf
    | with_reducible apply rdValues_wf
    | extract_lets
    | split

/-- `snapOp` keeps the canonical form of the tables. -/
theorem snapOp_wf (l : Land) (regs : List (BitVec 12)) (s : State) (c : Nat) (hw : Tables.wf s = true) :
    Tables.wf (snapOp l regs s c) = true := by
  unfold snapOp
  repeat' first
    | with_reducible assumption
    | (with_reducible apply wf_ite <;> intro _)
    | with_reducible apply answer_wf
    | split

/-- `writePairs` keeps the canonical form of the tables. -/
theorem writePairs_wf (p : PortId) (l : List (BitVec 12 × Word)) : ∀ (s : State), Tables.wf s = true →
    Tables.wf (writePairs p s l) = true := by
  induction l with
  | nil => intro s hw; exact hw
  | cons n r ih => intro s hw; exact ih _ (writeReg_wf _ _ _ _ hw)

/-- `writeAtOnce` keeps the canonical form of the tables. -/
theorem writeAtOnce_wf (p : PortId) (s : State) (l : List (BitVec 12 × Word)) (hw : Tables.wf s = true) :
    Tables.wf (writeAtOnce p s l) = true := by
  unfold writeAtOnce
  repeat' first
    | with_reducible assumption
    | with_reducible apply writePairs_wf

/-- `wrOp` keeps the canonical form of the tables. -/
theorem wrOp_wf (l : Land) (flip : BitVec 6) (pairs : List (BitVec 12 × Word)) (s : State) (c : Nat) (hw : Tables.wf s = true) :
    Tables.wf (wrOp l flip pairs s c) = true := by
  unfold wrOp
  repeat' first
    | with_reducible assumption
    | (with_reducible apply wf_ite <;> intro _)
    | with_reducible apply answer_wf
    | with_reducible apply logicFault_wf
    | with_reducible apply writeAtOnce_wf

/-- `rmwTriples` keeps the canonical form of the tables. -/
theorem rmwTriples_wf (p : PortId) (l : List (BitVec 12 × Word × Word)) : ∀ (s : State) (c : Nat), Tables.wf s = true →
    Tables.wf (rmwTriples p s c l).1 = true := by
  induction l with
  | nil => intro s c hw; exact hw
  | cons n r ih => intro s c hw; exact ih _ _ (writeReg_wf _ _ _ _ (atCycle_wf _ _ (runTo_wf _ _ hw)))

/-- `rmwOp` keeps the canonical form of the tables. -/
theorem rmwOp_wf (l : Land) (flip : BitVec 6) (ts : List (BitVec 12 × Word × Word)) (s : State) (c : Nat) (hw : Tables.wf s = true) :
    Tables.wf (rmwOp l flip ts s c) = true := by
  unfold rmwOp
  repeat' first
    | with_reducible assumption
    | (with_reducible apply wf_ite <;> intro _)
    | with_reducible apply answer_wf
    | with_reducible apply logicFault_wf
    | with_reducible apply rmwTriples_wf
    | extract_lets
    | split

/-- `commitOp` keeps the canonical form of the tables. -/
theorem commitOp_wf (l : Land) (groups : BitVec 5) (s : State) (c : Nat) (hw : Tables.wf s = true) :
    Tables.wf (commitOp l groups s c) = true := by
  unfold commitOp
  repeat' first
    | with_reducible assumption
    | with_reducible apply answer_wf
    | fail_if_no_progress (with_reducible apply wf_mk)

/-- `regWords` keeps the canonical form of the tables. -/
theorem regWords_wf (p : PortId) (k : Nat) : ∀ (s : State) (c n : Nat), Tables.wf s = true →
    Tables.wf (regWords p s c n k).1 = true := by
  induction k with
  | zero => intro s c n hw; exact hw
  | succ k ih => intro s c n hw; exact ih _ _ _ (atCycle_wf _ _ (runTo_wf _ _ hw))

/-- `memRegs` keeps the canonical form of the tables. -/
theorem memRegs_wf (l : Land) (va count pa : Nat) (s : State) (c : Nat) (hw : Tables.wf s = true) :
    Tables.wf (memRegs l va count pa s c) = true := by
  unfold memRegs
  repeat' first
    | with_reducible assumption
    | with_reducible apply lookupTime_wf
    | with_reducible apply regWords_wf
    | with_reducible apply answerAt_wf

/-- `memRdOp` keeps the canonical form of the tables. -/
theorem memRdOp_wf (l : Land) (va : BitVec 24) (count : Nat) (s : State) (c : Nat) (hw : Tables.wf s = true) :
    Tables.wf (memRdOp l va count s c) = true := by
  unfold memRdOp
  repeat' first
    | with_reducible assumption
    | (with_reducible apply wf_ite <;> intro _)
    | with_reducible apply answer_wf
    | with_reducible apply memRegs_wf
    | with_reducible apply memStart_wf
    | fail_if_no_progress (with_reducible apply wf_mk)
    | split

/-- `memWrOp` keeps the canonical form of the tables. -/
theorem memWrOp_wf (l : Land) (va : BitVec 24) (data : List Byte) (s : State) (c : Nat) (hw : Tables.wf s = true) :
    Tables.wf (memWrOp l va data s c) = true := by
  unfold memWrOp
  repeat' first
    | with_reducible assumption
    | (with_reducible apply wf_ite <;> intro _)
    | with_reducible apply answer_wf
    | with_reducible apply memStart_wf

/-- `memAtomOp` keeps the canonical form of the tables. -/
theorem memAtomOp_wf (l : Land) (k : AccKind) (va : BitVec 24) (op1 op2 : BitVec 32) (s : State) (c : Nat) (hw : Tables.wf s = true) :
    Tables.wf (memAtomOp l k va op1 op2 s c) = true := by
  unfold memAtomOp
  repeat' first
    | with_reducible assumption
    | (with_reducible apply wf_ite <;> intro _)
    | with_reducible apply answer_wf
    | with_reducible apply memStart_wf

/-- `convertOp` keeps the canonical form of the tables. -/
theorem convertOp_wf (l : Land) (e : Word) (s : State) (c : Nat) (hw : Tables.wf s = true) :
    Tables.wf (convertOp l e s c) = true := by
  unfold convertOp
  repeat' first
    | with_reducible assumption
    | (with_reducible apply wf_ite <;> intro _)
    | with_reducible apply answer_wf
    | with_reducible apply convertNowOp_wf
    | fail_if_no_progress (with_reducible apply wf_mk)

/-- `convertDropped` keeps the canonical form of the tables. -/
theorem convertDropped_wf (s : State) (c : Nat) (w : Waiting) (hw : Tables.wf s = true) :
    Tables.wf (convertDropped s c w) = true := by
  unfold convertDropped
  repeat' first
    | with_reducible assumption
    | with_reducible apply finishAt_wf
    | with_reducible apply raise_wf
    | with_reducible apply incReg_wf
    | fail_if_no_progress (with_reducible apply wf_mk)

/-- `trigEdgeRow` keeps the canonical form of the tables. -/
theorem trigEdgeRow_wf (s : State) (rising : Bool) (cyc : Nat) (hw : Tables.wf s = true) :
    Tables.wf (trigEdgeRow s rising cyc) = true := by
  unfold trigEdgeRow
  repeat' first
    | with_reducible assumption
    | with_reducible apply convertDropped_wf
    | with_reducible apply trigEdgeOp_wf
    | fail_if_no_progress (with_reducible apply wf_mk)
    | extract_lets
    | split

/-- `stoolCtrlOp` keeps the canonical form of the tables. -/
theorem stoolCtrlOp_wf (l : Land) (action slice : Nat) (s : State) (c : Nat) (hw : Tables.wf s = true) :
    Tables.wf (stoolCtrlOp l action slice s c) = true := by
  unfold stoolCtrlOp
  repeat' first
    | with_reducible assumption
    | with_reducible apply stoolCtrl_wf
    | with_reducible apply answer_wf

/-- `rectOpcode` keeps the canonical form of the tables. -/
theorem rectOpcode_wf (l : Land) (x0 y0 w h : Nat) (s : State) (c : Nat) (hw : Tables.wf s = true) :
    Tables.wf (rectOpcode l x0 y0 w h s c) = true := by
  unfold rectOpcode
  repeat' first
    | with_reducible assumption
    | (with_reducible apply wf_ite <;> intro _)
    | with_reducible apply answer_wf
    | with_reducible apply dispRectOp_wf

/-- `blinkOpcode` keeps the canonical form of the tables. -/
theorem blinkOpcode_wf (l : Land) (fs : List Field) (s : State) (c : Nat) (hw : Tables.wf s = true) :
    Tables.wf (blinkOpcode l fs s c) = true := by
  unfold blinkOpcode
  repeat' first
    | with_reducible assumption
    | (with_reducible apply wf_ite <;> intro _)
    | with_reducible apply answer_wf
    | with_reducible apply dispBlinkOp_wf

/-- `powerOpcode` keeps the canonical form of the tables. -/
theorem powerOpcode_wf (l : Land) (up : Bool) (s : State) (c : Nat) (hw : Tables.wf s = true) :
    Tables.wf (powerOpcode l up s c) = true := by
  unfold powerOpcode
  repeat' first
    | with_reducible assumption
    | with_reducible apply dispUpOp_wf
    | with_reducible apply dispDownOp_wf
    | with_reducible apply answer_wf
    | extract_lets
    | split

/-- `recClearOp` keeps the canonical form of the tables. -/
theorem recClearOp_wf (l : Land) (s : State) (c : Nat) (hw : Tables.wf s = true) :
    Tables.wf (recClearOp l s c) = true := by
  unfold recClearOp
  repeat' first
    | with_reducible assumption
    | with_reducible apply deliver_wf
    | with_reducible apply answer_wf
    | with_reducible apply queueEvidence_wf

/-- `recMarkOp` keeps the canonical form of the tables. -/
theorem recMarkOp_wf (l : Land) (p0 p1 p2 : Word) (s : State) (c_ : Nat) (hw : Tables.wf s = true) :
    Tables.wf (recMarkOp l p0 p1 p2 s c_) = true := by
  unfold recMarkOp
  repeat' first
    | with_reducible assumption
    | with_reducible apply setBusy_wf
    | with_reducible apply deliver_wf
    | fail_if_no_progress (with_reducible apply wf_mk)

/-- `authChalOp` keeps the canonical form of the tables. -/
theorem authChalOp_wf (l : Land) (s : State) (c : Nat) (hw : Tables.wf s = true) :
    Tables.wf (authChalOp l s c) = true := by
  unfold authChalOp
  repeat' first
    | with_reducible assumption
    | with_reducible apply nextFree_wf
    | with_reducible apply putPort_wf
    | with_reducible apply answer_wf

/-- `keyLoadOp` keeps the canonical form of the tables. -/
theorem keyLoadOp_wf (l : Land) (slot : Bool) (b : BitVec 144) (nonce : BitVec 72) (s : State) (c : Nat) (hw : Tables.wf s = true) :
    Tables.wf (keyLoadOp l slot b nonce s c) = true := by
  unfold keyLoadOp
  repeat' first
    | with_reducible assumption
    | (with_reducible apply wf_ite <;> intro _)
    | with_reducible apply answer_wf
    | with_reducible apply deliver_wf
    | with_reducible apply queueEvidence_wf
    | fail_if_no_progress (with_reducible apply wf_mk)

/-- `presetOp` keeps the canonical form of the tables. -/
theorem presetOp_wf (l : Land) (q : BitVec 4) (v : BitVec 60) (s : State) (c : Nat) (hw : Tables.wf s = true) :
    Tables.wf (presetOp l q v s c) = true := by
  unfold presetOp
  repeat' first
    | with_reducible assumption
    | (with_reducible apply wf_ite <;> intro _)
    | with_reducible apply answer_wf
    | with_reducible apply energyPreset_wf
    | with_reducible apply deliver_wf
    | with_reducible apply queueEvidence_wf

/-- `chainEnumOp` keeps the canonical form of the tables. -/
theorem chainEnumOp_wf (l : Land) (s : State) (u1 : Nat) (hw : Tables.wf s = true) :
    Tables.wf (chainEnumOp l s u1) = true := by
  unfold chainEnumOp
  repeat' first
    | with_reducible assumption
    | with_reducible apply enumStart_wf

/-- `resetSoftOp` keeps the canonical form of the tables. -/
theorem resetSoftOp_wf (l : Land) (key : Field) (s : State) (c : Nat) (hw : Tables.wf s = true) :
    Tables.wf (resetSoftOp l key s c) = true := by
  unfold resetSoftOp
  repeat' first
    | with_reducible assumption
    | (with_reducible apply wf_ite <;> intro _)
    | with_reducible apply answer_wf
    | with_reducible apply deliver_wf
    | fail_if_no_progress (with_reducible apply wf_mk)

/-! ### Packets -/

/-- What `regAct` makes of a packet keeps the canonical form of the tables. -/
theorem regAct_wf (l : Land) (o : Nat) (fs : List Field) (a : OpAct) (e : regAct l o fs = some a) (t : State) (c : Nat)
    (ht : Tables.wf t = true) : Tables.wf (a.2 t c) = true := by
  unfold regAct at e
  dsimp only at e
  split at e
  all_goals (repeat' split at e)
  all_goals first
    | obtain rfl := Option.some.inj e
    | obtain ⟨r, -, rfl⟩ := Option.map_eq_some_iff.mp e
    | exact nomatch e
  all_goals first
    | with_reducible exact nopOp_wf _ _ _ ht
    | with_reducible exact rdOp_wf _ _ _ _ ht
    | with_reducible exact wrOp_wf _ _ _ _ _ ht
    | with_reducible exact rmwOp_wf _ _ _ _ _ ht
    | with_reducible exact commitOp_wf _ _ _ _ ht
    | with_reducible exact snapOp_wf _ _ _ _ ht

/-- What `memAct` makes of a packet keeps the canonical form of the tables. -/
theorem memAct_wf (l : Land) (o : Nat) (fs : List Field) (a : OpAct) (e : memAct l o fs = some a) (t : State) (c : Nat)
    (ht : Tables.wf t = true) : Tables.wf (a.2 t c) = true := by
  unfold memAct at e
  dsimp only at e
  split at e
  all_goals (repeat' split at e)
  all_goals first
    | obtain rfl := Option.some.inj e
    | obtain ⟨r, -, rfl⟩ := Option.map_eq_some_iff.mp e
    | exact nomatch e
  all_goals first
    | with_reducible exact memRdOp_wf _ _ _ _ _ ht
    | with_reducible exact memWrOp_wf _ _ _ _ _ ht
    | with_reducible exact memAtomOp_wf _ _ _ _ _ _ _ ht

/-- What `unitAct` makes of a packet keeps the canonical form of the tables. -/
theorem unitAct_wf (s : State) (l : Land) (o : Nat) (fs : List Field) (a : OpAct) (e : unitAct s l o fs = some a) (t : State) (c : Nat)
    (ht : Tables.wf t = true) : Tables.wf (a.2 t c) = true := by
  unfold unitAct at e
  dsimp only at e
  split at e
  all_goals (repeat' split at e)
  all_goals first
    | obtain rfl := Option.some.inj e
    | obtain ⟨r, -, rfl⟩ := Option.map_eq_some_iff.mp e
    | exact nomatch e
  all_goals first
    | with_reducible exact convertOp_wf _ _ _ _ ht
    | with_reducible exact stoolCtrlOp_wf _ _ _ _ _ ht
    | with_reducible exact rectOpcode_wf _ _ _ _ _ _ _ ht
    | with_reducible exact blinkOpcode_wf _ _ _ _ ht
    | with_reducible exact powerOpcode_wf _ _ _ _ ht

/-- What `recAct` makes of a packet keeps the canonical form of the tables. -/
theorem recAct_wf (s : State) (l : Land) (o : Nat) (fs : List Field) (nonce : BitVec 72) (a : OpAct) (e : recAct s l o fs nonce = some a) (t : State) (c : Nat)
    (ht : Tables.wf t = true) : Tables.wf (a.2 t c) = true := by
  unfold recAct at e
  dsimp only at e
  split at e
  all_goals (repeat' split at e)
  all_goals first
    | obtain rfl := Option.some.inj e
    | obtain ⟨r, -, rfl⟩ := Option.map_eq_some_iff.mp e
    | exact nomatch e
  all_goals first
    | with_reducible exact recClearOp_wf _ _ _ ht
    | with_reducible exact recMarkOp_wf _ _ _ _ _ _ ht
    | with_reducible exact authChalOp_wf _ _ _ ht
    | with_reducible exact keyLoadOp_wf _ _ _ _ _ _ ht
    | with_reducible exact presetOp_wf _ _ _ _ _ ht
    | with_reducible exact chainEnumOp_wf _ _ _ ht
    | with_reducible exact resetSoftOp_wf _ _ _ _ ht
    | (dsimp only; unfold recAct.cfgSaveOp'; with_reducible exact cfgSaveOp_wf _ _ _ ht)
    | (dsimp only; unfold recAct.calSealOp'; with_reducible exact calSealOp_wf _ _ _ ht)

/-- What `packetAct` makes of a packet keeps the canonical form of the tables. -/
theorem packetAct_wf (s : State) (p : PortId) (k : Packet) (nonce : BitVec 72) (a : OpAct)
    (e : packetAct s p k nonce = some a) (t : State) (c : Nat) (ht : Tables.wf t = true) : Tables.wf (a.2 t c) = true := by
  unfold packetAct at e
  dsimp only at e
  split at e
  · exact regAct_wf _ _ _ _ e t c ht
  · split at e
    · exact memAct_wf _ _ _ _ e t c ht
    · split at e
      · exact unitAct_wf _ _ _ _ _ e t c ht
      · exact recAct_wf _ _ _ _ _ _ e t c ht

/-- `passedCrc` keeps the canonical form of the tables. -/
theorem passedCrc_wf (s : State) (p : PortId) (hw : Tables.wf s = true) :
    Tables.wf (passedCrc s p) = true := by
  unfold passedCrc
  repeat' first
    | with_reducible assumption
    | with_reducible apply putPort_wf
    | with_reducible apply raise_wf
    | fail_if_no_progress (with_reducible apply wf_mk)
    | extract_lets
    | split

/-- `holdPacket` keeps the canonical form of the tables. -/
theorem holdPacket_wf (s : State) (p : PortId) (way : Option From) (e : Exec) (hw : Tables.wf s = true) :
    Tables.wf (holdPacket s p way e) = true := by
  unfold holdPacket
  repeat' first
    | with_reducible assumption
    | with_reducible apply putPort_wf
    | fail_if_no_progress (with_reducible apply wf_mk)
    | split

/-- `routePacket` keeps the canonical form of the tables. -/
theorem routePacket_wf (s0 : State) (p : PortId) (way : Option From) (k : Packet) (cyc : Nat) (hw : Tables.wf s0 = true) :
    Tables.wf (routePacket s0 p way k cyc) = true := by
  unfold routePacket
  repeat' first
    | with_reducible assumption
    | (with_reducible apply wf_ite <;> intro _)
    | with_reducible apply forwardPacket_wf
    | with_reducible apply staleNonce_wf
    | with_reducible apply holdPacket_wf
    | with_reducible apply putPort_wf
    | fail_if_no_progress (with_reducible apply wf_mk)
    | extract_lets
    | split

/-- `checkPacket` keeps the canonical form of the tables. -/
theorem checkPacket_wf (s : State) (p : PortId) (way : Option From) (k : Packet) (cyc : Nat) (hw : Tables.wf s = true) :
    Tables.wf (checkPacket s p way k cyc) = true := by
  unfold checkPacket
  repeat' first
    | with_reducible assumption
    | (with_reducible apply wf_ite <;> intro _)
    | with_reducible apply replyNow_wf
    | with_reducible apply packetAct_wf
    | with_reducible apply routePacket_wf

/-- `takePacket` keeps the canonical form of the tables. -/
theorem takePacket_wf (s : State) (p : PortId) (way : Option From) (k : Packet) (cyc : Nat) (hw : Tables.wf s = true) :
    Tables.wf (takePacket s p way k cyc) = true := by
  unfold takePacket
  repeat' first
    | with_reducible assumption
    | (with_reducible apply wf_ite <;> intro _)
    | with_reducible apply replyNow_wf
    | with_reducible apply checkPacket_wf
    | with_reducible apply passedCrc_wf

/-- `hostPacketOp` keeps the canonical form of the tables. -/
theorem hostPacketOp_wf (s0 : State) (cyc : Nat) (b : List Byte) (hw : Tables.wf s0 = true) :
    Tables.wf (hostPacketOp s0 cyc b) = true := by
  unfold hostPacketOp
  repeat' first
    | with_reducible assumption
    | (with_reducible apply wf_ite <;> intro _)
    | with_reducible apply portsBy_wf
    | with_reducible apply portLost_wf
    | with_reducible apply answerAt_wf
    | with_reducible apply takePacket_wf

/-- `replyReadOp` keeps the canonical form of the tables. -/
theorem replyReadOp_wf (s0 : State) (n : Nat) (hw : Tables.wf s0 = true) :
    Tables.wf (replyReadOp s0 n) = true := by
  unfold replyReadOp
  repeat' first
    | with_reducible assumption
    | (with_reducible apply wf_ite <;> intro _)
    | with_reducible apply replyReady_wf
    | with_reducible apply putPort_wf
    | fail_if_no_progress (with_reducible apply wf_mk)
    | extract_lets
    | split

/-- `delimiterAt` keeps the canonical form of the tables. -/
theorem delimiterAt_wf (s : State) (cyc : Nat) (hw : Tables.wf s = true) :
    Tables.wf (delimiterAt s cyc) = true := by
  unfold delimiterAt
  repeat' first
    | with_reducible assumption
    | fail_if_no_progress (with_reducible apply wf_mk)

/-- `maintFrameOp` keeps the canonical form of the tables. -/
theorem maintFrameOp_wf (s0 : State) (cyc : Nat) (wire : List Byte) (badStop : Bool) (hw : Tables.wf s0 = true) :
    Tables.wf (maintFrameOp s0 cyc wire badStop) = true := by
  unfold maintFrameOp
  repeat' first
    | with_reducible assumption
    | (with_reducible apply wf_ite <;> intro _)
    | with_reducible apply portsBy_wf
    | with_reducible apply portLost_wf
    | with_reducible apply delimiterAt_wf
    | with_reducible apply answerAt_wf
    | with_reducible apply takePacket_wf

/-- `maintGapOp` keeps the canonical form of the tables. -/
theorem maintGapOp_wf (s : State) (hw : Tables.wf s = true) :
    Tables.wf (maintGapOp s) = true := by
  unfold maintGapOp
  repeat' first
    | with_reducible assumption
    | (with_reducible apply wf_ite <;> intro _)
    | with_reducible apply portLost_wf

/-- `maintTransmit` keeps the canonical form of the tables. -/
theorem maintTransmit_wf (s : State) (slack : Nat) (hw : Tables.wf s = true) :
    Tables.wf (maintTransmit s slack) = true := by
  unfold maintTransmit
  repeat' first
    | with_reducible assumption
    | (with_reducible apply wf_ite <;> intro _)
    | fail_if_no_progress (with_reducible apply wf_mk)

/-- `maintTransmitOp` keeps the canonical form of the tables. -/
theorem maintTransmitOp_wf (s : State) (hw : Tables.wf s = true) :
    Tables.wf (maintTransmitOp s) = true := by
  unfold maintTransmitOp
  repeat' first
    | with_reducible assumption
    | with_reducible apply maintTransmit_wf

/-- `maintSentOp` keeps the canonical form of the tables. -/
theorem maintSentOp_wf (s : State) (hw : Tables.wf s = true) :
    Tables.wf (maintSentOp s) = true := by
  unfold maintSentOp
  repeat' first
    | with_reducible assumption
    | (with_reducible apply wf_ite <;> intro _)
    | with_reducible apply putPort_wf
    | fail_if_no_progress (with_reducible apply wf_mk)

/-- `mtxRelease` keeps the canonical form of the tables. -/
theorem mtxRelease_wf (s : State) (slack : Nat) (hw : Tables.wf s = true) :
    Tables.wf (mtxRelease s slack) = true := by
  unfold mtxRelease
  repeat' first
    | with_reducible assumption
    | (with_reducible apply wf_ite <;> intro _)
    | fail_if_no_progress (with_reducible apply wf_mk)
    | split

/-- `mtxReleaseOp` keeps the canonical form of the tables. -/
theorem mtxReleaseOp_wf (s : State) (hw : Tables.wf s = true) :
    Tables.wf (mtxReleaseOp s) = true := by
  unfold mtxReleaseOp
  repeat' first
    | with_reducible assumption
    | with_reducible apply mtxRelease_wf

/-- `maintTick` keeps the canonical form of the tables. -/
theorem maintTick_wf (s : State) (hw : Tables.wf s = true) :
    Tables.wf (maintTick s) = true := by
  unfold maintTick
  repeat' first
    | with_reducible assumption
    | with_reducible apply maintTransmit_wf
    | with_reducible apply mtxRelease_wf
    | fail_if_no_progress (with_reducible apply wf_mk)

/-- `pktFrameOp` keeps the canonical form of the tables. -/
theorem pktFrameOp_wf (s : State) (cyc : Nat) (f : RxFrame) (hw : Tables.wf s = true) :
    Tables.wf (pktFrameOp s cyc f) = true := by
  unfold pktFrameOp
  with_reducible apply frameOp_wf
  · assumption
  all_goals
    intro t ht
    beta_reduce
    try unfold id
    repeat' first
      | with_reducible assumption
      | (with_reducible apply wf_ite <;> intro _)
      | with_reducible apply replyNow_wf
      | with_reducible apply takePacket_wf
      | with_reducible apply sendFrame_wf

/-- `deniedReplyOp` keeps the canonical form of the tables. -/
theorem deniedReplyOp_wf (s : State) (p : PortId) (hw : Tables.wf s = true) :
    Tables.wf (deniedReplyOp s p) = true := by
  unfold deniedReplyOp
  repeat' first
    | with_reducible assumption
    | (with_reducible apply wf_ite <;> intro _)
    | with_reducible apply refuseWhen_wf

/-- `notBefore` keeps the canonical form of the tables. -/
theorem notBefore_wf (old s : State) (p : PortId) (cyc : Nat) (hw : Tables.wf old = true) (hws : Tables.wf s = true) :
    Tables.wf (notBefore old s p cyc) = true := by
  unfold notBefore
  repeat' first
    | with_reducible assumption
    | with_reducible apply putPort_wf
    | fail_if_no_progress (with_reducible apply wf_mk)

/-- `landExec` keeps the canonical form of the tables. -/
theorem landExec_wf (s : State) (p : PortId) (e : Exec) (hw : Tables.wf s = true) :
    Tables.wf (landExec s p e) = true := by
  unfold landExec
  extract_lets l act t
  have h1 : Tables.wf t = true := by
    with_reducible apply landing_wf
    · intro t c ht
      unfold act
      cases e2 : packetAct s p e.pkt e.nonce with
      | none => exact answer_wf _ _ _ _ _ ht
      | some a => exact packetAct_wf _ _ _ _ _ e2 t c ht
    · exact hw
  clear_value t
  with_reducible apply wf_ite <;> intro _
  · exact notBefore_wf _ _ _ _ hw h1
  · exact h1

/-- `landPort` keeps the canonical form of the tables. -/
theorem landPort_wf (s : State) (p : PortId) (hw : Tables.wf s = true) :
    Tables.wf (landPort s p) = true := by
  unfold landPort
  repeat' first
    | with_reducible assumption
    | (with_reducible apply wf_ite <;> intro _)
    | with_reducible apply landExec_wf
    | with_reducible apply putPort_wf
    | fail_if_no_progress (with_reducible apply wf_mk)
    | split

/-- `landChain` keeps the canonical form of the tables. -/
theorem landChain_wf (s : State) (hw : Tables.wf s = true) :
    Tables.wf (landChain s) = true := by
  unfold landChain
  repeat' first
    | with_reducible assumption
    | (with_reducible apply wf_ite <;> intro _)
    | with_reducible apply landExec_wf
    | fail_if_no_progress (with_reducible apply wf_mk)
    | extract_lets
    | split

/-- `landAll` keeps the canonical form of the tables. -/
theorem landAll_wf (s : State) (hw : Tables.wf s = true) :
    Tables.wf (landAll s) = true := by
  unfold landAll
  repeat' first
    | with_reducible assumption
    | (with_reducible apply wf_ite <;> intro _)
    | with_reducible apply landChain_wf
    | with_reducible apply landPort_wf
    | fail_if_no_progress (with_reducible apply wf_mk)

end Sys2Proof.Machine
end

