-- ==== Sys2Proof/Laws/TablesTick.lean ====
section
/-!
SUPPORT. Laws of the tables' canonical form: power events and the boundary of the tick.
-/

namespace Sys2Proof.Machine

/-! ### PowerEvents -/

/-- `pd0PowerUpOp` keeps the canonical form of the tables. -/
theorem pd0PowerUpOp_wf (s : State) (hw : Tables.wf s = true) :
    Tables.wf (pd0PowerUpOp s) = true := by
  unfold pd0PowerUpOp
  repeat' first
    | with_reducible assumption
    | (with_reducible apply wf_ite <;> intro _)
    | with_reducible apply aonUp_wf

/-- `allSourcesLostOp` keeps the canonical form of the tables. -/
theorem allSourcesLostOp_wf (s : State) (hw : Tables.wf s = true) :
    Tables.wf (allSourcesLostOp s) = true := by
  unfold allSourcesLostOp
  repeat' first
    | with_reducible assumption
    | with_reducible apply lostAon_wf
    | with_reducible apply hardOffNow_wf
    | fail_if_no_progress (with_reducible apply wf_mk)

/-- `aonSourceChangeOp` keeps the canonical form of the tables. -/
theorem aonSourceChangeOp_wf (s : State) (vres vbc : Nat) (hw : Tables.wf s = true) :
    Tables.wf (aonSourceChangeOp s vres vbc) = true := by
  unfold aonSourceChangeOp
  repeat' first
    | with_reducible assumption
    | with_reducible apply setVbc_wf
    | with_reducible apply setVres_wf

/-- `vbcLowOp` keeps the canonical form of the tables. -/
theorem vbcLowOp_wf (s : State) (mv : Nat) (hw : Tables.wf s = true) :
    Tables.wf (vbcLowOp s mv) = true := by
  unfold vbcLowOp
  repeat' first
    | with_reducible assumption
    | (with_reducible apply wf_ite <;> intro _)
    | with_reducible apply setVbc_wf

/-- `cellOp` keeps the canonical form of the tables. -/
theorem cellOp_wf (s : State) (now : Nat) (hw : Tables.wf s = true) :
    Tables.wf (cellOp s now) = true := by
  unfold cellOp
  repeat' first
    | with_reducible assumption
    | (with_reducible apply wf_ite <;> intro _)
    | with_reducible apply atOsc_wf
    | with_reducible apply setVbc_wf
    | with_reducible apply sense_wf
    | with_reducible apply setCond_wf
    | fail_if_no_progress (with_reducible apply wf_mk)

/-- `pd1StartOp` keeps the canonical form of the tables. -/
theorem pd1StartOp_wf (s : State) (vres vaux : Nat) (hw : Tables.wf s = true) :
    Tables.wf (pd1StartOp s vres vaux) = true := by
  unfold pd1StartOp
  repeat' first
    | with_reducible assumption
    | (with_reducible apply wf_ite <;> intro _)
    | with_reducible apply chooseLoad_wf
    | with_reducible apply setVres_wf
    | fail_if_no_progress (with_reducible apply wf_mk)

/-- `coldStartOp` keeps the canonical form of the tables. -/
theorem coldStartOp_wf (s : State) (vres : Nat) (hw : Tables.wf s = true) :
    Tables.wf (coldStartOp s vres) = true := by
  unfold coldStartOp
  repeat' first
    | with_reducible assumption
    | (with_reducible apply wf_ite <;> intro _)
    | with_reducible apply setVres_wf
    | fail_if_no_progress (with_reducible apply wf_mk)

/-- `startRamps` keeps the canonical form of the tables. -/
theorem startRamps_wf (s : State) (hw : Tables.wf s = true) :
    Tables.wf (startRamps s) = true := by
  unfold startRamps
  repeat' first
    | with_reducible assumption
    | with_reducible apply domainRampEndOp_wf
    | (with_reducible apply wf_foldl; intro _ _ _; try beta_reduce)

/-- `coreResetReleaseOp` keeps the canonical form of the tables. -/
theorem coreResetReleaseOp_wf (s : State) (test : Bool) (hw : Tables.wf s = true) :
    Tables.wf (coreResetReleaseOp s test) = true := by
  unfold coreResetReleaseOp
  repeat' first
    | with_reducible assumption
    | (with_reducible apply wf_ite <;> intro _)
    | with_reducible apply startRamps_wf
    | with_reducible apply coldReset_wf
    | fail_if_no_progress (with_reducible apply wf_mk)

/-- `pfailEvent` keeps the canonical form of the tables. -/
theorem pfailEvent_wf (s : State) (vres : Nat) (hw : Tables.wf s = true) :
    Tables.wf (pfailEvent s vres) = true := by
  unfold pfailEvent
  repeat' first
    | with_reducible assumption
    | (with_reducible apply wf_ite <;> intro _)
    | with_reducible apply pfailOp_wf
    | with_reducible apply setVres_wf

/-- `hardOffEvent` keeps the canonical form of the tables. -/
theorem hardOffEvent_wf (s : State) (vres : Nat) (hw : Tables.wf s = true) :
    Tables.wf (hardOffEvent s vres) = true := by
  unfold hardOffEvent
  repeat' first
    | with_reducible assumption
    | (with_reducible apply wf_ite <;> intro _)
    | with_reducible apply setVres_wf
    | with_reducible apply hardOffNow_wf

/-- `shuntOnOp` keeps the canonical form of the tables. -/
theorem shuntOnOp_wf (s : State) (vres : Nat) (hw : Tables.wf s = true) :
    Tables.wf (shuntOnOp s vres) = true := by
  unfold shuntOnOp
  repeat' first
    | with_reducible assumption
    | (with_reducible apply wf_ite <;> intro _)
    | with_reducible apply setVres_wf
    | with_reducible apply raise_wf
    | fail_if_no_progress (with_reducible apply wf_mk)

/-- `lowResOp` keeps the canonical form of the tables. -/
theorem lowResOp_wf (s : State) (vres : Nat) (hw : Tables.wf s = true) :
    Tables.wf (lowResOp s vres) = true := by
  unfold lowResOp
  repeat' first
    | with_reducible assumption
    | (with_reducible apply wf_ite <;> intro _)
    | with_reducible apply setVres_wf

/-- `autoSettleFullOp` keeps the canonical form of the tables. -/
theorem autoSettleFullOp_wf (s : State) (vres : Nat) (hw : Tables.wf s = true) :
    Tables.wf (autoSettleFullOp s vres) = true := by
  unfold autoSettleFullOp
  repeat' first
    | with_reducible assumption
    | (with_reducible apply wf_ite <;> intro _)
    | with_reducible apply setVres_wf
    | fail_if_no_progress (with_reducible apply wf_mk)

/-- `floorRevokeOp` keeps the canonical form of the tables. -/
theorem floorRevokeOp_wf (s : State) (vres : Nat) (hw : Tables.wf s = true) :
    Tables.wf (floorRevokeOp s vres) = true := by
  unfold floorRevokeOp
  repeat' first
    | with_reducible assumption
    | (with_reducible apply wf_ite <;> intro _)
    | with_reducible apply setVres_wf
    | with_reducible apply revokeFloors_wf
    | with_reducible apply grantEffects_wf

/-- `vauxUpOp` keeps the canonical form of the tables. -/
theorem vauxUpOp_wf (s : State) (mv : Nat) (hw : Tables.wf s = true) :
    Tables.wf (vauxUpOp s mv) = true := by
  unfold vauxUpOp
  repeat' first
    | with_reducible assumption
    | (with_reducible apply wf_ite <;> intro _)
    | with_reducible apply aonFollow_wf
    | with_reducible apply raise_wf
    | with_reducible apply chooseLoad_wf
    | fail_if_no_progress (with_reducible apply wf_mk)

/-- `vauxDownOp` keeps the canonical form of the tables. -/
theorem vauxDownOp_wf (s : State) (vres : Nat) (hw : Tables.wf s = true) :
    Tables.wf (vauxDownOp s vres) = true := by
  unfold vauxDownOp
  repeat' first
    | with_reducible assumption
    | (with_reducible apply wf_ite <;> intro _)
    | with_reducible apply chooseLoad_wf
    | with_reducible apply setVres_wf
    | with_reducible apply raise_wf
    | with_reducible apply releaseHeldOff_wf
    | fail_if_no_progress (with_reducible apply wf_mk)

/-! ### Boundary -/

/-- `flushTick` keeps the canonical form of the tables. -/
theorem flushTick_wf (s : State) (hw : Tables.wf s = true) :
    Tables.wf (flushTick s) = true := by
  unfold flushTick
  repeat' first
    | with_reducible assumption
    | (with_reducible apply wf_ite <;> intro _)
    | with_reducible apply runAll_wf
    | with_reducible apply harmBackground_wf
    | with_reducible apply chainFlush_wf
    | with_reducible apply procFlush_wf
    | with_reducible apply cfFlush_wf
    | with_reducible apply scrubTickEnd_wf
    | with_reducible apply capDoneOp_wf
    | with_reducible apply memFlush_wf

/-- `clocksTick` keeps the canonical form of the tables. -/
theorem clocksTick_wf (s : State) (bits : List (BitVec 512)) (hw : Tables.wf s = true) :
    Tables.wf (clocksTick s bits) = true := by
  unfold clocksTick
  repeat' first
    | with_reducible assumption
    | with_reducible apply settlingTick_wf
    | with_reducible apply frontsTick_wf
    | fail_if_no_progress (with_reducible apply wf_mk)
    | fail_if_no_progress (with_reducible apply wf_mkAon)

/-- `countersTick` keeps the canonical form of the tables. -/
theorem countersTick_wf (s : State) (hw : Tables.wf s = true) :
    Tables.wf (countersTick s) = true := by
  unfold countersTick
  repeat' first
    | with_reducible assumption
    | (with_reducible apply wf_ite <;> intro _)
    | with_reducible apply procTickEnd_wf
    | with_reducible apply stoolTickEnd_wf
    | with_reducible apply pqTick_wf
    | with_reducible apply eraseTick_wf
    | with_reducible apply energyTime_wf
    | with_reducible apply periodicSaveOp_wf
    | with_reducible apply maintTick_wf
    | with_reducible apply staleNonce_wf
    | with_reducible apply lockEnd_wf
    | (with_reducible apply wf_foldl; intro _ _ _; try beta_reduce)

/-- `bureauTick` keeps the canonical form of the tables. -/
theorem bureauTick_wf (s : State) (hw : Tables.wf s = true) :
    Tables.wf (bureauTick s) = true := by
  unfold bureauTick
  repeat' first
    | with_reducible assumption
    | (with_reducible apply wf_ite <;> intro _)
    | with_reducible apply bureauBoundary_wf

/-- `measure` keeps the canonical form of the tables. -/
theorem measure_wf (s : State) (m : Supply) (hw : Tables.wf s = true) :
    Tables.wf (measure s m) = true := by
  unfold measure
  repeat' first
    | with_reducible assumption
    | with_reducible apply setVbc_wf
    | with_reducible apply setVres_wf
    | with_reducible apply supplyConds_wf
    | fail_if_no_progress (with_reducible apply wf_mk)

/-- `boardTick` keeps the canonical form of the tables. -/
theorem boardTick_wf (s : State) (e : TickIn) (hw : Tables.wf s = true) :
    Tables.wf (boardTick s e) = true := by
  unfold boardTick
  repeat' first
    | with_reducible assumption
    | with_reducible apply measure_wf
    | fail_if_no_progress (with_reducible apply wf_mk)
    | extract_lets
    | split

/-- `endTick` keeps the canonical form of the tables. -/
theorem endTick_wf (s : State) (e : TickIn) (hw : Tables.wf s = true) :
    Tables.wf (endTick s e) = true := by
  unfold endTick
  repeat' first
    | with_reducible assumption
    | with_reducible apply boardTick_wf
    | with_reducible apply bureauTick_wf
    | with_reducible apply countersTick_wf
    | with_reducible apply clocksTick_wf
    | with_reducible apply flushTick_wf
    | fail_if_no_progress (with_reducible apply wf_mk)

/-- `applyShadows` keeps the canonical form of the tables. -/
theorem applyShadows_wf (s : State) (n k : Nat) (hw : Tables.wf s = true) :
    Tables.wf (applyShadows s n k) = true := by
  unfold applyShadows
  repeat' first
    | with_reducible assumption
    | with_reducible apply setForce_wf
    | (with_reducible apply wf_foldl; intro _ _ _; try beta_reduce)

/-- `commitStep` keeps the canonical form of the tables. -/
theorem commitStep_wf (s : State) (hw : Tables.wf s = true) :
    Tables.wf (commitStep s) = true := by
  unfold commitStep
  repeat' first
    | with_reducible assumption
    | (with_reducible apply wf_ite <;> intro _)
    | with_reducible apply applyShadows_wf
    | with_reducible apply raise_wf
    | with_reducible apply applyPinmux_wf
    | with_reducible apply raiseIf_wf
    | fail_if_no_progress (with_reducible apply wf_mk)

/-- `modeStep` keeps the canonical form of the tables. -/
theorem modeStep_wf (s : State) (hw : Tables.wf s = true) :
    Tables.wf (modeStep s) = true := by
  unfold modeStep
  repeat' first
    | with_reducible assumption
    | (with_reducible apply wf_ite <;> intro _)
    | with_reducible apply decideMode_wf

/-- `grantStep` keeps the canonical form of the tables. -/
theorem grantStep_wf (s : State) (hw : Tables.wf s = true) :
    Tables.wf (grantStep s) = true := by
  unfold grantStep
  repeat' first
    | with_reducible assumption
    | with_reducible apply grantEffects_wf
    | with_reducible apply evaluateGrants_wf
    | with_reducible apply revokeCeiling_wf
    | with_reducible apply revokeFloors_wf

/-- `domainStep` keeps the canonical form of the tables. -/
theorem domainStep_wf (s : State) (hw : Tables.wf s = true) :
    Tables.wf (domainStep s) = true := by
  unfold domainStep
  repeat' first
    | with_reducible assumption
    | with_reducible apply domainsWork_wf
    | with_reducible apply switchDomains_wf

/-- `snapshotStep` keeps the canonical form of the tables. -/
theorem snapshotStep_wf (s : State) (hw : Tables.wf s = true) :
    Tables.wf (snapshotStep s) = true := by
  have h : ∀ (l : List Nat) (m : List (Nat × Word)), swf regReset m = true →
      swf regReset (l.foldl (fun m n => sset regReset m n (getReg s n)) m) = true := by
    intro l
    induction l with
    | nil => intro m hm; exact hm
    | cons n l ih => intro m hm; exact ih _ (swf_sset _ _ _ _ hm)
  unfold snapshotStep
  rw [Tables.wf_iff] at hw ⊢
  obtain ⟨a, b, c, d, e, f, g, i⟩ := hw
  with_reducible exact ⟨a, b, c, d, e, f, h _ _ g, i⟩

/-- `comparePair` keeps the canonical form of the tables. -/
theorem comparePair_wf (s : State) (k : Nat) (hw : Tables.wf s = true) :
    Tables.wf (comparePair s k) = true := by
  unfold comparePair
  repeat' first
    | with_reducible assumption
    | (with_reducible apply wf_ite <;> intro _)
    | with_reducible apply raise_wf
    | with_reducible apply orReg_wf
    | with_reducible apply clearReg_wf
    | fail_if_no_progress (with_reducible apply wf_mk)

/-- `compareStep` keeps the canonical form of the tables. -/
theorem compareStep_wf (s : State) (hw : Tables.wf s = true) :
    Tables.wf (compareStep s) = true := by
  unfold compareStep
  repeat' first
    | with_reducible assumption
    | with_reducible apply comparePair_wf
    | (with_reducible apply wf_foldl; intro _ _ _; try beta_reduce)

/-- `countStep` keeps the canonical form of the tables. -/
theorem countStep_wf (s : State) (hw : Tables.wf s = true) :
    Tables.wf (countStep s) = true := by
  unfold countStep
  repeat' first
    | with_reducible assumption
    | with_reducible apply tailTick_wf
    | fail_if_no_progress (with_reducible apply wf_mk)

/-- `enterHold` keeps the canonical form of the tables. -/
theorem enterHold_wf (s : State) (hw : Tables.wf s = true) :
    Tables.wf (enterHold s) = true := by
  unfold enterHold
  repeat' first
    | with_reducible assumption
    | with_reducible apply raise_wf
    | with_reducible apply harmSkip_wf
    | with_reducible apply cfStopAll_wf
    | with_reducible apply procHalt_wf
    | with_reducible apply pqCuts_wf
    | with_reducible apply capBoundary_wf
    | fail_if_no_progress (with_reducible apply wf_mk)

/-- `leaveHold` keeps the canonical form of the tables. -/
theorem leaveHold_wf (s : State) (hw : Tables.wf s = true) :
    Tables.wf (leaveHold s) = true := by
  unfold leaveHold
  repeat' first
    | with_reducible assumption
    | with_reducible apply raise_wf
    | fail_if_no_progress (with_reducible apply wf_mk)

/-- `followMode` keeps the canonical form of the tables. -/
theorem followMode_wf (s : State) (hw : Tables.wf s = true) :
    Tables.wf (followMode s) = true := by
  unfold followMode
  repeat' first
    | with_reducible assumption
    | (with_reducible apply wf_ite <;> intro _)
    | with_reducible apply raise_wf
    | fail_if_no_progress (with_reducible apply wf_mk)

/-- `haltGo` keeps the canonical form of the tables. -/
theorem haltGo_wf (s0 : State) (hw : Tables.wf s0 = true) :
    Tables.wf (haltGo s0) = true := by
  unfold haltGo
  repeat' first
    | with_reducible assumption
    | (with_reducible apply wf_ite <;> intro _)
    | with_reducible apply enterHold_wf
    | with_reducible apply leaveHold_wf
    | with_reducible apply followMode_wf
    | fail_if_no_progress (with_reducible apply wf_mk)

/-- `stateTick` keeps the canonical form of the tables. -/
theorem stateTick_wf (s : State) (hw : Tables.wf s = true) :
    Tables.wf (stateTick s) = true := by
  unfold stateTick
  repeat' first
    | with_reducible assumption
    | (with_reducible apply wf_ite <;> intro _)
    | with_reducible apply coldEndOp_wf
    | with_reducible apply holdRestoreOp_wf
    | fail_if_no_progress (with_reducible apply wf_mk)
    | extract_lets
    | split

/-- `stateStep` keeps the canonical form of the tables. -/
theorem stateStep_wf (s : State) (hw : Tables.wf s = true) :
    Tables.wf (stateStep s) = true := by
  unfold stateStep
  repeat' first
    | with_reducible assumption
    | (with_reducible apply wf_ite <;> intro _)
    | with_reducible apply haltGo_wf
    | with_reducible apply softReset_wf
    | with_reducible apply stateTick_wf
    | with_reducible apply orderlyStopOp_wf

/-- `detsStep` keeps the canonical form of the tables. -/
theorem detsStep_wf (old : State) (all : Bool) (s : State) (hw0 : Tables.wf old = true) (hw1 : Tables.wf s = true) :
    Tables.wf (detsStep old all s) = true := by
  unfold detsStep
  repeat' first
    | with_reducible assumption
    | (with_reducible apply wf_ite <;> intro _)
    | with_reducible apply retuneDet_wf
    | with_reducible apply restartDet_wf
    | (with_reducible apply wf_foldl; intro _ _ _; try beta_reduce)

/-- `settleStep` keeps the canonical form of the tables. -/
theorem settleStep_wf (all : Bool) (s : State) (hw : Tables.wf s = true) :
    Tables.wf (settleStep all s) = true := by
  unfold settleStep
  repeat' first
    | with_reducible assumption
    | with_reducible apply startSettling_wf
    | fail_if_no_progress (with_reducible apply wf_mk)

/-- `modeEffects` keeps the canonical form of the tables. -/
theorem modeEffects_wf (s : State) (hw : Tables.wf s = true) :
    Tables.wf (modeEffects s) = true := by
  unfold modeEffects
  repeat' first
    | with_reducible assumption
    | with_reducible apply harmSkip_wf
    | with_reducible apply procModeChange_wf

/-- `lineStep` keeps the canonical form of the tables. -/
theorem lineStep_wf (old : State) (began : Bool) (s : State) (hw0 : Tables.wf old = true) (hw1 : Tables.wf s = true) :
    Tables.wf (lineStep old began s) = true := by
  unfold lineStep
  repeat' first
    | with_reducible assumption
    | fail_if_no_progress (with_reducible apply wf_mk)

/-- `blocksStep` keeps the canonical form of the tables. -/
theorem blocksStep_wf (old : State) (began fir : Bool) (s : State) (hw : Tables.wf old = true) (hws : Tables.wf s = true) :
    Tables.wf (blocksStep old began fir s) = true := by
  unfold blocksStep
  repeat' first
    | with_reducible assumption
    | (with_reducible apply wf_ite <;> intro _)
    | with_reducible apply clearHist_wf
    | with_reducible apply settleStep_wf
    | with_reducible apply detsStep_wf
    | with_reducible apply modeEffects_wf
    | with_reducible apply stoolModeChange_wf
    | with_reducible apply cfTick_wf
    | with_reducible apply procNewTick_wf
    | with_reducible apply stoolNewTick_wf
    | with_reducible apply pqCuts_wf
    | with_reducible apply capBoundary_wf
    | with_reducible apply lineStep_wf
    | fail_if_no_progress (with_reducible apply wf_mk)

/-- `freshTick` keeps the canonical form of the tables. -/
theorem freshTick_wf (s : State) (hw : Tables.wf s = true) :
    Tables.wf (freshTick s) = true := by
  unfold freshTick
  repeat' first
    | with_reducible assumption
    | with_reducible apply duesPass_wf
    | with_reducible apply boardPass_wf
    | with_reducible apply chainTick_wf
    | with_reducible apply scrubDueTick_wf
    | fail_if_no_progress (with_reducible apply wf_mk)

/-- `newTick` keeps the canonical form of the tables. -/
theorem newTick_wf (old : State) (began fir : Bool) (s : State) (hw : Tables.wf old = true) (hws : Tables.wf s = true) :
    Tables.wf (newTick old began fir s) = true := by
  unfold newTick
  repeat' first
    | with_reducible assumption
    | (with_reducible apply wf_ite <;> intro _)
    | with_reducible apply landAll_wf
    | with_reducible apply releaseHeld_wf
    | with_reducible apply freshWindows_wf
    | with_reducible apply answerMarks_wf
    | with_reducible apply freshTick_wf
    | with_reducible apply sealCheckOp_wf
    | with_reducible apply nvmStart_wf
    | with_reducible apply dcBlocksTick_wf
    | with_reducible apply blocksStep_wf

/-- `middleSteps` keeps the canonical form of the tables. -/
theorem middleSteps_wf (s : State) (hw : Tables.wf s = true) :
    Tables.wf (middleSteps s) = true := by
  unfold middleSteps
  repeat' first
    | with_reducible assumption
    | with_reducible apply snapshotStep_wf
    | with_reducible apply domainStep_wf
    | with_reducible apply grantStep_wf
    | with_reducible apply modeStep_wf
    | with_reducible apply commitStep_wf

/-- `enteredBoundary` keeps the canonical form of the tables. -/
theorem enteredBoundary_wf (s : State) (hw : Tables.wf s = true) :
    Tables.wf (enteredBoundary s) = true := by
  unfold enteredBoundary
  repeat' first
    | with_reducible assumption
    | (with_reducible apply wf_ite <;> intro _)
    | with_reducible apply sealedCompare_wf
    | with_reducible apply compareStep_wf
    | with_reducible apply snapshotStep_wf
    | with_reducible apply domainStep_wf
    | with_reducible apply grantStep_wf
    | with_reducible apply commitStep_wf
    | with_reducible apply countStep_wf
    | with_reducible apply newTick_wf

/-- `plainBoundary` keeps the canonical form of the tables. -/
theorem plainBoundary_wf (a : State) (hw : Tables.wf a = true) :
    Tables.wf (plainBoundary a) = true := by
  unfold plainBoundary
  repeat' first
    | with_reducible assumption
    | with_reducible apply countStep_wf
    | with_reducible apply sealedCompare_wf
    | with_reducible apply compareStep_wf
    | with_reducible apply middleSteps_wf
    | with_reducible apply stateStep_wf
    | with_reducible apply newTick_wf

/-- `fullBoundary` keeps the canonical form of the tables. -/
theorem fullBoundary_wf (s : State) (e : TickIn) (hw : Tables.wf s = true) :
    Tables.wf (fullBoundary s e) = true := by
  unfold fullBoundary
  repeat' first
    | with_reducible assumption
    | (with_reducible apply wf_ite <;> intro _)
    | with_reducible apply endTick_wf
    | with_reducible apply loadEndOp_wf
    | with_reducible apply enteredBoundary_wf
    | with_reducible apply plainBoundary_wf

/-- `gaspBoundary` keeps the canonical form of the tables. -/
theorem gaspBoundary_wf (s : State) (e : TickIn) (hw : Tables.wf s = true) :
    Tables.wf (gaspBoundary s e) = true := by
  unfold gaspBoundary
  repeat' first
    | with_reducible assumption
    | (with_reducible apply wf_ite <;> intro _)
    | with_reducible apply clocksTick_wf
    | with_reducible apply dcBlocksTick_wf
    | with_reducible apply grantEffects_wf
    | with_reducible apply dropGrant_wf
    | with_reducible apply domainDown_wf
    | (with_reducible apply wf_foldl; intro _ _ _; try beta_reduce)

/-- `tickBoundaryOp` keeps the canonical form of the tables. -/
theorem tickBoundaryOp_wf (s : State) (e : TickIn) (hw : Tables.wf s = true) :
    Tables.wf (tickBoundaryOp s e) = true := by
  unfold tickBoundaryOp
  repeat' first
    | with_reducible assumption
    | (with_reducible apply wf_ite <;> intro _)
    | with_reducible apply gaspBoundary_wf
    | with_reducible apply enteredBoundary_wf
    | with_reducible apply boardTick_wf
    | with_reducible apply clocksTick_wf
    | with_reducible apply fullBoundary_wf
    | fail_if_no_progress (with_reducible apply wf_mk)
    | split

/-- `cfgMismatchOp` keeps the canonical form of the tables. -/
theorem cfgMismatchOp_wf (s : State) (hw : Tables.wf s = true) :
    Tables.wf (cfgMismatchOp s) = true := by
  unfold cfgMismatchOp
  repeat' first
    | with_reducible assumption
    | (with_reducible apply wf_ite <;> intro _)
    | with_reducible apply middleSteps_wf
    | with_reducible apply runAll_wf
    | with_reducible apply raise_wf
    | with_reducible apply orReg_wf

/-- `cyclePublicationOp` keeps the canonical form of the tables. -/
theorem cyclePublicationOp_wf (s : State) (hw : Tables.wf s = true) :
    Tables.wf (cyclePublicationOp s) = true := by
  unfold cyclePublicationOp
  repeat' first
    | with_reducible assumption
    | with_reducible apply boundaryEvent_wf
    | with_reducible apply publishCycle_wf

end Sys2Proof.Machine
end

