-- ==== Sys2Proof/Tests/Slice0.lean ====
section
/-!
SUPPORT. Tests of the model: for every statement with hypotheses a state and operands that meet them, an ill-formed term for
each check of WellFormed, and the spec's worked cases.
-/

namespace Sys2Proof.Tests

open Sys2Proof Sys2Proof.Machine

set_option Elab.async false

/-! ### Small states -/

/-- The part in RUN with every domain at work, every grant in force and nothing in progress. -/
def runState0 : State := { State.reset with
  seq := { State.reset.seq with st := .run }
  power := { State.reset.power with on := 0xFFF, working := 0xFFF, granted := 0x3FF, vres := 5000 } }

/-- The same with stored registers set. -/
def withRegs (s : State) (l : List (Nat × Word)) : State := l.foldl (fun t e => setReg t e.1 e.2) s

/-- The same with in-force copies set. -/
def withForce (s : State) (l : List (Nat × Word)) : State := l.foldl (fun t e => setForce t e.1 e.2) s

/-- The same with snapshot values set. -/
def withSnap (s : State) (l : List (Nat × Word)) : State :=
  { s with snap := l.foldl (fun m e => sset regReset m e.1 e.2) s.snap }

/-- Segment 0 of context `c` in force: it maps `n` granules from virtual 0 to granule `p` with attributes `a`. -/
def withSeg (s : State) (c n p a : Nat) : State :=
  { s with dresser := { s.dresser with
      inForce := sputs segZero s.dresser.inForce (segKey (4 * c) 0) [0, wd n, wd p, wd a] } }

/-- A packet of the host port, and one of the maintenance port with NOREPLY. -/
def landHost : Land := { port := .host, tag := 3, noreply := false }
def landMaint : Land := { port := .maint, tag := 9, noreply := true }

/-- Stored PROC_CTRL and the schedule with the process slices in force. -/
def procState : State := withForce runState0 [(0x184, 0x800)]
/-- The schedule with the Stool and slice 0 in force. -/
def stoolState : State := withForce runState0 [(0x184, 0x401)]

/-! ### Witnesses: states that meet the hypotheses of the statements -/

theorem witness_queue : ({ runState0 with pending := [.halt .host] } : State).pending = [.halt .host] ∧ runState0.pending = [] := by
  decide +kernel

theorem witness_takes : takes runState0 landHost.port = true ∧ takes runState0 landMaint.port = true ∧
    takes runState0 .chain = true ∧ takes { runState0 with seq := { runState0.seq with st := .hold, cycle := 6143 } } .host = true := by
  decide +kernel

theorem witness_registerReads : regsOk [0x000, 0x196] = true ∧ sizeOk ([0x000, 0x196] : List (BitVec 12)) 80 = true ∧
    sizeOk (List.replicate 80 (0 : BitVec 12)) 80 = true ∧ regsOk (List.replicate 80 0) = true ∧
    sizeOk (List.replicate 79 (0 : BitVec 12)) 79 = true := by decide +kernel

theorem witness_badRegister : badReg [0x000, 0xABC] = some 1 ∧ regsOk (([(0x196, 5), (0xABC, 0)] : List (BitVec 12 × Word)).map (·.1)) = false ∧
    badReg (([(0x196, 5, 6), (0xABC, 0, 0)] : List (BitVec 12 × Word × Word)).map (·.1)) = some 1 := by decide +kernel

theorem witness_writes : regsOk (([(0x196, 5), (0x000, 0)] : List (BitVec 12 × Word)).map (·.1)) = true ∧
    sizeOk (List.replicate 40 ((0x196, 5) : BitVec 12 × Word)) 40 = true ∧
    sizeOk (List.replicate 26 ((0x196, 5, 6) : BitVec 12 × Word × Word)) 26 = true ∧ (0x20 : BitVec 6) ≠ 0 := by decide +kernel

/-- Without a segment; the configuration path; capture memory; another part. -/
def segNone : State := runState0
def segOd : State := withSeg runState0 4 0x3F 0x81000 7
def segNvm : State := withSeg runState0 4 0x3F 0x82000 0xF
def segCap : State := withSeg runState0 4 0x3F 0 0xF
def segFar : State := withSeg runState0 4 0x3F 0 0x1F

theorem witness_memoryOpcodes :
    (∃ c g, translate (lookupTime (landState segNone .host) 4 1).1 4 .read 16 19 = .fault c g) ∧
    (∃ g, translate (lookupTime (landState segOd .host) 4 1).1 4 .write 16 19 = .at_ 0 0x810010 g) ∧
    mapCheck .write 0x810010 4 = (some .od, 0) ∧ accessReady segOd ⟨.write, 0x810010, 4, [1, 2, 3, 4], 0, 0⟩ = true ∧
    (∃ g, translate (lookupTime (landState segNvm .host) 4 1).1 4 .fetchAdd 16 19 = .at_ 0 0x820010 g) ∧
    mapCheck .fetchAdd 0x820010 4 = (none, 5) ∧
    (∃ g, translate (lookupTime (landState segCap .host) 4 1).1 4 .swap 16 19 = .at_ 0 16 g) ∧
    mapCheck .swap 16 4 = (some .capture, 0) ∧ requesting (landState segCap .host) 4 = false ∧
    (∃ g, translate (lookupTime (landState segFar .host) 4 1).1 4 .read 16 19 = .at_ 1 16 g) ∧
    linkReady (landState segFar .host) (sideTo segFar 1) = false := by
  refine ⟨⟨1, none, ?_⟩, ⟨0, ?_⟩, ?_, ?_, ⟨0, ?_⟩, ?_, ⟨0, ?_⟩, ?_, ?_, ⟨0, ?_⟩, ?_⟩ <;> decide +kernel

/-- An urgent entry of channel 1, LINE mode. -/
def urgent : Word := 0x01000

theorem witness_convertAndStool : fld urgent 10 2 = 0 ∧ entryWith urgent = false ∧ headOk urgent = true ∧
    takes procState .host = true ∧ procBusy procState = false ∧ procOn procState = true ∧
    procBusy { procState with proc := { procState.proc with running := true } } = true ∧ procOn runState0 = false ∧
    takes stoolState .host = true ∧ inSched stoolState 10 = true ∧ inSched stoolState 0 = true ∧ inSched stoolState 9 = false ∧
    inSched runState0 10 = false := by decide +kernel

theorem witness_records : takes runState0 .host = true ∧ runState0.evid.full = false ∧ runState0.aon.logClosed = false ∧
    runState0.aon.evQueue.length < 8 ∧ 8 ≤ (List.replicate 8 ([] : List Byte)).length := by decide +kernel

/-- The panel in RUN. -/
def panelRun : State := { runState0 with hutch := { runState0.hutch with
  st := 3, phase := 4, pavdd := true, vgl := true, vgh := true, vcom := true, xdis := true, frame := 5 } }

theorem witness_display : takes panelRun .host = true ∧ rectOk panelRun 0 0 320 240 = true ∧ panelRun.hutch.st = 3 ∧
    domOn panelRun 10 = true ∧ (upto 4).find? (fun k => (rectAt panelRun.hutch k).st == 0) = some 0 ∧
    rectOk runState0 0 0 1 1 = true ∧ runState0.hutch.st = 0 ∧
    blinkOk panelRun [0x101, 0, 0, 8, 8, 0x402] = true ∧ (nth panelRun.hutch.blinkWait 1 none).isSome = false ∧
    (nth { panelRun.hutch with blinkWait := List.replicate 4 (some []) }.blinkWait 1 none).isSome = true := by decide +kernel

theorem witness_keys : takes runState0 .maint = true ∧ keyBytesOk (0x10000 : BitVec 144) = true ∧
    ((((0x10000 : BitVec 144) >>> 16).setWidth 128 : BitVec 128) ≠ 0) ∧ keyBytesOk (0x10001 : BitVec 144) = false := by decide +kernel

theorem witness_saves : takes runState0 .host = true ∧ nvmBusy runState0 = false ∧ runState0.seq.stopping = false ∧
    nvmBusy { runState0 with nvm := { runState0.nvm with op := some (.timeErase 1) } } = true ∧ runState0.seq.item ≤ 9 ∧
    (11 : BitVec 4).toNat ≤ 11 ∧ ((0 : Field) ≠ 0x0A55A) := by decide +kernel

/-- A part at position 1 whose upstream link is up, and one at position 0 with nothing connected. -/
def chained : State := { runState0 with chain := { runState0.chain with
  wired := true, wiringDone := true, posValid := true, pos := 1, up := { runState0.chain.up with st := 2 } } }
def alone : State := { runState0 with chain := { runState0.chain with wiringDone := true, posValid := true } }

theorem witness_enumeration : takes chained .host = true ∧ chained.chain.enum = none ∧ chained.chain.up.st = 2 ∧
    chained.chain.dn.st ≠ 2 ∧ ownPos chained ≠ 0 ∧ chained.chain.posValid = true ∧
    ownPos { chained with chain := { chained.chain with up := alone.chain.up } } ≠ 0 := by decide +kernel

theorem witness_registerWrites : portsUp runState0 = true ∧ Registers.wf runState0 = true ∧ assigned 0xABC = false ∧
    assigned 0x200 = true ∧ quietWrite 0x010 = true ∧ (regRow 0x010).isSome = true ∧
    sealedSet.contains 0x280 = true ∧ sealedSet.contains 0x4CB = true ∧ runState0.bureau.staged = [] := by decide +kernel
/-- Position 1 with a segment that position 0 serves; a segment of the register file; an image that turns the load away
from VAUX. -/
def segUp : State := withSeg chained 4 0x3F 0 0xF
def segRegs : State := withSeg runState0 4 0x3F 0xF0000 3

theorem witness_memoryReach : (∃ g, translate (lookupTime (landState segUp .host) 4 1).1 4 .read 16 19 = .at_ 0 16 g) ∧
    linkReady (landState segUp .host) (sideTo segUp 0) = true ∧
    (∃ g, translate (lookupTime (landState segRegs .host) 4 1).1 4 .read 16 19 = .at_ 0 0xF00010 g) ∧
    mapCheck .read 0xF00010 4 = (some .regs, 0) ∧
    splitWrite ⟨.write, 0x810010, 4, [1, 2, 3, 4], 0, 0⟩ 3 = none := by
  refine ⟨⟨0, ?_⟩, ?_, ⟨0, ?_⟩, ?_, ?_⟩ <;> decide +kernel

/-! ### Ports -/

/-- A NOP packet, and a CFG_SAVE packet with a MAC. -/
def nopBytes : List Byte := packetBytes { opc := 0x00, tag := 0x11, flags := 0, params := [], mac := [] }
def saveBytes : List Byte := packetBytes { opc := 0x2A, tag := 0x12, flags := 0x80, params := [], mac := List.replicate 8 0 }

/-- The host port busy with a packet. -/
def hostBusy : State := { runState0 with ports := { runState0.ports with
  host := { runState0.ports.host with busy := [{ land := landHost, opc := 8 }] } } }

theorem witness_hostPackets : portsListen (portsBy runState0 0) = true ∧ portExec (portsBy runState0 0) .host = false ∧
    portExec (portsBy hostBusy 0) .host = true ∧ portsUp (portsBy runState0 0) = true ∧ lenOf [0, 0, 81, 0] = 81 ∧
    (nopBytes.take 5).length < packetLen (lenOf (nopBytes.take 5)) (nth (nopBytes.take 5) 3 0) ∧
    crcPasses (nopBytes.take 5 ++ [0xFF]) = false ∧ wholePacket nopBytes = true ∧ wholePacket saveBytes = true ∧
    assignedOpc 0x06 = false ∧ BitVec.ofNat 2 (bitsOf (0x20 : Byte).toNat 4 2) ≠ ownPos (portsBy runState0 0) ∧
    starting (portsBy State.reset 6143) = true ∧ portsListen (portsBy State.reset 6143) = true ∧
    packetAct (passedCrc runState0 .host) .host { opc := 0x08, tag := 0, flags := 0, params := [], mac := [] } 0 = none ∧
    (packetAct (passedCrc runState0 .host) .host (parsePacket nopBytes) 0).isSome = true ∧
    checksPass (passedCrc runState0 .host) .host (parsePacket nopBytes) = true ∧
    authSlot (passedCrc runState0 .host) (parsePacket nopBytes) = none ∧
    checksPass (passedCrc runState0 .host) .host (parsePacket saveBytes) = true ∧
    authSlot (passedCrc runState0 .host) (parsePacket saveBytes) = some false := by decide +kernel

/-- MAINT_EN set, a reply waiting, the grant in force. -/
def maintState : State := withRegs { runState0 with ports := { runState0.ports with
  sinceDelim := 2000000
  maint := { runState0.ports.maint with reply := some { tag := 9, status := 0, fields := [], tick := 0, cyc := 0 } } } } [(0x200, 1)]

/-- A bit as the line carries it, 16 samples; and a character's start and data bits. -/
def uartSamples (b : Bool) (i : Nat) : Nat := b2n b * (65535 * 2 ^ (16 * i))
def uartChar (b : Byte) : BitVec 144 :=
  BitVec.ofNat 144 ((upto 8).foldl (fun v i => v + uartSamples (b.getLsbD i) (i + 1)) 0)
def uartStop (b : Bool) : BitVec 16 := BitVec.ofNat 16 (uartSamples b 0)
def nopChars : List (BitVec 144) := nopBytes.map uartChar
def nopStops : List (BitVec 16) := nopBytes.map (fun _ => uartStop true)

theorem witness_maintFrames : mrxOn (portsBy maintState 5) = true ∧ mrxOn (portsBy (withRegs runState0 [(0x200, 0)]) 5) = false ∧
    unescape (nopChars.map uartByte) = nopBytes ∧ nopStops.any uartBadStop = false ∧ uartBadStop (uartStop false) = true ∧
    nopChars ≠ [] ∧ nopBytes.length ≤ 254 ∧ portExec (portsBy maintState 5) .maint = false ∧
    nopBytes.length = packetLen (lenOf nopBytes) (nth nopBytes 3 0) ∧ wholePacket nopBytes = true ∧
    checksPass (passedCrc (delimiterAt (portsBy maintState 5) 5) .maint) .maint (parsePacket nopBytes) = true ∧
    authSlot (passedCrc (delimiterAt (portsBy maintState 5) 5) .maint) (parsePacket nopBytes) = none ∧
    Registers.wf (portsBy maintState 5) = true ∧ 254 < (List.replicate 255 (0 : Byte)).length ∧ mrxOn maintState = true := by
  decide +kernel

theorem witness_replies : maintReady maintState (tickClock maintState) = true ∧
    ({ maintState with ports := { maintState.ports with sending := true } } : State).ports.sending = true ∧
    500 * (msClock : Int) ≤ (500 * msClock : Nat) + (tickClock runState0 : Int) ∧ runState0.ports.maint.reply = none ∧
    (replyReady { runState0 with ports := { runState0.ports with host := maintState.ports.maint } } .host).ports.host.reply.isSome = true ∧
    (replyBytes { tag := 9, status := 0, fields := [], tick := 0, cyc := 0 }).length ≤ 5 ∧
    4 < (replyBytes { tag := 9, status := 0, fields := [], tick := 0, cyc := 0 }).length := by decide +kernel

/-- A refused packet whose reply is due; a nonce issued at 0; the lock until 1 s. -/
def refusedPkt : Exec := { pkt := parsePacket saveBytes, cyc := 7, wait := 0, denied := some true, auth := true, nonce := 0 }
def refusedState : State := { runState0 with
  ports := { runState0.ports with host := { runState0.ports.host with exec := some refusedPkt, nonce := some { value := 1, issued := 0 } } }
  aon := { runState0.aon with lockUntil := some 4096000 } }

theorem witness_refusals : portsUp refusedState = true ∧ refusalDue refusedPkt = true ∧
    0 + 60 * 4096000 ≤ max refusedState.aon.time (1966080 * 125) ∧ max refusedState.aon.time (1966079 * 125) < 0 + 60 * 4096000 ∧
    4096000 ≤ max refusedState.aon.time (32768 * 125) ∧ max refusedState.aon.time (32767 * 125) < 4096000 := by decide +kernel

/-- Position 1 with both links up. -/
def middle : State := { chained with chain := { chained.chain with dn := chained.chain.up } }
def frameTo (d : BitVec 2) (b : List Byte) : RxFrame := { side := .up, dest := d, src := 0, ltag := 4, payload := b, crcOk := true }
def fwd : Forward := { port := .host, tag := 0x11, side := .up, ltag := 4, ticks := 0 }
def forwarding : State := { middle with ports := { middle.ports with forwards := [fwd] } }
/-- A NOP for position 1. -/
def nopFor1 : List Byte := packetBytes { opc := 0x00, tag := 0x11, flags := 0x10, params := [], mac := [] }
def fourQueued : State := { middle with ports := { middle.ports with chainQ := List.replicate 4 (refusedPkt, (Side.up, (0 : BitVec 2), (1 : Byte))) } }

theorem witness_chainFrames : receives middle .up = true ∧ (frameTo 2 []).dest ≠ ownPos middle ∧
    linkReady middle (sideTo middle 2) = true ∧ (frameTo 1 []).dest = ownPos middle ∧ wholePacket nopFor1 = true ∧
    checksPass middle .chain (parsePacket nopFor1) = true ∧ authSlot middle (parsePacket nopFor1) = none ∧
    middle.ports.chainQ.length < 4 ∧ 4 ≤ fourQueued.ports.chainQ.length ∧
    forwarding.ports.forwards.find? (fun w => w.ltag == 4 && w.side == .up) = some fwd ∧
    forwarding.ports.forwards.find? (fun v => v.port == .host && v.ticks == 0) = some fwd ∧
    middle.ports.forwards.find? (fun w => w.ltag == 4 && w.side == .up) = none := by decide +kernel

/-! ### Power -/

/-- PD1 off; PD1 on with CORE off; a cold start under way; GASP. -/
def pd1Off : State := { runState0 with
  seq := { runState0.seq with st := .off }
  power := { runState0.power with pd1 := false, on := 1, working := 1, granted := 0, vres := 0 } }
def coreOff : State := { runState0 with
  seq := { runState0.seq with st := .off }
  power := { runState0.power with on := 3, working := 3, granted := 0, vres := 3500 } }
def coldStarting : State := { coreOff with power := { coreOff.power with coldStarting := true, ramping := 0xA84 } }
def gasp : State := { runState0 with
  seq := { runState0.seq with st := .gasp }
  energy := { runState0.energy with restored := true }
  bureau := { runState0.bureau with open_ := some { code := 5, sev := 0, rep := 0, gasp := false, sat := false, seq := 1, soh := 0, hours := 0, pcc := 0, p0 := 0, p1 := 0, p2 := 0 } } }
def gaspDone : State := { gasp with power := { gasp.power with gaspBureauEnded := true, gaspEnergyEnded := true, gaspPanelEnded := true } }
/-- AUTO_SETTLE set, VAUX valid and feeding the load. -/
def autoState : State := withRegs { runState0 with power := { runState0.power with autoReq := true, belowLow := true, vbc := 3000, vbcOk := true } } [(0x10A, 0x1F0)]
def auxState : State := withRegs { runState0 with power := { runState0.power with vaux := 5000, vauxValid := true, loadAux := true } } [(0x116, 2)]

theorem witness_supplies : pd1Off.power.pd1 = false ∧ coreOff.power.pd1 = true ∧ coreOn coreOff = false ∧
    coreOff.power.coldStarting = false ∧ runState0.power.shunt = false ∧ runState0.power.vauxValid = false ∧
    coreOn runState0 = true ∧ Registers.wf runState0 = true ∧ runState0.power.belowLow = false ∧ 3000 < lowResMv runState0 ∧
    autoState.power.autoReq = true ∧ lowResMv autoState + 200 ≤ 5500 ∧ autoState.power.vbcOk = true ∧
    auxState.power.vauxValid = true := by decide +kernel

theorem witness_failing : runState0.power.pd1 = true ∧ coreOn runState0 = true ∧ runState0.seq.st ≠ .gasp ∧
    coldStarting.power.pd1 = true ∧ coldStarting.seq.st ≠ .gasp ∧ coldStarting.power.loadAux = false ∧
    runState0.nvm.op = none ∧ Tables.wf runState0 = true ∧
    (programRegion runState0 (.timeProg 3 [1])).isSome = true ∧ eraseRegion (.timeProg 3 [1]) = none ∧
    runState0.power.loadAux = false ∧ auxState.power.loadAux = true ∧ auxState.power.pd1 = true := by decide +kernel

theorem witness_floors : coreOn runState0 = true ∧ runState0.power.granted.getLsbD 4 = true ∧ 3000 + 200 < floorOf runState0 4 ∧
    (∀ c, c < 10 → 4 ≤ c → ¬ (6000 + 200 < floorOf runState0 c)) := by decide +kernel

theorem witness_domains : coldStarting.power.coldStarting = true ∧ coldStarting.power.testHold = false ∧
    coldStarting.power.ramping.getLsbD 2 = true ∧
    ({ pd1Off with aon := { pd1Off.aon with powered := false } } : State).aon.powered = false := by decide +kernel

theorem witness_gasp : gasp.seq.st = .gasp ∧ gasp.nvm.op = none ∧ gasp.bureau.open_.isSome = true ∧
    gasp.power.gaspBureauEnded = false ∧ recSlotBlank gasp gasp.bureau.nextSlot = true ∧
    nvmBlank gasp (energySlotAt gasp.energy.nextSlot) 256 = true ∧ panelLive gasp = false ∧ gasp.energy.restored = true ∧
    gaspDone.power.gaspPanelEnded = true ∧ Registers.wf gaspDone = true := by decide +kernel
/-! ### The sequencer -/

/-- A boundary with no input. -/
def quietTick : TickIn := { bits := List.replicate 11 0, supply := none, gp := 0, test := false }

def coldLast : State := { State.reset with seq := { State.reset.seq with stateTicks := 15 } }
def loading : State := { runState0 with seq := { runState0.seq with st := .load } }
def holdBad : State := { runState0 with seq := { runState0.seq with st := .hold, holdRestore := true, holdCause := 2 } }
def resetting : State := { runState0 with seq := { runState0.seq with resetReq := true } }
def resetDone : State := { runState0 with
  seq := { runState0.seq with resetReq := true, stopping := true, stopped := true }
  power := { runState0.power with granted := 0x3FF } }
def waking : State := withRegs { runState0 with bureau := { runState0.bureau with units := 7999 } } [(0x197, 1), (0x196, 60)]
def mismatched : State := withRegs { runState0 with seq := { runState0.seq with mism := [4, 4, 4, 4] } } [(0x184, 1), (0x880, 5)]
def committing : State := { runState0 with seq := { runState0.seq with commitMask := 0x1F } }

theorem witness_boundary : runState0.seq.st ≠ .off ∧ runState0.seq.st ≠ .gasp ∧ did runState0 .entered = false ∧
    (endTick runState0 quietTick).seq.st ≠ .load ∧ gasp.seq.st = .gasp ∧ coreOff.seq.st = .off := by decide +kernel

theorem witness_boundarySteps : runState0.seq.commitMask = 0 ∧ committing.seq.commitMask ≠ 0 ∧ portsUp committing = true ∧
    Registers.wf committing = true ∧ 0x300 ∈ snRegs ∧ mismatched.seq.mism.length = 4 ∧ pairDiffers mismatched 1 = true ∧
    pairDiffers runState0 3 = false ∧ 4 ≤ nth mismatched.seq.mism 1 0 := by decide +kernel

theorem witness_sequencer : coldLast.seq.st = .cold ∧ coldLast.seq.stateTicks = 15 ∧ did coldLast .entered = false ∧
    trimValid { coldLast with nvm := { coldLast.nvm with data := [] } } = false ∧
    loading.seq.st = .load ∧ loading.seq.resetReq = false ∧ holdBad.seq.st = .hold ∧ holdBad.seq.holdRestore = true ∧
    resetting.seq.resetReq = true ∧ running resetting = true ∧ resetting.seq.stopping = false ∧
    resetReady resetDone = true := by decide +kernel

theorem witness_wakes : running waking = true ∧ waking.bureau.units + tickUnits waking ≥ 8000 ∧ did waking .timeBase = false ∧
    did waking .wake = false ∧ getReg waking 0x197 = 1 ∧ Registers.wf waking = true ∧ coreOn mismatched = true ∧
    Registers.wf mismatched = true ∧ pairDiffers (middleSteps (runAll mismatched)) 2 = true := by decide +kernel

/-- Settle in force without a request for it, with room under the ceiling and without. -/
def settled : State := { runState0 with power := { runState0.power with settle := true, granted := 0 } }
def settledFull : State := withRegs { runState0 with power := { runState0.power with settle := true, granted := 0x3FF } } [(0x113, 0x80)]

theorem witness_mode : portsUp settled = true ∧ Registers.wf settled = true ∧ wantsSettle settled = false ∧
    grantSum settled false settled.power.granted ≤ ceiling settled ∧ wantsSettle settledFull = false ∧
    ceiling settledFull < grantSum settledFull false settledFull.power.granted ∧
    wantsSettle (withSnap runState0 [(0x10A, 1)]) = true ∧ wantsSettle runState0 = false := by decide +kernel

/-! ### Line, energy, harmonics -/

/-- Item 4 of a tick with stream 0 in force and its reference present, in tracker state `st`. -/
def lineState (st fly : Nat) : State := withForce { runState0 with
  seq := { runState0.seq with item := 4 }
  line := { runState0.line with st := st, flyCnt := fly, itemOn := true, refOn := true, clk := 30000000, exp := 29999999 } } [(0x184, 1)]

theorem witness_crossings : (∀ p ∈ [(1, 0), (2, 7), (3, 8), (0, 0)], running (lineState p.1 p.2) = true ∧
      (schedNow (lineState p.1 p.2)).w ≠ 0 ∧ rawCrossing (lineState p.1 p.2) = none ∧
      (lineState p.1 p.2).line.exp ≤ (lineState p.1 p.2).line.clk ∧ did (lineState p.1 p.2) .flywheel = false) ∧
    (lineState 0 0).line.entered + nominalP0 (lineState 0 0) * 3 / 2 ≤ (lineState 0 0).line.clk ∧
    (lineState 0 0).line.provStart = none ∧ (lineState 0 0).line.enter = false := by decide +kernel

/-- A half-cycle boundary in item 7; a cycle in its fourth tail tick. -/
def halfState : State := { lineState 1 0 with
  seq := { (lineState 1 0).seq with item := 7 }, line := { (lineState 1 0).line with cross := some (5, 0) } }
def tailState (w : Bool) (left : Nat) : State := { runState0 with
  line := { runState0.line with tail := some { left := left, work := 0, results := [(0x410, 7)], sat := 0, window := w, period := some 15728640, sSum := 0 } } }

theorem witness_halves : running halfState = true ∧ halfState.line.itemOn = true ∧ did halfState .half = false ∧
    halfState.line.cross.isSome = true ∧ cyclePublicationDue (runAll (tailState true 1)) = true ∧
    Registers.wf (runAll (tailState true 1)) = true ∧ (runAll (tailState true 1)).line.tail = (tailState true 1).line.tail ∧
    isRetained 0x410 = false := by decide +kernel

/-- A window's analysis, finished and not. -/
def job (r : Bool) : HarmJob :=
  { bounds := [], force := 0, winCount := 6, qual := 0, freq := 50000, work := 100, chans := 0, settle := false, ready := r }
def harmDone : State := { runState0 with seq := { runState0.seq with item := 16 }, harm := { runState0.harm with job := some (job true) } }
def harmLate : State := { tailState true 4 with
  seq := { runState0.seq with item := 15 }, harm := { runState0.harm with job := some (job false) } }

theorem witness_harmonics : running harmDone = true ∧ harmDone.seq.item = 16 ∧ did harmDone .harmPub = false ∧
    harmDone.harm.job = some (job true) ∧ Registers.wf harmDone = true ∧ coreOn harmDone = true ∧
    harmLate.seq.item = 15 ∧ windowEndsNow harmLate = true ∧ did harmLate .bgShort = false := by decide +kernel

/-- The next pulse of CF output 0 is due in this tick; a pulse is high and ends in it. -/
def cfStart : State := withForce { runState0 with energy := { runState0.energy with
  cf := setNth runState0.energy.cf 0 { noCf with queue := [5] } } } [(0x185, 0x800)]
def cfHigh : State := withForce { runState0 with energy := { runState0.energy with
  cf := setNth runState0.energy.cf 0 { noCf with high := true, ends := 7, lastStart := some 3 } } } [(0x185, 0x800)]
/-- A periodic save is due; a save, and an erase of the store, under way. -/
def saveDue : State := withRegs { runState0 with energy := { runState0.energy with restored := true, units := 480000 } } [(0x40C, 0x1000)]
def saving (k : Nat) : State := { runState0 with nvm := { runState0.nvm with op := some (.energyProg k [1, 2]) } }
def erasing : State := { runState0 with nvm := { runState0.nvm with op := some (.energyErase 3) } }

theorem witness_energy : running cfStart = true ∧ cfOn cfStart 0 = true ∧ cfStart.energy.cf.length = 4 ∧
    cfNext cfStart (cfGet cfStart 0) = .start 5 ∧ (cfGet cfStart 0).lastStart ≠ some 5 ∧
    cfNext cfHigh (cfGet cfHigh 0) = .ends ∧ cfOn runState0 0 = false ∧ periodicDue saveDue = true ∧
    (saving 4).nvm.op = some (.energyProg 4 [1, 2]) ∧ (saving 5).seq.st ≠ .gasp ∧ Registers.wf (saving 5) = true ∧
    erasing.nvm.op = some (.energyErase 3) := by decide +kernel

/-! ### Slices, Stool, detectors -/

/-- The foreground of the tick has run. -/
def ran (s : State) : State := { s with seq := { s.seq with item := 18 } }

/-- The Stool at the last tick of a step; a switch due, with nothing to hold it back, and held back. -/
def stoolAt (st step : Nat) : State := ran { stoolState with stool := { stoolState.stool with st := st, step := step, left := 1, target := 0 } }
def switching (st : Nat) (held : Bool) : State := ran { stoolState with
  stool := { stoolState.stool with st := st, step := 1, due := true, carrying := st == 4, target := 0, deferUnits := 480001 }
  pq := { stoolState.pq with sag := { stoolState.pq.sag with active := held } } }
def overdue (st : Nat) : State := { switching st true with stool := { (switching st true).stool with deferred := true } }

theorem witness_stool : stepDue (runAll (stoolAt 1 1)) = true ∧ stepDue (runAll (stoolAt 3 2)) = true ∧
    stepDue (runAll (stoolAt 2 1)) = true ∧ takeoverDue (runAll (switching 2 false)) = true ∧
    switchBlocked (runAll (switching 2 false)) = false ∧ switchBlocked (runAll (switching 2 true)) = true ∧
    deferralOver (runAll (overdue 2)) = true ∧ handbackDue (runAll (switching 4 false)) = true ∧
    switchBlocked (runAll (switching 4 false)) = false ∧ deferralOver (runAll (overdue 4)) = true ∧
    Registers.wf (runAll (overdue 4)) = true := by decide +kernel

/-- A rotation that completes: SELF at the end of its rest, with no slice left to serve. -/
def rotating : State := ran { stoolState with stool := { stoolState.stool with st := 1, step := 3, left := 1, nextSlice := 10, target := 10 } }

theorem witness_rotation : did (rotationDoneOp (runAll rotating)) .rotation = true ∧ did (runAll rotating) .rotation = false := by
  decide +kernel

/-- A peak guard of slice 4 with a threshold of 100; a detector at the last sample of its block; a settling stream. -/
def guarded : State := withSnap { runState0 with streams := { runState0.streams with
  guards := List.replicate 6 { count := 0, blocked := false, thrRaw := 100 } } } [(0x2FE, 1)]
def detecting : State := withForce (withSnap { runState0 with
  seq := { runState0.seq with item := 11 }
  streams := { runState0.streams with dets := List.replicate 4 { s1 := 3, s2 := 4, n := 63, active := true } } }
    [(0x3C8, 0), (0x3CC, 1000), (0x3D0, 64)]) [(0x184, 1), (0x185, 0x80)]
def settling : State := ran { runState0 with streams := { runState0.streams with settling := List.replicate 11 1 } }

theorem witness_converters : coreOn runState0 = true ∧ works runState0 (streamDomain 10) = true ∧
    works State.reset (streamDomain 10) = false ∧ runState0.streams.conv.length = 11 ∧ guardOn guarded 0 = true ∧
    works guarded (streamDomain (guardConv guarded 0)) = true ∧
    (guardSample (guardNeed guarded) (nth guarded.streams.guards 0 { count := 0, blocked := false, thrRaw := 0 }) (-1600)).2 = true ∧
    guardOn guarded 1 = false ∧ running detecting = true ∧ detOn detecting 0 = true ∧
    (nth detecting.streams.dets 0 freshDet).active = true ∧ detLen detecting 0 ≤ (nth detecting.streams.dets 0 freshDet).n + 1 ∧
    did detecting (.detBlock 0) = false ∧ coreOn (runAll settling) = true ∧ nth (runAll settling).streams.settling 10 0 = 1 ∧
    (runAll settling).streams.settling.length = 11 := by decide +kernel

theorem witness_squareRoot : (2 ^ 160 - 1 : Nat) < 2 ^ 160 ∧ isqrt 152399025 = 12345 ∧ isqrt 152399024 = 12344 := by decide +kernel

/-! ### Process integrators and leads -/

/-- The timer is due; a sequence runs; a window of mode `m` is open. -/
def timerDue (busy : Bool) : State := withSnap { ran procState with
  proc := { procState.proc with timerUnits := 8, running := busy } } [(0x300, 1), (0x302, 1)]
def delayed (e : Word) : State := { procState with
  proc := { procState.proc with running := true, delaying := true, delay := 6143, entries := [e] } }
def trigState (wait : Bool) : State := withForce { procState with proc := { procState.proc with
  running := true, waiting := wait, isOpen := !wait, openMode := 2, openUnits := 8, entries := [0x20000] } } [(0x880, 5), (0x184, 0x800)]
def openState (m u : Nat) : State := { procState with
  proc := { procState.proc with running := true, isOpen := true, openMode := m, openLen := 4, openUnits := u, lineDue := if m = 0 then [(5, 1)] else [] } }
def closedWin : ProcWin := { pair := 8, integB := true, entry := 2, chan := 9, scale := false, rate := 0, mode := 1, kind := 0, closed := true }
def runningDown : State := { procState with proc := { procState.proc with wins := [closedWin], urgent := true } }

theorem witness_processStarts : procOn (runAll (timerDue true)) = true ∧ procStartSel (runAll (timerDue true)) = 1 ∧
    snapN (runAll (timerDue false)) 0x302 = 1 ∧ 8 * 1 ≤ (runAll (timerDue false)).proc.timerUnits + tickUnits (runAll (timerDue false)) ∧
    did (runAll (timerDue false)) .procTimer = false ∧ procBusy (runAll (timerDue true)) = true ∧
    procBusy (runAll (timerDue false)) = false ∧ Registers.wf (runAll (timerDue true)) = true ∧
    earliest (procEvents (delayed 0x10005)) = some ((delayed 0x10005).proc.delay, evDelay) ∧
    entryMode (seqEntry (delayed 0x10005) 0) = 1 ∧ entryMode (seqEntry (delayed 0) 0) ≠ 1 := by decide +kernel

/-- What a TRIG edge in cycle 8 meets. -/
def atEdge (s : State) : State := procTo (parksBy s 8) 8
def trigIdle (run : Bool) : State := withSnap { trigState true with
  proc := { procState.proc with running := run, entries := [0x20000] } } [(0x300, 2)]

theorem witness_trigEdges : (∀ w, (trigState w).proc.urgentAt = none ∧ trigSeen (parksBy (trigState w) 8) = true ∧
      procOn (parksBy (trigState w) 8) = true ∧ procBusy (atEdge (trigState w)) = true ∧
      edgeMatches (atEdge (trigState w)).proc.ctrl true = true) ∧
    (atEdge (trigState true)).proc.waiting = true ∧ entryMode (seqEntry (atEdge (trigState true)) 0) = 2 ∧
    (atEdge (trigState false)).proc.isOpen = true ∧ msCycles (atEdge (trigState false)) ≤ openCycles (atEdge (trigState false)) 8 ∧
    procStartSel (atEdge (trigIdle false)) = 2 ∧ (atEdge (trigIdle true)).proc.running = true ∧
    procBusy (atEdge (trigIdle false)) = false ∧ edgeMatches (snapReg (atEdge (trigIdle false)) 0x300) true = true ∧
    procOn runState0 = false := by decide +kernel

theorem witness_processEnds : earliest (procEvents (openState 1 32)) = some ((openState 1 32).proc.openCyc, evFixed) ∧
    earliest (procEvents (openState 2 8000)) = some ((openState 2 8000).proc.openCyc, evPwm) ∧
    procOn (openState 0 0) = true ∧ procBusy (openState 0 0) = true ∧
    (earliest (procEvents (openState 0 0))).map (·.2) = some evLine ∧ runningDown.proc.urgent = true ∧
    runningDown.proc.wins.find? (fun u => u.closed && u.pair == 8 && u.integB == true) = some closedWin := by decide +kernel

/-- Lead 6 parked on its way to a tamper loop. -/
def parked : State := withForce { runState0 with pins := { runState0.pins with parked := 0x40 } } [(0x881, 0x80)]

theorem witness_parks : parked.pins.parked.getLsbD 6 = true ∧ trigLead parked ≠ some 6 ∧ leadFunc parked 6 = 8 ∧
    runState0.pins.parked.getLsbD 0 = false := by decide +kernel
/-! ### Memory and chain -/

/-- Bank 0 ready, requester 4's read of line 1 waiting; the same with requester 3's request withdrawn and older. -/
def readReq : Req := newReq 4 (.port { land := landHost, opc := 8 } { kind := .read, pa := 16, count := 4, data := [], op1 := 0, op2 := 0 } 4 16 0 3) 0
def waiting4 : State := { segCap with mem := { segCap.mem with ready := 1, init := 2, reqs := [readReq] } }
def withdrawn3 : State := { waiting4 with mem := { waiting4.mem with
  reqs := [readReq, { newReq 3 .rect 0 with wait := 9, gone := true }] } }
/-- A capture line, and a record on its way to staging, waiting for the Sideboard. -/
def capQueued : State := { segCap with
  dresser := (withSeg segCap 0 0x3F 0 0xF).dresser
  cap := { segCap.cap with st := 2, queue := [{ va := 0, bytes := List.replicate 16 7, last := true }] }
  mem := { segCap.mem with ready := 3, reqs := [newReq 0 .capture 0] } }
def aRecord : BRec :=
  { code := 5, sev := 1, rep := 0, gasp := false, sat := false, seq := 1, soh := 0, hours := 0, pcc := 0, p0 := 1, p1 := 2, p2 := 3 }
def stagingState : State := { (withSeg runState0 7 0x3F 0 0xF) with
  bureau := { runState0.bureau with toStage := [aRecord], stageLen := 4, queue := List.replicate 4 aRecord }
  mem := { runState0.mem with ready := 3 } }

/-- What the Sideboard decides on, and whom it names. -/
def named (s : State) : Option (Nat × Nat) := (winner ((serveAway s).getD s)).map (fun p => (p.1.r, p.2))

theorem witness_sideboard : boardUp waiting4 = true ∧ Registers.wf waiting4 = true ∧ named waiting4 = some (4, 1) ∧
    named withdrawn3 = some (3, 0) ∧ named capQueued = some (0, 1) ∧ (named (stageMore stagingState)).map (·.1) = some 7 ∧
    frozen (withRegs waiting4 [(0x620, 1)]) = true := by decide +kernel

/-- STARVE_LIM 10 and a request that has waited 11 cycles; a bank about to be ready; a scrub step due. -/
def initEnding : State := { runState0 with mem := { runState0.mem with ready := 1, init := 2, initCyc := [0, 32768] } }
def starving : State := withRegs { waiting4 with mem := { waiting4.mem with reqs := [{ readReq with starve := 11 }] } } [(0x622, 10)]
def scrubbing (k : Nat) : State := withRegs { runState0 with mem := { runState0.mem with ready := 3, backlog := 1, scrubPos := k, init := 0 } }
  [(0x608, 1)]
def yielding : State := withRegs { runState0 with mem := { runState0.mem with backlog := 3, scrubDue := 2 } } [(0x620, 1)]
def capFinished : State := { runState0 with cap := { runState0.cap with st := 2, written := true } }

theorem witness_memory : regN starving 0x622 ≠ 0 ∧ frozen starving = false ∧ Registers.wf starving = true ∧
    regN starving 0x622 < ({ readReq with starve := 11 } : Req).starve + (idleCycles starving - (readReq.at_ - starving.mem.busy)) ∧
    bankInitDue initEnding 1 = true ∧ bankOn initEnding 1 = true ∧
    (∀ k ∈ [5, 65534], boardUp (scrubbing k) = true ∧ frozen (scrubbing k) = false ∧ winner (scrubbing k) = none ∧
      (scrubbing k).mem.busy < 6144 ∧ (scrubbing k).mem.poison = none ∧ (scrubbing k).mem.writeBack = none ∧
      scrubInt (scrubbing k) ≠ 0 ∧ bankOn (scrubbing k) (bankOf (16 * k)) = true ∧
      bankReady (scrubbing k) (bankOf (16 * k)) = true) ∧
    did yielding .scrubYield = false ∧ frozen yielding = true ∧ Registers.wf yielding = true ∧
    capFinished.cap.written = true ∧ capFinished.cap.st = 2 ∧ Memory.wf runState0 = true := by decide +kernel

/-- MRQs held: one, and eight; an operation at position 2 that waits, one to be sent again, one given up. -/
def mrqBytes : List Byte := mrqPayload { kind := .read, pa := 16, count := 4, data := [], op1 := 0, op2 := 0 }
def mrqHeld (n : Nat) : State := { middle with chain := { middle.chain with
  mrqs := List.replicate n (Side.up, (0 : BitVec 2), (4 : Byte), mrqBytes) } }
def remoteOp (r : Bool) (k : Nat) : Remote :=
  { user := .port { land := landHost, opc := 8 }, acc := { kind := .read, pa := 16, count := 4, data := [], op1 := 0, op2 := 0 }, chip := 2, side := .dn, ltag := 4, ctx := 4, va := 16, g := 0, ticks := k, retry := r }
def remoteState (r : Bool) (k : Nat) : State := { middle with
  chain := { middle.chain with remote := [remoteOp r k] }
  ports := { middle.ports with host := hostBusy.ports.host } }
def mrsFor (st : Byte) : RxFrame := { side := .dn, dest := 1, src := 2, ltag := 4, payload := [st, 0, 1, 2, 3, 4], crcOk := true }

theorem witness_frames : receives middle (frameTo 1 []).side = true ∧ receives runState0 .up = false ∧
    (mrqHeld 7).chain.mrqs.length < 8 ∧ 8 ≤ (mrqHeld 8).chain.mrqs.length ∧ mrqDue (mrqHeld 1) = true ∧
    (mrqAccess mrqBytes).isSome = true ∧
    (∀ a, mrqAccess mrqBytes = some a → accepts (mrqHeld 1) 0 a = false) ∧ Registers.wf (mrqHeld 1) = true := by decide +kernel

theorem witness_remote : receives (remoteState false 5) .dn = true ∧ (mrsFor 1).dest = ownPos (remoteState false 5) ∧
    (remoteState false 5).chain.remote.find? (fun q => q.ltag == 4 && q.side == .dn && q.chip == 2) = some (remoteOp false 5) ∧
    (nth (mrsFor 1).payload 0 0).toNat = 1 ∧ (nth (mrsFor 0).payload 0 0).toNat ≠ 1 ∧
    (remoteState true 5).chain.remote.find? (fun q => q.retry) = some (remoteOp true 5) ∧
    (linkOf (remoteState true 5) .dn).st = 2 ∧
    (remoteState false 0).chain.remote.find? (fun q => q.ticks == 0) = some (remoteOp false 0) := by decide +kernel

/-- A CHAIN_ENUM that waits, with `k` ticks left. -/
def enumState (k : Nat) : State := { middle with
  chain := { middle.chain with enum := some { wait := { land := landHost, opc := 0x30 }, waitUp := true, waitDn := true, heard := [], ticks := k } }
  ports := { middle.ports with host := hostBusy.ports.host } }

theorem witness_enum : (enumState 0).chain.enum.isSome = true ∧ receives (enumState 5) .up = true ∧
    (frameTo 1 []).dest = ownPos (enumState 5) ∧ linkReady middle (otherSide .up) = true ∧ middle.chain.enum = none := by decide +kernel

/-- Links in training and up; idle bytes. -/
def trainingLink : State := { chained with chain := { chained.chain with up := { chained.chain.up with st := 1, aligned := 64, rxok := true } } }
def driven : State := withRegs trainingLink [(0x690, 1)]

theorem witness_links : domOn runState0 11 = true ∧ runState0.chain.wiringDone = false ∧ bitsOf (0xA2 : Byte).toNat 5 3 = 5 ∧
    (0xA2 : Byte).toNat % 2 = 0 ∧ (0xA2 : Byte).getLsbD 4 = false ∧ bitsOf (0x00 : Byte).toNat 5 3 ≠ 5 ∧
    (linkOf driven .up).st = 1 ∧ 64 ≤ (linkOf driven .up).aligned ∧ (linkOf driven .up).rxok = true ∧
    linkDriven driven .up = true ∧ (linkOf driven .up).held = false ∧ (linkOf middle .up).st = 2 ∧
    middle.chain.remote = [] ∧ middle.chain.enum = none := by decide +kernel

/-! ### Bureau, tamper, evidence -/

def coalescing : State := withRegs { ran runState0 with bureau := { runState0.bureau with open_ := some aRecord, openUnits := 7999 } } [(0x700, 1)]
def hourEnds : State := { ran runState0 with bureau := { runState0.bureau with units := 7999, soh := 3599 } }
def nvmAt (op : NvmOp) : State := { runState0 with nvm := { runState0.nvm with op := some op }, bureau := { runState0.bureau with queue := [aRecord] } }

theorem witness_bureau : coalesceDue (runAll coalescing) = true ∧ (runAll coalescing).bureau.open_ = some aRecord ∧
    hourRolls (runAll hourEnds) = true ∧ did (runAll hourEnds) .hour = false ∧ did (runAll hourEnds) .timeBase = false ∧
    (nvmAt (.bureauProg 32)).bureau.queue = [aRecord] ∧ (nvmAt (.bureauProg 33)).seq.st ≠ .gasp ∧
    Registers.wf (nvmAt (.bureauProg 33)) = true ∧ (nvmAt (.timeErase 1)).ports.held = [] := by decide +kernel

theorem witness_recordReadsBack : (1023 : Nat) < 1024 ∧ (3 : Nat) < 4 ∧ (4095 : Nat) < 4096 ∧ (1048575 : Nat) < 1048576 := by decide

/-- Loop TMP0 on its lead; every class sensing; the cell present; the temperature out of range once. -/
def sensing : State := withRegs { runState0 with
  aon := { runState0.aon with sel6 := 8, tempOut := true }
  power := { runState0.power with vbcOk := true, vbc := 3000 } } [(0x780, 0x7F)]
def condEnds : State := { sensing with aon := { sensing.aon with cond := 0x21, normal0 := 1, loop0 := 1 } }
def unpowered : State := { sensing with aon := { sensing.aon with powered := false } }

theorem witness_tamper : Registers.wf sensing = true ∧ sensing.aon.powered = true ∧ loopSelected sensing false = true ∧
    sensing.aon.loop0 = 0 ∧ classOn sensing 0 = true ∧ 1 ≤ condEnds.aon.normal0 ∧ cellStood (atOsc sensing 5) = true ∧
    cellStood (atOsc runState0 5) = false ∧ sensing.aon.cond.getLsbD 4 = false ∧ condEnds.aon.cond.getLsbD 0 = true ∧
    classOn sensing 2 = true ∧ portsUp sensing = true ∧ classOn sensing 3 = true ∧ classOn sensing 4 = true ∧
    sensing.aon.cond.getLsbD 5 = false ∧ sensing.aon.tempOut = true ∧ condEnds.aon.cond.getLsbD 5 = true ∧
    unpowered.aon.powered = false := by decide +kernel

/-- Everything agrees with its shadow; the flags disagree. -/
def flagsWrong : State := { runState0 with aon := { runState0.aon with flagShadow := 0 } }

def historyWrong : State := { runState0 with aon := { runState0.aon with failShadow := [5] } }

theorem witness_shadows : (∀ n ∈ shadowed, sget shadowReset runState0.aon.regShadow n = ~~~(getReg runState0 n)) ∧
    runState0.aon.flagShadow = ~~~(authFlags (atOsc runState0 5)) ∧ runState0.aon.failShadow = inverse runState0.aon.fails ∧
    flagsWrong.aon.flagShadow ≠ ~~~(authFlags (atOsc flagsWrong 5)) ∧ flagsWrong.aon.failShadow = inverse flagsWrong.aon.fails ∧
    historyWrong.aon.flagShadow = ~~~(authFlags (atOsc historyWrong 5)) ∧
    historyWrong.aon.failShadow ≠ inverse historyWrong.aon.fails := by decide +kernel

/-- The seal is to be checked: no record; a record and no key. -/
def toCheck : State := { runState0 with evid := { runState0.evid with checkDue := true } }

theorem witness_evidence : (nvmAt (.evidProg 0 [1])).nvm.op = some (.evidProg 0 [1]) ∧ toCheck.evid.checkDue = true ∧
    portsUp toCheck = true ∧ runState0.evid.checkDue = false ∧ landHost.port ≠ .chain ∧ landHost.noreply = false ∧
    (nvmAt (.cfgSave 1 2 [3] { land := landHost, opc := 0x2A })).seq.st ≠ .gasp := by decide +kernel

/-! ### The Hutch -/

def rising (k : Nat) : State := { runState0 with hutch := { runState0.hutch with st := 1, phase := k } }
def clearing : State := { panelRun with hutch := { panelRun.hutch with st := 2, frame := 1 } }
def falling (c : Bool) : State := { panelRun with hutch := { panelRun.hutch with st := 4, clearing := c } }
def discharging : State := { panelRun with hutch := { panelRun.hutch with st := 6, discharging := true, after := 7 } }
def copying : State := { panelRun with hutch := { panelRun.hutch with
  rects := [{ freeRect with st := 3, w := 16, h := 1 }, freeRect, freeRect, freeRect] } }
def lit : State := { panelRun with hutch := { panelRun.hutch with flReq := true } }

theorem witness_panel : domOn (rising 0) 10 = true ∧ (rising 4).hutch.st = 1 ∧ (rising 4).hutch.phase = 4 ∧
    clearing.hutch.st = 2 ∧ clearing.hutch.frame = 1 ∧ (falling true).hutch.clearing = true ∧
    (falling false).hutch.discharging = false ∧ boardUp clearing = true ∧ requesting clearing 2 = false ∧
    engineAway clearing 2 = false ∧ clearing.hutch.row < heightOf clearing.hutch.size ∧ requesting copying 3 = false ∧
    copySlot copying.hutch = some 0 ∧ copySlot panelRun.hutch = none ∧ discharging.hutch.discharging = true ∧
    panelRun.hutch.vcom = true ∧ lit.hutch.flReq = true ∧ lit.power.granted.getLsbD 8 = true ∧ coreOn lit = true ∧
    bitAt (getReg panelRun 0x808) 4 = false ∧ railGood panelRun.hutch 2 0 = false ∧ railGood panelRun.hutch 0 5000 = true ∧
    (rising 1).hutch.st = 1 ∧ panelRun.hutch.discharging = false := by decide +kernel

/-! ### The machine as a whole -/

theorem witness_tables : Tables.wf State.reset = true ∧ step State.reset = .next State.reset := by
  refine ⟨by decide +kernel, rfl⟩

theorem witness_noreply : landMaint.noreply = true ∧ stOk = 0 ∧ stBusy ≠ 0 ∧ (linkOf middle .up).st = 2 ∧
    (portOf middle .chain).due = none ∧ (portOf (landState middle .chain) .chain).due ≠ none := by decide +kernel

theorem witness_translation : ∃ g, translate segCap 4 .write 16 31 = .at_ 0 16 g := ⟨0, by decide +kernel⟩

theorem witness_packets : (Instr.commit landHost 0x15).wellFormed = true ∧
    (opcodeParams (.commit landHost 0x15)).isSome = true ∧ (commandPacket 1 (List.replicate 8 7) (.commit landHost 0x15)).isSome = true ∧
    stepFive runState0 (.commit landHost 0x15) = true := by decide +kernel

/-- What RowsComplete asks for beyond the witnesses of the other statements. -/
def keyed : State := { runState0 with aon := { runState0.aon with key0 := some 5 } }
def rectWaits : State := withSeg { copying with
  hutch := { copying.hutch with copying := some 0 }
  mem := { copying.mem with ready := 3, reqs := [newReq 3 .rect 0] } } 3 0x3F 0 0xF

theorem witness_rows : panelRun.hutch.rects.length = 4 ∧ panelRun.hutch.blinkWait.length = 4 ∧ landHost.noreply = false ∧
    storedTimingOk runState0 = true ∧ keySlot keyed false = some 5 ∧
    (((0x10000 : BitVec 144) >>> 16).setWidth 128 ^^^ keyMask 5 0 : BitVec 128) ≠ 0 ∧
    bitAt (0x18A05 : Word) 16 = true ∧ panelRun.hutch.flReq = false ∧ runState0.chain.up.st = 0 ∧ runState0.chain.dn.st = 0 ∧
    bitAt (2 : Word) 1 = true ∧ (regRow 0x280).isSome = true ∧ Registers.wf (memTo runState0 (runState0.seq.cycle + 1)) = true ∧
    serveAway waiting4 = none ∧ (winner waiting4).map (·.1.r) = some 4 ∧ serveAway capQueued = none ∧
    requesting rectWaits 3 = true ∧ serveAway rectWaits = none ∧ (winner rectWaits).map (·.1.r) = some 3 ∧ alone.chain.up.st ≠ 2 ∧ ownPos alone = 0 := by decide +kernel

/-! ### Well-formed commands: an ill-formed term for each check -/

theorem test_wf_rd_empty : (Instr.rd landHost []).wellFormed = false := by decide +kernel
theorem test_wf_rd_unassigned : (Instr.rd landHost [0xABC]).wellFormed = false := by decide +kernel
theorem test_wf_rd_ok : (Instr.rd landHost [0x000]).wellFormed = true := by decide +kernel
theorem test_wf_wr : (Instr.wr landHost 0 [(0xABC, 0)]).wellFormed = false := by decide +kernel
theorem test_wf_rmw_empty : (Instr.rmw landHost 0 []).wellFormed = false := by decide +kernel
theorem test_wf_rmw : (Instr.rmw landHost 0 (List.replicate 27 (0x196, 0, 0))).wellFormed = false := by decide +kernel
theorem test_wf_snap : (Instr.snap landHost (List.replicate 80 0x000)).wellFormed = false := by decide +kernel
theorem test_wf_mem_rd : (Instr.memRd landHost 0 241).wellFormed = false := by decide +kernel
theorem test_wf_mem_rd_zero : (Instr.memRd landHost 0 0).wellFormed = false := by decide +kernel
theorem test_wf_mem_wr : (Instr.memWr landHost 0 []).wellFormed = false := by decide +kernel
theorem test_wf_fetch_add : (Instr.fetchAdd landHost 2 0).wellFormed = false := by decide +kernel
theorem test_wf_swap : (Instr.swap landHost 1 0).wellFormed = false := by decide +kernel
theorem test_wf_cmp_swap : (Instr.cmpSwap landHost 3 0 0).wellFormed = false := by decide +kernel
theorem test_wf_convert : (Instr.convertNow landHost 0x00400).wellFormed = false := by decide +kernel
theorem test_wf_select : (Instr.select landHost 11).wellFormed = false := by decide +kernel
theorem test_wf_rect : (Instr.dispRect landHost 0 0 0 1).wellFormed = false := by decide +kernel
theorem test_wf_blink : (Instr.dispBlink landHost [0]).wellFormed = false := by decide +kernel
theorem test_wf_key : (Instr.keyLoad landHost false 1 0).wellFormed = false := by decide +kernel
theorem test_wf_preset : (Instr.energyPreset landHost 12 0).wellFormed = false := by decide +kernel
theorem test_wf_reset : (Instr.resetSoft landHost 0).wellFormed = false := by decide +kernel
theorem test_wf_sealed : (Instr.sealedRegisterWrite .host 0x000 0).wellFormed = false := by decide +kernel
theorem test_wf_write : (Instr.registerWrite .host 0xABC 0).wellFormed = false := by decide +kernel
theorem test_wf_host_packet : (Instr.hostPacketWrite 6144 []).wellFormed = false := by decide +kernel
theorem test_wf_maint_frame : (Instr.maintFrame 6144 [] []).wellFormed = false := by decide +kernel
theorem test_wf_maint_stops : (Instr.maintFrame 0 [] [0]).wellFormed = false := by decide +kernel
theorem test_wf_pkt_frame : (Instr.pktFrame 6144 ⟨.up, 0, 0, 0, [], true⟩).wellFormed = false := by decide +kernel
theorem test_wf_trig : (Instr.trigEdge true 6144).wellFormed = false := by decide +kernel
theorem test_wf_tick : (Instr.tickBoundary ⟨[], none, 0, false⟩).wellFormed = false := by decide +kernel

/-! ### The spec's worked cases, each with the file it stands in -/

/-- The checksum of the challenge packet (04, clearing the Bureau). -/
theorem test_crc16_challenge : crc16 [0x28, 0x01, 0x00, 0x00] = 0x017D := by decide +kernel

/-- The bytes of the frame before escaping, and after (04, clearing the Bureau). -/
theorem test_escape : escape [0x28, 0x01, 0, 0, 0x01, 0x7D] = [0x28, 0x01, 0, 0, 0x01, 0x7D, 0x5D] := by decide +kernel

/-- The bus code of a write of MODE_CTRL (04, the host at its next wake). -/
theorem test_bus_code : busCode 0x10A 0x00141 = 0x16 := by decide +kernel

/-- The schedule of Kellmoor Ridge (03). -/
def kellmoor (n : Nat) : Sched :=
  { w0 := 0xFFF, w1 := 0x19FF, w2 := 0x0F7, w3 := 0x6FF, fir := List.replicate 10 n }

theorem test_schedule_starts : (upto 16).map (fun m => (kellmoor 127).start (m + 1)) =
    [0, 96, 536, 1328, 1424, 1832, 2104, 2744, 2904, 3144, 3208, 3360, 3616, 3672, 3800, 4024] := by decide +kernel
theorem test_schedule_total : (kellmoor 127).total = 4120 := by decide +kernel
theorem test_schedule_margins : (kellmoor 127).margin false false = 215544 ∧ (kellmoor 127).margin true false = 29904 := by
  decide +kernel

/-- Everything enabled with every FIR at 255 taps (03). -/
theorem test_schedule_full :
    let c : Sched := { w0 := 0xFFF, w1 := 0x7FFF, w2 := 0x7FF, w3 := 0xFFF, fir := List.replicate 10 255 }
    c.total = 5120 ∧ c.margin false false = 76544 ∧ c.margin true false = -4096 := by decide +kernel

/-- The frontlight's declared cost (02). -/
theorem test_front_light_cost : flCost 20 128 = 201 ∧ flCost 20 64 = 101 := by decide +kernel

/-- Detector coefficients of the ripple-control tone (07). -/
theorem test_det_coef : detCoef false 5120 = 507817 ∧ detCoef true 5120 = 280928 := by decide +kernel

/-- DC-block coefficients of the 1 Hz corner (07). -/
theorem test_dc_block : dcbCoef false 2 = 13172 ∧ dcbCoef true 2 = 52624 := by decide +kernel

/-- The DC block of slice 3 at the 1 Hz corner, in Full (07 R158): y16 is x16 less the estimate, and the estimate moves by
y16 × a; with FREEZE it does not (R159). -/
theorem test_dc_step :
    let v := { freshConv with x16 := 1600, e := 100 * 2 ^ 24 }
    let run := dcStep (withSnap State.reset [(0x383, 0x002)]) 3 v
    let held := dcStep (withSnap State.reset [(0x383, 0x012)]) 3 v
    run.1.y16 = 1500 ∧ run.1.e = 100 * 2 ^ 24 + 1500 * 13172 ∧ run.2 = false ∧ held.1.y16 = 1500 ∧
      held.1.e = 100 * 2 ^ 24 := by decide +kernel

/-- LINE_FREQ at 47 Hz (08). -/
theorem test_freq : freqMhz 1 16732596 = 0x0B798 := by decide +kernel

/-- A CF pulse of the laboratory's rate falls due at c1905 (08). -/
theorem test_cf_due : cfDue { a0 := 1000000, w := 156638, thr := 1048576, n := 1, m := 1 } 1 = 1905 := by decide +kernel

/-- Levels of power-quality events (09). -/
theorem test_pq_levels :
    let s := withSnap runState0 [(0x521, 241173)]
    pqLevel s 922 = 217149 ∧ pqLevel s 942 = 221860 ∧ pqLevel s 1126 = 265196 ∧ pqLevel s 51 = 12011 := by decide +kernel

/-- The RMS of two halves, one full and one at 70 % (09). -/
theorem test_half_rms :
    halfRms { sq := [241173 * 241173], len := 1, force := 1 } { sq := [168821 * 168821], len := 1, force := 1 } 0 = 208164 := by
  decide +kernel

/-- THD of a fifth of 2.0 % and a seventh of 1.5 % (09). -/
theorem test_thd : harmThd 63 [0, 241173, 0, 0, 0, 4823, 0, 3618] = 0x03332 := by decide +kernel
theorem test_harm_top : harmTop false 47000 = 63 := by decide +kernel

/-- The delay of IA at Kellmoor Ridge: D = 33,364 PU in Full (05). -/
theorem test_coarse_fine : (33364 / 256, 33364 % 256, 33364 / 1024, 33364 / 4 % 256) = (130, 84, 32, 149) := by decide

/-- The tags of the misdirected write, and what the read of it finds (10). -/
def zeros16 : List Byte := List.replicate 16 0
theorem test_tag : tagOf 0x123 zeros16 = 0x11C ∧ tagOf 0x122 zeros16 = 0x195 := by decide +kernel
theorem test_misdirected : (classify 0x123 zeros16 0x195).cls = 2 ∧ (classify 0x123 zeros16 0x195).syn = 0x89 := by
  decide +kernel
theorem test_poison : poisonTag 0x123 zeros16 = 0x1E3 ∧ (classify 0x123 zeros16 0x1E3).cls = 4 := by decide +kernel
def misdirected : State := putTag runState0 0x123 0x195
theorem test_refused_write :
    let t := (memWrite misdirected 4 0x1230 [1, 2, 3, 4, 5, 6]).st
    lineTag t 0x123 = 0x1E3 ∧ lineBytes t 0x123 = zeros16 ∧ getReg t 0x605 = 0x00123 ∧ getReg t 0x606 = 0x02989 ∧
    getReg t 0x602 = 1 ∧ getReg t 0x603 = 1 ∧ getReg t 0x604 = 1 := by decide +kernel

/-- The host context of Kellmoor Ridge: the capture ring, and a read beyond it (11). -/
def ringSeg : State := { runState0 with dresser := { runState0.dresser with
  inForce := sputs segZero [] (segKey 16 0) [0x20000, 0x03FFF, 0x08000, 0x00003] } }
theorem test_translate : translate ringSeg 4 .read 0x21F400 0x21F4EF = .at_ 0 0x09F400 0 := by decide +kernel
theorem test_translate_beyond : translate ringSeg 4 .read 0x23FFC0 0x2400AF = .fault 3 (some 0) := by decide +kernel
theorem test_translate_read_only : translate ringSeg 4 .write 0x21F400 0x21F400 = .fault 2 (some 0) := by decide +kernel

/-- Record 1000 of the worked hour (12). -/
theorem test_record :
    (recBytes { code := 0x106, sev := 1, rep := 4, gasp := false, sat := false, seq := 1000, soh := 600, hours := 5210,
                pcc := 37, p0 := 0, p1 := 0, p2 := 0 }).take 16
      = [0x06, 0x45, 0, 0, 0xE8, 0x03, 0x80, 0x25, 0x5A, 0x14, 0, 0, 0x25, 0, 0, 0] := by decide +kernel

/-- The evidence entry of the opened cover, and of the lift in the dark (13). -/
theorem test_evidence :
    evidEntry { runState0 with bureau := { runState0.bureau with hours := 5400, soh := 1234, pcc := 37 } } 0x188 2 0 false
      = [0x88, 0x09, 0, 0, 0x18, 0x15, 0x20, 0x4D, 0x25, 0, 0, 0] := by decide +kernel
theorem test_evidence_dark :
    evidEntry { runState0 with
        seq := { runState0.seq with st := .off }
        aon := { runState0.aon with heldHours := 5500, heldSoh := 900, heldPcc := 37 } } 0x189 2 1800 false
      = [0x89, 0x89, 0x70, 0, 0x7C, 0x15, 0x40, 0x38, 0x25, 0, 0x10, 0] := by decide +kernel

/-- The source codes of the recorder's table (12). -/
theorem test_source_codes : srcCode srcLowRes = 0x101 ∧ srcCode srcSagStart = 0x14D ∧ srcCode srcPqEnd = 0x150 ∧
    srcCode srcCapTrig = 0x151 := by decide +kernel

/-- The reset timing of the panel is valid, and its pitch at 4 bits per pixel is 10 lines (14). -/
theorem test_panel : storedTimingOk State.reset = true ∧ timingOk 0x140F0 0x00008 0x57D18 0x40046 = false ∧
    pitch { Hutch.reset with size := 0x140F0, ctrl := 0x00008 } = 10 := by decide +kernel

/-- Published values of the checksums and ciphers the spec names: CRC-16/CCITT-FALSE and CRC-32 of the nine digits, AES-128 of
FIPS-197, and the AES-128-CMAC of RFC 4493 over no bytes. -/
theorem test_crc16 : crc16 [0x31, 0x32, 0x33, 0x34, 0x35, 0x36, 0x37, 0x38, 0x39] = 0x29B1 := by decide +kernel
theorem test_crc32 : crc32 [0x31, 0x32, 0x33, 0x34, 0x35, 0x36, 0x37, 0x38, 0x39] = 0xCBF43926 := by decide +kernel
theorem test_aes : aes [0x00, 0x01, 0x02, 0x03, 0x04, 0x05, 0x06, 0x07, 0x08, 0x09, 0x0a, 0x0b, 0x0c, 0x0d, 0x0e, 0x0f]
      [0x00, 0x11, 0x22, 0x33, 0x44, 0x55, 0x66, 0x77, 0x88, 0x99, 0xaa, 0xbb, 0xcc, 0xdd, 0xee, 0xff]
    = [0x69, 0xc4, 0xe0, 0xd8, 0x6a, 0x7b, 0x04, 0x30, 0xd8, 0xcd, 0xb7, 0x80, 0x70, 0xb4, 0xc5, 0x5a] := by decide +kernel
theorem test_cmac : cmac [0x2b, 0x7e, 0x15, 0x16, 0x28, 0xae, 0xd2, 0xa6, 0xab, 0xf7, 0x15, 0x88, 0x09, 0xcf, 0x4f, 0x3c] []
    = [0xbb, 0x1d, 0x69, 0x29, 0xe9, 0x59, 0x37, 0x28, 0x7f, 0xa3, 0x7d, 0x12, 0x9b, 0x75, 0x67, 0x46] := by decide +kernel

/-! ### Single steps -/

/-- A NOP is answered OK with the own position, 0 here, and the state code of RUN, 2 (04). -/
theorem test_nop : ∃ t, exec (.nop landHost) runState0 = .next t ∧
    (t.ports.host.reply.map (fun r => (r.tag, r.status, r.fields))) = some (3, 0, [0x000008]) := ⟨_, rfl, by decide +kernel⟩

/-- A write of WAKE_CTRL stores (03). -/
theorem test_wr : ∃ t, exec (.wr landHost 0 [(0x196, 5)]) runState0 = .next t ∧ getReg t 0x196 = 5 := ⟨_, rfl, by decide +kernel⟩

/-- A disturbed integrity code stores nothing (04 R108). -/
theorem test_wr_disturbed : ∃ t, exec (.wr landHost 1 [(0x196, 5)]) runState0 = .next t ∧ getReg t 0x196 = getReg runState0 0x196 :=
  ⟨_, rfl, by decide +kernel⟩

/-- On an empty queue a step idles (log entry 3). -/
theorem test_idle : step runState0 = .next runState0 := rfl

end Sys2Proof.Tests
end

/-!
Laws of frames and of status bits: how frames compose, and what `raise` writes where the source's status register is not
one that PD0 retains (03 R75).
-/

namespace Sys2Proof.Machine

/-! ### Frames -/

/-- A component the same in two steps is the same in both together. -/
theorem Part.same_trans {p : Part} {s t u : State} (h : p.same s t) (h' : p.same t u) : p.same s u := by
  cases p <;> simp_all [Part.same]

/-- Two steps that leave a component alone leave it alone together. -/
theorem sameBut_trans {ps : List Part} {s t u : State} (h : sameBut ps s t) (h' : sameBut ps t u) : sameBut ps s u :=
  fun p hp => Part.same_trans (h p hp) (h' p hp)

/-- A frame may name more components than a step writes. -/
theorem sameBut_mono {ps qs : List Part} {s t : State} (h : sameBut ps s t) (hs : ps ⊆ qs) : sameBut qs s t :=
  fun p hp => h p fun hm => hp (hs hm)

/-- A state leaves itself alone. -/
theorem sameBut_refl (ps : List Part) (s : State) : sameBut ps s s := by
  intro p _
  cases p <;> simp [Part.same]

/-- A new power component leaves every other component alone. -/
theorem sameBut_power (s : State) (p : Power) : sameBut [.power] s { s with power := p } := by
  intro q hq
  cases q <;> simp_all [Part.same]

/-- New power and chain components leave every other component alone. -/
theorem sameBut_power_chain (s : State) (p : Power) (c : Chain) :
    sameBut [.power, .chain] s { s with power := p, chain := c } := by
  intro q hq
  cases q <;> simp_all [Part.same]

/-- A register that PD0 does not retain reads the same in states of the same register file. -/
theorem getReg_of_sameRegs {s t : State} (h : Part.regs.same s t) {n : Nat} (hr : isRetained n = false) :
    getReg t n = getReg s n := by
  simpa [getReg, hr] using h n

/-- So does the status bit of a source. -/
theorem statusBit_of_sameRegs {s t : State} (h : Part.regs.same s t) {src : Nat} (hr : isRetained (src / 20) = false) :
    statusBit t src = statusBit s src := by
  simp only [statusBit, getReg_of_sameRegs h hr]

/-! ### raise -/

/-- The ports at work, CORE is at work. -/
theorem coreOn_of_portsUp {s : State} (h : portsUp s = true) : coreOn s = true := by
  rw [coreOn, decide_eq_true_eq]
  intro e
  simp [portsUp, running, e] at h

/-- With PD2 off there is no bit to set. -/
theorem raise_of_off {s : State} (h : coreOn s = false) (src : Nat) : raise s src = s := by
  simp [raise, h]

/-- With PD2 at work `raise` writes the status register and, it may be, the events of the tick. -/
theorem raise_of_on {s : State} (h : coreOn s = true) {src : Nat} (hr : isRetained (src / 20) = false) :
    ∃ ev, raise s src = { s with
      regs := sset regReset s.regs (src / 20) (getReg s (src / 20) ||| wd (2 ^ (src % 20)))
      bureau := { s.bureau with events := ev } } := by
  simp only [raise, h, if_true, orReg, setReg, hr, deliverSource]
  split
  · exact ⟨_, rfl⟩
  · exact ⟨s.bureau.events, rfl⟩

/-- `raise` writes registers and events, no more. -/
theorem raise_frame (s : State) {src : Nat} (hr : isRetained (src / 20) = false) :
    sameBut [.regs, .bureau] s (raise s src) := by
  cases h : coreOn s with
  | false => rw [raise_of_off h]; exact sameBut_refl _ s
  | true =>
    obtain ⟨ev, he⟩ := raise_of_on h hr
    rw [he]
    intro p hp
    cases p <;> simp_all [Part.same]

/-- `raiseIf` writes registers and events, no more. -/
theorem raiseIf_frame (c : Bool) (s : State) {src : Nat} (hr : isRetained (src / 20) = false) :
    sameBut [.regs, .bureau] s (raiseIf c src s) := by
  cases c with
  | false => exact sameBut_refl _ s
  | true => exact raise_frame s hr

/-- With the power component changed before, `raiseIf` writes that component, registers and events, no more. -/
theorem raiseIf_power_frame (c : Bool) (s : State) (p : Power) {src : Nat} (hr : isRetained (src / 20) = false) :
    sameBut [.power, .regs, .bureau] s (raiseIf c src { s with power := p }) :=
  sameBut_trans (sameBut_mono (sameBut_power s p) (by decide)) (sameBut_mono (raiseIf_frame c _ hr) (by decide))

/-- `raise` keeps the canonical form of the stored registers. -/
theorem raise_swf {s : State} {src : Nat} (hr : isRetained (src / 20) = false) (hw : swf regReset s.regs = true) :
    swf regReset (raise s src).regs = true := by
  cases h : coreOn s with
  | false => rwa [raise_of_off h]
  | true =>
    obtain ⟨ev, he⟩ := raise_of_on h hr
    rw [he]
    exact swf_sset _ _ _ _ hw

/-- Bit `j` of a word of which bit `k` alone is set besides. -/
theorem bitAt_or_wd_two_pow (w : Word) (k j : Nat) (hj : j < 20) :
    bitAt (w ||| wd (2 ^ k)) j = (bitAt w j || decide (k = j)) := by
  rw [bitAt, bitAt, wd, BitVec.getLsbD_or, BitVec.getLsbD_ofNat, Nat.testBit_two_pow]
  simp [hj]

/-- The status bits after `raise`: the source's own is set, every other one stands. -/
theorem statusBit_raise {s : State} (h : coreOn s = true) {src : Nat} (hr : isRetained (src / 20) = false)
    (hw : swf regReset s.regs = true) (b : Nat) :
    statusBit (raise s src) b = (statusBit s b || decide (src = b)) := by
  by_cases hq : b / 20 = src / 20
  · obtain ⟨ev, he⟩ := raise_of_on h hr
    have hv : getReg (raise s src) (b / 20) = getReg s (b / 20) ||| wd (2 ^ (src % 20)) := by
      rw [he, hq]
      simp [getReg, hr, sget_sset_self _ _ hw]
    have hm : src % 20 = b % 20 ↔ src = b := by omega
    rw [statusBit, hv, bitAt_or_wd_two_pow _ _ _ (Nat.mod_lt _ (by omega))]
    simp only [statusBit, hm]
  · have hne : src ≠ b := fun e => hq (by rw [e])
    simp [statusBit, getReg_raise_other s src (b / 20) hq, hne]

/-- The source's own status bit stands after `raise`. -/
theorem statusBit_raise_self {s : State} (h : coreOn s = true) {src : Nat} (hr : isRetained (src / 20) = false)
    (hw : swf regReset s.regs = true) : statusBit (raise s src) src = true := by
  simp [statusBit_raise h hr hw]

/-- The stored registers of a state in canonical form are. -/
theorem Registers.swf_regs {s : State} (h : Registers.wf s = true) : swf regReset s.regs = true := by
  simp only [Registers.wf, Bool.and_eq_true] at h
  exact h.1.1.1

end Sys2Proof.Machine

/-!
The mode at a boundary (02 R40): one inversion of `decideMode`, by whether the mode changes.
-/

namespace Sys2Proof.Machine

/-- Settle is in force after the boundary: it is requested, or Full does not fit and Settle stays. -/
def settleNext (s : State) : Bool := wantsSettle s || (s.power.settle && !fullFits s)

/-- Where the mode changes, `decideMode` flips it and raises MODE_CHANGED; where it stays, `decideMode` notes a refusal
at most. -/
theorem decideMode_cases (s : State) :
    ∃ p : Power, p.settle = settleNext s ∧ p.granted = s.power.granted ∧
      ((settleNext s ≠ s.power.settle ∧ decideMode s = raiseIf true srcModeChanged { s with power := p }) ∨
        (settleNext s = s.power.settle ∧ ∃ c, decideMode s = raiseIf c srcGrantRefused { s with power := p })) := by
  unfold decideMode settleNext
  cases hs : s.power.settle with
  | false =>
    by_cases hw : wantsSettle s = true
    · exact ⟨{ s.power with settle := true, modeRefused := false }, by simp [hw], rfl, .inl (by simp [hw])⟩
    · exact ⟨{ s.power with modeRefused := false }, by simp [hw, hs], rfl,
        .inr ⟨by simp [hw], false, by simp [hw, raiseIf]⟩⟩
  | true =>
    by_cases hw : wantsSettle s = true
    · exact ⟨{ s.power with settle := true, modeRefused := false }, by simp [hw], rfl,
        .inr ⟨by simp [hw], false, by simp [hw, raiseIf]⟩⟩
    · by_cases hf : fullFits s = true
      · exact ⟨{ s.power with settle := false, modeRefused := false }, by simp [hw, hf], rfl,
          .inl (by simp [hw, hf, raiseIf])⟩
      · exact ⟨{ s.power with modeRefused := true }, by simp [hw, hf, hs], rfl,
          .inr ⟨by simp [hw, hf], !s.power.modeRefused, by simp [hw, hf]⟩⟩

/-- The mode that comes into force. -/
theorem decideMode_settle (s : State) : (decideMode s).power.settle = settleNext s := by
  obtain ⟨p, hp, -, ⟨-, he⟩ | ⟨-, c, he⟩⟩ := decideMode_cases s <;> rw [he, raiseIf_power, hp]

/-- No grant moves with the mode. -/
theorem decideMode_granted (s : State) : (decideMode s).power.granted = s.power.granted := by
  obtain ⟨p, -, hg, ⟨-, he⟩ | ⟨-, c, he⟩⟩ := decideMode_cases s <;> rw [he, raiseIf_power, hg]

/-- The decision writes the power component, registers and events, no more. -/
theorem decideMode_frame (s : State) : sameBut [.power, .regs, .bureau] s (decideMode s) := by
  obtain ⟨p, -, -, ⟨-, he⟩ | ⟨-, c, he⟩⟩ := decideMode_cases s <;> rw [he]
  · exact raiseIf_power_frame true s p (by decide)
  · exact raiseIf_power_frame c s p (by decide)

/-- A mode that changes sets MODE_CHANGED. -/
theorem decideMode_modeChanged_of_change {s : State} (h : coreOn s = true) (hw : swf regReset s.regs = true)
    (hc : settleNext s ≠ s.power.settle) : statusBit (decideMode s) srcModeChanged = true := by
  obtain ⟨p, -, -, ⟨-, he⟩ | ⟨hn, -⟩⟩ := decideMode_cases s
  · have hon : coreOn { s with power := p } = true := h
    rw [he, raiseIf, if_pos rfl]
    exact statusBit_raise_self hon (by decide) hw
  · exact absurd hn hc

/-- A mode that stays leaves MODE_CHANGED as it is. -/
theorem decideMode_modeChanged_of_same {s : State} (h : coreOn s = true) (hw : swf regReset s.regs = true)
    (hc : settleNext s = s.power.settle) : statusBit (decideMode s) srcModeChanged = statusBit s srcModeChanged := by
  obtain ⟨p, -, -, ⟨hn, -⟩ | ⟨-, c, he⟩⟩ := decideMode_cases s
  · exact absurd hc hn
  · have hon : coreOn { s with power := p } = true := h
    rw [he]
    cases c with
    | false => rfl
    | true =>
      rw [raiseIf, if_pos rfl, statusBit_raise (src := srcGrantRefused) hon (by decide) hw,
        decide_eq_false (by decide : srcGrantRefused ≠ srcModeChanged), Bool.or_false]
      rfl

/-- Settles O31: in RUN, SETTLE and HOLD the boundary's step is `decideMode`, and its cases say which mode comes into
force and when MODE_CHANGED is raised. -/
theorem modeIsDecided : Obligations.ModeIsDecided := by
  intro s hp hw
  have hcore := coreOn_of_portsUp hp
  have hregs := Registers.swf_regs hw
  have hstep : modeStep s = decideMode s := if_pos hp
  rw [hstep, decideMode_settle]
  refine ⟨fun h => ?_, fun h hs => ?_, fun h hs => ?_, decideMode_modeChanged_of_change hcore hregs,
    decideMode_modeChanged_of_same hcore hregs, decideMode_granted s, decideMode_frame s⟩
  · simp [settleNext, h]
  · simp [settleNext, h, hs, fullFits]
  · simp [settleNext, h, hs]

end Sys2Proof.Machine

/-!
The supplies coming and sinking (02 R24 to R28, R33, R41): what `aonFollow`, a new VRES, a new VBC and the choice of the
load write, and from these what each supply command does.
-/

namespace Sys2Proof.Machine

/-! ### PD0, and new voltages -/

/-- PD0 following its sources writes PD0 alone. -/
theorem aonFollow_frame (s : State) : sameBut [.aon] s (aonFollow s) := by
  have hlost : sameBut [.aon] s (lostAon s) := by
    intro p hp
    cases p <;> simp_all [Part.same, lostAon]
  have hup : sameBut [.aon] s (aonUp s) := by
    intro p hp
    cases p <;> simp_all [Part.same, aonUp]
  unfold aonFollow
  split
  · exact hlost
  · split
    · exact hup
    · exact sameBut_refl _ s

@[simp] theorem aonFollow_power (s : State) : (aonFollow s).power = s.power :=
  aonFollow_frame s .power (by decide)

@[simp] theorem aonFollow_regs (s : State) : (aonFollow s).regs = s.regs := by
  unfold aonFollow
  split
  · rfl
  · split <;> rfl

/-- PD0 following its sources leaves the status bits of CORE. -/
theorem statusBit_aonFollow (s : State) {src : Nat} (hr : isRetained (src / 20) = false) :
    statusBit (aonFollow s) src = statusBit s src :=
  statusBit_of_sameRegs (aonFollow_frame s .regs (by decide)) hr

/-- What `compareLow` decides on the level of VRES (02 R27, R41). -/
def lowCompared (s : State) : Power :=
  { s.power with
    belowLow := decide (s.power.vres < lowResMv s)
    autoReq := autoSettle s && (s.power.autoReq || (decide (s.power.vres < lowResMv s) && !s.power.vauxValid)) }

/-- The comparison writes the power component and raises LOW_RES on the rise of BELOW_LOW. -/
theorem compareLow_eq (s : State) : compareLow s =
    raiseIf ((lowCompared s).belowLow && !s.power.belowLow) srcLowRes { s with power := lowCompared s } := rfl

/-- The state that has taken a new VRES, before the comparison with LOW_RES. -/
def vresTaken (s : State) (mv : Nat) : State :=
  chargeFollow { s with power := { s.power with
    vres := mv
    shunt := s.power.shunt && decide (mv ≥ 5500)
    aonSrc := aonSource mv s.power.vauxValid s.power.vbc } }

theorem setVres_eq (s : State) (mv : Nat) : setVres s mv = aonFollow (compareLow (vresTaken s mv)) := rfl

/-- The power component after a new VRES. -/
theorem setVres_power (s : State) (mv : Nat) : (setVres s mv).power =
    { s.power with
      vres := mv
      shunt := s.power.shunt && decide (mv ≥ 5500)
      aonSrc := aonSource mv s.power.vauxValid s.power.vbc
      charge := (vresTaken s mv).power.charge
      belowLow := decide (mv < lowResMv s)
      autoReq := autoSettle s && (s.power.autoReq || (decide (mv < lowResMv s) && !s.power.vauxValid)) } := by
  rw [setVres_eq, aonFollow_power, compareLow_eq, raiseIf_power]
  rfl

/-- A new VRES writes power, PD0, and with LOW_RES registers and events, no more. -/
theorem setVres_frame (s : State) (mv : Nat) : sameBut [.power, .regs, .bureau, .aon] s (setVres s mv) := by
  have h : sameBut [.power, .regs, .bureau] s (compareLow (vresTaken s mv)) :=
    raiseIf_power_frame _ s _ (by decide)
  exact sameBut_trans (sameBut_mono h (by decide)) (sameBut_mono (aonFollow_frame _) (by decide))

@[simp] theorem setVres_seq (s : State) (mv : Nat) : (setVres s mv).seq = s.seq :=
  setVres_frame s mv .seq (by decide)

/-- With PD2 off a new VRES writes power and PD0 alone. -/
theorem setVres_frame_of_off {s : State} (h : coreOn s = false) (mv : Nat) :
    sameBut [.power, .aon] s (setVres s mv) := by
  have hlow : sameBut [.power] s (compareLow (vresTaken s mv)) := by
    rw [compareLow_eq, raiseIf, raise_of_off (by exact h), ite_self]
    exact sameBut_power s _
  exact sameBut_trans (sameBut_mono hlow (by decide)) (sameBut_mono (aonFollow_frame _) (by decide))

/-- A new VRES keeps the canonical form of the stored registers. -/
theorem setVres_swf {s : State} (mv : Nat) (hw : swf regReset s.regs = true) :
    swf regReset (setVres s mv).regs = true := by
  rw [setVres_eq, aonFollow_regs, compareLow_eq, raiseIf]
  split
  · exact raise_swf (by decide) hw
  · exact hw

/-- A new VRES below LOW_RES sets the status bit with the rise of BELOW_LOW. -/
theorem setVres_lowRes {s : State} {mv : Nat} (h : coreOn s = true) (hw : swf regReset s.regs = true)
    (hb : s.power.belowLow = false) (hv : mv < lowResMv s) : statusBit (setVres s mv) srcLowRes = true := by
  have hb' : (vresTaken s mv).power.belowLow = false := hb
  have hv' : (lowCompared (vresTaken s mv)).belowLow = true := decide_eq_true hv
  have hrise : ((lowCompared (vresTaken s mv)).belowLow && !(vresTaken s mv).power.belowLow) = true := by
    simp [hv', hb']
  rw [setVres_eq, statusBit_aonFollow _ (by decide), compareLow_eq, raiseIf, if_pos hrise]
  exact statusBit_raise_self (by exact h) (by decide) hw

/-- The registers CORE keeps, its status register apart, read the same after a new VRES. -/
theorem getReg_setVres (s : State) (mv : Nat) {n : Nat} (hr : isRetained n = false) (hn : n ≠ 0) :
    getReg (setVres s mv) n = getReg s n := by
  rw [setVres_eq, getReg_of_sameRegs (aonFollow_frame _ .regs (by decide)) hr, compareLow_eq, raiseIf]
  split
  · exact getReg_raise_other _ _ _ hn
  · rfl

/-- What a new VBC writes in the power component. -/
def vbcTaken (s : State) (mv : Nat) : Power :=
  { s.power with
    vbc := mv
    vbcOk := decide (mv ≥ 2200)
    vbcFell := if s.power.vbcOk && !decide (mv ≥ 2200) then some s.aon.time else s.power.vbcFell
    aonSrc := aonSource s.power.vres s.power.vauxValid mv }

theorem setVbc_eq (s : State) (mv : Nat) : setVbc s mv =
    aonFollow (raiseIf (s.power.vbcOk && !decide (mv ≥ 2200)) srcVbcLow { s with power := vbcTaken s mv }) := rfl

/-- The power component with the load's source and the charge chosen anew (02 R24, R25). -/
def loadPower (s : State) : Power :=
  let p := { s.power with loadAux := s.power.vauxValid && bitAt (getReg s 0x116) 1 }
  { p with charge := if chargesVres { s with power := p } then auxCurrent s else 0 }

@[simp] theorem chooseLoad_power (s : State) : (chooseLoad s).power = loadPower s := rfl

/-- The choice of the load writes the power component alone. -/
theorem chooseLoad_frame (s : State) : sameBut [.power] s (chooseLoad s) := sameBut_power s (loadPower s)

/-! ### The supplies come -/

/-- The power component of PD1 just started, before its load is chosen. -/
def pd1Started (s : State) (vaux : Nat) : Power :=
  { s.power with
    pd1 := true, vaux := vaux, vauxValid := decide (vaux ≥ 4300), on := setBit12 s.power.on 1 true ||| 1
    working := setBit12 s.power.working 1 true ||| 1 }

/-- PD1 starts at 3.0 V, or with VAUX: it chooses its load and takes VRES (02 R24, R28). -/
theorem pd1StartOp_eq {s : State} {vres vaux : Nat} (hp : s.power.pd1 = false) (hv : 3000 ≤ vres ∨ 4300 ≤ vaux) :
    pd1StartOp s vres vaux = setVres (chooseLoad { s with power := pd1Started s vaux }) vres :=
  if_pos (by simpa [hp] using hv)

/-- PD1 started is on beside PD0, with the voltages it was told (02 R27, R28). -/
theorem pd1Start_effect {s : State} {vres vaux : Nat} (hp : s.power.pd1 = false) (hv : 3000 ≤ vres ∨ 4300 ≤ vaux) :
    ∃ t, exec (.pd1Start vres vaux) s = .next t ∧ t.power.pd1 = true ∧ t.power.vres = vres ∧ t.power.vaux = vaux ∧
      t.power.vauxValid = decide (4300 ≤ vaux) ∧ domOn t 0 = true ∧ domOn t 1 = true ∧
      sameBut [.power, .regs, .bureau, .aon] s t := by
  refine ⟨_, congrArg Host.Outcome.next (pd1StartOp_eq hp hv), ?_⟩
  have hload : sameBut [.power] s (chooseLoad { s with power := pd1Started s vaux }) :=
    sameBut_trans (sameBut_power s (pd1Started s vaux)) (chooseLoad_frame _)
  refine ⟨?_, ?_, ?_, ?_, ?_, ?_, sameBut_trans (sameBut_mono hload (by decide)) (setVres_frame _ vres)⟩ <;>
  simp [domOn, setVres_power, loadPower, pd1Started, setBit12]

/-- A cold start waits for 3.6 V (02 R28, R33). -/
theorem coldStart_waits {s : State} {vres : Nat} (hv : vres < 3600) : exec (.coldStart vres) s = .next s :=
  congrArg Host.Outcome.next (if_neg (by simp [hv]))

/-- A cold start closes the switches of PD9, PD2, PD7 and PD11 and takes back the wiring test (02 R33, 11 R256). -/
theorem coldStart_effect {s : State} {vres : Nat} (hp : s.power.pd1 = true) (hc : coreOn s = false)
    (hs : s.power.coldStarting = false) (hv : 3600 ≤ vres) :
    ∃ t, exec (.coldStart vres) s = .next t ∧ t.power.coldStarting = true ∧ t.power.vres = vres ∧
      t.power.ramping = s.power.ramping ||| 0xA84 ∧ t.chain.wiringDone = false ∧ t.chain.posValid = false ∧
      sameBut [.power, .chain, .aon] s t := by
  have hgo : (s.power.pd1 && !coreOn s && !s.power.coldStarting && decide (vres ≥ 3600)) = true := by
    simp [hp, hc, hs, hv]
  refine ⟨_, congrArg Host.Outcome.next (if_pos hgo), rfl, ?_, ?_, rfl, rfl, ?_⟩
  · simp [setVres_power]
  · simp [setVres_power]
  · have hframe := sameBut_mono (qs := [.power, .chain, .aon]) (setVres_frame_of_off hc vres) (by decide)
    exact sameBut_trans hframe (sameBut_mono (sameBut_power_chain _ _ _) (by decide))

/-- The shunt turns on at regulation (02 R23, R27). -/
theorem shuntOn_effect {s : State} {vres : Nat} (hp : s.power.pd1 = true) (hs : s.power.shunt = false)
    (hv : 5500 ≤ vres) :
    ∃ t, exec (.shuntOn vres) s = .next t ∧ t.power.shunt = true ∧ t.power.vres = vres ∧
      (coreOn s = true → Registers.wf s = true → statusBit t srcShuntOn = true) ∧
      sameBut [.power, .regs, .bureau, .aon] s t := by
  have hgo : (s.power.pd1 && !s.power.shunt && decide (vres ≥ 5500)) = true := by simp [hp, hs, hv]
  refine ⟨_, congrArg Host.Outcome.next (if_pos hgo), ?_, ?_, fun hon hw => ?_, ?_⟩
  · simp
  · simp [setVres_power]
  · refine statusBit_raise_self ?_ (by decide) (setVres_swf vres (Registers.swf_regs hw))
    rwa [coreOn, setVres_seq, ← coreOn]
  · exact sameBut_trans (setVres_frame s vres)
      (sameBut_mono (raiseIf_power_frame true _ _ (by decide)) (by decide))

/-- The state with VAUX just valid, before the load is chosen. -/
def vauxCome (s : State) (vaux : Nat) : State :=
  { s with power := { s.power with
    vaux := vaux, vauxValid := true, autoReq := false, aonSrc := aonSource s.power.vres true s.power.vbc } }

theorem vauxUpOp_eq {s : State} {vaux : Nat} (hp : s.power.pd1 = true) (hi : s.power.vauxValid = false)
    (hv : 4300 ≤ vaux) : vauxUpOp s vaux = aonFollow (raise (chooseLoad (vauxCome s vaux)) srcVauxUp) :=
  if_pos (by simp [hp, hi, hv])

/-- VAUX brings the load's choice and withdraws the request of AUTO_SETTLE (02 R24, R41). -/
theorem vauxUp_effect {s : State} {vaux : Nat} (hp : s.power.pd1 = true) (hi : s.power.vauxValid = false)
    (hv : 4300 ≤ vaux) :
    ∃ t, exec (.vauxUp vaux) s = .next t ∧ t.power.vauxValid = true ∧ t.power.vaux = vaux ∧ t.power.autoReq = false ∧
      t.power.loadAux = bitAt (getReg s 0x116) 1 ∧
      (coreOn s = true → Registers.wf s = true → statusBit t srcVauxUp = true) ∧
      sameBut [.power, .regs, .bureau, .aon] s t := by
  have hpower : (aonFollow (raise (chooseLoad (vauxCome s vaux)) srcVauxUp)).power =
      loadPower (vauxCome s vaux) := by rw [aonFollow_power, raise_power, chooseLoad_power]
  refine ⟨_, congrArg Host.Outcome.next (vauxUpOp_eq hp hi hv), ?_⟩
  rw [hpower]
  refine ⟨rfl, rfl, rfl, Bool.true_and _, fun hon hw => ?_, ?_⟩
  · rw [statusBit_aonFollow _ (by decide)]
    exact statusBit_raise_self (by exact hon) (by decide) (Registers.swf_regs hw)
  · have hraise := raiseIf_power_frame true s (loadPower (vauxCome s vaux)) (src := srcVauxUp) (by decide)
    exact sameBut_trans (sameBut_mono hraise (by decide)) (sameBut_mono (aonFollow_frame _) (by decide))

/-! ### The supplies sink -/

/-- Below LOW_RES the bit BELOW_LOW rises with its status bit, and AUTO_SETTLE without VAUX requests Settle
(02 R27, R41). -/
theorem lowRes_effect {s : State} {mv : Nat} (hp : s.power.pd1 = true) (hb : s.power.belowLow = false)
    (hv : mv < lowResMv s) :
    ∃ t, exec (.lowRes mv) s = .next t ∧ t.power.belowLow = true ∧ t.power.vres = mv ∧
      t.power.autoReq = (autoSettle s && (s.power.autoReq || !s.power.vauxValid)) ∧
      (coreOn s = true → Registers.wf s = true → statusBit t srcLowRes = true) ∧
      sameBut [.power, .regs, .bureau, .aon] s t := by
  have hgo : (s.power.pd1 && !s.power.belowLow && decide (mv < lowResMv s)) = true := by simp [hp, hb, hv]
  refine ⟨_, congrArg Host.Outcome.next (if_pos hgo), ?_, ?_, ?_,
    fun hon hw => setVres_lowRes hon (Registers.swf_regs hw) hb hv, setVres_frame s mv⟩ <;>
  simp [setVres_power, hv]

/-- At 0.2 V above LOW_RES for 1 s the request of AUTO_SETTLE ends (02 R41). -/
theorem autoSettleFullRequest_effect {s : State} {mv : Nat} (hp : s.power.pd1 = true) (ha : s.power.autoReq = true)
    (hv : lowResMv s + 200 ≤ mv) :
    ∃ t, exec (.autoSettleFullRequest mv) s = .next t ∧ t.power.autoReq = false ∧ t.power.vres = mv ∧
      t.power.belowLow = false ∧ sameBut [.power, .regs, .bureau, .aon] s t := by
  have hgo : (s.power.pd1 && s.power.autoReq && decide (mv ≥ lowResMv s + 200)) = true := by simp [hp, ha, hv]
  refine ⟨_, congrArg Host.Outcome.next (if_pos hgo), rfl, ?_, ?_, ?_⟩
  · simp [setVres_power]
  · simp only [setVres_power, decide_eq_false_iff_not]
    omega
  · exact sameBut_trans (setVres_frame s mv) (sameBut_mono (sameBut_power _ _) (by decide))

/-- VBC below 2.2 V is noted, and PD0 follows its sources (02 R26, R28). -/
theorem vbcLow_effect {s : State} {mv : Nat} (ho : s.power.vbcOk = true) (hv : mv < 2200) :
    ∃ t, exec (.vbcLow mv) s = .next t ∧ t.power.vbc = mv ∧ t.power.vbcOk = false ∧
      t.power.aonSrc = aonSource s.power.vres s.power.vauxValid mv ∧
      (coreOn s = true → Registers.wf s = true → statusBit t srcVbcLow = true) ∧
      sameBut [.power, .regs, .bureau, .aon] s t := by
  have hgo : (s.power.vbcOk && decide (mv < 2200)) = true := by simp [ho, hv]
  have hfall : (s.power.vbcOk && !decide (mv ≥ 2200)) = true := by simp [ho, hv]
  refine ⟨_, congrArg Host.Outcome.next ((if_pos hgo).trans (setVbc_eq s mv)), ?_, ?_, ?_, fun hon hw => ?_, ?_⟩
  · simp [vbcTaken]
  · simp [vbcTaken, hv]
  · simp [vbcTaken]
  · rw [statusBit_aonFollow _ (by decide), raiseIf, if_pos hfall]
    exact statusBit_raise_self (by exact hon) (by decide) (Registers.swf_regs hw)
  · exact sameBut_trans (sameBut_mono (raiseIf_power_frame _ s _ (by decide)) (by decide))
      (sameBut_mono (aonFollow_frame _) (by decide))

/-- At 2.9 V and above nothing was held back (02 R379). -/
theorem releaseHeldOff_of_high {s : State} (h : 2900 ≤ s.power.vres) : releaseHeldOff s = s := by
  have h₁ : ¬ s.power.vres < 2500 := by omega
  have h₂ : ¬ s.power.vres < 2900 := by omega
  simp [releaseHeldOff, h₁, h₂]

/-- The state with VAUX gone and the new VRES taken: the load on VRES, the request of AUTO_SETTLE anew (02 R24, R41). -/
def vauxGone (s : State) (vres : Nat) : State :=
  let t := chooseLoad (setVres { s with power := { s.power with vauxValid := false } } vres)
  { t with power := { t.power with autoReq := autoSettle t && t.power.belowLow } }

theorem vauxGone_vres (s : State) (vres : Nat) : (vauxGone s vres).power.vres = vres := by
  simp [vauxGone, loadPower, setVres_power]

/-- VAUX going and the new VRES write what a new VRES writes. -/
theorem vauxGone_frame (s : State) (vres : Nat) : sameBut [.power, .regs, .bureau, .aon] s (vauxGone s vres) := by
  have hvres := sameBut_trans (sameBut_mono (sameBut_power s { s.power with vauxValid := false }) (by decide))
    (setVres_frame _ vres)
  have hload := sameBut_trans hvres (sameBut_mono (chooseLoad_frame _) (by decide))
  exact sameBut_trans hload (sameBut_mono (sameBut_power _ _) (by decide))

/-- AUTO_SETTLE reads the same after a new VRES. -/
theorem autoSettle_setVres (s : State) (mv : Nat) : autoSettle (setVres s mv) = autoSettle s := by
  rw [autoSettle, getReg_setVres s mv (by decide) (by decide), ← autoSettle]

/-- The request of AUTO_SETTLE with VAUX gone stands on the level of VRES alone. -/
theorem vauxGone_autoReq (s : State) (vres : Nat) :
    (vauxGone s vres).power.autoReq = (autoSettle s && decide (vres < lowResMv s)) := by
  have hauto := autoSettle_setVres { s with power := { s.power with vauxValid := false } } vres
  have hbelow : (setVres { s with power := { s.power with vauxValid := false } } vres).power.belowLow =
      decide (vres < lowResMv s) := by rw [setVres_power]; rfl
  exact congrArg₂ and hauto hbelow

/-- At 2.9 V and above, VAUX going holds nothing back: it raises VAUX_DOWN. -/
theorem vauxDownOp_eq {s : State} {mv : Nat} (ha : s.power.vauxValid = true) (hv : 2900 ≤ mv) :
    vauxDownOp s mv = raise (vauxGone s mv) srcVauxDown := by
  have hhigh : 2900 ≤ (raise (vauxGone s mv) srcVauxDown).power.vres := by
    rwa [raise_power, vauxGone_vres]
  calc vauxDownOp s mv
      = if s.power.loadAux then releaseHeldOff (raise (vauxGone s mv) srcVauxDown)
        else raise (vauxGone s mv) srcVauxDown := if_pos ha
    _ = raise (vauxGone s mv) srcVauxDown := by rw [releaseHeldOff_of_high hhigh, ite_self]

/-- VAUX going returns the load to VRES, and AUTO_SETTLE acts again (02 R24, R41). -/
theorem vauxDown_effect {s : State} {mv : Nat} (ha : s.power.vauxValid = true) (hv : 2900 ≤ mv) :
    ∃ t, exec (.vauxDown mv) s = .next t ∧ t.power.vauxValid = false ∧ t.power.loadAux = false ∧ t.power.vres = mv ∧
      t.power.autoReq = (autoSettle s && decide (mv < lowResMv s)) ∧
      sameBut [.power, .regs, .bureau, .aon] s t := by
  refine ⟨_, congrArg Host.Outcome.next (vauxDownOp_eq ha hv), ?_⟩
  rw [raise_power]
  refine ⟨?_, ?_, vauxGone_vres s mv, vauxGone_autoReq s mv,
    sameBut_trans (vauxGone_frame s mv) (sameBut_mono (raise_frame _ (by decide)) (by decide))⟩ <;>
  simp [vauxGone, loadPower, setVres_power]

/-- Settles O23: each clause is the effect of one supply command. -/
theorem suppliesComeAndSink : Obligations.SuppliesComeAndSink :=
  ⟨fun _ _ _ => ⟨pd1Start_effect, coldStart_effect, coldStart_waits, shuntOn_effect, vauxUp_effect⟩,
    fun _ _ => ⟨lowRes_effect, autoSettleFullRequest_effect, vbcLow_effect, vauxDown_effect⟩⟩

end Sys2Proof.Machine

/-!
Packets with a register number that no chapter assigns (04 R92): what RD, SNAP, WR and RMW come to, and what their
landing leaves.
-/

namespace Sys2Proof.Machine

/-- A list of a size that a packet can carry is neither empty nor too long. -/
theorem not_badSize_of_sizeOk {α : Type} {l : List α} {top : Nat} (h : sizeOk l top = true) :
    ¬(l.length = 0 ∨ l.length > top) := by
  simp only [sizeOk, Bool.and_eq_true, decide_eq_true_eq] at h
  omega

/-- Where not every register is assigned, there is a first one that is not. -/
theorem badReg_isSome_of_not_regsOk {regs : List (BitVec 12)} (h : regsOk regs = false) :
    (badReg regs).isSome = true := by
  obtain ⟨n, hn, hbad⟩ := List.all_eq_false.mp h
  obtain ⟨i, hi, rfl⟩ := List.getElem_of_mem hn
  rw [badReg, List.find?_isSome]
  exact ⟨i, List.mem_range.mpr hi, by simpa [nth, hi] using hbad⟩

/-- RD of an unassigned register reads nothing. -/
theorem rdOp_of_badReg {regs : List (BitVec 12)} {i : Nat} (hs : sizeOk regs 80 = true) (hb : badReg regs = some i)
    (l : Land) (s : State) (c : Nat) : rdOp l regs s c = answer s l c stBadReg [fieldN i] := by
  simp only [rdOp, if_neg (not_badSize_of_sizeOk hs), hb]

/-- SNAP of an unassigned register reads nothing. -/
theorem snapOp_of_badReg {regs : List (BitVec 12)} {i : Nat} (hs : sizeOk regs 79 = true) (hb : badReg regs = some i)
    (l : Land) (s : State) (c : Nat) : snapOp l regs s c = answer s l c stBadReg [fieldN i] := by
  simp only [snapOp, if_neg (not_badSize_of_sizeOk hs), hb]

/-- WR to an unassigned register makes none of its writes. -/
theorem wrOp_of_not_regsOk {pairs : List (BitVec 12 × Word)} (hs : sizeOk pairs 40 = true)
    (hb : regsOk (pairs.map (·.1)) = false) (l : Land) (flip : BitVec 6) (s : State) (c : Nat) :
    wrOp l flip pairs s c = answer s l c stBadReg [] := by
  rw [wrOp, if_neg (not_badSize_of_sizeOk hs), if_pos (badReg_isSome_of_not_regsOk hb)]

/-- RMW of an unassigned register makes none of its writes. -/
theorem rmwOp_of_badReg {ts : List (BitVec 12 × Word × Word)} {i : Nat} (hs : sizeOk ts 26 = true)
    (hb : badReg (ts.map (·.1)) = some i) (l : Land) (flip : BitVec 6) (s : State) (c : Nat) :
    rmwOp l flip ts s c = answer s l c stBadReg [fieldN (3 * i)] := by
  simp only [rmwOp, if_neg (not_badSize_of_sizeOk hs), hb]

/-- An opcode row whose operation answers BAD_REG and does no more leaves everything but the ports and the time as the
packet found it. -/
theorem opcodeRow_badReg {s : State} {l : Land} (n : Nat) {f : State → Nat → State} {fs : List Field}
    (h : takes s l.port = true) (hf : ∀ u c, f u c = answer u l c stBadReg fs) :
    answered (landState s l.port) (opcodeRow s l n f) l stBadReg fs (landCycle s) 8 ∧
      sameBut [.seq, .ports] (landState s l.port) (opcodeRow s l n f) := by
  rw [opcodeRow_takes s l n f h, hf]
  exact landed_answer_frame [] s _ _ l n _ stBadReg fs quiet_reg (landState_under_way s l.port) rfl rfl
    (sameBut_refl [] _)

/-- Settles O4: each of the four opcodes comes to an answer BAD_REG alone, and a landing with that answer writes the
ports and the time. -/
theorem badRegisterChangesNothing : Obligations.BadRegisterChangesNothing := by
  intro l flip regs pairs ts s h
  refine ⟨fun i hs hb => ⟨_, rfl, ?_⟩, fun i hs hb => ⟨_, rfl, ?_⟩, fun hs hb => ⟨_, rfl, ?_⟩,
    fun i hs hb => ⟨_, rfl, ?_⟩⟩
  · exact opcodeRow_badReg _ h (rdOp_of_badReg hs hb l)
  · exact opcodeRow_badReg _ h (snapOp_of_badReg hs hb l)
  · exact opcodeRow_badReg _ h (wrOp_of_not_regsOk hs hb l flip)
  · exact opcodeRow_badReg _ h (rmwOp_of_badReg hs hb l flip)

end Sys2Proof.Machine

/-!
Replies and NOREPLY (04 R91, R93): what counting a status and `setDue` leave alone, what `giveReply` does with a reply,
and when `answerAt` makes one.
-/

namespace Sys2Proof.Machine

/-! ### Counting a status, and the time of a reply -/

/-- The counts of a status write no port. -/
@[simp] theorem noteStatus_ports (s : State) (p : PortId) (st : Nat) : (noteStatus s p st).ports = s.ports := by
  unfold noteStatus incTen
  dsimp only
  split <;> split <;> simp

/-- Nor the chain. -/
@[simp] theorem noteStatus_chain (s : State) (p : PortId) (st : Nat) : (noteStatus s p st).chain = s.chain := by
  unfold noteStatus incTen
  dsimp only
  split <;> split <;> simp

/-- `setDue` leaves the chain alone. -/
@[simp] theorem setDue_chain (s : State) (p : PortId) (c : Nat) : (setDue s p c).chain = s.chain := by
  obtain ⟨q, hq⟩ := setDue_eq s p c
  rw [hq]

/-- With no packet being executed there is no time to set. -/
theorem setDue_of_idle {s : State} {p : PortId} (c : Nat) (h : (portOf s p).due = none) : setDue s p c = s := by
  simp [setDue, h]

/-- The time of a packet being executed is written into its port. -/
theorem setDue_of_executing {s : State} {p : PortId} (c : Nat) (h : (portOf s p).due ≠ none) :
    setDue s p c = putPort s p { portOf s p with due := some c } :=
  if_pos (Option.isSome_iff_ne_none.mpr h)

/-- The way back of a CHAIN packet stands while its time is set, and so do the replies that wait to leave. -/
theorem setDue_way (s : State) (p : PortId) (c : Nat) :
    (setDue s p c).ports.chainFrom = s.ports.chainFrom ∧ (setDue s p c).ports.chainOut = s.ports.chainOut := by
  unfold setDue
  split
  · cases p <;> exact ⟨rfl, rfl⟩
  · exact ⟨rfl, rfl⟩

/-! ### A reply given -/

/-- The RPL frame of a reply, back the way `(d, q, g)` by which its packet came (04 R93). -/
def replyFrame (s : State) (d : Side) (q : BitVec 2) (g : Byte) (r : Reply) : TxFrame :=
  { side := d, type := 2, dest := q, src := ownPos s, ltag := g, payload := replyBytes r }

/-- The own position is the chain's. -/
theorem ownPos_congr {s t : State} (h : t.chain = s.chain) : ownPos t = ownPos s := by simp [ownPos, h]

/-- So is the link of a side. -/
theorem linkOf_congr {s t : State} (d : Side) (h : t.chain = s.chain) : linkOf t d = linkOf s d := by
  cases d <;> simp [linkOf, h]

/-- A frame leaves by a link that is up. -/
theorem sendFrame_sent {s : State} {f : TxFrame} (h : (linkOf s f.side).st = 2) :
    (sendFrame s f).chain.sent = s.chain.sent ++ [f] := by
  simp [sendFrame, h]

/-- A CHAIN reply whose way back is known, and with no packet being executed, is sent at once. -/
theorem giveReply_chain_of_idle {s : State} {d : Side} {q : BitVec 2} {g : Byte} (r : Reply)
    (hw : s.ports.chainFrom = some (d, q, g)) (h : (portOf s .chain).due = none) :
    giveReply s .chain r =
      sendFrame { s with ports := { s.ports with
        chain := { s.ports.chain with reply := some r }, chainFrom := none } } (replyFrame s d q g r) := by
  have hdue : s.ports.chain.due = none := h
  simp only [giveReply, hw, putPort, portOf, hdue, replyFrame]

/-- A CHAIN reply whose way back is known waits for the time of the packet being executed. -/
theorem giveReply_chain_of_executing {s : State} {d : Side} {q : BitVec 2} {g : Byte} {c : Nat} (r : Reply)
    (hw : s.ports.chainFrom = some (d, q, g)) (h : (portOf s .chain).due = some c) :
    giveReply s .chain r =
      { s with ports := { s.ports with
        chain := { s.ports.chain with reply := some r, due := none }, chainFrom := none
        chainOut := s.ports.chainOut ++ [(c, replyFrame s d q g r)] } } := by
  have hdue : s.ports.chain.due = some c := h
  simp only [giveReply, hw, putPort, portOf, hdue, replyFrame]

/-- A CHAIN reply with no way back stands in its port alone. -/
theorem giveReply_chain_of_noWay {s : State} (r : Reply) (hw : s.ports.chainFrom = none) :
    giveReply s .chain r = putPort s .chain { portOf s .chain with reply := some r } := by
  simp only [giveReply, hw]

/-- A reply given stands in its port. -/
theorem giveReply_reply (s : State) (p : PortId) (r : Reply) : (portOf (giveReply s p r) p).reply = some r := by
  cases p with
  | host => simp [giveReply, portOf, putPort]
  | maint => rfl
  | chain =>
    match hw : s.ports.chainFrom, hd : (portOf s .chain).due with
    | none, _ => simp [giveReply_chain_of_noWay r hw]
    | some (d, q, g), none => simp [giveReply_chain_of_idle r hw hd, portOf]
    | some (d, q, g), some c => simp [giveReply_chain_of_executing r hw hd, portOf]

/-! ### NOREPLY -/

/-- NOREPLY with status OK: the packet is done, and no reply is given. -/
theorem answerAt_noreply_ok (s : State) (p : PortId) (tag : Byte) (fs : List Field) (c k : Nat) :
    answerAt s p tag true stOk fs c k = setDue s p (c + k) := by
  simp [answerAt, noteStatus_quiet s p stOk quiet_ok]

/-- The reply that a packet answered in cycle `c` gets, ready `k` cycles later. -/
def replyAt (s : State) (tag : Byte) (st : Nat) (fs : List Field) (c k : Nat) : Reply :=
  { tag := tag, status := st, fields := fs, tick := (stampAt s c k).1, cyc := (stampAt s c k).2 }

/-- The state in which the reply of a packet is given: its status counted, its time set. -/
def beforeReply (s : State) (p : PortId) (st c : Nat) : State := setDue (noteStatus s p st) p c

/-- Without NOREPLY, or with a status other than OK, the reply is given. -/
theorem answerAt_sent (s : State) (p : PortId) (tag : Byte) {nr : Bool} {st : Nat} (fs : List Field) (c k : Nat)
    (h : nr = false ∨ st ≠ stOk) :
    answerAt s p tag nr st fs c k =
      giveReply (beforeReply s p st (c + k)) p (replyAt (beforeReply s p st (c + k)) tag st fs c k) := by
  have hsent : ¬(nr && decide (st = stOk)) = true := by
    rcases h with h | h <;> simp [h]
  exact if_neg hsent

/-- Before the reply the chain stands as it was. -/
@[simp] theorem beforeReply_chain (s : State) (p : PortId) (st c : Nat) : (beforeReply s p st c).chain = s.chain := by
  simp [beforeReply]

/-- The way back and the replies that wait to leave stand as they were. -/
theorem beforeReply_way (s : State) (p : PortId) (st c : Nat) :
    (beforeReply s p st c).ports.chainFrom = s.ports.chainFrom ∧
      (beforeReply s p st c).ports.chainOut = s.ports.chainOut := by
  simpa [beforeReply] using setDue_way (noteStatus s p st) p c

/-- Before the reply, the port of a packet being executed has the time of the reply, and any other has none. -/
theorem beforeReply_due (s : State) (p : PortId) (st c : Nat) :
    (portOf (beforeReply s p st c) p).due = if (portOf s p).due = none then none else some c := by
  have hport : portOf (noteStatus s p st) p = portOf s p := portOf_congr _ _ p (noteStatus_ports s p st)
  by_cases h : (portOf s p).due = none
  · rw [beforeReply, setDue_of_idle c (by rw [hport, h]), hport, if_pos h, h]
  · rw [beforeReply, setDue_of_executing c (by rwa [hport]), portOf_putPort_self, if_neg h]

/-- The frame of a reply is the one of the state in which its packet was answered. -/
theorem replyFrame_beforeReply (s : State) (p : PortId) (st c : Nat) (d : Side) (q : BitVec 2) (g : Byte) (r : Reply) :
    replyFrame (beforeReply s p st c) d q g r = replyFrame s d q g r := by
  rw [replyFrame, ownPos_congr (beforeReply_chain s p st c), replyFrame]

/-- A reply given to a CHAIN packet while none is being executed leaves at once by the link its packet came by. -/
theorem giveReply_beforeReply_sent {s : State} {d : Side} {q : BitVec 2} {g : Byte} (st c : Nat) (r : Reply)
    (hw : s.ports.chainFrom = some (d, q, g)) (hd : (portOf s .chain).due = none) (hl : (linkOf s d).st = 2) :
    (giveReply (beforeReply s .chain st c) .chain r).chain.sent = s.chain.sent ++ [replyFrame s d q g r] := by
  have hchain := beforeReply_chain s .chain st c
  have hway := (beforeReply_way s .chain st c).1.trans hw
  have hdue := (beforeReply_due s .chain st c).trans (if_pos hd)
  rw [giveReply_chain_of_idle r hway hdue, replyFrame_beforeReply, sendFrame_sent, hchain]
  exact (congrArg Link.st (linkOf_congr d hchain)).trans hl

/-- A reply given to a CHAIN packet being executed waits for its time to leave. -/
theorem giveReply_beforeReply_chainOut {s : State} {d : Side} {q : BitVec 2} {g : Byte} (st c : Nat) (r : Reply)
    (hw : s.ports.chainFrom = some (d, q, g)) (hd : (portOf s .chain).due ≠ none) :
    (giveReply (beforeReply s .chain st c) .chain r).ports.chainOut =
      s.ports.chainOut ++ [(c, replyFrame s d q g r)] := by
  obtain ⟨hfrom, hout⟩ := beforeReply_way s .chain st c
  have hdue := (beforeReply_due s .chain st c).trans (if_neg hd)
  rw [giveReply_chain_of_executing r (hfrom.trans hw) hdue, replyFrame_beforeReply, hout]

/-- Settles O57: with NOREPLY and OK the answer only sets the packet's time, and in every other case it gives the
reply. -/
theorem noreplySuppressesOk : Obligations.NoreplySuppressesOk := by
  intro p tag nr st fs c k s
  refine ⟨fun hn hst => ?_, fun h => ?_⟩
  · obtain rfl : st = stOk := hst
    rw [hn, answerAt_noreply_ok]
    exact ⟨setDue_reply s p (c + k), setDue_chain s p (c + k)⟩
  · rw [answerAt_sent s p tag fs c k h]
    refine ⟨_, giveReply_reply _ p _, rfl, rfl, rfl, ?_⟩
    rintro rfl d q g hw
    exact ⟨giveReply_beforeReply_sent st (c + k) _ hw, giveReply_beforeReply_chainOut st (c + k) _ hw⟩

end Sys2Proof.Machine

/-!
The canonical form of the tables over a step (O56): every row's operation keeps it, by the laws of the operations.
-/

namespace Sys2Proof.Machine

/-- The tables of the state that an outcome gives, if it gives one, are in canonical form. -/
def OutcomeWf (o : Host.Outcome State Fault Refusal) : Prop :=
  match o with
  | .next t => Tables.wf t = true
  | _ => True

/-- Discarding the port's reply keeps the canonical form of the tables. -/
theorem forgetReply_wf {s : State} (p : PortId) (hw : Tables.wf s = true) : Tables.wf (forgetReply s p) = true := by
  have hr := replyReady_wf s p hw
  cases p with
  | host => exact putPort_wf _ _ _ hr
  | maint =>
    simp only [forgetReply]
    split
    · exact hr
    · exact putPort_wf _ _ _ hr
  | chain => exact hr

/-- An opcode row keeps the canonical form where its operation does. -/
theorem opcodeRow_wf {s : State} {l : Land} {n : Nat} {f : State → Nat → State} (hw : Tables.wf s = true)
    (hf : ∀ t c, Tables.wf t = true → Tables.wf (f t c) = true) : Tables.wf (opcodeRow s l n f) = true := by
  unfold opcodeRow
  split
  · exact landing_wf _ _ _ _ hf (forgetReply_wf _ hw)
  · exact hw

/-- Of two states in canonical form a choice is. -/
theorem ite_wf {c : Prop} [Decidable c] {a b : State} (ha : Tables.wf a = true) (hb : Tables.wf b = true) :
    Tables.wf (if c then a else b) = true := by
  split <;> assumption

/-- Every command's meaning keeps the canonical form of the tables. -/
theorem exec_wf (i : Instr) {s : State} (hw : Tables.wf s = true) : OutcomeWf (exec i s) :=
  match i with
  | .nop _ => opcodeRow_wf hw fun _ _ => nopOp_wf _ _ _
  | .rd _ _ => opcodeRow_wf hw fun _ _ => rdOp_wf _ _ _ _
  | .wr _ _ _ => opcodeRow_wf hw fun _ _ => wrOp_wf _ _ _ _ _
  | .rmw _ _ _ => opcodeRow_wf hw fun _ _ => rmwOp_wf _ _ _ _ _
  | .commit _ _ => opcodeRow_wf hw fun _ _ => commitOp_wf _ _ _ _
  | .snap _ _ => opcodeRow_wf hw fun _ _ => snapOp_wf _ _ _ _
  | .memRd _ _ _ => opcodeRow_wf hw fun _ _ => memRdOp_wf _ _ _ _ _
  | .memWr _ _ _ => opcodeRow_wf hw fun _ _ => memWrOp_wf _ _ _ _ _
  | .fetchAdd _ _ _ => opcodeRow_wf hw fun _ _ => memAtomOp_wf _ _ _ _ _ _ _
  | .swap _ _ _ => opcodeRow_wf hw fun _ _ => memAtomOp_wf _ _ _ _ _ _ _
  | .cmpSwap _ _ _ _ => opcodeRow_wf hw fun _ _ => memAtomOp_wf _ _ _ _ _ _ _
  | .convertNow _ _ => opcodeRow_wf hw fun _ _ => convertOp_wf _ _ _ _
  | .query _ => opcodeRow_wf hw fun _ _ => stoolCtrlOp_wf _ _ _ _ _
  | .pause _ => opcodeRow_wf hw fun _ _ => stoolCtrlOp_wf _ _ _ _ _
  | .resume _ => opcodeRow_wf hw fun _ _ => stoolCtrlOp_wf _ _ _ _ _
  | .select _ _ => opcodeRow_wf hw fun _ _ => stoolCtrlOp_wf _ _ _ _ _
  | .recClear _ => opcodeRow_wf hw fun _ _ => recClearOp_wf _ _ _
  | .recMark _ _ _ _ => opcodeRow_wf hw fun _ _ => recMarkOp_wf _ _ _ _ _ _
  | .dispRect _ _ _ _ _ => opcodeRow_wf hw fun _ _ => rectOpcode_wf _ _ _ _ _ _ _
  | .dispBlink _ _ => opcodeRow_wf hw fun _ _ => blinkOpcode_wf _ _ _ _
  | .dispPowerUp _ => opcodeRow_wf hw fun _ _ => powerOpcode_wf _ _ _ _
  | .dispPowerDown _ => opcodeRow_wf hw fun _ _ => powerOpcode_wf _ _ _ _
  | .authChal _ => opcodeRow_wf hw fun _ _ => authChalOp_wf _ _ _
  | .keyLoad _ _ _ _ => opcodeRow_wf hw fun _ _ => keyLoadOp_wf _ _ _ _ _ _
  | .cfgSave _ => opcodeRow_wf hw fun _ _ => cfgSaveOp_wf _ _ _
  | .calSeal _ => opcodeRow_wf hw fun _ _ => calSealOp_wf _ _ _
  | .energyPreset _ _ _ => opcodeRow_wf hw fun _ _ => presetOp_wf _ _ _ _ _
  | .chainEnum _ => opcodeRow_wf hw fun _ _ => chainEnumOp_wf _ _ _
  | .resetSoft _ _ => opcodeRow_wf hw fun _ _ => resetSoftOp_wf _ _ _ _
  | .halt _ => portWrite_wf _ _ _ _ hw
  | .go _ => portWrite_wf _ _ _ _ hw
  | .saveNow _ => portWrite_wf _ _ _ _ hw
  | .arm _ => portWrite_wf _ _ _ _ hw
  | .force _ => portWrite_wf _ _ _ _ hw
  | .stop _ => portWrite_wf _ _ _ _ hw
  | .freeze _ _ => portWrite_wf _ _ _ _ hw
  | .wakeCtrl _ _ => portWrite_wf _ _ _ _ hw
  | .recCursor _ _ => portWrite_wf _ _ _ _ hw
  | .lowResSel _ _ => portWrite_wf _ _ _ _ hw
  | .pwrCeil _ _ => portWrite_wf _ _ _ _ hw
  | .tampCfg _ _ _ => portWrite_wf _ _ _ _ hw
  | .sealedRegisterWrite _ _ _ => ite_wf (portWrite_wf _ _ _ _ hw) hw
  | .recStageCfg _ _ => portWrite_wf _ _ _ _ hw
  | .flEn _ _ => portWrite_wf _ _ _ _ hw
  | .domainReq _ _ => portWrite_wf _ _ _ _ hw
  | .procStart _ _ => portWrite_wf _ _ _ _ hw
  | .registerWrite _ _ _ => portWrite_wf _ _ _ _ hw
  | .hostPacketWrite _ _ => hostPacketOp_wf _ _ _ hw
  | .replyRead _ => replyReadOp_wf _ _ hw
  | .maintFrame _ _ _ => maintFrameOp_wf _ _ _ _ hw
  | .maintGapTimeout => maintGapOp_wf _ hw
  | .pktFrame _ _ => pktFrameOp_wf _ _ _ hw
  | .rplFrame _ => rplFrameOp_wf _ _ hw
  | .forwardTimeout _ => forwardTimeoutOp_wf _ _ hw
  | .deniedReply _ => deniedReplyOp_wf _ _ hw
  | .nonceStale _ _ => nonceStaleOp_wf _ _ _ hw
  | .authLockEnd _ => authLockEndOp_wf _ _ hw
  | .maintReplyTransmit => maintTransmitOp_wf _ hw
  | .mtxRelease => mtxReleaseOp_wf _ hw
  | .pd1Start _ _ => pd1StartOp_wf _ _ _ hw
  | .coldStart _ => coldStartOp_wf _ _ hw
  | .coreResetRelease _ => coreResetReleaseOp_wf _ _ hw
  | .pfail _ => pfailEvent_wf _ _ hw
  | .hardOff _ => hardOffEvent_wf _ _ hw
  | .shuntOn _ => shuntOnOp_wf _ _ hw
  | .lowRes _ => lowResOp_wf _ _ hw
  | .autoSettleFullRequest _ => autoSettleFullOp_wf _ _ hw
  | .vauxUp _ => vauxUpOp_wf _ _ hw
  | .vauxDown _ => vauxDownOp_wf _ _ hw
  | .vbcLow _ => vbcLowOp_wf _ _ hw
  | .floorRevoke _ => floorRevokeOp_wf _ _ hw
  | .domainRampEnd _ => domainRampEndOp_wf _ _ hw
  | .gaspBureauClose => gaspBureauCloseOp_wf _ hw
  | .gaspEnergySave => gaspEnergySaveOp_wf _ hw
  | .gaspPanelDischarge => gaspPanelDischargeOp_wf _ hw
  | .gaspEnd _ => gaspEndOp_wf _ _ hw
  | .tickBoundary _ => tickBoundaryOp_wf _ _ hw
  | .coldEnd => coldEndOp_wf _ hw
  | .loadEnd => loadEndOp_wf _ hw
  | .holdRestore => holdRestoreOp_wf _ hw
  | .orderlyStop => orderlyStopOp_wf _ hw
  | .softResetApply => softResetOp_wf _ hw
  | .cfgMismatch => cfgMismatchOp_wf _ hw
  | .wake => ite_wf (wakeOp_wf _ hw) hw
  | .flywheelCrossing => itemEvent_wf _ _ _ hw
  | .nominalCrossing => itemEvent_wf _ _ _ hw
  | .acquireTimeout => itemEvent_wf _ _ _ hw
  | .halfCycleBoundary => itemEvent_wf _ _ _ hw
  | .cyclePublication => cyclePublicationOp_wf _ hw
  | .harmonicPublication => itemEvent_wf _ _ _ hw
  | .bgShort => itemEvent_wf _ _ _ hw
  | .periodicSave => periodicSaveOp_wf _ hw
  | .energySaveDone _ => energySaveDoneOp_wf _ _ hw
  | .energySectorEraseDone => energyEraseDoneOp_wf _ hw
  | .cfPulseStart _ => cfPulseStart_wf _ _ hw
  | .cfPulseEnd _ => cfPulseEnd_wf _ _ hw
  | .stoolStepEnd => boundaryEvent_wf _ _ _ hw stoolStepEndOp_wf
  | .takeover => boundaryEvent_wf _ _ _ hw fun t h => mark_wf _ _ (takeoverOp_wf t h)
  | .handback => boundaryEvent_wf _ _ _ hw fun t h => mark_wf _ _ (handbackOp_wf t h)
  | .takeoverAbandon => boundaryEvent_wf _ _ _ hw fun t h => mark_wf _ _ (takeoverAbandonOp_wf t h)
  | .handbackStall => boundaryEvent_wf _ _ _ hw handbackStallOp_wf
  | .rotationDone => boundaryEvent_wf _ _ _ hw rotationDoneOp_wf
  | .overrange _ _ => overrangeEvent_wf _ _ _ hw
  | .peak _ _ => peakEvent_wf _ _ _ hw
  | .procTimerFire => boundaryEvent_wf _ _ _ hw procTimerFire_wf
  | .trigEdge _ _ => trigEdgeRow_wf _ _ _ hw
  | .procDelayEnd => procDelayEnd_wf _ hw
  | .lineBoundary => lineBoundaryOp_wf _ hw
  | .fixedWindowClose => fixedCloseOp_wf _ hw
  | .pwmTimeout => pwmTimeoutOp_wf _ hw
  | .runDownEnd _ _ _ _ _ _ => runDownEndOp_wf _ _ _ _ _ _ _ hw
  | .detBlockDone _ => itemEvent_wf _ _ _ hw
  | .filtSettlingEnd _ => boundaryEvent_wf _ _ _ hw fun t h => settlingEnd_wf t _ h
  | .capQueueDrain => capQueueDrainOp_wf _ hw
  | .capDone => capDoneOp_wf _ hw
  | .memoryRequest _ => memoryRequestOp_wf _ _ hw
  | .arbStarve _ => starveCheck_wf _ _ _ hw
  | .bankInitDone _ => bankInitDone_wf _ _ hw
  | .scrubStep => scrubStepOp_wf _ hw
  | .scrubYield => scrubYieldOp_wf _ hw
  | .mrqFrame _ => mrqFrameOp_wf _ _ hw
  | .mrqService => mrqServiceOp_wf _ hw
  | .mrsFrame _ => mrsFrameOp_wf _ _ hw
  | .mrqBusyRetry => mrqBusyRetryOp_wf _ hw
  | .remoteTimeout => remoteTimeoutOp_wf _ hw
  | .enumFrame _ => enumFrameOp_wf _ _ hw
  | .enumRspFrame _ => enumRspFrameOp_wf _ _ hw
  | .wiringTest _ => wiringTestOp_wf _ _ hw
  | .idleByte _ _ => idleByteOp_wf _ _ _ hw
  | .linkUp _ => linkUpOp_wf _ _ hw
  | .linkDown _ => linkDownOp_wf _ _ hw
  | .coalesceTimeout => boundaryEvent_wf _ _ _ hw coalesceOp_wf
  | .hourRoll => boundaryEvent_wf _ _ _ hw hourRollOp_wf
  | .recordStage => recordStageOp_wf _ hw
  | .recordProgramDone _ => recordDoneOp_wf _ _ hw
  | .bureauEraseDone => bureauEraseDoneOp_wf _ hw
  | .timeStoreEntry _ => timeStoreOp_wf _ _ hw
  | .loopTest _ _ _ => loopTestOp_wf _ _ _ _ hw
  | .cell _ => cellOp_wf _ _ hw
  | .glitch _ => glitchOp_wf _ _ hw
  | .slow _ => slowOp_wf _ _ hw
  | .tempRead _ _ => tempReadOp_wf _ _ _ hw
  | .shadowCompare _ => shadowCompareOp_wf _ _ hw
  | .evidenceProgramDone _ => evidenceDoneOp_wf _ _ hw
  | .sealCheck => sealCheckOp_wf _ hw
  | .cfgSaveDone => cfgSaveDoneOp_wf _ hw
  | .calSealDone => calSealDoneOp_wf _ hw
  | .pd0PowerUp => pd0PowerUpOp_wf _ hw
  | .frameStart => frameStartRow_wf _ hw
  | .rowRefresh => rowRefreshOp_wf _ hw
  | .rectCopyStep => rectCopyStepOp_wf _ hw
  | .pavddOn => pavddOnOp_wf _ hw
  | .vglOn => vglOnOp_wf _ hw
  | .vghOn => vghOnOp_wf _ hw
  | .vcomOn => vcomOnOp_wf _ hw
  | .panelStart => panelStartOp_wf _ hw
  | .railFault _ => railFaultOp_wf _ _ _ hw
  | .crackTest _ => crackTestOp_wf _ _ hw
  | .discharge => dischargeOp_wf _ hw
  | .dischargeEnd => dischargeEndOp_wf _ hw
  | .flOn => flOnOp_wf _ hw
  | .dispTempRead _ => dispTempOp_wf _ _ hw
  | .parkEnd _ => parkEndOp_wf _ _ hw
  | .enumTimeout => enumTimeoutOp_wf _ hw
  | .chainCtrl _ _ => portWrite_wf _ _ _ _ hw
  | .auxCtrl _ _ => portWrite_wf _ _ _ _ hw
  | .aonSourceChange _ _ => aonSourceChangeOp_wf _ _ _ hw
  | .allSourcesLost => allSourcesLostOp_wf _ hw
  | .timeStoreEraseDone => timeEraseDoneOp_wf _ hw
  | .maintReplySent => maintSentOp_wf _ hw

/-- Settles O56: a step is the meaning of the command at the front on a state with the same tables, or no change. -/
theorem stepsKeepTables : Obligations.StepsKeepTables := by
  intro s t hw hstep
  have hout : OutcomeWf (step s) := by
    unfold step
    split
    · exact hw
    · exact exec_wf _ hw
  rwa [hstep] at hout

end Sys2Proof.Machine

/-!
Numbers, bytes and fields (04 R77 to R81, R88): what is written is read back.
-/

namespace Sys2Proof.Machine

/-! ### Numbers as bytes -/

@[simp] theorem leBytes_length (v n : Nat) : (leBytes v n).length = n := by simp [leBytes, upto]

@[simp] theorem beBytes_length (v n : Nat) : (beBytes v n).length = n := by simp [beBytes]

/-- The low byte first, then the bytes of the rest. -/
theorem leBytes_succ (v n : Nat) : leBytes v (n + 1) = byteAt v 0 :: leBytes (v / 256) n := by
  simp only [leBytes, upto, List.range_succ_eq_map, List.map_cons, List.map_map]
  congr 1
  refine List.map_congr_left fun i _ => ?_
  simp only [Function.comp_apply, byteAt, Nat.div_div_eq_div_mul]
  rw [show (256 : Nat) * 2 ^ (8 * i) = 2 ^ (8 * (i + 1)) by rw [Nat.mul_add, Nat.pow_add]; omega]

/-- The low bytes of a number are the number modulo their range. -/
theorem ofLe_leBytes (n : Nat) : ∀ v, ofLe (leBytes v n) = v % 256 ^ n := by
  induction n with
  | zero => intro v; simp [leBytes, upto, ofLe, Nat.mod_one]
  | succ n ih =>
    intro v
    rw [leBytes_succ, ofLe, ih, Nat.pow_succ, Nat.mul_comm (256 ^ n), Nat.mod_mul]
    simp [byteAt]

/-- The bytes read from the other end are the bytes least significant first. -/
theorem ofBe_reverse (b : List Byte) : ofBe b.reverse = ofLe b := by
  induction b with
  | nil => rfl
  | cons x r ih =>
    rw [ofBe] at ih
    rw [ofBe, List.reverse_cons, List.foldl_append, ih, ofLe]
    simp [Nat.add_comm, Nat.mul_comm]

theorem ofBe_beBytes (v n : Nat) : ofBe (beBytes v n) = v % 256 ^ n := by
  rw [beBytes, ofBe_reverse, ofLe_leBytes]

/-! ### Fields -/

/-- The three bytes of a field. -/
theorem beBytes_three (v : Nat) : beBytes v 3 = [byteAt v 2, byteAt v 1, byteAt v 0] := rfl

/-- A field is read from its three bytes. -/
theorem fieldsOf_beBytes (f : Field) (r : List Byte) : fieldsOf (beBytes f.toNat 3 ++ r) = f :: fieldsOf r := by
  have h := ofBe_beBytes f.toNat 3
  rw [beBytes_three] at h ⊢
  simp only [ofBe, List.foldl_cons, List.foldl_nil] at h
  simp only [List.cons_append, List.nil_append, fieldsOf, List.cons.injEq, and_true]
  apply BitVec.eq_of_toNat_eq
  rw [BitVec.toNat_ofNat]
  have := f.isLt
  omega

/-- Parameters are read from their bytes. -/
theorem fieldsOf_params (fs : List Field) : fieldsOf (fs.flatMap (fun f => beBytes f.toNat 3)) = fs := by
  induction fs with
  | nil => rfl
  | cons f r ih => rw [List.flatMap_cons, fieldsOf_beBytes, ih]

@[simp] theorem length_params_bytes (fs : List Field) :
    (fs.flatMap (fun f => beBytes f.toNat 3)).length = 3 * fs.length := by
  simp [List.length_flatMap, Nat.mul_comm]

/-! ### CRC-16 -/

theorem crc16Bit_lt (c : Nat) : crc16Bit c < 65536 := by
  unfold crc16Bit
  split
  · omega
  · have h : (c * 2) % 65536 ^^^ 0x1021 < 2 ^ 16 := Nat.xor_lt_two_pow (by omega) (by norm_num)
    omega

theorem crc16Byte_lt (c : Nat) (b : Byte) : crc16Byte c b < 65536 := by
  unfold crc16Byte
  apply crc16Bit_lt

/-- The CRC has 16 bits. -/
theorem crc16_lt (b : List Byte) : crc16 b < 65536 := by
  have h : ∀ c, c < 65536 → b.foldl crc16Byte c < 65536 := by
    induction b with
    | nil => exact fun c hc => hc
    | cons x r ih =>
      intro c _
      rw [List.foldl_cons]
      exact ih _ (crc16Byte_lt c x)
  unfold crc16
  exact h _ (by norm_num)

/-! ### Packets -/

/-- The bytes of a packet that its CRC covers. -/
def packetBody (k : Packet) : List Byte :=
  [k.opc, k.tag, BitVec.ofNat 8 k.params.length, k.flags] ++ k.params.flatMap (fun f => beBytes f.toNat 3) ++ k.mac

theorem packetBytes_eq (k : Packet) : packetBytes k = packetBody k ++ beBytes (crc16 (packetBody k)) 2 := rfl

/-- LEN counts the parameters, and a MAC is there as the flag says (R78). -/
def Packet.Fits (k : Packet) : Prop :=
  k.params.length < 256 ∧ k.mac.length = if macFlag k.flags then 8 else 0

theorem packetBody_length {k : Packet} (h : k.Fits) :
    (packetBody k).length + 2 = packetLen k.params.length k.flags := by
  obtain ⟨-, hm⟩ := h
  simp only [packetBody, packetLen, List.length_append, List.length_cons, List.length_nil, length_params_bytes, hm]
  omega

/-- The header is read from the bytes. -/
theorem lenOf_packetBytes {k : Packet} (h : k.Fits) : lenOf (packetBytes k) = k.params.length := by
  obtain ⟨hl, -⟩ := h
  have : (BitVec.ofNat 8 k.params.length).toNat = k.params.length := by
    rw [BitVec.toNat_ofNat]
    omega
  simpa [lenOf, packetBytes_eq, packetBody, nth] using this

theorem flags_packetBytes (k : Packet) : nth (packetBytes k) 3 0 = k.flags := rfl

/-- The bytes are as long as their header says. -/
theorem packetBytes_length {k : Packet} (h : k.Fits) :
    (packetBytes k).length = packetLen (lenOf (packetBytes k)) k.flags := by
  rw [lenOf_packetBytes h, ← packetBody_length h, packetBytes_eq, List.length_append, beBytes_length]

/-- A packet is read from its bytes. -/
theorem parsePacket_packetBytes {k : Packet} (h : k.Fits) : parsePacket (packetBytes k) = k := by
  obtain ⟨-, hm⟩ := id h
  have hdrop : (packetBytes k).drop 4 =
      k.params.flatMap (fun f => beBytes f.toNat 3) ++ (k.mac ++ beBytes (crc16 (packetBody k)) 2) := by
    simp [packetBytes_eq, packetBody]
  have hparams : ((packetBytes k).drop 4).take (3 * k.params.length) = k.params.flatMap (fun f => beBytes f.toNat 3) := by
    rw [hdrop, List.take_left' (length_params_bytes _)]
  have hmac : ((packetBytes k).drop (4 + 3 * k.params.length)) = k.mac ++ beBytes (crc16 (packetBody k)) 2 := by
    rw [← List.drop_drop, hdrop, List.drop_left' (length_params_bytes _)]
  simp only [parsePacket, lenOf_packetBytes h, flags_packetBytes, hparams, fieldsOf_params, hmac]
  by_cases hf : macFlag k.flags = true
  · rw [if_pos hf] at hm
    rw [if_pos hf, List.take_left' hm]
    rfl
  · rw [if_neg hf] at hm
    rw [if_neg hf, ← List.eq_nil_of_length_eq_zero hm]
    rfl

/-- The CRC of a packet written out passes (R81). -/
theorem crcPasses_packetBytes {k : Packet} (h : k.Fits) : crcPasses (packetBytes k) = true := by
  have hk : packetLen (lenOf (packetBytes k)) (nth (packetBytes k) 3 0) - 2 = (packetBody k).length := by
    rw [lenOf_packetBytes h, flags_packetBytes, ← packetBody_length h, Nat.add_sub_cancel]
  have hcrc : ofBe (beBytes (crc16 (packetBody k)) 2) = crc16 (packetBody k) := by
    rw [ofBe_beBytes]
    exact Nat.mod_eq_of_lt (crc16_lt _)
  simp only [crcPasses, hk, decide_eq_true_eq]
  rw [packetBytes_eq, List.drop_left, List.take_left, List.take_of_length_le (by simp), hcrc]

end Sys2Proof.Machine

/-!
Opcode rows and their packets (04 R78, R82, R86 to R88, R104): the flags, and for each family of opcodes what its
parameters ask for.
-/

namespace Sys2Proof.Machine

/-! ### Flags and fields -/

/-- The flags say MAC, NOREPLY and the position. -/
theorem flagsByte_read (mac nr : Bool) (pos : BitVec 2) :
    macFlag (flagsByte mac nr pos) = mac ∧ noReplyFlag (flagsByte mac nr pos) = nr ∧
      BitVec.ofNat 2 (bitsOf (flagsByte mac nr pos).toNat 4 2) = pos := by
  revert mac nr pos
  decide

@[simp] theorem regField_toNat (n : BitVec 12) : (regField n).toNat = n.toNat :=
  BitVec.toNat_setWidth_of_le (by decide)

@[simp] theorem wordField_toNat (v : Word) : (wordField v).toNat = v.toNat :=
  BitVec.toNat_setWidth_of_le (by decide)

@[simp] theorem regField_setWidth (n : BitVec 12) : (regField n).setWidth 12 = n :=
  BitVec.setWidth_setWidth_of_le n (by decide)

@[simp] theorem wordField_setWidth (v : Word) : (wordField v).setWidth 20 = v :=
  BitVec.setWidth_setWidth_of_le v (by decide)

@[simp] theorem wd_toNat (v : Word) : wd v.toNat = v := by simp [wd]

/-- A number that fits its field is read from it. -/
theorem fieldN_toNat {n : Nat} (h : n < 2 ^ 24) : (fieldN n).toNat = n := by
  rw [fieldN, BitVec.toNat_ofNat, Nat.mod_eq_of_lt h]

/-! ### Register opcodes -/

/-- Register numbers are read from their fields. -/
theorem regsOf_map_regField (regs : List (BitVec 12)) : regsOf (regs.map regField) = some regs := by
  have hall : (regs.map regField).all (fun f => decide (f.toNat < 4096)) = true := by
    simp only [List.all_map, List.all_eq_true, Function.comp_apply, regField_toNat, decide_eq_true_eq]
    exact fun n _ => n.isLt
  simp [regsOf, hall, Function.comp_def]

/-- The fields of a list of pairs. -/
def pairFields (pairs : List (BitVec 12 × Word)) : List Field := pairs.flatMap (fun e => [regField e.1, wordField e.2])

/-- The fields of a list of triples. -/
def tripleFields (ts : List (BitVec 12 × Word × Word)) : List Field :=
  ts.flatMap (fun e => [regField e.1, wordField e.2.1, wordField e.2.2])

theorem pairFields_length (pairs : List (BitVec 12 × Word)) : (pairFields pairs).length = 2 * pairs.length := by
  simp [pairFields, List.length_flatMap, Nat.mul_comm]

theorem tripleFields_length (ts : List (BitVec 12 × Word × Word)) : (tripleFields ts).length = 3 * ts.length := by
  simp [tripleFields, List.length_flatMap, Nat.mul_comm]

/-- Pairs are read from their fields. -/
theorem pairsOf_pairFields (pairs : List (BitVec 12 × Word)) : pairsOf (pairFields pairs) = pairs := by
  induction pairs with
  | nil => rfl
  | cons e r ih =>
    show (_, _) :: pairsOf (pairFields r) = e :: r
    rw [ih, regField_setWidth, wordField_setWidth]

/-- Triples are read from their fields. -/
theorem triplesOf_tripleFields (ts : List (BitVec 12 × Word × Word)) : triplesOf (tripleFields ts) = ts := by
  induction ts with
  | nil => rfl
  | cons e r ih =>
    show (_, _, _) :: triplesOf (tripleFields r) = e :: r
    rw [ih, regField_setWidth, wordField_setWidth, wordField_setWidth]

/-- Where every `k`-th field is a register number, their list is read. -/
theorem regsOf_stepFields {k : Nat} {fs : List Field} (h : ∀ i, i % k = 0 → (nth fs i 0).toNat < 4096) :
    (regsOf (stepFields k fs)).isSome = true := by
  have hall : (stepFields k fs).all (fun f => decide (f.toNat < 4096)) = true := by
    simp only [stepFields, List.all_map, List.all_filter, List.all_eq_true, Function.comp_apply]
    intro i _
    by_cases hi : i % k = 0
    · simpa [hi] using h i hi
    · simp [hi]
  simp [regsOf, hall]

/-- Every second field of a list of pairs is a register number. -/
theorem pairFields_reg (pairs : List (BitVec 12 × Word)) :
    ∀ i, i % 2 = 0 → (nth (pairFields pairs) i 0).toNat < 4096 := by
  induction pairs with
  | nil => intro i _; simp [pairFields, nth]
  | cons e r ih =>
    intro i hi
    match i with
    | 0 => exact (regField_toNat e.1).trans_lt e.1.isLt
    | j + 2 => exact ih j (by omega)

/-- Every third field of a list of triples is a register number. -/
theorem tripleFields_reg (ts : List (BitVec 12 × Word × Word)) :
    ∀ i, i % 3 = 0 → (nth (tripleFields ts) i 0).toNat < 4096 := by
  induction ts with
  | nil => intro i _; simp [tripleFields, nth]
  | cons e r ih =>
    intro i hi
    match i with
    | 0 => exact (regField_toNat e.1).trans_lt e.1.isLt
    | j + 3 => exact ih j (by omega)

/-- The bounds of a list's size, as numbers. -/
theorem sizeOk_iff {α : Type} {l : List α} {top : Nat} : sizeOk l top = true ↔ 1 ≤ l.length ∧ l.length ≤ top := by
  simp [sizeOk]

theorem regAct_rd (l : Land) {regs : List (BitVec 12)} (h : sizeOk regs 80 = true) :
    regAct l 0x01 (regs.map regField) = some (regs.length, rdOp l regs) := by
  simp [regAct, sizeOk_iff.mp h, regsOf_map_regField]

theorem regAct_snap (l : Land) {regs : List (BitVec 12)} (h : sizeOk regs 79 = true) :
    regAct l 0x05 (regs.map regField) = some (1, snapOp l regs) := by
  simp [regAct, sizeOk_iff.mp h, regsOf_map_regField]

theorem regAct_wr (l : Land) {pairs : List (BitVec 12 × Word)} (h : sizeOk pairs 40 = true) :
    regAct l 0x02 (pairFields pairs) = some (1, wrOp l 0 pairs) := by
  obtain ⟨h1, h2⟩ := sizeOk_iff.mp h
  have hn : 2 ≤ 2 * pairs.length ∧ 2 * pairs.length ≤ 80 ∧ 2 * pairs.length % 2 = 0 := by omega
  simp only [regAct, pairFields_length, hn, regsOf_stepFields (pairFields_reg pairs), pairsOf_pairFields, and_self,
    if_true]

theorem regAct_rmw (l : Land) {ts : List (BitVec 12 × Word × Word)} (h : sizeOk ts 26 = true) :
    regAct l 0x03 (tripleFields ts) = some (ts.length, rmwOp l 0 ts) := by
  obtain ⟨h1, h2⟩ := sizeOk_iff.mp h
  have hn : 3 ≤ 3 * ts.length ∧ 3 * ts.length ≤ 78 ∧ 3 * ts.length % 3 = 0 := by omega
  have hd : 3 * ts.length / 3 = ts.length := by omega
  simp only [regAct, tripleFields_length, hn, hd, regsOf_stepFields (tripleFields_reg ts), triplesOf_tripleFields,
    and_self, if_true]

theorem regAct_commit (l : Land) (g : BitVec 5) : regAct l 0x04 [g.setWidth 24] = some (1, commitOp l g) := by
  have hg : (g.setWidth 24).toNat = g.toNat := BitVec.toNat_setWidth_of_le (by decide)
  have hw : (g.setWidth 24).setWidth 5 = g := BitVec.setWidth_setWidth_of_le g (by decide)
  have hlt := g.isLt
  simp [regAct, nth, hg, hw, hlt]

/-! ### Memory opcodes -/

/-- Three bytes are read from their field. -/
theorem beBytes_ofBe_three (a b c : Byte) : beBytes (ofBe [a, b, c] % 16777216) 3 = [a, b, c] := by
  have ha := a.isLt
  have hb := b.isLt
  have hc := c.isLt
  have hv : ofBe [a, b, c] % 16777216 = (a.toNat * 256 + b.toNat) * 256 + c.toNat := by
    simp only [ofBe, List.foldl_cons, List.foldl_nil]
    omega
  rw [hv, beBytes_three]
  simp only [byteAt, List.cons.injEq, and_true]
  refine ⟨?_, ?_, ?_⟩ <;> apply BitVec.eq_of_toNat_eq <;> rw [BitVec.toNat_ofNat] <;> omega

/-- Data fields hold the data, then zeros (R88). -/
theorem packFields_bytes (n : Nat) : ∀ d : List Byte, d.length ≤ n →
    ∃ z, (packFields n d).flatMap (fun f => beBytes f.toNat 3) = d ++ List.replicate z 0 := by
  induction n with
  | zero => intro d hd; exact ⟨0, by simp [packFields, List.eq_nil_of_length_eq_zero (Nat.le_zero.mp hd)]⟩
  | succ n ih =>
    intro d hd
    match d with
    | [] => exact ⟨0, rfl⟩
    | [a] => exact ⟨2, by cases n <;> simp [packFields, beBytes_ofBe_three, List.replicate]⟩
    | [a, b] => exact ⟨1, by cases n <;> simp [packFields, beBytes_ofBe_three, List.replicate]⟩
    | a :: b :: c :: r =>
      obtain ⟨z, hz⟩ := ih r (by simp at hd; omega)
      exact ⟨z, by simp [packFields, beBytes_ofBe_three, hz]⟩

/-- Three bytes go into a field. -/
theorem packFields_length (n : Nat) : ∀ d : List Byte, d.length ≤ n → (packFields n d).length = (d.length + 2) / 3 := by
  induction n with
  | zero => intro d hd; simp [packFields, List.eq_nil_of_length_eq_zero (Nat.le_zero.mp hd)]
  | succ n ih =>
    intro d hd
    match d with
    | [] => rfl
    | [a] => cases n <;> simp [packFields]
    | [a, b] => cases n <;> simp [packFields]
    | a :: b :: c :: r =>
      have := ih r (by simp at hd; omega)
      simp [packFields, this]
      omega

/-- Data are read from their fields. -/
theorem dataBytes_packFields (d : List Byte) : dataBytes (packFields d.length d) d.length = some d := by
  obtain ⟨z, hz⟩ := packFields_bytes d.length d (Nat.le_refl _)
  simp [dataBytes, hz]

/-- An operand is read from its two fields. -/
theorem operandFields_read (x : BitVec 32) :
    ∃ a b : Field, operandFields x = [a, b] ∧ a.toNat < 65536 ∧ b.toNat < 65536 ∧ operand a b = x := by
  have hx := x.isLt
  have ha : (BitVec.ofNat 24 (x.toNat / 65536 % 65536)).toNat = x.toNat / 65536 := by
    rw [BitVec.toNat_ofNat]; omega
  have hb : (BitVec.ofNat 24 (x.toNat % 65536)).toNat = x.toNat % 65536 := by
    rw [BitVec.toNat_ofNat]; omega
  refine ⟨_, _, rfl, by omega, by omega, ?_⟩
  rw [operand, ha, hb]
  apply BitVec.eq_of_toNat_eq
  rw [BitVec.toNat_ofNat]
  omega

theorem memAct_rd (l : Land) (va : BitVec 24) {n : Nat} (h1 : 1 ≤ n) (h2 : n ≤ 240) :
    memAct l 0x08 [va, fieldN n] = some (0, memRdOp l va n) := by
  have hn : (fieldN n).toNat = n := fieldN_toNat (by omega)
  simp [memAct, nth, hn, h1, h2]

theorem memAct_wr (l : Land) (va : BitVec 24) {d : List Byte} (h : sizeOk d 234 = true) :
    memAct l 0x09 ([va, fieldN d.length] ++ packFields d.length d) = some (0, memWrOp l va d) := by
  obtain ⟨h1, h2⟩ := sizeOk_iff.mp h
  have hn : (fieldN d.length).toNat = d.length := fieldN_toNat (by omega)
  have hlen : ([va, fieldN d.length] ++ packFields d.length d).length = 2 + (d.length + 2) / 3 := by
    rw [List.length_append, packFields_length _ d (Nat.le_refl _)]
    rfl
  have hc : 3 ≤ 2 + (d.length + 2) / 3 := by omega
  simp only [memAct, hlen]
  simp [nth, hn, dataBytes_packFields, h1, h2, hc]

theorem memAct_fetchAdd (l : Land) {va : BitVec 24} (x : BitVec 32) (h : va.toNat % 4 = 0) :
    memAct l 0x0A ([va, 0] ++ operandFields x) = some (0, memAtomOp l .fetchAdd va x 0) := by
  obtain ⟨a, b, he, ha, hb, hx⟩ := operandFields_read x
  simp [he, memAct, nth, h, ha, hb, hx]

theorem memAct_swap (l : Land) {va : BitVec 24} (x : BitVec 32) (h : va.toNat % 4 = 0) :
    memAct l 0x0A ([va, 1] ++ operandFields x) = some (0, memAtomOp l .swap va x 0) := by
  obtain ⟨a, b, he, ha, hb, hx⟩ := operandFields_read x
  simp [he, memAct, nth, h, ha, hb, hx]

theorem memAct_cmpSwap (l : Land) {va : BitVec 24} (x y : BitVec 32) (h : va.toNat % 4 = 0) :
    memAct l 0x0A ([va, 2] ++ operandFields x ++ operandFields y) = some (0, memAtomOp l .cmpSwap va x y) := by
  obtain ⟨a, b, he, ha, hb, hx⟩ := operandFields_read x
  obtain ⟨c, d, hf, hc, hd, hy⟩ := operandFields_read y
  simp [he, hf, memAct, nth, h, ha, hb, hx, hc, hd, hy]

/-! ### Unit opcodes -/

theorem unitAct_convert (s : State) (l : Land) {e : Word} (h : fld e 10 2 = 0) (hw : entryWith e = false)
    (hh : headOk e = true) : unitAct s l 0x10 [wordField e] = some (1, convertOp l e) := by
  have he : e.toNat < 1048576 := e.isLt
  simp [unitAct, nth, h, hw, hh, he]

/-- STOOL_CTRL with action `a` and slice `b` (R88). -/
theorem unitAct_stool (s : State) (l : Land) {a b : Nat} (ha : a ≤ 3) (hb : b ≤ 10) :
    unitAct s l 0x11 [fieldN (65536 * a + b)] = some (1, stoolCtrlOp l a b) := by
  have hf : (fieldN (65536 * a + b)).toNat = 65536 * a + b := fieldN_toNat (by omega)
  have hz : bitsOf (65536 * a + b) 4 12 = 0 := by
    simp only [bitsOf, Nat.shiftRight_eq_div_pow]
    omega
  have h1 : 65536 * a + b < 262144 := by omega
  have h2 : (65536 * a + b) % 16 = b := by omega
  have h3 : (65536 * a + b) / 65536 = a := by omega
  simp [unitAct, nth, hf, hz, h1, h2, h3, hb]

theorem unitAct_rect {s : State} (l : Land) {x0 y0 w h : Nat} (hc : cornerOk x0 y0 w h = true)
    (hr : rectOk s x0 y0 w h = true) :
    unitAct s l 0x20 [fieldN x0, fieldN y0, fieldN w, fieldN h] = some (1, rectOpcode l x0 y0 w h) := by
  obtain ⟨⟨⟨hx, hy⟩, -⟩, -⟩ : ((x0 < 512 ∧ y0 < 256) ∧ 1 ≤ w) ∧ 1 ≤ h := by simpa [cornerOk] using hc
  obtain ⟨hw, hh⟩ : w ≤ 320 ∧ h ≤ 240 := by
    simp only [rectOk, Bool.and_eq_true, decide_eq_true_eq] at hr
    omega
  have ex : (fieldN x0).toNat = x0 := fieldN_toNat (by omega)
  have ey : (fieldN y0).toNat = y0 := fieldN_toNat (by omega)
  have ew : (fieldN w).toNat = w := fieldN_toNat (by omega)
  have eh : (fieldN h).toNat = h := fieldN_toNat (by omega)
  simp [unitAct, nth, ex, ey, ew, eh, hx, hy, hr]

theorem unitAct_blink {s : State} (l : Land) {fs : List Field} (h : blinkOk s (fs.map (·.toNat)) = true) :
    unitAct s l 0x21 fs = some (1, blinkOpcode l fs) := by
  simp [unitAct, h]

/-! ### Records, keys, energy and reset -/

/-- The 18 key bytes are read from their six fields. -/
theorem keyFields_keyParams (b : BitVec 144) : keyFields (keyParams b) = b := by
  have hb := b.isLt
  apply BitVec.eq_of_toNat_eq
  simp only [keyFields, keyParams, List.take_succ_cons, List.take_nil, List.foldl_cons, List.foldl_nil,
    BitVec.extractLsb'_toNat, BitVec.toNat_ofNat, Nat.shiftRight_eq_div_pow]
  omega

theorem recAct_mark (s : State) (l : Land) (a b c : Word) (nonce : BitVec 72) :
    recAct s l 0x19 [wordField a, wordField b, wordField c] nonce = some (1, recMarkOp l a b c) := by
  have ha : a.toNat < 1048576 := a.isLt
  have hb : b.toNat < 1048576 := b.isLt
  have hc : c.toNat < 1048576 := c.isLt
  simp [recAct, nth, ha, hb, hc]

theorem recAct_keyLoad {s : State} (l : Land) {slot : Bool} {b : BitVec 144} (nonce : BitVec 72)
    (hb : keyBytesOk b = true) (hs : (keySlot s slot).isSome = true ∨ b ≠ 0) :
    recAct s l 0x29 (fieldN (b2n slot) :: keyParams b) nonce = some (1, keyLoadOp l slot b nonce) := by
  have hf : (fieldN (b2n slot)).toNat = b2n slot := fieldN_toNat (by cases slot <;> decide)
  have h1 : b2n slot ≤ 1 := by cases slot <;> decide
  have he : (b2n slot == 1) = slot := by cases slot <;> rfl
  have hz : b.setWidth 16 = (0 : BitVec 16) := of_decide_eq_true hb
  have hn : (fieldN (b2n slot) :: keyParams b).length = 7 := rfl
  simp only [recAct, hn, nth, List.getD_cons_zero, hf, he, List.drop_succ_cons, List.drop_zero, keyFields_keyParams]
  exact if_pos ⟨trivial, h1, hz, hs⟩

theorem recAct_preset (s : State) (l : Land) {q : BitVec 4} (v : BitVec 60) (nonce : BitVec 72) (h : q.toNat ≤ 11) :
    recAct s l 0x2C [fieldN q.toNat, (v.extractLsb' 0 20).setWidth 24, (v.extractLsb' 20 20).setWidth 24,
      (v.extractLsb' 40 20).setWidth 24] nonce = some (1, presetOp l q v) := by
  have hq : (fieldN q.toNat).toNat = q.toNat := fieldN_toNat (by omega)
  have hx : ∀ i, ((v.extractLsb' i 20).setWidth 24).toNat = v.toNat / 2 ^ i % 1048576 := by
    intro i
    rw [BitVec.toNat_setWidth_of_le (by decide), BitVec.extractLsb'_toNat, Nat.shiftRight_eq_div_pow]
  have hv : BitVec.ofNat 60 (v.toNat % 1048576 + v.toNat / 1048576 % 1048576 * 1048576 +
      v.toNat / 1099511627776 % 1048576 * 1099511627776) = v := by
    have := v.isLt
    apply BitVec.eq_of_toNat_eq
    rw [BitVec.toNat_ofNat]
    omega
  have hlt : ∀ n : Nat, n % 1048576 < 1048576 := fun n => Nat.mod_lt _ (by decide)
  simp [recAct, nth, hq, hx, hlt, h, hv]

end Sys2Proof.Machine

/-!
The packet of an opcode row asks for that row (04 R77 to R82, R86 to R88, R104; O59).
-/

namespace Sys2Proof.Machine

/-- What parameters `ps` of opcode `o` ask for: the families of `packetAct`. -/
def rowAct (s : State) (l : Land) (o : Nat) (ps : List Field) (nonce : BitVec 72) : Option OpAct :=
  if o ≤ 0x05 then regAct l o ps
  else if o ≤ 0x0A then memAct l o ps
  else if o = 0x10 ∨ o = 0x11 ∨ o = 0x20 ∨ o = 0x21 ∨ o = 0x22 then unitAct s l o ps
  else recAct s l o ps nonce

theorem packetAct_eq_rowAct (s : State) (p : PortId) (k : Packet) (nonce : BitVec 72) :
    packetAct s p k nonce = rowAct s (landOf p k) k.opc.toNat k.params nonce := rfl

/-- The parameters of an opcode row are the ones the row is read from. -/
def RowRead (s : State) (i : Instr) (l : Land) (op : Byte) (ps : List Field) : Prop :=
  ∃ n f, rowAct s l op.toNat ps (commandNonce i) = some (n, f) ∧ exec i s = .next (opcodeRow s l n f)

/-- Step 5 reads from the parameters of a well-formed opcode row that row (R86 to R88, R104). -/
theorem opcodeParams_read {i : Instr} {l : Land} {op : Byte} {ps : List Field} {s : State}
    (hw : i.wellFormed = true) (hp : opcodeParams i = some (l, op, ps)) (h5 : stepFive s i = true) :
    RowRead s i l op ps := by
  cases i with
  | nop l => cases hp; exact ⟨1, nopOp l, rfl, rfl⟩
  | rd l regs =>
    cases hp
    obtain ⟨hsize, -⟩ := Bool.and_eq_true_iff.mp hw
    exact ⟨_, _, regAct_rd l hsize, rfl⟩
  | wr l flip pairs =>
    cases hp
    obtain ⟨hsize, -⟩ := Bool.and_eq_true_iff.mp hw
    obtain rfl : flip = 0 := of_decide_eq_true h5
    exact ⟨_, _, regAct_wr l hsize, rfl⟩
  | rmw l flip ts =>
    cases hp
    obtain ⟨hsize, -⟩ := Bool.and_eq_true_iff.mp hw
    obtain rfl : flip = 0 := of_decide_eq_true h5
    exact ⟨_, _, regAct_rmw l hsize, rfl⟩
  | commit l g => cases hp; exact ⟨_, _, regAct_commit l g, rfl⟩
  | snap l regs =>
    cases hp
    obtain ⟨hsize, -⟩ := Bool.and_eq_true_iff.mp hw
    exact ⟨_, _, regAct_snap l hsize, rfl⟩
  | memRd l va n =>
    cases hp
    obtain ⟨h1, h2⟩ := Bool.and_eq_true_iff.mp hw
    exact ⟨_, _, memAct_rd l va (of_decide_eq_true h1) (of_decide_eq_true h2), rfl⟩
  | memWr l va d => cases hp; exact ⟨_, _, memAct_wr l va hw, rfl⟩
  | fetchAdd l va x => cases hp; exact ⟨_, _, memAct_fetchAdd l x (of_decide_eq_true hw), rfl⟩
  | swap l va x => cases hp; exact ⟨_, _, memAct_swap l x (of_decide_eq_true hw), rfl⟩
  | cmpSwap l va x y => cases hp; exact ⟨_, _, memAct_cmpSwap l x y (of_decide_eq_true hw), rfl⟩
  | convertNow l e =>
    cases hp
    obtain ⟨hwith, hhead⟩ := Bool.and_eq_true_iff.mp h5
    exact ⟨_, _, unitAct_convert s l (of_decide_eq_true hw) (by simpa using hwith) hhead, rfl⟩
  | query l => cases hp; exact ⟨_, _, unitAct_stool s l (a := 0) (b := 0) (by decide) (by decide), rfl⟩
  | pause l => cases hp; exact ⟨_, _, unitAct_stool s l (a := 1) (b := 0) (by decide) (by decide), rfl⟩
  | resume l => cases hp; exact ⟨_, _, unitAct_stool s l (a := 2) (b := 0) (by decide) (by decide), rfl⟩
  | select l k => cases hp; exact ⟨_, _, unitAct_stool s l (a := 3) (by decide) (of_decide_eq_true hw), rfl⟩
  | recClear l => cases hp; exact ⟨1, recClearOp l, rfl, rfl⟩
  | recMark l a b c => cases hp; exact ⟨_, _, recAct_mark s l a b c 0, rfl⟩
  | dispRect l x0 y0 w h => cases hp; exact ⟨_, _, unitAct_rect l hw h5, rfl⟩
  | dispBlink l fs => cases hp; exact ⟨_, _, unitAct_blink l h5, rfl⟩
  | dispPowerUp l => cases hp; exact ⟨1, powerOpcode l true, rfl, rfl⟩
  | dispPowerDown l => cases hp; exact ⟨1, powerOpcode l false, rfl, rfl⟩
  | authChal l => cases hp; exact ⟨1, authChalOp l, rfl, rfl⟩
  | keyLoad l slot b nonce =>
    cases hp
    have hslot : (keySlot s slot).isSome = true ∨ b ≠ 0 := by simpa [stepFive] using h5
    exact ⟨_, _, recAct_keyLoad l nonce hw hslot, rfl⟩
  | cfgSave l => cases hp; exact ⟨1, recAct.cfgSaveOp' l, rfl, rfl⟩
  | calSeal l => cases hp; exact ⟨1, recAct.calSealOp' l, rfl, rfl⟩
  | energyPreset l q v => cases hp; exact ⟨_, _, recAct_preset s l v 0 (of_decide_eq_true hw), rfl⟩
  | chainEnum l => cases hp; exact ⟨1, chainEnumOp l, rfl, rfl⟩
  | resetSoft l key =>
    cases hp
    obtain rfl : key = 0x0A55A := of_decide_eq_true hw
    exact ⟨1, resetSoftOp l 0x0A55A, rfl, rfl⟩
  | _ => cases hp

/-- An opcode row has an opcode that is assigned, and its parameters go into a packet (R78, R86). -/
theorem opcodeParams_sizes {i : Instr} {l : Land} {op : Byte} {ps : List Field}
    (hw : i.wellFormed = true) (hp : opcodeParams i = some (l, op, ps)) :
    ps.length < 256 ∧ assignedOpc op.toNat = true := by
  cases i with
  | rd l regs =>
    cases hp
    have := sizeOk_iff.mp (Bool.and_eq_true_iff.mp hw).1
    exact ⟨by rw [List.length_map]; omega, rfl⟩
  | wr l flip pairs =>
    cases hp
    have := sizeOk_iff.mp (Bool.and_eq_true_iff.mp hw).1
    have hlen := pairFields_length pairs
    rw [pairFields] at hlen
    exact ⟨by omega, rfl⟩
  | rmw l flip ts =>
    cases hp
    have := sizeOk_iff.mp (Bool.and_eq_true_iff.mp hw).1
    have hlen := tripleFields_length ts
    rw [tripleFields] at hlen
    exact ⟨by omega, rfl⟩
  | snap l regs =>
    cases hp
    have := sizeOk_iff.mp (Bool.and_eq_true_iff.mp hw).1
    exact ⟨by rw [List.length_map]; omega, rfl⟩
  | memWr l va d =>
    cases hp
    have := sizeOk_iff.mp (show sizeOk d 234 = true from hw)
    have hlen := packFields_length d.length d (Nat.le_refl _)
    exact ⟨by rw [List.length_append, hlen]; simp; omega, rfl⟩
  | dispBlink l fs =>
    have hlen : fs.length = 6 := of_decide_eq_true hw
    cases hp
    exact ⟨by omega, rfl⟩
  | nop | commit | memRd | fetchAdd | swap | cmpSwap | convertNow | query | pause | resume | select | recClear | recMark
  | dispRect | dispPowerUp | dispPowerDown | authChal | keyLoad | cfgSave | calSeal | energyPreset | chainEnum
  | resetSoft => cases hp; exact ⟨by simp [operandFields, wordFields, keyParams], rfl⟩
  | _ => cases hp

/-- Settles O59: the packet of a row fits its header, so it is read as written; and its landing is the row's. -/
theorem packetsSayWhatTheyMean : Obligations.PacketsSayWhatTheyMean := by
  intro i pos mac k l op ps s hw hp hk hmac
  obtain ⟨hlen, hop⟩ := opcodeParams_sizes hw hp
  obtain rfl : { opc := op, tag := l.tag, flags := flagsByte (!mac.isEmpty) l.noreply pos, params := ps, mac := mac } = k := by
    simpa [commandPacket, hp] using hk
  obtain ⟨hflag, hnoreply, hpos⟩ := flagsByte_read (!mac.isEmpty) l.noreply pos
  have hfits : Packet.Fits { opc := op, tag := l.tag, flags := flagsByte (!mac.isEmpty) l.noreply pos, params := ps
                             mac := mac } := by
    refine ⟨hlen, ?_⟩
    rw [hflag]
    rcases hmac with rfl | hm
    · rfl
    · cases mac with
      | nil => simp at hm
      | cons => simpa using hm
  refine ⟨parsePacket_packetBytes hfits, crcPasses_packetBytes hfits, packetBytes_length hfits, hop, hflag, hpos,
    fun h5 => ?_⟩
  rw [packetAct_eq_rowAct, landOf, hnoreply]
  exact opcodeParams_read hw hp h5

end Sys2Proof.Machine

/-!
The integer square root (07 R169; O38).
-/

namespace Sys2Proof.Machine

/-- The bits decided from `2 ^ k` down leave a root whose square lies between the bounds they began with. -/
theorem isqrtFrom_bounds (n k : Nat) : ∀ r, r * r ≤ n → n < (r + 2 ^ k) * (r + 2 ^ k) →
    isqrtFrom n k r * isqrtFrom n k r ≤ n ∧ n < (isqrtFrom n k r + 1) * (isqrtFrom n k r + 1) := by
  induction k with
  | zero => exact fun r hlo hhi => ⟨hlo, hhi⟩
  | succ k ih =>
    intro r hlo hhi
    have htop : r + 2 ^ k + 2 ^ k = r + 2 ^ (k + 1) := by rw [Nat.pow_succ]; omega
    simp only [isqrtFrom]
    split
    · next hfits => exact ih _ hfits (by rwa [htop])
    · next hover => exact ih _ hlo (Nat.lt_of_not_le hover)

/-- Settles O38: the root starts from 0 with 80 bits to decide. -/
theorem squareRootRoundsDown : Obligations.SquareRootRoundsDown := by
  intro n hn
  exact isqrtFrom_bounds n 80 0 (Nat.zero_le n) (by rw [Nat.zero_add, ← Nat.pow_add]; exact hn)

end Sys2Proof.Machine

/-!
Lines and their tags (10 R212 to R216; O40, O41).
-/

namespace Sys2Proof.Machine

/-! ### Columns -/

/-- Columns are numbers of 8 bits other than 0 and the powers of 2, and each names its bit. -/
theorem col_spec : ∀ j < 144, col j < 256 ∧
    ¬(col j = 0 ∨ col j = 1 ∨ col j = 2 ∨ col j = 4 ∨ col j = 8 ∨ col j = 16 ∨ col j = 32 ∨ col j = 64 ∨ col j = 128) ∧
    bitOfCol (col j) = some j := by
  decide +kernel

/-- The columns of the set bits, one bit further. -/
theorem colXor_succ (v base n : Nat) :
    colXor v base (n + 1) = if v.testBit n then colXor v base n ^^^ col (base + n) else colXor v base n := by
  simp [colXor, upto, List.range_succ]

/-- The number of set bits, one bit further. -/
theorem parity_succ (v n : Nat) : parity v (n + 1) = (parity v n + b2n (v.testBit n)) % 2 := by
  cases h : v.testBit n <;> simp [parity, upto, List.range_succ, List.filter_append, h, b2n]

/-- Check bits are 8 bits. -/
theorem colXor_lt (v : Nat) {base n : Nat} (h : base + n ≤ 144) : colXor v base n < 256 := by
  induction n with
  | zero => exact (by decide : (0 : Nat) < 256)
  | succ n ih =>
    have hc : col (base + n) < 256 := (col_spec _ (by omega)).1
    rw [colXor_succ]
    split
    · exact Nat.xor_lt_two_pow (n := 8) (ih (by omega)) hc
    · exact ih (by omega)

theorem checkBits_lt (a : Nat) (d : List Byte) : checkBits a d < 256 :=
  Nat.xor_lt_two_pow (n := 8) (colXor_lt _ (by decide)) (colXor_lt _ (by decide))

/-! ### One bit turned over -/

/-- Bit `i` of a number with bit `k` turned over. -/
theorem testBit_flip (v k i : Nat) : (v ^^^ 2 ^ k).testBit i = (v.testBit i ^^ decide (k = i)) := by
  rw [Nat.testBit_xor, Nat.testBit_two_pow]

/-- Bits below the one turned over keep their columns. -/
theorem colXor_flip_above (v base : Nat) {n k : Nat} (h : n ≤ k) : colXor (v ^^^ 2 ^ k) base n = colXor v base n := by
  induction n with
  | zero => rfl
  | succ n ih => rw [colXor_succ, colXor_succ, ih (by omega), testBit_flip, decide_eq_false (by omega), Bool.xor_false]

/-- One bit turned over turns its column over. -/
theorem colXor_flip (v base : Nat) {n k : Nat} (h : k < n) :
    colXor (v ^^^ 2 ^ k) base n = colXor v base n ^^^ col (base + k) := by
  induction n with
  | zero => omega
  | succ n ih =>
    rw [colXor_succ, colXor_succ, testBit_flip]
    rcases Nat.lt_succ_iff_lt_or_eq.mp h with hlt | rfl
    · rw [ih hlt, decide_eq_false (by omega), Bool.xor_false]
      split
      · exact Nat.xor_right_comm _ _ _
      · rfl
    · rw [colXor_flip_above v base (Nat.le_refl k), decide_eq_true rfl]
      cases v.testBit k <;> simp

theorem parity_flip_above (v : Nat) {n k : Nat} (h : n ≤ k) : parity (v ^^^ 2 ^ k) n = parity v n := by
  induction n with
  | zero => rfl
  | succ n ih => rw [parity_succ, parity_succ, ih (by omega), testBit_flip, decide_eq_false (by omega), Bool.xor_false]

/-- One bit turned over changes the parity. -/
theorem parity_flip (v : Nat) {n k : Nat} (h : k < n) : parity (v ^^^ 2 ^ k) n = (parity v n + 1) % 2 := by
  induction n with
  | zero => omega
  | succ n ih =>
    rw [parity_succ, parity_succ, testBit_flip]
    rcases Nat.lt_succ_iff_lt_or_eq.mp h with hlt | rfl
    · rw [ih hlt, decide_eq_false (by omega), Bool.xor_false]
      omega
    · rw [parity_flip_above v (Nat.le_refl k), decide_eq_true rfl]
      cases v.testBit k with
      | false => simp [b2n]
      | true => simp [b2n]; omega

/-- What is turned over in the low byte leaves the bytes above it. -/
theorem add_xor_low (x y : Nat) {z : Nat} (hx : x < 2 ^ 8) (hz : z < 2 ^ 8) :
    (x + 256 * y) ^^^ z = (x ^^^ z) + 256 * y := by
  apply Nat.eq_of_testBit_eq
  intro i
  rw [Nat.add_comm, Nat.add_comm (x ^^^ z), Nat.testBit_xor, show (256 : Nat) = 2 ^ 8 from rfl,
    Nat.testBit_two_pow_mul_add y hx, Nat.testBit_two_pow_mul_add y (Nat.xor_lt_two_pow hx hz)]
  by_cases hi : i < 8
  · simp [hi]
  · have hz' : z < 2 ^ i := Nat.lt_of_lt_of_le hz (Nat.pow_le_pow_right (by decide) (by omega))
    simp [hi, Nat.testBit_lt_two_pow hz']

/-- What is turned over above the low byte leaves it. -/
theorem add_xor_high (x y i : Nat) (hx : x < 2 ^ 8) : (x + 256 * y) ^^^ 2 ^ (i + 8) = x + 256 * (y ^^^ 2 ^ i) := by
  apply Nat.eq_of_testBit_eq
  intro k
  rw [Nat.add_comm, Nat.add_comm x, testBit_flip, show (256 : Nat) = 2 ^ 8 from rfl,
    Nat.testBit_two_pow_mul_add _ hx, Nat.testBit_two_pow_mul_add _ hx]
  by_cases hk : k < 8
  · simp [hk, show i + 8 ≠ k by omega]
  · simp only [hk, if_false, testBit_flip, show (i = k - 8) ↔ (i + 8 = k) by omega]

/-- A line with a bit turned over has that bit of its number turned over. -/
theorem ofLe_flip (d : List Byte) : ∀ j, j < 8 * d.length → ofLe (flipBit d j) = ofLe d ^^^ 2 ^ j := by
  induction d with
  | nil => intro j hj; simp at hj
  | cons b r ih =>
    intro j hj
    by_cases h8 : j < 8
    · have hz : 2 ^ j < 2 ^ 8 := Nat.pow_lt_pow_right (by decide) h8
      have h0 : j / 8 = 0 := by omega
      have hm : j % 8 = j := by omega
      simp only [flipBit, modNth, h0, hm, List.modify_zero_cons, ofLe]
      rw [add_xor_low _ _ b.isLt hz, BitVec.toNat_xor, BitVec.toNat_ofNat, Nat.mod_eq_of_lt hz]
    · obtain ⟨i, rfl⟩ : ∃ i, j = i + 8 := ⟨j - 8, by omega⟩
      have hd : (i + 8) / 8 = i / 8 + 1 := by omega
      have hm : (i + 8) % 8 = i % 8 := by omega
      have hrest := ih i (by simp at hj; omega)
      simp only [flipBit, modNth] at hrest
      simp only [flipBit, modNth, hd, hm, List.modify_succ_cons, ofLe, hrest]
      rw [add_xor_high _ _ _ b.isLt]

theorem flipBit_flipBit (d : List Byte) (j : Nat) : flipBit (flipBit d j) j = d := by
  apply List.ext_getElem
  · simp [flipBit, modNth]
  · intro i h1 h2
    simp only [flipBit, modNth, List.getElem_modify]
    split
    · rw [BitVec.xor_assoc, BitVec.xor_self, BitVec.xor_zero]
    · rfl

/-! ### What a line reads as -/

/-- The tag's check bits. -/
theorem tagOf_mod (a : Nat) (d : List Byte) : (tagOf a d).toNat % 256 = checkBits a d := by
  have := checkBits_lt a d
  simp only [tagOf, BitVec.toNat_ofNat]
  omega

/-- The tag's parity bit. -/
theorem tagOf_div (a : Nat) (d : List Byte) :
    (tagOf a d).toNat / 256 = (parity (ofLe d) 128 + parity a 16 + parity (checkBits a d) 8) % 2 := by
  have := checkBits_lt a d
  simp only [tagOf, BitVec.toNat_ofNat]
  omega

/-- A line under its own tag is of class 0. -/
theorem classify_tagOf (a : Nat) (d : List Byte) :
    classify a d (tagOf a d) = { cls := 0, q := 0, syn := 0, data := d } := by
  have hq : ((parity (ofLe d) 128 + parity a 16 + parity (checkBits a d) 8) % 2 + parity (ofLe d) 128 + parity a 16 +
      parity (checkBits a d) 8) % 2 = 0 := by omega
  simp [classify, tagOf_mod, tagOf_div, hq]

/-- All check bits turned over leave their parity, and are what poison is known by. -/
theorem xor_255 : ∀ c < 256, c ^^^ 255 < 256 ∧ parity (c ^^^ 255) 8 = parity c 8 ∧ (c ^^^ 255) ^^^ c = 255 := by
  decide +kernel

/-- The poison pattern is of class 4. -/
theorem classify_poisonTag (a : Nat) (d : List Byte) : (classify a d (poisonTag a d)).cls = 4 := by
  have hc := checkBits_lt a d
  obtain ⟨hlt, hpar, hsyn⟩ := xor_255 _ hc
  have hsplit : ∀ t < 512, (t ^^^ 255) % 256 = (t % 256) ^^^ 255 ∧ (t ^^^ 255) / 256 = t / 256 := by decide +kernel
  obtain ⟨hmod, hdiv⟩ := hsplit _ (tagOf a d).isLt
  have hm : (poisonTag a d).toNat % 256 = checkBits a d ^^^ 255 := by
    rw [poisonTag, BitVec.toNat_xor, ← tagOf_mod a d]
    exact hmod
  have hd : (poisonTag a d).toNat / 256 = (parity (ofLe d) 128 + parity a 16 + parity (checkBits a d) 8) % 2 := by
    rw [poisonTag, BitVec.toNat_xor, ← tagOf_div a d]
    exact hdiv
  have hq : ((parity (ofLe d) 128 + parity a 16 + parity (checkBits a d) 8) % 2 + parity (ofLe d) 128 + parity a 16 +
      parity (checkBits a d) 8) % 2 = 0 := by omega
  simp [classify, hm, hd, hpar, hsyn, hq]

/-- A line whose check bits differ from the tag's by the column of bit `j`, and whose parity differs: the bit is data
and is turned over, or belongs to another line. -/
theorem classify_of_column {a b : Nat} {d e : List Byte} {j : Nat} (hj : j < 144)
    (hc : checkBits b e = checkBits a d ^^^ col j)
    (hp : (parity (ofLe e) 128 + parity b 16) % 2 = (parity (ofLe d) 128 + parity a 16 + 1) % 2) :
    classify b e (tagOf a d) =
      if j ≤ 127 then { cls := 1, q := 1, syn := col j, data := flipBit e j }
      else { cls := 2, q := 1, syn := col j, data := e } := by
  obtain ⟨-, hnot, hbit⟩ := col_spec j hj
  have hs : checkBits a d ^^^ (checkBits a d ^^^ col j) = col j := by rw [← Nat.xor_assoc, Nat.xor_self, Nat.zero_xor]
  have hq : ((parity (ofLe d) 128 + parity a 16 + parity (checkBits a d) 8) % 2 + parity (ofLe e) 128 + parity b 16 +
      parity (checkBits a d) 8) % 2 ≠ 0 := by omega
  simp only [classify, tagOf_mod, tagOf_div, hc, hs]
  rw [if_neg hq, if_neg hnot, hbit]

/-- Settles O40: the columns of the bits are distinct and no powers of 2, and a turned bit changes the parity. -/
theorem tagsProtectLines : Obligations.TagsProtectLines := by
  intro a d _ hd
  rw [classify_tagOf]
  refine ⟨rfl, rfl, classify_poisonTag a d, fun j hj => ?_, fun k hk => ?_⟩
  · have hflip := ofLe_flip d j (by omega)
    have hc : checkBits a (flipBit d j) = checkBits a d ^^^ col j := by
      rw [checkBits, hflip, colXor_flip _ _ hj, Nat.zero_add, checkBits, Nat.xor_right_comm]
    have hp := parity_flip (ofLe d) hj
    rw [classify_of_column (j := j) (by omega) hc (by rw [hflip, hp]; omega), if_pos (by omega), flipBit_flipBit]
    exact ⟨rfl, rfl⟩
  · have hc : checkBits (a ^^^ 2 ^ k) d = checkBits a d ^^^ col (128 + k) := by
      rw [checkBits, colXor_flip _ _ hk, checkBits, Nat.xor_assoc]
    have hp := parity_flip a hk
    rw [classify_of_column (j := 128 + k) (by omega) hc (by rw [hp]; omega), if_neg (by omega)]

/-! ### Lines written -/

/-- A line holds what is set at its 16 addresses. -/
theorem lineBytes_putLine_same {s : State} (i : Nat) {d : List Byte} (hd : d.length = 16)
    (hw : swf zeroByte s.mem.data = true) : lineBytes (putLine s i d) i = d := by
  have ht : d.take 16 = d := List.take_of_length_le (by omega)
  apply List.ext_getElem
  · simp [lineBytes, sgets, upto, hd]
  · intro j h1 h2
    simp only [lineBytes, sgets, upto, putLine, List.getElem_map, List.getElem_range, ht]
    exact sget_sputs_same zeroByte d _ hw _ j h2

/-- Every other line holds what it held. -/
theorem lineBytes_putLine_other (s : State) {i j : Nat} (d : List Byte) (h : j ≠ i) :
    lineBytes (putLine s i d) j = lineBytes s j := by
  simp only [lineBytes, sgets, putLine]
  refine List.map_congr_left fun k hk => ?_
  have hk : k < 16 := List.mem_range.mp hk
  exact sget_sputs_other zeroByte _ _ _ _ (by simp; omega)

/-- Settles O41: a line is 16 consecutive entries of the table, its tag one entry of another. -/
theorem linesReadBack : Obligations.LinesReadBack := by
  intro i j d s hd _ hw
  have hmem : swf zeroByte s.mem.data = true ∧ swf zeroTag s.mem.tags = true := by
    obtain ⟨h1, h2, -⟩ := (Memory.wf_iff s).mp hw
    exact ⟨h1, h2⟩
  refine ⟨lineBytes_putLine_same i hd hmem.1, sget_sset_self zeroTag _ hmem.2 _ _, fun h => ⟨?_, ?_⟩,
    putLine_memory s i d hw, ?_⟩
  · exact lineBytes_putLine_other s d h
  · exact sget_sset_other zeroTag _ _ _ _ h
  · intro p hp
    cases p <;> simp_all [Part.same, putLine]

end Sys2Proof.Machine

/-!
Records of the Bureau as bytes (12 R262, R263; O49).
-/

namespace Sys2Proof.Machine

/-- Words are read from their bytes. -/
theorem word32_words (ws : List Nat) (t : List Byte) : ∀ i, (h : i < ws.length) →
    word32 (ws.flatMap (leBytes · 4) ++ t) i = ws[i] % 2 ^ 32 := by
  induction ws with
  | nil => intro i h; simp at h
  | cons w r ih =>
    intro i h
    rw [word32, List.flatMap_cons, List.append_assoc]
    cases i with
    | zero => rw [Nat.mul_zero, List.drop_zero, List.take_left' (leBytes_length w 4), ofLe_leBytes]; rfl
    | succ i =>
      rw [Nat.mul_succ, Nat.add_comm, ← List.drop_drop, List.drop_left' (leBytes_length w 4)]
      exact ih i (by simpa using h)

/-- The first word of a record: code, severity, repeats, GASP and SAT. -/
def recHead (r : BRec) : Nat := r.code + r.sev * 2 ^ 10 + r.rep * 2 ^ 12 + b2n r.gasp * 2 ^ 24 + b2n r.sat * 2 ^ 25

/-- The words of a record. -/
def recWords (r : BRec) : List Nat := [recHead r, r.seq + r.soh * 2 ^ 20, r.hours, r.pcc, r.p0, r.p1, r.p2]

/-- The 28 bytes of a record that its CRC covers. -/
def recBody (r : BRec) : List Byte := (recWords r).flatMap (leBytes · 4)

theorem recBytes_eq (r : BRec) : recBytes r = recBody r ++ (leBytes (crc16 (recBody r)) 2 ++ [0xFF, 0x5A]) := by
  simp only [recBytes, recBody, recWords, recHead, List.flatMap_cons, List.flatMap_nil, List.append_assoc,
    List.append_nil]

theorem recBody_length (r : BRec) : (recBody r).length = 28 := by simp [recBody, recWords]

/-- A word of 32 bits is read from the record's bytes. -/
theorem word32_recBytes {r : BRec} {i v : Nat} (h : (recWords r)[i]? = some v) (hv : v < 2 ^ 32) :
    word32 (recBytes r) i = v := by
  obtain ⟨hi, rfl⟩ := List.getElem?_eq_some_iff.mp h
  rw [recBytes_eq, recBody, word32_words _ _ i hi, Nat.mod_eq_of_lt hv]

/-- The record's mark and check word are in place. -/
theorem recBytes_valid (r : BRec) :
    nth (recBytes r) 31 0 = 0x5A ∧ ofLe (((recBytes r).drop 28).take 2) = crc16 ((recBytes r).take 28) := by
  have hlen := recBody_length r
  constructor
  · simp [nth, recBytes_eq, hlen]
  · rw [recBytes_eq, List.drop_left' hlen, List.take_left' hlen, List.take_left' (leBytes_length _ 2), ofLe_leBytes]
    exact Nat.mod_eq_of_lt (crc16_lt _)

/-- The fields of the first word, each in its range. -/
theorem recHead_fields {r : BRec} (hcode : r.code < 1024) (hsev : r.sev < 4) (hrep : r.rep < 4096) :
    recHead r < 2 ^ 32 ∧ bitsOf (recHead r) 0 10 = r.code ∧ bitsOf (recHead r) 10 2 = r.sev ∧
      bitsOf (recHead r) 12 12 = r.rep ∧ (recHead r).testBit 24 = r.gasp ∧ (recHead r).testBit 25 = r.sat := by
  have hb : ∀ b : Bool, b2n b ≤ 1 ∧ decide (b2n b = 1) = b := by decide
  obtain ⟨hg, hgasp⟩ := hb r.gasp
  obtain ⟨hs, hsat⟩ := hb r.sat
  have h24 : recHead r / 2 ^ 24 % 2 = b2n r.gasp := by rw [recHead]; omega
  have h25 : recHead r / 2 ^ 25 % 2 = b2n r.sat := by rw [recHead]; omega
  rw [Nat.testBit_eq_decide_div_mod_eq, Nat.testBit_eq_decide_div_mod_eq, h24, h25]
  simp only [bitsOf, Nat.shiftRight_eq_div_pow]
  refine ⟨?_, ?_, ?_, ?_, hgasp, hsat⟩ <;> rw [recHead] <;> omega

/-- Settles O49: the check word passes, and every word of the record is read as it was written. -/
theorem recordsReadBack : Obligations.RecordsReadBack := by
  intro r hcode hsev hrep hseq hsoh hhours hpcc hp0 hp1 hp2
  obtain ⟨hhead, h0code, h0sev, h0rep, hgasp, hsat⟩ := recHead_fields hcode hsev hrep
  have hw0 : word32 (recBytes r) 0 = recHead r := word32_recBytes rfl hhead
  have hw1 : word32 (recBytes r) 1 = r.seq + r.soh * 2 ^ 20 := word32_recBytes rfl (by omega)
  have hw2 : word32 (recBytes r) 2 = r.hours := word32_recBytes rfl (by omega)
  have hw3 : word32 (recBytes r) 3 = r.pcc := word32_recBytes rfl (by omega)
  have hw4 : word32 (recBytes r) 4 = r.p0 := word32_recBytes rfl (by omega)
  have hw5 : word32 (recBytes r) 5 = r.p1 := word32_recBytes rfl (by omega)
  have hw6 : word32 (recBytes r) 6 = r.p2 := word32_recBytes rfl (by omega)
  have hlow : ∀ v, v < 1048576 → bitsOf v 0 20 = v := fun v hv => Nat.mod_eq_of_lt hv
  have h1seq : bitsOf (r.seq + r.soh * 2 ^ 20) 0 20 = r.seq := by
    simp only [bitsOf, Nat.shiftRight_eq_div_pow]
    omega
  have h1soh : bitsOf (r.seq + r.soh * 2 ^ 20) 20 12 = r.soh := by
    simp only [bitsOf, Nat.shiftRight_eq_div_pow]
    omega
  refine ⟨by rw [recBytes_eq]; simp [recBody_length], ?_⟩
  rw [parseRec, if_pos (recBytes_valid r)]
  simp only [hw0, hw1, hw2, hw3, hw4, hw5, hw6, h0code, h0sev, h0rep, hgasp, hsat, h1seq, h1soh, hlow _ hhours,
    hlow _ hpcc, hlow _ hp0, hlow _ hp1, hlow _ hp2]

end Sys2Proof.Machine

/-!
Translation of addresses (11 R237, R239; O58).
-/

namespace Sys2Proof.Machine

/-- The segment found is the lowest-numbered enabled one that contains the granule. -/
theorem segFind_some {s : State} {c gr g : Nat} (h : segFind s c gr = some g) :
    g < 4 ∧ segEn s c g = true ∧ segHas s c g gr = true ∧
      ∀ k, k < g → (segEn s c k && segHas s c k gr) = false := by
  obtain ⟨hp, hlt, hbefore⟩ := List.find?_range_eq_some.mp h
  obtain ⟨hen, hhas⟩ := Bool.and_eq_true_iff.mp hp
  exact ⟨List.mem_range.mp hlt, hen, hhas, fun k hk => by
    have hfalse := hbefore k hk
    rwa [Bool.not_eq_true'] at hfalse⟩

/-- A translation that finds an address: its segment, and the checks it has passed. -/
theorem translate_at {s : State} {c va vz : Nat} {k : AccKind} {chip : BitVec 2} {pa g : Nat}
    (h : translate s c k va vz = .at_ chip pa g) :
    segFind s c (va / 16) = some g ∧ (seg s c g 3).testBit (1 + kindCode k) = true ∧ segHas s c g (vz / 16) = true ∧
      seg s c g 2 * 16 + (vz - seg s c g 0 * 16) ≤ 0xFFFFFF ∧ pa = seg s c g 2 * 16 + (va - seg s c g 0 * 16) := by
  unfold translate at h
  split at h
  · cases h
  · next g' hg =>
    dsimp only at h
    split at h
    · cases h
    · next hright =>
      split at h
      · cases h
      · next hlast =>
        split at h
        · cases h
        · next htop =>
          cases h
          exact ⟨hg, by simpa using hright, by simpa using hlast, Nat.le_of_not_gt htop, rfl⟩

/-- Settles O58: the first byte lies in the segment, so the offset within it is not cut off. -/
theorem translationKeepsToItsSegment : Obligations.TranslationKeepsToItsSegment := by
  intro s c va vz k chip pa g hle h
  obtain ⟨hfind, hright, hlast, htop, hpa⟩ := translate_at h
  obtain ⟨hg, hen, hhas, hbefore⟩ := segFind_some hfind
  have hbase : seg s c g 0 ≤ va / 16 := by
    simp only [segHas, Bool.and_eq_true, decide_eq_true_eq] at hhas
    exact hhas.1
  exact ⟨hg, hen, hhas, hlast, hright, hbefore, by omega, by omega, hpa⟩

end Sys2Proof.Machine

/-!
Register opcodes (04 R83, R84, R86, R87, R380; O2, O3, O5), and the forms of a landing that every opcode row uses.
-/

namespace Sys2Proof.Machine

/-! ### Landings -/

/-- A row's operation answered in the state it has left: its reply, whatever has become of the time. -/
theorem answered_afterLanding (s v : State) (l : Land) (n c st : Nat) (fs : List Field)
    (h : st ≠ stBadCrc ∧ st ≠ stBadOpc ∧ st ≠ stBadLen) :
    answered v (afterLanding s l.port n (answer v l c st fs)) l st fs c 8 := by
  unfold answered answer
  rw [afterLanding_reply, answerAt_reply _ _ _ _ _ _ _ _ h]

/-- What a row that its port takes comes to. -/
theorem next_opcodeRow {s : State} {l : Land} (n : Nat) {f : State → Nat → State} {v : State} (h : takes s l.port = true)
    (hf : f (landState s l.port) (landCycle s) = v) :
    (Host.Outcome.next (opcodeRow s l n f) : Host.Outcome State Fault Refusal) = .next (afterLanding s l.port n v) := by
  rw [opcodeRow_takes s l n f h, hf]

/-- A row whose operation makes `v` of the state it finds and answers in its landing cycle: its reply, and the state it
leaves. -/
theorem opcodeRow_answers {s : State} {l : Land} (n : Nat) {f : State → Nat → State} {v : State} {st : Nat}
    {fs : List Field} (h : takes s l.port = true)
    (hf : f (landState s l.port) (landCycle s) = answer v l (landCycle s) st fs)
    (hq : st ≠ stBadCrc ∧ st ≠ stBadOpc ∧ st ≠ stBadLen) (hp : v.ports = (landState s l.port).ports)
    (ht : v.seq.tick = (landState s l.port).seq.tick) :
    answered (landState s l.port) (opcodeRow s l n f) l st fs (landCycle s) 8 ∧
      ∃ q, opcodeRow s l n f = { v with ports := q, seq := { v.seq with cycle := s.seq.cycle + n } } := by
  rw [opcodeRow_takes s l n f h, hf]
  exact landed_answer_of s l n _ v _ st fs hq (landState_under_way s l.port) hp ht

/-- A row that answers and does no more: its reply, and that the rest stands. -/
theorem opcodeRow_only_answers {s : State} {l : Land} (n : Nat) {f : State → Nat → State} {st : Nat} {fs : List Field}
    (h : takes s l.port = true)
    (hf : f (landState s l.port) (landCycle s) = answer (landState s l.port) l (landCycle s) st fs)
    (hq : st ≠ stBadCrc ∧ st ≠ stBadOpc ∧ st ≠ stBadLen) :
    answered (landState s l.port) (opcodeRow s l n f) l st fs (landCycle s) 8 ∧
      sameBut [.seq, .ports] (landState s l.port) (opcodeRow s l n f) ∧
      (opcodeRow s l n f).seq = { (landState s l.port).seq with cycle := s.seq.cycle + n } := by
  obtain ⟨ha, q, hr⟩ := opcodeRow_answers n h hf hq rfl rfl
  exact ⟨ha, sameBut_answered [] _ _ _ q _ hr (sameBut_refl [] _), by rw [hr]⟩

/-! ### NOP and COMMIT -/

/-- Settles O2: the two rows answer in their landing cycle, COMMIT with its groups waiting. -/
theorem nopAndCommitAnswer : Obligations.NopAndCommitAnswer := by
  intro l s h
  refine ⟨⟨_, rfl, opcodeRow_only_answers 1 h rfl quiet_ok⟩, fun g => ⟨_, rfl, ?_⟩⟩
  obtain ⟨ha, q, hr⟩ := opcodeRow_answers (f := commitOp l g) 1 h rfl quiet_ok rfl rfl
  refine ⟨ha, ?_, by rw [hr]⟩
  rw [hr]
  intro p hp
  cases p <;> simp_all [Part.same]

/-! ### RD and SNAP -/

/-- The reads that follow the first go on from it. -/
theorem readAfter_succ (u : State) (c k : Nat) :
    readAfter (atCycle (runTo u c) c) (c + 1) k = readAfter u c (k + 1) := by
  induction k with
  | zero => rfl
  | succ k ih =>
    have hc : c + 1 + k = c + (k + 1) := by omega
    simp only [readAfter] at ih ⊢
    rw [ih, hc]

/-- The values of an RD: as many as registers, each read in its cycle. -/
theorem rdValues_spec (p : PortId) (regs : List (BitVec 12)) : ∀ (u : State) (c : Nat),
    (rdValues p u c regs).1 = readAfter u c regs.length ∧ (rdValues p u c regs).2.length = regs.length ∧
      ∀ i, (h : i < regs.length) → (rdValues p u c regs).2[i]? =
        some (fieldOfReg regs[i].toNat (readReg (readAfter u c (i + 1)) p regs[i].toNat)) := by
  induction regs with
  | nil => exact fun u c => ⟨rfl, rfl, fun i h => absurd h (Nat.not_lt_zero i)⟩
  | cons n r ih =>
    intro u c
    obtain ⟨hst, hlen, hval⟩ := ih (atCycle (runTo u c) c) (c + 1)
    refine ⟨hst.trans (readAfter_succ u c r.length), by simp only [rdValues, List.length_cons, hlen], fun i h => ?_⟩
    cases i with
    | zero => simp only [rdValues, readAfter, Nat.add_zero, List.getElem?_cons_zero, List.getElem_cons_zero]
    | succ i =>
      have hnext := hval i (by simpa using h)
      rw [readAfter_succ] at hnext
      simpa only [rdValues, List.getElem?_cons_succ, List.getElem_cons_succ] using hnext

/-- Registers that are all assigned have none that is not. -/
theorem badReg_of_regsOk {regs : List (BitVec 12)} (h : regsOk regs = true) : badReg regs = none := by
  rw [badReg, List.find?_eq_none]
  intro i hi
  have hi : i < regs.length := List.mem_range.mp hi
  have := List.all_eq_true.mp h regs[i] (List.getElem_mem hi)
  simpa [nth, hi] using this

/-- RD of assigned registers answers with their values. -/
theorem rdOp_of_regsOk {regs : List (BitVec 12)} (hs : sizeOk regs 80 = true) (hr : regsOk regs = true) (l : Land)
    (s : State) (c : Nat) : rdOp l regs s c =
      answer (rdValues l.port s c regs).1 l (c + regs.length - 1) stOk (rdValues l.port s c regs).2 := by
  simp only [rdOp, if_neg (not_badSize_of_sizeOk hs), badReg_of_regsOk hr]

/-- SNAP of assigned registers answers with their values and TICK_COUNT. -/
theorem snapOp_of_regsOk {regs : List (BitVec 12)} (hs : sizeOk regs 79 = true) (hr : regsOk regs = true) (l : Land)
    (s : State) (c : Nat) : snapOp l regs s c =
      answer s l c stOk
        (regs.map (fun n => fieldOfReg n.toNat (readReg s l.port n.toNat)) ++ [s.seq.tick.setWidth 24]) := by
  simp only [snapOp, if_neg (not_badSize_of_sizeOk hs), badReg_of_regsOk hr]

/-- Settles O3: RD's values are those of its cycles in turn, SNAP's those of the landing cycle. -/
theorem registerReadsAnswer : Obligations.RegisterReadsAnswer := by
  intro l regs s h hr
  refine ⟨fun hs => ?_, fun hs => ⟨_, rfl, opcodeRow_only_answers 1 h (snapOp_of_regsOk hs hr l _ _) quiet_ok⟩⟩
  obtain ⟨hst, hlen, hval⟩ := rdValues_spec l.port regs (landState s l.port) (landCycle s)
  refine ⟨_, _, next_opcodeRow _ h (rdOp_of_regsOk hs hr l _ _), ?_, hlen, hval⟩
  rw [hst]
  exact answered_afterLanding _ _ _ _ _ _ _ quiet_ok

/-! ### WR and RMW -/

/-- Pairs are written one after another. -/
theorem writePairs_eq_foldl (p : PortId) (pairs : List (BitVec 12 × Word)) : ∀ s,
    writePairs p s pairs = pairs.foldl (fun a e => writeReg a p e.1.toNat e.2) s := by
  induction pairs with
  | nil => exact fun s => rfl
  | cons e r ih => exact fun s => ih _

/-- WR of assigned registers, its code intact, writes its pairs and answers. -/
theorem wrOp_of_regsOk {pairs : List (BitVec 12 × Word)} (hs : sizeOk pairs 40 = true)
    (hr : regsOk (pairs.map (·.1)) = true) (l : Land) (s : State) (c : Nat) :
    wrOp l 0 pairs s c = answer ((pairs.filter (fun e => onlyClears e.1) ++ pairs.filter (fun e => !onlyClears e.1)).foldl
      (fun a e => writeReg a l.port e.1.toNat e.2) s) l c stOk (landFields s c) := by
  have hbus : pairs.all (fun e => busOk 0 e.1 e.2) = true := by simp [busOk]
  rw [wrOp, if_neg (not_badSize_of_sizeOk hs), badReg_of_regsOk hr, hbus, ← writePairs_eq_foldl]
  rfl

/-- RMW of assigned registers, its code intact, makes its triples and answers with the old values. -/
theorem rmwOp_of_regsOk {ts : List (BitVec 12 × Word × Word)} (hs : sizeOk ts 26 = true)
    (hr : regsOk (ts.map (·.1)) = true) (l : Land) (s : State) (c : Nat) :
    rmwOp l 0 ts s c = answer (rmwTriples l.port s c ts).1 l (c + ts.length - 1) stOk
      (landFields s c ++ (rmwTriples l.port s c ts).2) := by
  rw [rmwOp, if_neg (not_badSize_of_sizeOk hs), badReg_of_regsOk hr]
  exact if_neg (fun hne => hne rfl)

/-- One old value for each triple. -/
theorem rmwTriples_length (p : PortId) (ts : List (BitVec 12 × Word × Word)) : ∀ (s : State) (c : Nat),
    (rmwTriples p s c ts).2.length = ts.length := by
  induction ts with
  | nil => exact fun s c => rfl
  | cons e r ih => exact fun s c => congrArg (· + 1) (ih _ _)

/-- Settles O5: with the code intact both come to their writes and an answer OK. -/
theorem writePacketsWrite : Obligations.WritePacketsWrite := by
  intro l pairs ts s h
  refine ⟨fun hs hr => ?_, fun hs hr => ?_, fun x k n a o r => ⟨rfl, rfl⟩⟩
  · exact ⟨_, next_opcodeRow 1 h (wrOp_of_regsOk hs hr l _ _), answered_afterLanding _ _ _ _ _ _ _ quiet_ok, rfl⟩
  · exact ⟨_, next_opcodeRow _ h (rmwOp_of_regsOk hs hr l _ _), answered_afterLanding _ _ _ _ _ _ _ quiet_ok, rfl,
      rmwTriples_length l.port ts _ _⟩

end Sys2Proof.Machine

/-!
Rules of the shared operations: registers written and read, their canonical form, the evidence queue, and what an answer
leaves of the ports (00 R8, R9; 04 R91; 13 R300).
-/

namespace Sys2Proof.Machine

/-! ### A new component leaves the others alone -/

theorem sameBut_ports (s : State) (x : Ports) : sameBut [.ports] s { s with ports := x } := by
  intro p hp
  cases p <;> simp_all [Part.same]

theorem sameBut_seq (s : State) (x : Seq) : sameBut [.seq] s { s with seq := x } := by
  intro p hp
  cases p <;> simp_all [Part.same]

theorem sameBut_chain (s : State) (x : Chain) : sameBut [.chain] s { s with chain := x } := by
  intro p hp
  cases p <;> simp_all [Part.same]

theorem sameBut_dresser (s : State) (x : Dresser) : sameBut [.dresser] s { s with dresser := x } := by
  intro p hp
  cases p <;> simp_all [Part.same]

theorem sameBut_mem (s : State) (x : Mem) : sameBut [.mem] s { s with mem := x } := by
  intro p hp
  cases p <;> simp_all [Part.same]

theorem sameBut_cap (s : State) (x : Capture) : sameBut [.cap] s { s with cap := x } := by
  intro p hp
  cases p <;> simp_all [Part.same]

theorem sameBut_energy (s : State) (x : Energy) : sameBut [.energy] s { s with energy := x } := by
  intro p hp
  cases p <;> simp_all [Part.same]

theorem sameBut_bureau (s : State) (x : Bureau) : sameBut [.bureau] s { s with bureau := x } := by
  intro p hp
  cases p <;> simp_all [Part.same]

theorem sameBut_evid (s : State) (x : Evidence) : sameBut [.evid] s { s with evid := x } := by
  intro p hp
  cases p <;> simp_all [Part.same]

theorem sameBut_aon (s : State) (x : Aon) : sameBut [.aon] s { s with aon := x } := by
  intro p hp
  cases p <;> simp_all [Part.same]

theorem sameBut_line (s : State) (x : Line) : sameBut [.line] s { s with line := x } := by
  intro p hp
  cases p <;> simp_all [Part.same]

theorem sameBut_stool (s : State) (x : Stool) : sameBut [.stool] s { s with stool := x } := by
  intro p hp
  cases p <;> simp_all [Part.same]

theorem sameBut_hutch (s : State) (x : Hutch) : sameBut [.hutch] s { s with hutch := x } := by
  intro p hp
  cases p <;> simp_all [Part.same]

theorem sameBut_nvm (s : State) (x : Nvm) : sameBut [.nvm] s { s with nvm := x } := by
  intro p hp
  cases p <;> simp_all [Part.same]

theorem sameBut_proc (s : State) (x : Proc) : sameBut [.proc] s { s with proc := x } := by
  intro p hp
  cases p <;> simp_all [Part.same]

theorem sameBut_pins (s : State) (x : Pins) : sameBut [.pins] s { s with pins := x } := by
  intro p hp
  cases p <;> simp_all [Part.same]

theorem sameBut_streams (s : State) (x : Streams) : sameBut [.streams] s { s with streams := x } := by
  intro p hp
  cases p <;> simp_all [Part.same]

theorem sameBut_putPort (s : State) (p : PortId) (q : Port) : sameBut [.ports] s (putPort s p q) := by
  cases p <;> exact sameBut_ports s _

/-! ### Registers -/

/-- A register that CORE keeps is written in the stored file. -/
theorem setReg_of_core {n : Nat} (hr : isRetained n = false) (s : State) (v : Word) :
    setReg s n v = { s with regs := sset regReset s.regs n v } := by
  simp [setReg, hr]

/-- A register write changes the register files alone. -/
theorem setReg_frame (s : State) (n : Nat) (v : Word) : sameBut [.regs, .aon] s (setReg s n v) := by
  unfold setReg
  split <;> (intro p hp; cases p <;> simp_all [Part.same])

/-- A write of a register that CORE keeps changes its file alone. -/
theorem setReg_frame_core {n : Nat} (hr : isRetained n = false) (s : State) (v : Word) :
    sameBut [.regs] s (setReg s n v) := by
  rw [setReg_of_core hr]
  intro p hp
  cases p <;> simp_all [Part.same]

/-- PD0 but for its registers stands while a register is written. -/
theorem setReg_aon (s : State) (n : Nat) (v : Word) :
    (setReg s n v).aon = { s.aon with regs := (setReg s n v).aon.regs } := by
  unfold setReg
  split <;> rfl

/-- PD0 stands while a register that CORE keeps is written. -/
theorem setReg_aon_core {n : Nat} (hr : isRetained n = false) (s : State) (v : Word) : (setReg s n v).aon = s.aon :=
  setReg_frame_core hr s v .aon (by decide)

/-- PD0 but for its registers stands while a register is written. -/
theorem setReg_aonRegs (s : State) (n : Nat) (v : Word) : ∃ r, (setReg s n v).aon = { s.aon with regs := r } :=
  ⟨_, setReg_aon s n v⟩

/-- PD0 but for its registers stands while a status bit is raised. -/
theorem raise_aon (s : State) (src : Nat) : (raise s src).aon = { s.aon with regs := (raise s src).aon.regs } := by
  unfold raise
  dsimp only
  split
  · split
    · exact setReg_aon s _ _
    · exact setReg_aon s _ _
  · rfl

/-- PD0 stands while a status bit that CORE keeps is raised. -/
theorem raise_aon_core {src : Nat} (hr : isRetained (src / 20) = false) (s : State) : (raise s src).aon = s.aon :=
  raise_frame s hr .aon (by decide)

/-- `raise` writes the register files and the events of the tick, no more. -/
theorem raise_frame_any (s : State) (src : Nat) : sameBut [.regs, .aon, .bureau] s (raise s src) := by
  intro p hp
  cases p <;> simp_all [Part.same]

/-- An event delivered joins the events of the tick, no more. -/
theorem deliver_frame (s : State) (e : BEvent) : sameBut [.bureau] s (deliver s e) := by
  intro p hp
  cases p <;> simp_all [Part.same]

/-- The registers read the same with an event delivered. -/
@[simp] theorem getReg_deliver (s : State) (e : BEvent) (n : Nat) : getReg (deliver s e) n = getReg s n := by
  simp [getReg]

/-! ### The canonical form of the register files -/

/-- The canonical form, file by file. -/
theorem Registers.wf_iff (s : State) : Registers.wf s = true ↔
    swf regReset s.regs = true ∧ swf regReset s.aon.regs = true ∧ swf regReset s.inForce = true ∧
      swf regReset s.snap = true := by
  simp [Registers.wf, and_assoc]

/-- A register write keeps the canonical form. -/
theorem setReg_rwf {s : State} (n : Nat) (v : Word) (h : Registers.wf s = true) : Registers.wf (setReg s n v) = true := by
  rw [Registers.wf_iff] at *
  obtain ⟨h1, h2, h3, h4⟩ := h
  unfold setReg
  split
  · exact ⟨h1, swf_sset _ _ _ _ h2, h3, h4⟩
  · exact ⟨swf_sset _ _ _ _ h1, h2, h3, h4⟩

/-- A raise keeps the canonical form. -/
theorem raise_rwf {s : State} (src : Nat) (h : Registers.wf s = true) : Registers.wf (raise s src) = true := by
  unfold raise
  dsimp only
  split
  · split <;> exact setReg_rwf _ _ h
  · exact h

theorem raiseIf_rwf {s : State} (c : Bool) (src : Nat) (h : Registers.wf s = true) :
    Registers.wf (raiseIf c src s) = true := by
  cases c with
  | false => exact h
  | true => exact raise_rwf src h

theorem deliver_rwf {s : State} (e : BEvent) (h : Registers.wf s = true) : Registers.wf (deliver s e) = true := by
  unfold deliver
  split <;> exact h

/-! ### Values -/

/-- A register just set reads as set. -/
theorem getReg_setReg {s : State} (n : Nat) (v : Word) (h : Registers.wf s = true) : getReg (setReg s n v) n = v := by
  obtain ⟨h1, h2, -⟩ := (Registers.wf_iff s).mp h
  exact getReg_setReg_self s n v h1 h2

/-- A counter just raised reads one more, up to its top. -/
theorem getReg_incReg {s : State} (n : Nat) (h : Registers.wf s = true) :
    getReg (incReg s n) n = wd (min (regN s n + 1) 0xFFFFF) := getReg_setReg n _ h

/-- The other registers stand while one is written. -/
theorem sameRegsBut_setReg (s : State) (n : Nat) (v : Word) : sameRegsBut [n] s (setReg s n v) :=
  fun _ hm => getReg_setReg_other s n _ v (by simpa using hm)

/-- A status bit just raised is set. -/
theorem statusBit_raise_wf {s : State} {src : Nat} (hr : isRetained (src / 20) = false) (hc : coreOn s = true)
    (h : Registers.wf s = true) : statusBit (raise s src) src = true :=
  statusBit_raise_self hc hr (Registers.swf_regs h)

/-! ### Evidence -/

/-- A lost entry is counted and noted, no more. -/
theorem loseEvidence_frame (s : State) (k : Nat) : sameBut [.regs, .aon, .bureau, .evid] s (loseEvidence s k) := by
  unfold loseEvidence
  dsimp only
  split <;> (intro p hp; cases p <;> simp_all [Part.same])

/-- A lost entry leaves the queue, the keys and the rest of PD0 but for its registers and the count of the dark. -/
theorem loseEvidence_aon (s : State) (k : Nat) : ∃ r n,
    (loseEvidence s k).aon = { s.aon with regs := r, darkLost := n } := by
  unfold loseEvidence
  dsimp only
  split
  · exact ⟨(addReg s 0x7A3 k).aon.regs, _, by rw [addReg, setReg_aon]⟩
  · refine ⟨(addReg s 0x7A3 k).aon.regs, s.aon.darkLost, ?_⟩
    rw [raise_aon_core (by decide)]
    exact setReg_aon s _ _

/-- The log takes an entry. -/
def evidTakes (s : State) : Bool :=
  !s.evid.full && !s.aon.logClosed && decide (s.aon.evQueue.length < 8)

/-- An entry that the log takes waits in the queue. -/
theorem queueEvidence_of_takes {s : State} (e : List Byte) (h : evidTakes s = true) :
    queueEvidence s e = { s with aon := { s.aon with evQueue := s.aon.evQueue ++ [e] } } := by
  simp only [evidTakes, Bool.and_eq_true, Bool.not_eq_true', decide_eq_true_eq] at h
  obtain ⟨⟨hf, hc⟩, hl⟩ := h
  exact if_neg (by simp [hf, hc, hl])

/-- An entry that it does not take is lost. -/
theorem queueEvidence_of_not_takes {s : State} (e : List Byte) (h : evidTakes s = false) :
    queueEvidence s e = loseEvidence s 1 := by
  refine if_pos ?_
  simp only [evidTakes, Bool.and_eq_false_iff, Bool.not_eq_false', decide_eq_false_iff_not, Nat.not_lt] at h
  simpa [or_assoc] using h

/-- An entry queued or lost changes registers, PD0, events and the log's counts, no more. -/
theorem queueEvidence_frame (s : State) (e : List Byte) :
    sameBut [.regs, .aon, .bureau, .evid] s (queueEvidence s e) := by
  cases h : evidTakes s with
  | false => rw [queueEvidence_of_not_takes e h]; exact loseEvidence_frame s 1
  | true =>
    rw [queueEvidence_of_takes e h]
    intro p hp
    cases p <;> simp_all [Part.same]

/-- PD0 after an entry: its registers, its queue and the count of the dark alone may have changed. -/
theorem queueEvidence_aon (s : State) (e : List Byte) : ∃ r n q,
    (queueEvidence s e).aon = { s.aon with regs := r, darkLost := n, evQueue := q } := by
  cases h : evidTakes s with
  | false =>
    obtain ⟨r, n, ha⟩ := loseEvidence_aon s 1
    exact ⟨r, n, s.aon.evQueue, by rw [queueEvidence_of_not_takes e h, ha]⟩
  | true => exact ⟨s.aon.regs, s.aon.darkLost, _, by rw [queueEvidence_of_takes e h]⟩

theorem loseEvidence_rwf {s : State} (k : Nat) (h : Registers.wf s = true) : Registers.wf (loseEvidence s k) = true := by
  unfold loseEvidence
  dsimp only
  split
  · exact setReg_rwf _ _ h
  · exact raise_rwf _ (setReg_rwf 0x7A3 _ h)

theorem queueEvidence_rwf {s : State} (e : List Byte) (h : Registers.wf s = true) :
    Registers.wf (queueEvidence s e) = true := by
  unfold queueEvidence
  split
  · exact loseEvidence_rwf 1 h
  · exact h

/-! ### What an answer leaves of the ports -/

/-- The packet under way, the operations in progress, the nonce and the cursor of a port stand. -/
structure PortKept (q r : Port) : Prop where
  exec : r.exec = q.exec
  busy : r.busy = q.busy
  nonce : r.nonce = q.nonce
  cursor : r.cursor = q.cursor
  look : r.look = q.look

/-- Of the ports an answer changes replies, their times and the ways back alone. -/
structure AnswerKeeps (s t : State) : Prop where
  port : ∀ p, PortKept (portOf s p) (portOf t p)
  keysDue : t.ports.keysDue = s.ports.keysDue
  chainQ : t.ports.chainQ = s.ports.chainQ
  forwards : t.ports.forwards = s.ports.forwards

theorem AnswerKeeps.of_ports {s t : State} (h : t.ports = s.ports) : AnswerKeeps s t where
  port p := by rw [portOf_congr s t p h]; exact ⟨rfl, rfl, rfl, rfl, rfl⟩
  keysDue := by rw [h]
  chainQ := by rw [h]
  forwards := by rw [h]

theorem AnswerKeeps.trans {s t u : State} (h : AnswerKeeps s t) (g : AnswerKeeps t u) : AnswerKeeps s u where
  port p :=
    { exec := (g.port p).exec.trans (h.port p).exec
      busy := (g.port p).busy.trans (h.port p).busy
      nonce := (g.port p).nonce.trans (h.port p).nonce
      cursor := (g.port p).cursor.trans (h.port p).cursor
      look := (g.port p).look.trans (h.port p).look }
  keysDue := g.keysDue.trans h.keysDue
  chainQ := g.chainQ.trans h.chainQ
  forwards := g.forwards.trans h.forwards

/-- A port replaced by one that keeps what an answer keeps. -/
theorem AnswerKeeps.putPort (s : State) (p : PortId) {q : Port} (h : PortKept (portOf s p) q) :
    AnswerKeeps s (putPort s p q) where
  port r := by
    by_cases hr : r = p
    · subst hr; rw [portOf_putPort_self]; exact h
    · rw [portOf_putPort_other s p r q hr]; exact ⟨rfl, rfl, rfl, rfl, rfl⟩
  keysDue := by cases p <;> rfl
  chainQ := by cases p <;> rfl
  forwards := by cases p <;> rfl

theorem setDue_keeps (s : State) (p : PortId) (c : Nat) : AnswerKeeps s (setDue s p c) := by
  unfold setDue
  split
  · exact .putPort s p ⟨rfl, rfl, rfl, rfl, rfl⟩
  · exact .of_ports rfl

theorem giveReply_keeps (s : State) (p : PortId) (r : Reply) : AnswerKeeps s (giveReply s p r) := by
  have hput : AnswerKeeps s (putPort s p { portOf s p with reply := some r }) :=
    .putPort s p ⟨rfl, rfl, rfl, rfl, rfl⟩
  cases p with
  | host => exact hput.trans (.of_ports (raiseIf_ports _ _ _))
  | maint => exact { port := fun p => by cases p <;> exact hput.port _, keysDue := rfl, chainQ := rfl, forwards := rfl }
  | chain =>
    match hw : s.ports.chainFrom, hd : (portOf s .chain).due with
    | none, _ => rwa [giveReply_chain_of_noWay r hw]
    | some (d, q, g), none =>
      rw [giveReply_chain_of_idle r hw hd]
      refine AnswerKeeps.trans ?_ (.of_ports (sendFrame_ports _ _))
      exact { port := fun p => by cases p <;> exact ⟨rfl, rfl, rfl, rfl, rfl⟩, keysDue := rfl, chainQ := rfl, forwards := rfl }
    | some (d, q, g), some c =>
      rw [giveReply_chain_of_executing r hw hd]
      exact { port := fun p => by cases p <;> exact ⟨rfl, rfl, rfl, rfl, rfl⟩, keysDue := rfl, chainQ := rfl, forwards := rfl }

theorem answerAt_keeps (s : State) (p : PortId) (tag : Byte) (nr : Bool) (st : Nat) (fs : List Field) (c k : Nat) :
    AnswerKeeps s (answerAt s p tag nr st fs c k) := by
  have hbefore : AnswerKeeps s (setDue (noteStatus s p st) p (c + k)) :=
    (AnswerKeeps.of_ports (noteStatus_ports s p st)).trans (setDue_keeps _ p (c + k))
  unfold answerAt
  dsimp only
  split
  · exact hbefore
  · exact hbefore.trans (giveReply_keeps _ p _)

theorem afterLanding_keeps (s : State) (p : PortId) (n : Nat) (v : State) : AnswerKeeps v (afterLanding s p n v) := by
  have hput : AnswerKeeps v (if (portOf v p).due = some executing then putPort v p { portOf v p with due := none } else v) := by
    split
    · exact .putPort v p ⟨rfl, rfl, rfl, rfl, rfl⟩
    · exact .of_ports rfl
  unfold afterLanding landed
  dsimp only
  split
  · refine hput.trans ?_
    exact { port := fun p => by cases p <;> exact ⟨rfl, rfl, rfl, rfl, rfl⟩, keysDue := rfl, chainQ := rfl, forwards := rfl }
  · exact hput.trans { port := fun p => by cases p <;> exact ⟨rfl, rfl, rfl, rfl, rfl⟩, keysDue := rfl, chainQ := rfl
                       forwards := rfl }

end Sys2Proof.Machine

/-!
CONVERT_NOW, STOOL_CTRL and the record opcodes (05 R131, 06 R146, 12 R280, R281; O8, O9).
-/

namespace Sys2Proof.Machine

theorem quiet_dropped : stDropped ≠ stBadCrc ∧ stDropped ≠ stBadOpc ∧ stDropped ≠ stBadLen := by decide

/-! ### CONVERT_NOW -/

/-- The process component with an urgent conversion taken (06 R146). -/
def urgentTaken (s : State) (e : Word) : Proc :=
  { s.proc with
    urgent := true, urgentEntry := e, ctrl := snapReg s 0x300, group := 16, passDone := false
    isOpen := false, delaying := false
    waiting := decide (entryMode e ≠ 1), urgentPend := decide (entryMode e = 1) }

/-- A valid entry is taken while the pairs are at work and at rest. -/
theorem convertNowOp_taken {s : State} {e : Word} (hw : entryWith e = false) (hh : headOk e = true)
    (hb : procBusy s = false) (ho : procOn s = true) :
    convertNowOp s e = ({ s with proc := urgentTaken s e }, stOk) := by
  simp [convertNowOp, hw, hh, hb, ho, urgentTaken]

/-- A valid entry is dropped and counted while they are not. -/
theorem convertNowOp_dropped {s : State} {e : Word} (hw : entryWith e = false) (hh : headOk e = true)
    (h : procBusy s = true ∨ procOn s = false) :
    convertNowOp s e = (raise (incReg s 0x305) srcProcOverrun, stDropped) := by
  have hdrop : (procBusy s || !procOn s) = true := by simpa using h
  simp [convertNowOp, hw, hh, hdrop]

/-- CONVERT_NOW dropped is counted and answered DROPPED. -/
theorem convertOp_dropped {s : State} {e : Word} (hr : fld e 10 2 = 0) (hw : entryWith e = false)
    (hh : headOk e = true) (h : procBusy s = true ∨ procOn s = false) (l : Land) (c : Nat) :
    convertOp l e s c = answer (raise (incReg s 0x305) srcProcOverrun) l c stDropped [] := by
  simp only [convertOp, convertNowOp_dropped hw hh h, ne_eq, hr, not_true_eq_false, if_false]
  exact if_neg (by decide)

/-- CONVERT_NOW taken is answered OK, its landing kept for an edge of the same cycle. -/
theorem convertOp_taken {s : State} {e : Word} (hr : fld e 10 2 = 0) (hw : entryWith e = false)
    (hh : headOk e = true) (hb : procBusy s = false) (ho : procOn s = true) (l : Land) (c : Nat) :
    let t := answer { s with proc := urgentTaken s e } l c stOk []
    convertOp l e s c = { t with proc := { t.proc with
      urgentAt := some (c, waitOf { s with proc := urgentTaken s e } l 0x10) } } := by
  simp only [convertOp, convertNowOp_taken hw hh hb ho, ne_eq, hr, not_true_eq_false, if_false, if_true]
  rfl

/-- A row that is CONVERT_NOW taken. -/
theorem convertNow_taken {l : Land} {e : Word} {s : State} (h : takes s l.port = true) (hr : fld e 10 2 = 0)
    (hw : entryWith e = false) (hh : headOk e = true) (hb : procBusy (landState s l.port) = false)
    (ho : procOn (landState s l.port) = true) :
    ∃ t, exec (.convertNow l e) s = .next t ∧ answered (landState s l.port) t l stOk [] (landCycle s) 8 ∧
      t.proc.urgent = true ∧ t.proc.urgentEntry = e ∧ t.proc.group = 16 ∧
      t.proc.ctrl = snapReg (landState s l.port) 0x300 ∧ sameBut [.seq, .proc, .ports] (landState s l.port) t := by
  refine ⟨_, next_opcodeRow 1 h (convertOp_taken hr hw hh hb ho l _), ?_⟩
  obtain ⟨q, hq⟩ := answerAt_eq { landState s l.port with proc := urgentTaken (landState s l.port) e } l.port l.tag
    l.noreply stOk [] (landCycle s) 8 quiet_ok (landState_under_way s l.port)
  constructor
  · unfold answered
    rw [afterLanding_reply]
    exact answerAt_reply _ _ _ _ _ _ _ _ quiet_ok
  · simp only [answer, hq]
    generalize hv : waitOf _ l 0x10 = w
    obtain ⟨r, hr⟩ := afterLanding_eq s l.port 1 { landState s l.port with
      proc := { urgentTaken (landState s l.port) e with urgentAt := some (landCycle s, w) }, ports := q }
    rw [hr]
    refine ⟨rfl, rfl, rfl, rfl, ?_⟩
    intro p hp
    cases p <;> simp_all [Part.same]

/-! ### STOOL_CTRL -/

/-- The state with an action of STOOL_CTRL waiting for the boundary. -/
def stoolAction (s : State) (a b : Nat) : State :=
  { s with stool := { s.stool with actions := s.stool.actions ++ [(a, b)] } }

/-- An action waits while the Stool is in force, and the slice that a SELECT names. -/
theorem stoolCtrl_waits {s : State} {a b : Nat} (ha : 1 ≤ a) (ha3 : a ≤ 3) (hb : b ≤ 10) (ho : inSched s 10 = true)
    (hs : a = 3 → b ≤ 9 → inSched s b = true) : stoolCtrl s a b = (stoolAction s a b, stOk) := by
  have h0 : ¬(a > 3 ∨ b > 10) := by omega
  have h1 : a ≠ 0 := by omega
  have h2 : ¬(a = 3 ∧ b ≤ 9 ∧ (!inSched s b) = true) := fun ⟨h3, h9, hn⟩ => by simp [hs h3 h9] at hn
  simp only [stoolCtrl, if_neg h0, if_neg h1, ho, Bool.not_true, Bool.false_eq_true, if_false, if_neg h2, stoolAction]

/-- It is answered BUSY otherwise. -/
theorem stoolCtrl_busy {s : State} {a b : Nat} (ha : 1 ≤ a) (ha3 : a ≤ 3) (hb : b ≤ 10)
    (h : inSched s 10 = false ∨ (a = 3 ∧ b ≤ 9 ∧ inSched s b = false)) : stoolCtrl s a b = (s, stBusy) := by
  have h0 : ¬(a > 3 ∨ b > 10) := by omega
  have h1 : a ≠ 0 := by omega
  simp only [stoolCtrl, if_neg h0, if_neg h1]
  rcases h with ho | ⟨h3, h9, hs⟩
  · simp [ho]
  · cases inSched s 10 <;> simp [h3, h9, hs]

/-- The rows of the actions of STOOL_CTRL. -/
theorem exec_stoolAction {l : Land} {k : BitVec 4} {i : Instr} {a b : Nat}
    (h : (i = .pause l ∧ a = 1 ∧ b = 0) ∨ (i = .resume l ∧ a = 2 ∧ b = 0) ∨
      (i = .select l k ∧ a = 3 ∧ b = k.toNat ∧ k.toNat ≤ 10)) (s : State) :
    exec i s = .next (opcodeRow s l 1 (stoolCtrlOp l a b)) ∧ 1 ≤ a ∧ a ≤ 3 ∧ b ≤ 10 := by
  rcases h with ⟨rfl, rfl, rfl⟩ | ⟨rfl, rfl, rfl⟩ | ⟨rfl, rfl, rfl, hk⟩
  · exact ⟨rfl, by decide⟩
  · exact ⟨rfl, by decide⟩
  · exact ⟨rfl, by decide, by decide, hk⟩

/-- An action of STOOL_CTRL that waits is answered OK with the Stool status. -/
theorem stoolRow_waits {l : Land} {s : State} {a b : Nat} (h : takes s l.port = true) (ha : 1 ≤ a) (ha3 : a ≤ 3)
    (hb : b ≤ 10) (ho : inSched (landState s l.port) 10 = true)
    (hs : a = 3 → b ≤ 9 → inSched (landState s l.port) b = true) :
    let u := landState s l.port
    let t := opcodeRow s l 1 (stoolCtrlOp l a b)
    t.stool = { u.stool with actions := u.stool.actions ++ [(a, b)] } ∧
      answered u t l stOk [(stoolStatus { u with stool := t.stool }).setWidth 24] (landCycle s) 8 ∧
      sameBut [.seq, .stool, .ports] u t := by
  have hf : stoolCtrlOp l a b (landState s l.port) (landCycle s) =
      answer (stoolAction (landState s l.port) a b) l (landCycle s) stOk
        [(stoolStatus (stoolAction (landState s l.port) a b)).setWidth 24] := by
    simp only [stoolCtrlOp, stoolCtrl_waits ha ha3 hb ho hs, if_true]
  obtain ⟨hans, q, hr⟩ := opcodeRow_answers 1 h hf quiet_ok rfl rfl
  refine ⟨by rw [hr]; rfl, by rw [hr] at hans ⊢; exact hans, ?_⟩
  rw [hr]
  intro p hp
  cases p <;> simp_all [Part.same, stoolAction]

/-- An action of STOOL_CTRL that cannot wait is answered BUSY. -/
theorem stoolRow_busy {l : Land} {s : State} {a b : Nat} (h : takes s l.port = true) (ha : 1 ≤ a) (ha3 : a ≤ 3)
    (hb : b ≤ 10) (hn : inSched (landState s l.port) 10 = false ∨
      (a = 3 ∧ b ≤ 9 ∧ inSched (landState s l.port) b = false)) :
    answered (landState s l.port) (opcodeRow s l 1 (stoolCtrlOp l a b)) l stBusy [] (landCycle s) 8 ∧
      sameBut [.seq, .ports] (landState s l.port) (opcodeRow s l 1 (stoolCtrlOp l a b)) := by
  have hf : stoolCtrlOp l a b (landState s l.port) (landCycle s) =
      answer (landState s l.port) l (landCycle s) stBusy [] := by
    simp only [stoolCtrlOp, stoolCtrl_busy ha ha3 hb hn]
    rw [if_neg (by decide)]
  obtain ⟨hans, hframe, -⟩ := opcodeRow_only_answers 1 h hf quiet_busy
  exact ⟨hans, hframe⟩

/-- Settles O8: the entry is valid in both clauses of CONVERT_NOW; the three actions are one row. -/
theorem convertAndStoolOpcodes : Obligations.ConvertAndStoolOpcodes := by
  intro l e k s h
  refine ⟨fun hr hw hh hb ho => convertNow_taken h hr hw hh hb ho, fun hr hw hh hn => ?_, ?_, fun i a b hi => ?_⟩
  · refine ⟨_, next_opcodeRow 1 h (convertOp_dropped hr hw hh hn l _), ?_, rfl⟩
    obtain ⟨-, q, hq⟩ := landed_answer_of s l 1 (landState s l.port)
      (raise (incReg (landState s l.port) 0x305) srcProcOverrun) (landCycle s) stDropped [] quiet_dropped
      (landState_under_way s l.port) (by simp) (by simp)
    rw [hq]
    simp
  · obtain ⟨hans, hframe, -⟩ := opcodeRow_only_answers (f := stoolCtrlOp l 0 0) 1 h rfl quiet_ok
    exact ⟨_, rfl, hans, hframe⟩
  · obtain ⟨hexec, ha, ha3, hb⟩ := exec_stoolAction hi s
    exact ⟨fun ho hs => ⟨_, hexec, stoolRow_waits h ha ha3 hb ho hs⟩, fun hn => ⟨_, hexec, stoolRow_busy h ha ha3 hb hn⟩⟩

/-! ### REC_CLEAR and REC_MARK -/

/-- Settles O9: REC_CLEAR's entry is queued or lost as the log takes it; REC_MARK keeps its port busy. -/
theorem recordOpcodes : Obligations.RecordOpcodes := by
  intro l p0 p1 p2 s h
  set u := landState s l.port with hu
  set e := bEvent 2 2 (portCode l.port) 0 0 with he
  have hports : (queueEvidence (deliver u e) (evidEntry (deliver u e) 2 2 (portCode l.port) false)).ports = u.ports :=
    (queueEvidence_frame _ _ .ports (by decide)).trans (deliver_ports u e)
  have hseq : (queueEvidence (deliver u e) (evidEntry (deliver u e) 2 2 (portCode l.port) false)).seq = u.seq :=
    (queueEvidence_frame _ _ .seq (by decide)).trans (deliver_seq u e)
  obtain ⟨hans, q, hr⟩ := opcodeRow_answers (f := recClearOp l) 1 h rfl quiet_ok hports (by rw [hseq])
  refine ⟨⟨_, rfl, hans, fun hf hc hl => ?_, fun hn => ?_⟩, ?_⟩
  · have htakes : evidTakes (deliver u e) = true := by simp [evidTakes, hf, hc, hl]
    have hlog := queueEvidence_of_takes (evidEntry (deliver u e) 2 2 (portCode l.port) false) htakes
    have hqueue : (queueEvidence (deliver u e) (evidEntry (deliver u e) 2 2 (portCode l.port) false)).aon =
        { u.aon with evQueue := u.aon.evQueue ++ [evidEntry (deliver u e) 2 2 (portCode l.port) false] } := by
      rw [hlog]
      simp
    have hbureau : (queueEvidence (deliver u e) (evidEntry (deliver u e) 2 2 (portCode l.port) false)).bureau =
        (deliver u e).bureau := by rw [hlog]
    rw [hr]
    refine ⟨hbureau, hqueue, ?_⟩
    rw [hlog]
    intro p hp
    cases p <;> simp_all [Part.same]
  · have htakes : evidTakes (deliver u e) = false := by
      rcases hn with hn | hn | hn <;> simp [evidTakes, hn]
    have hrow : opcodeRow s l 1 (recClearOp l) =
        afterLanding s l.port 1 (answer (loseEvidence (deliver u e) 1) l (landCycle s) stOk []) := by
      rw [opcodeRow_takes s l 1 _ h, ← queueEvidence_of_not_takes _ htakes]
      rfl
    refine ⟨hrow, ?_⟩
    obtain ⟨r, n, ha⟩ := loseEvidence_aon (deliver u e) 1
    rw [hr, queueEvidence_of_not_takes _ htakes]
    simp [ha]
  · refine ⟨_, next_opcodeRow 1 h rfl, ?_⟩
    have hkeeps := afterLanding_keeps s l.port 1 (recMarkOp l p0 p1 p2 u (landCycle s))
    obtain ⟨q, hr⟩ := afterLanding_eq s l.port 1 (recMarkOp l p0 p1 p2 u (landCycle s))
    refine ⟨?_, ?_, ?_⟩
    · rw [(hkeeps.port l.port).busy]
      exact (congrArg Port.busy (portOf_putPort_self _ l.port _)).trans
        (congrArg (fun x : Port => x.busy ++ [waitOf u l 0x19]) (portOf_congr u (deliver u _) l.port (deliver_ports u _)))
    · rw [hr]
      have hmarks : ∀ f, (deliver u f).bureau.marks = u.bureau.marks := fun f => by unfold deliver; split <;> rfl
      simp [recMarkOp, setBusy, hmarks]
    · rw [hr]
      intro p hp
      cases p <;> simp_all [Part.same, recMarkOp, setBusy]

end Sys2Proof.Machine

/-!
DISP_RECT, DISP_BLINK and DISP_POWER (14 R319, R323, R326, R330; O10).
-/

namespace Sys2Proof.Machine

/-- A row whose operation answers and does nothing else. -/
theorem answers_only {s : State} {l : Land} {i : Instr} {f : State → Nat → State} {st : Nat} {fs : List Field}
    (hi : exec i s = .next (opcodeRow s l 1 f)) (h : takes s l.port = true)
    (hf : f (landState s l.port) (landCycle s) = answer (landState s l.port) l (landCycle s) st fs)
    (hq : st ≠ stBadCrc ∧ st ≠ stBadOpc ∧ st ≠ stBadLen) :
    ∃ t, exec i s = .next t ∧ answered (landState s l.port) t l st fs (landCycle s) 8 ∧
      sameBut [.seq, .ports] (landState s l.port) t := by
  obtain ⟨hans, hframe, -⟩ := opcodeRow_only_answers 1 h hf hq
  exact ⟨_, hi, hans, hframe⟩

/-- A row whose operation changes the display and answers. -/
theorem answers_hutch {s : State} {l : Land} {i : Instr} {f : State → Nat → State} {x : Hutch} {st : Nat}
    {fs : List Field} (hi : exec i s = .next (opcodeRow s l 1 f)) (h : takes s l.port = true)
    (hf : f (landState s l.port) (landCycle s) = answer (putHutch (landState s l.port) x) l (landCycle s) st fs)
    (hq : st ≠ stBadCrc ∧ st ≠ stBadOpc ∧ st ≠ stBadLen) :
    ∃ t, exec i s = .next t ∧ t.hutch = x ∧ answered (landState s l.port) t l st fs (landCycle s) 8 ∧
      sameBut [.seq, .hutch, .ports] (landState s l.port) t := by
  obtain ⟨hans, q, hr⟩ := opcodeRow_answers 1 h hf hq rfl rfl
  refine ⟨_, hi, by rw [hr]; rfl, hans, ?_⟩
  rw [hr]
  intro p hp
  cases p <;> simp_all [Part.same, putHutch]

/-! ### What the operations do -/

/-- A rectangle takes the first free slot of a panel in RUN. -/
theorem dispRectOp_takes {s : State} {x0 y0 w ht i : Nat} (h3 : s.hutch.st = 3) (hd : domOn s 10 = true)
    (hi : (upto 4).find? (fun k => (rectAt s.hutch k).st == 0) = some i) :
    let r : Rect := { freeRect with st := 1, x0 := x0, y0 := y0, w := w, h := ht, age := s.hutch.ageNext }
    let lap := (upto 4).any (fun j => decide ((rectAt s.hutch j).st ≠ 0) && overlaps (rectAt s.hutch j) r)
    dispRectOp s x0 y0 w ht =
      (putHutch s { s.hutch with rects := setNth s.hutch.rects i r, ageNext := s.hutch.ageNext + 1 },
        if lap then stRectWait else stOk, i) := by
  simp [dispRectOp, h3, hd, hi]

/-- A rectangle is refused by any other panel, and with no slot free. -/
theorem dispRectOp_busy {s : State} {x0 y0 w ht : Nat} (h : s.hutch.st ≠ 3 ∨ domOn s 10 = false ∨
    (upto 4).find? (fun k => (rectAt s.hutch k).st == 0) = none) : dispRectOp s x0 y0 w ht = (s, stBusy, 0) := by
  unfold dispRectOp
  dsimp only
  split
  · rfl
  next hrun =>
    have hnone : (upto 4).find? (fun k => (rectAt s.hutch k).st == 0) = none := by
      rcases h with h | h | h
      · exact absurd (.inl h) hrun
      · exact absurd (.inr (by simp [h])) hrun
      · exact h
    rw [hnone]

/-- DISP_BLINK waits for the frame start. -/
theorem dispBlinkOp_waits {s : State} {f : List Nat} (h : (nth s.hutch.blinkWait (nth f 0 0 % 4) none).isSome = false) :
    let g (i : Nat) : Nat := nth f i 0
    let v := if (g 0).testBit 8 then [wd (g 0 / 16 * 16), wd (g 1 * 256 + g 2), wd (g 3 * 256 + g 4), wd (g 5)]
      else [wd (g 0 / 16 * 16)]
    dispBlinkOp s f =
      (putHutch s { s.hutch with blinkWait := setNth s.hutch.blinkWait (nth f 0 0 % 4) (some v) }, stOk) :=
  if_neg (by simp [h])

theorem dispBlinkOp_busy {s : State} {f : List Nat} (h : (nth s.hutch.blinkWait (nth f 0 0 % 4) none).isSome = true) :
    dispBlinkOp s f = (s, stBusy) := if_pos h

/-- DISP_POWER 1 of a panel that is off begins the power-up. -/
theorem dispUpOp_starts {s : State} (hd : domOn s 10 = true) (h : s.hutch.st = 0 ∨ s.hutch.st = 5) :
    dispUpOp s = (hutchUp s, stOk) := by
  simp [dispUpOp, hd, h]

theorem dispUpOp_busy {s : State} (h : domOn s 10 = false ∨ (s.hutch.st ≠ 0 ∧ s.hutch.st ≠ 5 ∧ s.hutch.st ≠ 3)) :
    dispUpOp s = (s, stBusy) := by
  rcases h with h | ⟨h0, h5, h3⟩
  · simp [dispUpOp, h]
  · simp [dispUpOp, h0, h5, h3]

theorem dispUpOp_stands {s : State} (hd : domOn s 10 = true) (h : s.hutch.st = 3) : dispUpOp s = (s, stOk) := by
  simp [dispUpOp, hd, h]

/-- DISP_POWER 0 of a panel that is lit begins the power-down. -/
theorem dispDownOp_starts {s : State} (h : s.hutch.st = 2 ∨ s.hutch.st = 3) : dispDownOp s = (hutchDown s 0, stOk) := by
  have h0 : ¬(s.hutch.st = 0 ∨ s.hutch.st = 5) := by omega
  simp [dispDownOp, h, h0]

theorem dispDownOp_stands {s : State} (h : s.hutch.st = 0 ∨ s.hutch.st = 5) : dispDownOp s = (s, stOk) := if_pos h

theorem dispDownOp_busy {s : State} (h0 : s.hutch.st ≠ 0) (h5 : s.hutch.st ≠ 5) (h2 : s.hutch.st ≠ 2)
    (h3 : s.hutch.st ≠ 3) : dispDownOp s = (s, stBusy) := by
  simp [dispDownOp, h0, h5, h2, h3]

/-- Settles O10, opcode by opcode: what each operation does of a panel in the state named, and its reply. -/
theorem displayOpcodes : Obligations.DisplayOpcodes := by
  intro l x0 y0 w ht fs s h
  refine ⟨fun i hok h3 hd hi => ?_, fun hok hb => ?_, fun hok => ⟨fun hw => ?_, fun hw => ?_⟩, fun hd h0 => ?_,
    fun hb => ?_, fun hd h3 => ?_, fun h2 => ?_, fun h0 => ?_, fun ⟨h0, h5, h2, h3⟩ => ?_⟩
  · refine answers_hutch rfl h ?_ ?_
    · simp only [rectOpcode, hok, dispRectOp_takes h3 hd hi, Bool.not_true, Bool.false_eq_true, if_false]
      split <;> rfl
    · split
      · exact quiet_wait
      · exact quiet_ok
  · refine answers_only rfl h ?_ quiet_busy
    simp only [rectOpcode, hok, dispRectOp_busy hb, Bool.not_true, Bool.false_eq_true, if_false]
    rw [if_neg (by decide)]
  · obtain ⟨t, ht, hx, hans, hframe⟩ := answers_hutch (i := .dispBlink l fs) (f := blinkOpcode l fs) rfl h
      (by simp only [blinkOpcode, hok, Bool.not_true, Bool.false_eq_true, if_false, dispBlinkOp_waits hw]; rfl) quiet_ok
    exact ⟨t, ht, hans, hx, hframe⟩
  · exact answers_only rfl h
      (by simp only [blinkOpcode, hok, Bool.not_true, Bool.false_eq_true, if_false, dispBlinkOp_busy hw]) quiet_busy
  · exact next_opcodeRow 1 h (by simp only [powerOpcode, dispUpOp_starts hd h0, if_true])
  · exact answers_only rfl h (by simp only [powerOpcode, dispUpOp_busy hb, if_true]) quiet_busy
  · exact answers_only rfl h (by simp only [powerOpcode, dispUpOp_stands hd h3, if_true]) quiet_ok
  · exact next_opcodeRow 1 h (by simp only [powerOpcode, dispDownOp_starts h2, Bool.false_eq_true, if_false])
  · exact answers_only rfl h (by simp only [powerOpcode, dispDownOp_stands h0, Bool.false_eq_true, if_false]) quiet_ok
  · exact answers_only rfl h
      (by simp only [powerOpcode, dispDownOp_busy h0 h5 h2 h3, Bool.false_eq_true, if_false]) quiet_busy

end Sys2Proof.Machine

/-!
AUTH_CHAL and KEY_LOAD (04 R102, R104; 13 R303, R306; O11).
-/

namespace Sys2Proof.Machine

/-- A row whose operation writes its ports and answers: the reply, and what the answer leaves of the ports. -/
theorem opcodeRow_answers_keeps {s : State} {l : Land} (n : Nat) {f : State → Nat → State} {v : State} {c st : Nat}
    {fs : List Field} (h : takes s l.port = true) (hf : f (landState s l.port) (landCycle s) = answer v l c st fs)
    (hq : st ≠ stBadCrc ∧ st ≠ stBadOpc ∧ st ≠ stBadLen)
    (hr : (portOf v l.port).reply = (portOf (landState s l.port) l.port).reply)
    (hd : (portOf v l.port).due = (portOf (landState s l.port) l.port).due)
    (ht : v.seq.tick = (landState s l.port).seq.tick) :
    answered (landState s l.port) (opcodeRow s l n f) l st fs c 8 ∧
      AnswerKeeps v (opcodeRow s l n f) ∧
      ∃ q, opcodeRow s l n f = { v with ports := q, seq := { v.seq with cycle := s.seq.cycle + n } } := by
  rw [opcodeRow_takes s l n f h, hf]
  refine ⟨?_, (answerAt_keeps v l.port l.tag l.noreply st fs c 8).trans (afterLanding_keeps s l.port n _), ?_⟩
  · have hans := answered_afterLanding s v l n c st fs hq
    unfold answered at hans ⊢
    rwa [hr, stampAt_congr (landState s l.port) v _ _ ht] at hans
  · obtain ⟨q, hq'⟩ := answerAt_eq v l.port l.tag l.noreply st fs c 8 hq
      (by rw [hd]; exact landState_under_way s l.port)
    obtain ⟨r, hr'⟩ := afterLanding_eq s l.port n (answer v l c st fs)
    exact ⟨r, by rw [hr']; simp only [answer, hq']⟩

/-! ### AUTH_CHAL -/

/-- The state with a nonce drawn for a port. -/
def withNonce (s : State) (p : PortId) : State :=
  putPort (nextFree s) p { portOf (nextFree s) p with nonce := some { value := Config.nonce s.free, issued := s.aon.time } }

theorem withNonce_port (s : State) (p : PortId) : portOf (withNonce s p) p =
    { portOf s p with nonce := some { value := Config.nonce s.free, issued := s.aon.time } } := by
  rw [withNonce, portOf_putPort_self]
  cases p <;> rfl

theorem withNonce_eq (s : State) (p : PortId) : ∃ q, withNonce s p = { s with free := s.free + 1, ports := q } := by
  cases p <;> exact ⟨_, rfl⟩

/-! ### KEY_LOAD -/

/-- The event of a KEY_LOAD delivered and its entry queued. -/
def keyNoted (s : State) (slot : Bool) (p : Nat) : State :=
  let t := deliver s (bEvent 9 2 (b2n slot) p 0)
  queueEvidence t (evidEntry t 9 2 (b2n slot + 16 * p) false)

theorem keyNoted_frame (s : State) (slot : Bool) (p : Nat) :
    sameBut [.regs, .aon, .bureau, .evid] s (keyNoted s slot p) :=
  sameBut_trans (sameBut_mono (deliver_frame s _) (by decide)) (queueEvidence_frame _ _)

/-- The keys stand while the event is noted. -/
theorem keyNoted_keys (s : State) (slot : Bool) (p : Nat) :
    (keyNoted s slot p).aon.key0 = s.aon.key0 ∧ (keyNoted s slot p).aon.key1 = s.aon.key1 := by
  obtain ⟨r, n, q, ha⟩ := queueEvidence_aon (deliver s (bEvent 9 2 (b2n slot) p 0))
    (evidEntry (deliver s (bEvent 9 2 (b2n slot) p 0)) 9 2 (b2n slot + 16 * p) false)
  simp only [keyNoted, ha, deliver_aon, and_self]

/-- The key of a KEY_LOAD: unmasked where the slot holds one (04 R104). -/
def loadedKey (s : State) (slot : Bool) (b : BitVec 144) (nonce : BitVec 72) : BitVec 128 :=
  match keySlot s slot with
  | some old => (b >>> 16).setWidth 128 ^^^ keyMask old nonce
  | none => (b >>> 16).setWidth 128

/-- The state with a key due, its event and entry noted. -/
def keyDue (s : State) (slot : Bool) (key : BitVec 128) (p c : Nat) : State :=
  let u := keyNoted s slot p
  { u with ports := { u.ports with keysDue := u.ports.keysDue ++ [(c + 8, slot, key)] } }

/-- A key that is not zeros, its bytes ended in zeros, is due with the reply. -/
theorem keyLoadOp_due {slot : Bool} {b : BitVec 144} {nonce : BitVec 72} {s : State} (hb : keyBytesOk b = true)
    (hk : loadedKey s slot b nonce ≠ 0) (l : Land) (c : Nat) :
    keyLoadOp l slot b nonce s c =
      answer (keyDue s slot (loadedKey s slot b nonce) (portCode l.port) c) l c stOk [] := by
  have hb0 : b.setWidth 16 = (0 : BitVec 16) := by simpa [keyBytesOk] using hb
  exact if_neg fun hn => hn.elim (fun hn => hn hb0) hk

/-- Other bytes install nothing. -/
theorem keyLoadOp_refused {slot : Bool} {b : BitVec 144} {nonce : BitVec 72} {s : State}
    (h : keyBytesOk b = false ∨ loadedKey s slot b nonce = 0) (l : Land) (c : Nat) :
    keyLoadOp l slot b nonce s c = answer s l c stBadLen [] :=
  if_pos (h.imp (fun hb => by simpa [keyBytesOk] using hb) id)

/-- What is due joins the port's keys, and the ports are else as they were. -/
theorem keyDue_ports (s : State) (slot : Bool) (key : BitVec 128) (p c : Nat) :
    (keyDue s slot key p c).ports = { s.ports with keysDue := s.ports.keysDue ++ [(c + 8, slot, key)] } := by
  have hports : (keyNoted s slot p).ports = s.ports := keyNoted_frame s slot p .ports (by decide)
  simp only [keyDue, hports]

theorem keyDue_frame (s : State) (slot : Bool) (key : BitVec 128) (p c : Nat) :
    sameBut [.regs, .aon, .bureau, .evid, .ports] s (keyDue s slot key p c) := by
  refine sameBut_trans (sameBut_mono (keyNoted_frame s slot p) (by decide)) ?_
  intro r hr
  cases r <;> simp_all [Part.same, keyDue]

/-- A KEY_LOAD that is taken: its reply, and the key that is due with it. -/
theorem keyLoad_row {l : Land} {slot : Bool} {b : BitVec 144} {nonce : BitVec 72} {s : State}
    (h : takes s l.port = true) (hb : keyBytesOk b = true) (hk : loadedKey (landState s l.port) slot b nonce ≠ 0) :
    let u := landState s l.port
    let t := opcodeRow s l 1 (keyLoadOp l slot b nonce)
    answered u t l stOk [] (landCycle s) 8 ∧
      t.ports.keysDue = u.ports.keysDue ++ [(landCycle s + 8, slot, loadedKey u slot b nonce)] ∧
      t.aon.key0 = u.aon.key0 ∧ t.aon.key1 = u.aon.key1 ∧
      sameBut [.seq, .regs, .aon, .bureau, .evid, .ports] u t := by
  intro u t
  obtain ⟨hkey0, hkey1⟩ := keyNoted_keys u slot (portCode l.port)
  have hports := keyDue_ports u slot (loadedKey u slot b nonce) (portCode l.port) (landCycle s)
  have hframe := keyDue_frame u slot (loadedKey u slot b nonce) (portCode l.port) (landCycle s)
  have hport : ∀ p, portOf (keyDue u slot (loadedKey u slot b nonce) (portCode l.port) (landCycle s)) p = portOf u p :=
    fun p => by cases p <;> simp only [portOf, hports]
  obtain ⟨hans, hkeeps, q, hr⟩ := opcodeRow_answers_keeps 1 h (keyLoadOp_due hb hk l (landCycle s)) quiet_ok
    (by rw [hport]) (by rw [hport]) (by rw [hframe .seq (by decide)])
  refine ⟨hans, by rw [hkeeps.keysDue, hports], ?_, ?_, ?_⟩
  · exact (congrArg (fun x : State => x.aon.key0) hr).trans hkey0
  · exact (congrArg (fun x : State => x.aon.key1) hr).trans hkey1
  · refine sameBut_trans (sameBut_mono hframe (by decide)) ?_
    have hrow : t = { keyDue u slot (loadedKey u slot b nonce) (portCode l.port) (landCycle s) with
      ports := q, seq := { (keyDue u slot (loadedKey u slot b nonce) (portCode l.port) (landCycle s)).seq with
        cycle := s.seq.cycle + 1 } } := hr
    rw [hrow]
    intro p hp
    cases p <;> simp_all [Part.same]

/-- A key taken stands in its slot; the other slot is as it was. -/
theorem keyTakes_slots (s : State) (slot : Bool) (k : BitVec 128) :
    (if slot then (keyTakes s (slot, k)).aon.key1 else (keyTakes s (slot, k)).aon.key0) = some k ∧
      (if slot then (keyTakes s (slot, k)).aon.key0 = s.aon.key0 else (keyTakes s (slot, k)).aon.key1 = s.aon.key1) ∧
      (keyTakes s (slot, k)).ports = s.ports := by
  have haon : (keyTakes s (slot, k)).aon = { (installKey s slot k).aon with
      regs := (raise (installKey s slot k) srcKeyLoaded).aon.regs } := by
    unfold keyTakes
    dsimp only
    split <;> exact raise_aon _ _
  have hports : (keyTakes s (slot, k)).ports = s.ports := by
    unfold keyTakes
    dsimp only
    split <;> exact raise_ports _ _
  refine ⟨?_, ?_, hports⟩ <;> rw [haon] <;> cases slot <;> rfl

/-- Settles O11: the nonce, the key due with its reply, and the key taken when its cycle has passed. -/
theorem noncesAndKeys : Obligations.NoncesAndKeys := by
  intro l slot b nonce s h
  refine ⟨?_, fun hb hk => ?_, fun v d hv hd => ?_, fun hbad => ?_⟩
  · obtain ⟨hans, hkeeps, q, hr⟩ := opcodeRow_answers_keeps (f := authChalOp l) (v := withNonce (landState s l.port) l.port)
      1 h rfl quiet_ok (by rw [withNonce_port]) (by rw [withNonce_port])
      (by obtain ⟨q, hq⟩ := withNonce_eq (landState s l.port) l.port; rw [hq])
    obtain ⟨q', hq'⟩ := withNonce_eq (landState s l.port) l.port
    refine ⟨_, rfl, hans, ?_, by rw [hr, hq'], ?_⟩
    · rw [(hkeeps.port l.port).nonce, withNonce_port]
    · rw [hr, hq']
      intro p hp
      cases p <;> simp_all [Part.same]
  · exact ⟨_, rfl, keyLoad_row h hb hk⟩
  · have hdue : decide (landCycle s + 8 < d) = true := by simpa using hd
    have hleft : decide (d ≤ landCycle s + 8) = false := by simpa using hd
    have hz : keysBy v d = keyTakes { v with ports := { v.ports with keysDue := [] } }
        (slot, loadedKey (landState s l.port) slot b nonce) := by
      simp only [keysBy, hv, List.filter, hdue, hleft, List.map, List.foldl]
      rfl
    obtain ⟨htaken, hother, hports⟩ := keyTakes_slots { v with ports := { v.ports with keysDue := [] } } slot
      (loadedKey (landState s l.port) slot b nonce)
    rw [← hz] at htaken hother hports
    exact ⟨by rw [hports], htaken, hother⟩
  · exact next_opcodeRow 1 h (keyLoadOp_refused hbad l _)

end Sys2Proof.Machine

/-!
CFG_SAVE, CAL_SEAL, ENERGY_PRESET and RESET_SOFT (03 R58; 08 R185; 13 R305, R306; O12).
-/

namespace Sys2Proof.Machine

/-! ### Three registers that hold one count -/

/-- A count below 2^60 put into its three registers reads back. -/
theorem getWide_putWide {s : State} (n : Nat) {v : Nat} (hv : v < 2 ^ 60) (h : Registers.wf s = true) :
    getWide (putWide s n v) n = v := by
  have h0 : Registers.wf (setReg s n (wd v)) = true := setReg_rwf _ _ h
  have h1 : Registers.wf (setReg (setReg s n (wd v)) (n + 1) (wd (v / 2 ^ 20))) = true := setReg_rwf _ _ h0
  have hlow : getReg (putWide s n v) n = wd v := by
    rw [putWide, getReg_setReg_other _ _ _ _ (by omega), getReg_setReg_other _ _ _ _ (by omega), getReg_setReg n _ h]
  have hmid : getReg (putWide s n v) (n + 1) = wd (v / 2 ^ 20) := by
    rw [putWide, getReg_setReg_other _ _ _ _ (by omega), getReg_setReg (n + 1) _ h0]
  have htop : getReg (putWide s n v) (n + 2) = wd (v / 2 ^ 40) := by
    rw [putWide, getReg_setReg (n + 2) _ h1]
  simp only [getWide, regN, hlow, hmid, htop, wd, BitVec.toNat_ofNat]
  omega

theorem putWide_rwf {s : State} (n v : Nat) (h : Registers.wf s = true) : Registers.wf (putWide s n v) = true :=
  setReg_rwf _ _ (setReg_rwf _ _ (setReg_rwf _ _ h))

/-- A count is the same where its registers are. -/
theorem getWide_congr {s t : State} {n : Nat} (h : ∀ i < 3, getReg t (n + i) = getReg s (n + i)) :
    getWide t n = getWide s n := by
  simp only [getWide, regN, h 1 (by omega), h 2 (by omega), show getReg t n = getReg s n from h 0 (by omega)]

/-- A bit just cleared reads 0. -/
theorem bitAt_clearReg {s : State} (n q : Nat) (h : Registers.wf s = true) :
    bitAt (getReg (clearReg s n (2 ^ q)) n) q = false := by
  rw [clearReg, getReg_setReg n _ h]
  by_cases hq : q < 20
  · have hset : (wd (2 ^ q)).getLsbD q = true := by
      simp only [wd, BitVec.getLsbD_ofNat, hq, decide_true, Nat.testBit_two_pow_self, Bool.and_self]
    rw [bitAt, BitVec.getLsbD_and, BitVec.getLsbD_not, hset]
    simp
  · exact BitVec.getLsbD_of_ge _ q (by omega)

/-- An entry queued or lost changes the count of lost entries and the evidence bit alone. -/
theorem getReg_queueEvidence (s : State) (e : List Byte) {m : Nat} (h1 : m ≠ 0x7A3) (h2 : m ≠ srcEvidence / 20) :
    getReg (queueEvidence s e) m = getReg s m := by
  cases h : evidTakes s with
  | true => rw [queueEvidence_of_takes e h]; rfl
  | false =>
    rw [queueEvidence_of_not_takes e h]
    unfold loseEvidence
    dsimp only
    split
    · exact getReg_setReg_other s _ _ _ h1
    · rw [getReg_raise_other _ _ _ h2]
      exact getReg_setReg_other s _ _ _ h1

/-! ### CFG_SAVE and CAL_SEAL -/

/-- While the NVM is busy or an orderly stop has begun both are answered BUSY. -/
theorem saves_busy {s : State} (l : Land) (h : nvmBusy s = true ∨ s.seq.stopping = true) (c : Nat) :
    cfgSaveOp s l c = answer s l c stBusy [] ∧ calSealOp s l c = answer s l c stBusy [] := by
  have hb : (nvmBusy s || s.seq.stopping) = true := by simpa using h
  exact ⟨if_pos hb, if_pos hb⟩

/-- A row whose operation makes its port busy and waits for the NVM. -/
theorem waits_nvm {l : Land} {i : Instr} {s : State} {f : State → Nat → State} {w : Waiting} {op : NvmOp}
    (hi : exec i s = .next (opcodeRow s l 1 f)) (h : takes s l.port = true) (hw : w.land = l)
    (hf : f (landState s l.port) (landCycle s) = nvmWait (setBusy (landState s l.port) w) op) :
    ∃ t, exec i s = .next t ∧ (portOf t l.port).busy = (portOf (landState s l.port) l.port).busy ++ [w] ∧
      t.nvm = { (landState s l.port).nvm with waiting := (landState s l.port).nvm.waiting ++ [op] } ∧
      sameBut [.seq, .ports, .nvm] (landState s l.port) t := by
  refine ⟨_, hi.trans (next_opcodeRow 1 h hf), ?_⟩
  subst hw
  have hkeeps := afterLanding_keeps s w.land.port 1 (nvmWait (setBusy (landState s w.land.port) w) op)
  obtain ⟨q, hr⟩ := afterLanding_eq s w.land.port 1 (nvmWait (setBusy (landState s w.land.port) w) op)
  refine ⟨?_, by rw [hr]; simp [nvmWait, setBusy], ?_⟩
  · rw [(hkeeps.port w.land.port).busy]
    exact congrArg Port.busy (portOf_putPort_self (landState s w.land.port) w.land.port _)
  · rw [hr]
    intro p hp
    cases p <;> simp_all [Part.same, nvmWait, setBusy]

/-- The slot that a CAL_SEAL takes: the first erased one of a region that is defined. -/
def sealSlot (s : State) : Option Nat :=
  if regionUndef s 0xE400 1024 then none else (upto 64).find? (fun i => nvmBlank s (sealAt i) 16)

theorem sealSlot_blank {s : State} {i : Nat} (h : sealSlot s = some i) : i < 64 ∧ nvmBlank s (sealAt i) 16 = true := by
  unfold sealSlot at h
  split at h
  · simp at h
  · exact ⟨by simpa [upto] using List.mem_of_find?_eq_some h, List.find?_some (p := fun i => nvmBlank s (sealAt i) 16) h⟩

/-! ### ENERGY_PRESET and RESET_SOFT -/

/-- The wrap register of a preset's direction. -/
def wrapReg (ex : Bool) : Nat := if ex then 0x411 else 0x410

/-- The energy component after a preset that comes before the publication (08 R185). -/
def presetEnergy (s : State) (q v : Nat) : Energy :=
  let ex := bitAt (getReg s 0x40C) 1
  let mark (m : Nat) : Nat := (if bitsOf m q 1 = 1 then m - 2 ^ q else m) + 0
  { s.energy with
    imp := if ex then s.energy.imp else setNth s.energy.imp q v
    exp := if ex then setNth s.energy.exp q v else s.energy.exp
    wrapImp := if ex then s.energy.wrapImp else mark s.energy.wrapImp
    wrapExp := if ex then mark s.energy.wrapExp else s.energy.wrapExp
    restored := true }

/-- Before the publication of the tick's energy a preset puts its value as it is. -/
theorem energyPreset_early {s : State} {q v : Nat} (hi : s.seq.item ≤ 9) (hv : v < 2 ^ 60) :
    energyPreset s q v =
      let ex := bitAt (getReg s 0x40C) 1
      { clearReg (putWide s (energyReg q ex) v) (wrapReg ex) (2 ^ q) with energy := presetEnergy s q v } := by
  have hran : (running s && decide (s.seq.item > 9)) = false := by
    rw [decide_eq_false (by omega), Bool.and_false]
  have hwrap : decide (v ≥ 2 ^ 60) = false := decide_eq_false (by omega)
  have hv' : wrap60 v = v := Nat.mod_eq_of_lt hv
  simp only [energyPreset, hran, Bool.false_eq_true, if_false, Nat.add_zero, hwrap, Bool.false_and, hv', wrapReg,
    presetEnergy, clearReg_energy, putWide, setReg_energy]

theorem putWide_frame (s : State) (n v : Nat) : sameBut [.regs, .aon] s (putWide s n v) :=
  sameBut_trans (sameBut_trans (setReg_frame _ _ _) (setReg_frame _ _ _)) (setReg_frame _ _ _)

/-- What a preset leaves alone. -/
theorem energyPreset_early_frame {s : State} {q v : Nat} (hi : s.seq.item ≤ 9) (hv : v < 2 ^ 60) :
    sameBut [.energy, .regs, .aon] s (energyPreset s q v) := by
  rw [energyPreset_early hi hv]
  generalize bitAt (getReg s 0x40C) 1 = ex
  have hregs : sameBut [.energy, .regs, .aon] s (clearReg (putWide s (energyReg q ex) v) (wrapReg ex) (2 ^ q)) :=
    sameBut_mono (sameBut_trans (putWide_frame s _ v) (setReg_frame _ _ _)) (by decide)
  refine sameBut_trans hregs ?_
  intro p hp
  cases p <;> simp_all [Part.same]

/-- PD0 but for its registers stands while a count is put into its registers. -/
theorem putWide_aonRegs (s : State) (n v : Nat) : ∃ r, (putWide s n v).aon = { s.aon with regs := r } := by
  obtain ⟨r0, h0⟩ := setReg_aonRegs s n (wd v)
  obtain ⟨r1, h1⟩ := setReg_aonRegs (setReg s n (wd v)) (n + 1) (wd (v / 2 ^ 20))
  obtain ⟨r2, h2⟩ := setReg_aonRegs (setReg (setReg s n (wd v)) (n + 1) (wd (v / 2 ^ 20))) (n + 2) (wd (v / 2 ^ 40))
  exact ⟨r2, by rw [putWide, h2, h1, h0]⟩

/-- PD0 but for its registers stands while a preset is made. -/
theorem energyPreset_early_aon {s : State} {q v : Nat} (hi : s.seq.item ≤ 9) (hv : v < 2 ^ 60) :
    ∃ r, (energyPreset s q v).aon = { s.aon with regs := r } := by
  rw [energyPreset_early hi hv]
  generalize bitAt (getReg s 0x40C) 1 = ex
  obtain ⟨r, hr⟩ := putWide_aonRegs s (energyReg q ex) v
  obtain ⟨r', hr'⟩ := setReg_aonRegs (putWide s (energyReg q ex) v) (wrapReg ex)
    (getReg (putWide s (energyReg q ex) v) (wrapReg ex) &&& ~~~(wd (2 ^ q)))
  exact ⟨r', hr'.trans (by rw [hr])⟩

/-- The register that PRESET_DIR selects reads the value, and its wrap bit 0. -/
theorem energyPreset_early_reads {s : State} {q v : Nat} (hq : q ≤ 11) (hi : s.seq.item ≤ 9) (hv : v < 2 ^ 60)
    (h : Registers.wf s = true) :
    let ex := bitAt (getReg s 0x40C) 1
    getWide (energyPreset s q v) (energyReg q ex) = v ∧
      bitAt (getReg (energyPreset s q v) (wrapReg ex)) q = false := by
  intro ex
  rw [energyPreset_early hi hv]
  refine ⟨?_, bitAt_clearReg _ q (putWide_rwf _ v h)⟩
  calc getWide (clearReg (putWide s (energyReg q ex) v) (wrapReg ex) (2 ^ q)) (energyReg q ex)
      = getWide (putWide s (energyReg q ex) v) (energyReg q ex) :=
        getWide_congr fun i _ => getReg_setReg_other _ _ _ _ (by unfold energyReg wrapReg; split <;> omega)
    _ = v := getWide_putWide _ hv h

/-- The state an ENERGY_PRESET leaves before its answer: the preset, its event and its entry. -/
def presetNoted (s : State) (q v p0 p1 p2 : Nat) : State :=
  let u := deliver (energyPreset s q v) (bEvent 6 2 p0 p1 p2)
  queueEvidence u (evidEntry u 6 2 p0 false)

theorem presetNoted_frame {s : State} {q v : Nat} (hi : s.seq.item ≤ 9) (hv : v < 2 ^ 60) (p0 p1 p2 : Nat) :
    sameBut [.energy, .regs, .aon, .bureau, .evid] s (presetNoted s q v p0 p1 p2) :=
  sameBut_trans (sameBut_mono (energyPreset_early_frame hi hv) (by decide))
    (sameBut_trans (sameBut_mono (deliver_frame _ _) (by decide)) (sameBut_mono (queueEvidence_frame _ _) (by decide)))

/-- The accumulators after a preset: the one selected takes the value, residues and increments stay. -/
theorem presetNoted_energy {s : State} {q v : Nat} (hi : s.seq.item ≤ 9) (hv : v < 2 ^ 60) (p0 p1 p2 : Nat) :
    (presetNoted s q v p0 p1 p2).energy = presetEnergy s q v := by
  have he : (energyPreset s q v).energy = presetEnergy s q v := by rw [energyPreset_early hi hv]
  exact (queueEvidence_frame _ _ .energy (by decide)).trans ((deliver_energy _ _).trans he)

/-- The registers of the accumulator stand while the entry is noted. -/
theorem presetNoted_reads {s : State} {q v : Nat} (hq : q ≤ 11) (hi : s.seq.item ≤ 9) (hv : v < 2 ^ 60)
    (h : Registers.wf s = true) (p0 p1 p2 : Nat) :
    let ex := bitAt (getReg s 0x40C) 1
    getWide (presetNoted s q v p0 p1 p2) (energyReg q ex) = v ∧
      bitAt (getReg (presetNoted s q v p0 p1 p2) (wrapReg ex)) q = false := by
  intro ex
  have hsame : ∀ m, 0x400 ≤ m → m < 0x500 → getReg (presetNoted s q v p0 p1 p2) m = getReg (energyPreset s q v) m :=
    fun m h1 h2 => (getReg_queueEvidence _ _ (by omega) (by unfold srcEvidence; omega)).trans (getReg_deliver _ _ m)
  obtain ⟨hwide, hbit⟩ := energyPreset_early_reads hq hi hv h
  constructor
  · refine (getWide_congr fun i hi => hsame _ ?_ ?_).trans hwide <;> unfold energyReg <;> split <;> omega
  · rw [hsame _ (by unfold wrapReg; split <;> omega) (by unfold wrapReg; split <;> omega)]
    exact hbit

/-- The event is delivered and the entry queued while the log takes one. -/
theorem presetNoted_log {s : State} {q v : Nat} (hi : s.seq.item ≤ 9) (hv : v < 2 ^ 60) (p0 p1 p2 : Nat)
    (hf : s.evid.full = false) (hc : s.aon.logClosed = false) (hl : s.aon.evQueue.length < 8) :
    let e := bEvent 6 2 p0 p1 p2
    (presetNoted s q v p0 p1 p2).bureau = (deliver s e).bureau ∧
      (presetNoted s q v p0 p1 p2).aon.evQueue = s.aon.evQueue ++ [evidEntry (deliver s e) 6 2 p0 false] := by
  intro e
  have hframe := energyPreset_early_frame (q := q) hi hv
  obtain ⟨r, haon⟩ := energyPreset_early_aon (q := q) hi hv
  have hseq : (energyPreset s q v).seq = s.seq := hframe .seq (by decide)
  have hbur : (energyPreset s q v).bureau = s.bureau := hframe .bureau (by decide)
  have hevid : (energyPreset s q v).evid = s.evid := hframe .evid (by decide)
  have htakes : evidTakes (deliver (energyPreset s q v) e) = true := by
    simp [evidTakes, hevid, hf, hc, haon, hl]
  have hdel : (deliver (energyPreset s q v) e).bureau = (deliver s e).bureau := by
    unfold deliver
    rw [hseq]
    split
    · exact hbur
    · simp only [hbur]
  have hentry : evidEntry (deliver (energyPreset s q v) e) 6 2 p0 false = evidEntry (deliver s e) 6 2 p0 false := by
    simp only [evidEntry, dark, deliver_seq, hseq, hdel, deliver_aon, haon]
  constructor
  · exact (congrArg State.bureau (queueEvidence_of_takes _ htakes)).trans hdel
  · refine (congrArg (fun x : State => x.aon.evQueue) (queueEvidence_of_takes _ htakes)).trans ?_
    rw [← hentry]
    simp only [deliver_aon, haon]
    rfl

/-- An ENERGY_PRESET before the publication of the tick's energy, and its answer. -/
theorem energyPreset_row {l : Land} {q : BitVec 4} {s : State} (v : BitVec 60) (h : takes s l.port = true)
    (hq : q.toNat ≤ 11) (hi : (landState s l.port).seq.item ≤ 9) :
    let u := landState s l.port
    let p0 := q.toNat + 16 * b2n (bitAt (getReg u 0x40C) 1) + 256 * portCode l.port
    let w := presetNoted u q.toNat v.toNat p0 (v.extractLsb' 20 20).toNat (v.extractLsb' 40 20).toNat
    answered u (opcodeRow s l 1 (presetOp l q v)) l stOk [] (landCycle s) 8 ∧
      ∃ r, opcodeRow s l 1 (presetOp l q v) = { w with ports := r, seq := { w.seq with cycle := s.seq.cycle + 1 } } := by
  intro u p0 w
  have hframe := presetNoted_frame (q := q.toNat) hi v.isLt p0 (v.extractLsb' 20 20).toNat (v.extractLsb' 40 20).toNat
  exact opcodeRow_answers 1 h (if_neg (by omega)) quiet_ok (hframe .ports (by decide))
    (congrArg Seq.tick (hframe .seq (by decide)))

/-- Settles O12: both saves by whether the NVM takes them, the preset by its parts, RESET_SOFT by its key. -/
theorem savesPresetsAndReset : Obligations.SavesPresetsAndReset := by
  refine ⟨fun l s h => ⟨fun hb => ?_, fun hn hs => ?_⟩, fun l q v key s h => ⟨fun hq hi => ?_, fun hk => ?_, fun hk => ?_⟩⟩
  · obtain ⟨hcfg, hcal⟩ := saves_busy l hb (landCycle s)
    exact ⟨answers_only rfl h hcfg quiet_busy, answers_only rfl h hcal quiet_busy⟩
  · have hfree : (nvmBusy (landState s l.port) || (landState s l.port).seq.stopping) = false := by simp [hn, hs]
    obtain ⟨t, ht, hbusy, hnvm, hframe⟩ := waits_nvm (i := .calSeal l) (w := waitOf (landState s l.port) l 0x2B) rfl h rfl
      (if_neg (by simp [hfree]))
    exact ⟨waits_nvm rfl h rfl (if_neg (by simp [hfree])),
      t, sealSlot (landState s l.port), ht, hbusy, hnvm, fun i hi => sealSlot_blank hi, hframe⟩
  · obtain ⟨hans, r, hr⟩ := energyPreset_row v h hq hi
    refine ⟨_, rfl, hans, ?_⟩
    generalize hu : landState s l.port = u at *
    have hframe := sameBut_answered _ _ _ _ r _ hr (presetNoted_frame hi v.isLt _ _ _)
    rw [hr]
    refine ⟨fun hw => presetNoted_reads hq hi v.isLt hw _ _ _, fun hf hc hl => presetNoted_log hi v.isLt _ _ _ hf hc hl, ?_⟩
    have henergy := presetNoted_energy (q := q.toNat) hi v.isLt
      (q.toNat + 16 * b2n (bitAt (getReg u 0x40C) 1) + 256 * portCode l.port) (v.extractLsb' 20 20).toNat
      (v.extractLsb' 40 20).toNat
    refine ⟨by rw [henergy]; rfl, by rw [henergy]; rfl, by rw [henergy]; rfl, by rw [henergy]; rfl, by rw [henergy]; rfl, ?_⟩
    rw [hr] at hframe
    exact sameBut_mono hframe (by decide)
  · obtain ⟨hans, r, hr⟩ := opcodeRow_answers (f := resetSoftOp l key) 1 h (if_neg (by simp [hk])) quiet_ok
      (deliver_ports _ _) (by simp)
    refine ⟨_, rfl, hans, by rw [hr], by rw [hr]; simp, ?_⟩
    rw [hr]
    intro p hp
    cases p <;> simp_all [Part.same]
  · exact next_opcodeRow 1 h (if_pos hk)

end Sys2Proof.Machine

/-!
The end of an operation that took more than its landing (04 R81), and CHAIN_ENUM (11 R257; O13).
-/

namespace Sys2Proof.Machine

/-! ### The end of an operation -/

/-- The port of an operation that ends: no longer busy with it, its packet under way to its reply. -/
def endingPort (s : State) (w : Waiting) : Port :=
  { portOf s w.land.port with busy := (portOf s w.land.port).busy.erase w, due := some executing }

/-- The state in which an operation that ends is answered: its port ending, the way back of its packet in place. -/
def ending (s : State) (w : Waiting) : State :=
  let t := putPort s w.land.port (endingPort s w)
  if w.land.port = .chain then { t with ports := { t.ports with chainFrom := w.way } } else t

theorem finishAt_eq (s : State) (w : Waiting) (c st : Nat) (fs : List Field) :
    finishAt s w c st fs =
      let v := answer (ending s w) w.land c st fs
      if w.land.port = .chain ∧ w.way ≠ s.ports.chainFrom then
        { v with ports := { v.ports with chainFrom := s.ports.chainFrom } } else v := rfl

theorem ending_port (s : State) (w : Waiting) : portOf (ending s w) w.land.port = endingPort s w := by
  unfold ending
  dsimp only
  split
  next h => rw [h]; rfl
  · exact portOf_putPort_self _ _ _

theorem ending_eq (s : State) (w : Waiting) : ∃ q, ending s w = { s with ports := q } := by
  unfold ending
  cases hp : w.land.port <;> exact ⟨_, rfl⟩

/-- The end of an operation writes the ports alone. -/
theorem finishAt_ports (s : State) (w : Waiting) (c : Nat) {st : Nat} (fs : List Field)
    (hq : st ≠ stBadCrc ∧ st ≠ stBadOpc ∧ st ≠ stBadLen) : ∃ q, finishAt s w c st fs = { s with ports := q } := by
  obtain ⟨q, hq'⟩ := ending_eq s w
  obtain ⟨r, hr⟩ := answerAt_eq (ending s w) w.land.port w.land.tag w.land.noreply st fs c 8 hq
    (by rw [ending_port]; rfl)
  rw [finishAt_eq, answer, hr]
  dsimp only
  split
  · exact ⟨_, by rw [hq']⟩
  · exact ⟨_, by rw [hq']⟩

theorem finishAt_frame (s : State) (w : Waiting) (c : Nat) {st : Nat} (fs : List Field)
    (hq : st ≠ stBadCrc ∧ st ≠ stBadOpc ∧ st ≠ stBadLen) : sameBut [.ports] s (finishAt s w c st fs) := by
  obtain ⟨q, h⟩ := finishAt_ports s w c fs hq
  rw [h]
  exact sameBut_ports s q

/-- The way back of another packet stands; the ports are else as the answer leaves them. -/
theorem portOf_finishAt (s : State) (w : Waiting) (c st : Nat) (fs : List Field) (p : PortId) :
    portOf (finishAt s w c st fs) p = portOf (answer (ending s w) w.land c st fs) p := by
  rw [finishAt_eq]
  dsimp only
  split
  · cases p <;> rfl
  · rfl

/-- The reply of an operation that ends. -/
theorem finishAt_reply (s : State) (w : Waiting) (c : Nat) {st : Nat} (fs : List Field)
    (hq : st ≠ stBadCrc ∧ st ≠ stBadOpc ∧ st ≠ stBadLen) :
    (portOf (finishAt s w c st fs) w.land.port).reply =
      if w.land.noreply = true ∧ st = stOk then (portOf s w.land.port).reply
      else some { tag := w.land.tag, status := st, fields := fs, tick := (stampAt s c 8).1, cyc := (stampAt s c 8).2 } := by
  obtain ⟨q, hs⟩ := ending_eq s w
  rw [portOf_finishAt, answer, answerAt_reply _ _ _ _ _ _ _ _ hq, ending_port,
    stampAt_congr s (ending s w) c 8 (by rw [hs])]
  rfl

/-- Its port is no longer busy with it. -/
theorem finishAt_busy (s : State) (w : Waiting) (c st : Nat) (fs : List Field) :
    (portOf (finishAt s w c st fs) w.land.port).busy = (portOf s w.land.port).busy.erase w := by
  rw [portOf_finishAt, answer, ((answerAt_keeps _ _ _ _ _ _ _ _).port w.land.port).busy, ending_port]
  rfl

/-! ### CHAIN_ENUM -/

/-- The ENUM to the neighbour of one side, where the link is up. -/
def askSide (t : State) (d : Side) : State :=
  if linkReady t d then
    sendFrame (takeLtag t).1 { side := d, type := 5, dest := neighbour t d, src := ownPos t, ltag := (takeLtag t).2
                               payload := [] }
  else t

/-- The state with the frames of an enumeration sent and its port busy. -/
def enumSent (s : State) (w : Waiting) : State := askSide (askSide (setBusy s w) .up) .dn

theorem enumStart_busy {s : State} (l : Land) (h : s.chain.enum.isSome = true) :
    enumStart s l = answer s l (min s.seq.cycle 6143) stBusy [] := if_pos h

theorem enumStart_down {s : State} (l : Land) (h : s.chain.enum = none)
    (hd : ((decide (ownPos s ≠ 0) && !decide (s.chain.up.st = 2)) ||
      (!s.chain.posValid && (decide (s.chain.up.st = 2) || decide (s.chain.dn.st = 2)))) = true) :
    enumStart s l = answer s l (min s.seq.cycle 6143) stChainDown [] := by
  have hn : ¬(s.chain.enum.isSome = true) := by simp [h]
  exact (if_neg hn).trans (if_pos hd)

/-- A side whose link is down is not asked. -/
theorem askSide_down {t : State} {d : Side} (h : (linkOf t d).st ≠ 2) : askSide t d = t :=
  if_neg (by simp [linkReady, h])

/-- A side whose link is up is sent an ENUM with the next LTAG. -/
theorem askSide_up {t : State} {d : Side} (hv : t.chain.posValid = true) (h : (linkOf t d).st = 2) :
    askSide t d = { t with chain := { t.chain with ltag := t.chain.ltag + 1, sent := t.chain.sent ++ [enumAsk t d] } } := by
  have hlink : linkOf (takeLtag t).1 d = linkOf t d := by cases d <;> rfl
  rw [askSide, if_pos (by simp [linkReady, hv, h]), sendFrame, if_pos (by simp [hlink, h])]
  rfl

/-- The frames sent, side by side: the LTAGs follow one another. -/
theorem enumSent_eq {s : State} {w : Waiting}
    (hv : (!s.chain.posValid && (decide (s.chain.up.st = 2) || decide (s.chain.dn.st = 2))) = false) :
    ∃ g, enumSent s w = { setBusy s w with chain := { s.chain with
      ltag := g
      sent := s.chain.sent ++ (if s.chain.up.st = 2 then [enumAsk s .up] else []) ++
        (if s.chain.dn.st = 2 then [{ enumAsk s .dn with ltag := s.chain.ltag + (if s.chain.up.st = 2 then 1 else 0) }]
         else []) } } := by
  have hchain : (setBusy s w).chain = s.chain := by simp [setBusy]
  have hlink : ∀ d, linkOf (setBusy s w) d = linkOf s d := fun d => linkOf_congr d hchain
  have hask : ∀ d, enumAsk (setBusy s w) d = enumAsk s d := fun d => by
    cases d <;> simp only [enumAsk, neighbour, ownPos, hchain]
  by_cases hu : s.chain.up.st = 2
  · have hpos : s.chain.posValid = true := by simpa [hu] using hv
    have hfirst := askSide_up (t := setBusy s w) (d := .up) (by rw [hchain]; exact hpos) (by rw [hlink]; exact hu)
    rw [enumSent, hfirst, hask, hchain]
    by_cases hd : s.chain.dn.st = 2
    · rw [askSide_up (by exact hpos) (by exact hd)]
      exact ⟨s.chain.ltag + 1 + 1, by simp only [hu, hd, if_true, enumAsk, neighbour, ownPos, hpos]⟩
    · rw [askSide_down (by exact hd)]
      exact ⟨s.chain.ltag + 1, by simp only [hu, hd, if_true, if_false, List.append_nil]⟩
  · have hup : askSide (setBusy s w) .up = setBusy s w := askSide_down (by rw [hlink]; exact hu)
    rw [enumSent, hup]
    by_cases hd : s.chain.dn.st = 2
    · have hpos : s.chain.posValid = true := by simpa [hu, hd] using hv
      rw [askSide_up (by rw [hchain]; exact hpos) (by rw [hlink]; exact hd), hask, hchain]
      exact ⟨s.chain.ltag + 1, by simp [hu, hd, enumAsk]⟩
    · rw [askSide_down (by rw [hlink]; exact hd)]
      refine ⟨s.chain.ltag, ?_⟩
      simp only [hu, hd, if_false, List.append_nil]
      rw [← hchain]

/-- An enumeration just begun, that waits for the links that are up. -/
def enumBegun (s : State) (w : Waiting) : EnumRun :=
  { wait := w, waitUp := decide (s.chain.up.st = 2), waitDn := decide (s.chain.dn.st = 2), heard := [], ticks := pktTicks s }

/-- The state with its enumeration under way. -/
def enumUnderWay (s : State) (w : Waiting) : State :=
  { enumSent s w with chain := { (enumSent s w).chain with enum := some (enumBegun s w) } }

theorem enumStart_runs {s : State} (l : Land) (h : s.chain.enum = none)
    (hd : ((decide (ownPos s ≠ 0) && !decide (s.chain.up.st = 2)) ||
      (!s.chain.posValid && (decide (s.chain.up.st = 2) || decide (s.chain.dn.st = 2)))) = false) :
    enumStart s l = enumCheck (enumUnderWay s (waitOf s l 0x30)) := by
  have hn : ¬(s.chain.enum.isSome = true) := by simp [h]
  exact (if_neg hn).trans (if_neg (by rw [hd]; decide))

/-- An enumeration that waits for a link goes on. -/
theorem enumCheck_waits {s : State} {w : Waiting} (h : s.chain.up.st = 2 ∨ s.chain.dn.st = 2) :
    enumCheck (enumUnderWay s w) = enumUnderWay s w := by
  refine if_neg ?_
  rcases h with h | h <;> simp [enumComplete, enumBegun, h]

/-- With no link up the chip at position 0 is the whole chain. -/
theorem enumCheck_alone {s : State} {w : Waiting} (h : s.chain.enum = none) (hp : ownPos s = 0)
    (hu : s.chain.up.st ≠ 2) (hn : s.chain.dn.st ≠ 2) :
    enumCheck (enumUnderWay s w) = finish (setBusy s w) w stOk [fieldN 1, (getReg s 0xF01).setWidth 24] := by
  have hchain : (setBusy s w).chain = s.chain := by simp [setBusy]
  have hlink : ∀ d, (linkOf (setBusy s w) d).st ≠ 2 := fun d => by
    rw [linkOf_congr d hchain]
    cases d
    · exact hu
    · exact hn
  have hup : askSide (setBusy s w) .up = setBusy s w := askSide_down (hlink .up)
  have hsent : enumSent s w = setBusy s w := by rw [enumSent, hup, askSide_down (hlink .dn)]
  have hpos : ownPos (enumUnderWay s w) = 0 := by
    rw [← hp, enumUnderWay, hsent]
    simp only [ownPos, hchain]
  have hreg : getReg (enumUnderWay s w) 0xF01 = getReg s 0xF01 := by
    rw [enumUnderWay, hsent]
    simp [getReg, setBusy]
  have hends : enumCheck (enumUnderWay s w) =
      finishEnum (enumUnderWay s w) stOk (enumFields (enumUnderWay s w) (enumBegun s w)) :=
    if_pos (by simp [enumComplete, enumBegun, hu, hn, hpos, upto])
  have hfields : enumFields (enumUnderWay s w) (enumBegun s w) = [fieldN 1, (getReg s 0xF01).setWidth 24] := by
    simp [enumFields, enumBegun, hpos, hreg, fieldN, upto]
  have hnone : { (setBusy s w).chain with enum := none } = (setBusy s w).chain := by
    rw [hchain, ← h]
  rw [hends, hfields, finishEnum, enumUnderWay, hsent]
  exact congrArg (fun c => finish { setBusy s w with chain := c } w stOk _) hnone

/-- The port of the enumeration is busy with it. -/
theorem portOf_setBusy (s : State) (w : Waiting) :
    portOf (setBusy s w) w.land.port = { portOf s w.land.port with busy := (portOf s w.land.port).busy ++ [w] } :=
  portOf_putPort_self s w.land.port _

theorem setBusy_frame (s : State) (w : Waiting) : sameBut [.ports] s (setBusy s w) := by
  intro p hp
  cases p <;> simp_all [Part.same, setBusy]

/-- What an enumeration leaves alone. -/
theorem enumUnderWay_frame {s : State} {w : Waiting}
    (hv : (!s.chain.posValid && (decide (s.chain.up.st = 2) || decide (s.chain.dn.st = 2))) = false) :
    sameBut [.ports, .chain] s (enumUnderWay s w) := by
  obtain ⟨g, hg⟩ := enumSent_eq (w := w) hv
  rw [enumUnderWay, hg]
  exact sameBut_trans (sameBut_mono (setBusy_frame s w) (by decide)) (sameBut_mono (sameBut_chain _ _) (by decide))

/-- The chip at position 0 with no link up answers with itself alone. -/
theorem enum_alone_row {l : Land} {s : State} (h : takes s l.port = true)
    (he : (landState s l.port).chain.enum = none) (hpos : ownPos (landState s l.port) = 0)
    (hd : enumStart (landState s l.port) l = enumCheck (enumUnderWay (landState s l.port) (waitOf (landState s l.port) l 0x30)))
    (hu : (landState s l.port).chain.up.st ≠ 2) (hn : (landState s l.port).chain.dn.st ≠ 2) :
    let u := landState s l.port
    let t := opcodeRow s l 1 (chainEnumOp l)
    answered u t l stOk [fieldN 1, (getReg u 0xF01).setWidth 24] (min u.seq.cycle 6143) 8 ∧ sameBut [.seq, .ports] u t := by
  intro u t
  have hf : chainEnumOp l u (landCycle s) = finish (setBusy u (waitOf u l 0x30)) (waitOf u l 0x30) stOk
      [fieldN 1, (getReg u 0xF01).setWidth 24] := hd.trans (enumCheck_alone he hpos hu hn)
  have ht : t = afterLanding s l.port 1 (finish (setBusy u (waitOf u l 0x30)) (waitOf u l 0x30) stOk
      [fieldN 1, (getReg u 0xF01).setWidth 24]) := by rw [← hf]; exact opcodeRow_takes s l 1 _ h
  have hcycle : (setBusy u (waitOf u l 0x30)).seq = u.seq := by simp [setBusy]
  obtain ⟨r, hr⟩ := afterLanding_eq s l.port 1 (finish (setBusy u (waitOf u l 0x30)) (waitOf u l 0x30) stOk
      [fieldN 1, (getReg u 0xF01).setWidth 24])
  constructor
  · have hreply := finishAt_reply (setBusy u (waitOf u l 0x30)) (waitOf u l 0x30)
      (min (setBusy u (waitOf u l 0x30)).seq.cycle 6143) [fieldN 1, (getReg u 0xF01).setWidth 24] quiet_ok
    have hport : portOf (setBusy u (waitOf u l 0x30)) l.port = _ := portOf_setBusy u (waitOf u l 0x30)
    rw [answered, ht, afterLanding_reply]
    refine hreply.trans ?_
    rw [stampAt_congr u (setBusy u (waitOf u l 0x30)) _ _ (by rw [hcycle]), hcycle]
    simp only [waitOf] at hport ⊢
    rw [hport]
  · have hends : sameBut [.ports] u (finish (setBusy u (waitOf u l 0x30)) (waitOf u l 0x30) stOk
        [fieldN 1, (getReg u 0xF01).setWidth 24]) :=
      sameBut_trans (setBusy_frame u _) (finishAt_frame _ _ _ _ quiet_ok)
    exact sameBut_mono (sameBut_answered _ _ _ _ r _ (ht.trans hr) hends) (by decide)

/-- The enumeration of a chain: its port is busy with it and each neighbour whose link is up is asked. -/
theorem enum_asks_row {l : Land} {s : State} (h : takes s l.port = true)
    (hv : (!(landState s l.port).chain.posValid && (decide ((landState s l.port).chain.up.st = 2) ||
      decide ((landState s l.port).chain.dn.st = 2))) = false)
    (hd : enumStart (landState s l.port) l = enumCheck (enumUnderWay (landState s l.port) (waitOf (landState s l.port) l 0x30)))
    (hup : (landState s l.port).chain.up.st = 2 ∨ (landState s l.port).chain.dn.st = 2) :
    let u := landState s l.port
    let t := opcodeRow s l 1 (chainEnumOp l)
    (portOf t l.port).busy = (portOf u l.port).busy ++ [waitOf u l 0x30] ∧
      t.chain.enum = some (enumBegun u (waitOf u l 0x30)) ∧
      t.chain.sent = u.chain.sent ++ (if u.chain.up.st = 2 then [enumAsk u .up] else []) ++
        (if u.chain.dn.st = 2 then [{ enumAsk u .dn with ltag := u.chain.ltag + (if u.chain.up.st = 2 then 1 else 0) }]
         else []) ∧
      sameBut [.seq, .ports, .chain] u t := by
  intro u t
  have hf : chainEnumOp l u (landCycle s) = enumUnderWay u (waitOf u l 0x30) := hd.trans (enumCheck_waits hup)
  have ht : t = afterLanding s l.port 1 (enumUnderWay u (waitOf u l 0x30)) := by rw [← hf]; exact opcodeRow_takes s l 1 _ h
  obtain ⟨r, hr⟩ := afterLanding_eq s l.port 1 (enumUnderWay u (waitOf u l 0x30))
  obtain ⟨g, hg⟩ := enumSent_eq (w := waitOf u l 0x30) hv
  have hports : (enumUnderWay u (waitOf u l 0x30)).ports = (setBusy u (waitOf u l 0x30)).ports := by
    rw [enumUnderWay, hg]
  refine ⟨?_, ?_, ?_, ?_⟩
  · rw [ht, ((afterLanding_keeps s l.port 1 _).port l.port).busy, portOf_congr (setBusy u (waitOf u l 0x30)) _ l.port hports]
    exact congrArg Port.busy (portOf_setBusy u (waitOf u l 0x30))
  · rw [ht, hr]
    rfl
  · rw [ht, hr, enumUnderWay, hg]
  · exact sameBut_mono (sameBut_answered _ _ _ _ r _ (ht.trans hr) (enumUnderWay_frame hv)) (by decide)

/-- Settles O13, by whether an enumeration runs, the way upstream stands and a link is up. -/
theorem enumerationStarts : Obligations.EnumerationStarts := by
  intro l s h
  refine ⟨fun hb => ?_, fun he hd => ?_, fun he hd hl => ?_, fun he hd hl => ?_⟩
  · obtain ⟨hans, -, q, hr⟩ := opcodeRow_answers_keeps (f := chainEnumOp l) 1 h (enumStart_busy l hb) quiet_busy rfl rfl rfl
    exact ⟨_, rfl, hans, sameBut_answered [] _ _ _ q _ hr (sameBut_refl [] _)⟩
  · obtain ⟨hans, -, q, hr⟩ := opcodeRow_answers_keeps (f := chainEnumOp l) 1 h (enumStart_down l he hd) quiet_down rfl rfl rfl
    exact ⟨_, rfl, hans, sameBut_answered [] _ _ _ q _ hr (sameBut_refl [] _)⟩
  · obtain ⟨hu, hn⟩ : (landState s l.port).chain.up.st ≠ 2 ∧ (landState s l.port).chain.dn.st ≠ 2 := by simpa using hl
    have hpos : ownPos (landState s l.port) = 0 := by simpa [hu, hn] using hd
    obtain ⟨hans, hframe⟩ := enum_alone_row h he hpos (enumStart_runs l he hd) hu hn
    exact ⟨_, rfl, hans, hframe⟩
  · have hup : (landState s l.port).chain.up.st = 2 ∨ (landState s l.port).chain.dn.st = 2 := by simpa using hl
    obtain ⟨hbusy, henum, hsent, hframe⟩ := enum_asks_row h (Bool.or_eq_false_iff.mp hd).2 (enumStart_runs l he hd) hup
    exact ⟨_, rfl, hbusy, henum, by simpa using hsent, hframe⟩

end Sys2Proof.Machine

/-!
MEM_RD, MEM_WR and MEM_ATOM: how an operation on memory starts (04 R88; 10 R228; 11 R239 to R249; O7).
-/

namespace Sys2Proof.Machine

/-! ### The lookup -/

/-- The context's last segment contains the line. -/
def lookupHits (s : State) (c gr : Nat) : Bool :=
  match nth s.dresser.cache c none with | some g => segHas s c g gr | none => false

/-- A lookup takes 1 c where the context's last segment contains the line, and otherwise 3 c and is counted. -/
theorem lookupTime_cases (s : State) (c gr : Nat) : ∃ x : Dresser, x.inForce = s.dresser.inForce ∧
    (lookupTime s c gr = ({ s with dresser := x }, 1) ∨ lookupTime s c gr = ({ addReg s 0x68C 1 with dresser := x }, 3)) := by
  have hlook : lookupTime s c gr =
      let t := if lookupHits s c gr then s else addReg s 0x68C 1
      ({ t with dresser := { t.dresser with
          cache := setNth t.dresser.cache c ((segFind s c gr).or (nth s.dresser.cache c none)) } },
        if lookupHits s c gr then 1 else 3) := rfl
  rw [hlook]
  cases lookupHits s c gr
  · refine ⟨_, ?_, .inr rfl⟩
    have hsame : (addReg s 0x68C 1).dresser.inForce = s.dresser.inForce := by rw [addReg_dresser]
    exact hsame
  · refine ⟨_, ?_, .inl rfl⟩
    rfl

/-- A lookup notes its hit or miss, no more. -/
theorem lookupTime_frame (s : State) (c gr : Nat) : sameBut [.regs, .aon, .dresser] s (lookupTime s c gr).1 := by
  obtain ⟨x, -, h | h⟩ := lookupTime_cases s c gr
  · rw [h]
    exact sameBut_mono (sameBut_dresser s x) (by decide)
  · rw [h]
    exact sameBut_trans (sameBut_mono (setReg_frame s 0x68C _) (by decide)) (sameBut_mono (sameBut_dresser _ x) (by decide))

theorem lookupTime_pos (s : State) (c gr : Nat) : 1 ≤ (lookupTime s c gr).2 := by
  obtain ⟨x, -, h | h⟩ := lookupTime_cases s c gr <;> simp [h]

/-- A translation is that of the segments in force. -/
theorem translate_congr {s t : State} (h : t.dresser.inForce = s.dresser.inForce) (c : Nat) (k : AccKind) (va vz : Nat) :
    translate t c k va vz = translate s c k va vz := by
  have hseg : seg t = seg s := by
    funext c g f
    rw [seg, seg, h]
  unfold translate segFind segEn segHas
  rw [hseg]

/-- So a translation after a lookup is the one before it. -/
theorem translate_lookupTime (s : State) (c gr d : Nat) (k : AccKind) (va vz : Nat) :
    translate (lookupTime s c gr).1 d k va vz = translate s d k va vz := by
  obtain ⟨x, hx, h | h⟩ := lookupTime_cases s c gr <;> rw [h] <;> exact translate_congr hx d k va vz

theorem ownPos_lookupTime (s : State) (c gr : Nat) : ownPos (lookupTime s c gr).1 = ownPos s :=
  ownPos_congr (lookupTime_frame s c gr .chain (by decide))

theorem portOf_lookupTime (s : State) (c gr : Nat) (p : PortId) : portOf (lookupTime s c gr).1 p = portOf s p :=
  portOf_congr _ _ p (lookupTime_frame s c gr .ports (by decide))

/-! ### The outcomes of `memStart` -/

section
variable {s : State} {l : Land} {opc : Nat} {a : Access}

/-- What a lookup finds. -/
abbrev found (s : State) (l : Land) (a : Access) : State := (lookupTime s (portReq l.port) (a.pa / 16)).1

/-- The cycles of a lookup. -/
abbrev lookCycles (s : State) (l : Land) (a : Access) : Nat := (lookupTime s (portReq l.port) (a.pa / 16)).2

/-- A context that refuses the operation. -/
theorem memStart_fault {c : Nat} {g : Option Nat}
    (h : translate (found s l a) (portReq l.port) a.kind a.pa (a.pa + a.count - 1) = .fault c g) :
    memStart s l opc a = answerAt (segFault (found s l a) (portReq l.port) a.pa a.kind c g) l.port l.tag l.noreply
      stSegFault [] (min (found s l a).seq.cycle 6143) (lookCycles s l a + 7) := by
  simp only [memStart, h]

variable {pa g : Nat}

/-- A local map that refuses it. -/
theorem memStart_unmapped {c : Nat}
    (h : translate (found s l a) (portReq l.port) a.kind a.pa (a.pa + a.count - 1) = .at_ (ownPos (found s l a)) pa g)
    (hm : mapCheck a.kind pa a.count = (none, c)) :
    memStart s l opc a = answerAt (segFault (found s l a) (portReq l.port) a.pa a.kind c (some g)) l.port l.tag l.noreply
      stSegFault [] (min (found s l a).seq.cycle 6143) (lookCycles s l a + 7) := by
  simp only [memStart, h, if_true, hm]

/-- One on this part is placed. -/
theorem memStart_placed {r : Region} {c : Nat}
    (h : translate (found s l a) (portReq l.port) a.kind a.pa (a.pa + a.count - 1) = .at_ (ownPos (found s l a)) pa g)
    (hm : mapCheck a.kind pa a.count = (some r, c)) :
    memStart s l opc a = placeOp (setBusy (found s l a) (waitOf s l opc)) (portReq l.port)
      (.port (waitOf s l opc) { a with pa := pa } (portReq l.port) a.pa g (lookCycles s l a)) { a with pa := pa }
      (min (found s l a).seq.cycle 6143 + lookCycles s l a - 1) := by
  simp only [memStart, h, if_true, hm]

/-- One on another chip is sent to it. -/
theorem memStart_remote {chip : BitVec 2}
    (h : translate (found s l a) (portReq l.port) a.kind a.pa (a.pa + a.count - 1) = .at_ chip pa g)
    (hc : chip ≠ ownPos (found s l a)) :
    memStart s l opc a =
      match sendMrq (setBusy (found s l a) (waitOf s l opc)) (.port (waitOf s l opc)) { a with pa := pa } chip
        (portReq l.port) a.pa g with
      | some t => t
      | none => answerAt (found s l a) l.port l.tag l.noreply stChainDown [] (min (found s l a).seq.cycle 6143)
          (lookCycles s l a + 7) := by
  unfold memStart
  dsimp only
  rw [h]
  exact if_neg hc

end

/-! ### Placing an operation -/

/-- The configuration path, ready and with its words in the tick, serves at once. -/
theorem placeOp_config {s : State} {r : Nat} {op : MemOp} {a : Access} {c : Nat} {q : Region} {k : Nat}
    (hm : mapCheck a.kind a.pa a.count = (some q, k)) (hq : q ≠ .capture) (hr : accessReady s a = true)
    (hs : splitWrite a c = none) : placeOp s r op a c = (serveOp s op).1 := by
  have hu : usesSideboard a = false := by
    unfold usesSideboard
    rw [hm]
    cases q <;> first | rfl | exact absurd rfl hq
  simp [placeOp, hu, hr, hs]

/-- Capture memory, the port with no request and the memory side not busy beyond: the request waits no cycle. -/
theorem placeOp_capture {s : State} {r : Nat} {op : MemOp} {a : Access} {c k : Nat}
    (hm : mapCheck a.kind a.pa a.count = (some .capture, k)) (hr : requesting s r = false) (hb : s.mem.busy ≤ c + 1) :
    placeOp s r op a c = { s with mem := { s.mem with reqs := s.mem.reqs ++ [newReq r op (c + 1)] } } := by
  have hu : usesSideboard a = true := by unfold usesSideboard; rw [hm]
  have hw : s.mem.busy - (c + 1) = 0 := by omega
  simp [placeOp, hu, hr, raiseAt, hw, newReq]

/-- The chain component with an MRQ sent. -/
def mrqSent (s : State) (u : RemoteUser) (a : Access) (chip : BitVec 2) (ctx va g : Nat) : Chain :=
  let d := sideTo s chip
  { s.chain with
    ltag := s.chain.ltag + 1
    sent := s.chain.sent ++ [{ side := d, type := 3, dest := chip, src := ownPos s, ltag := s.chain.ltag
                               payload := mrqPayload a }]
    remote := s.chain.remote ++ [{ user := u, acc := a, chip := chip, side := d, ltag := s.chain.ltag, ctx := ctx
                                   va := va, g := g, ticks := pktTicks s, retry := false }] }

/-- An MRQ leaves by a link that is ready. -/
theorem sendMrq_ready {s : State} {chip : BitVec 2} (h : linkReady s (sideTo s chip) = true) (u : RemoteUser) (a : Access)
    (ctx va g : Nat) : sendMrq s u a chip ctx va g = some { s with chain := mrqSent s u a chip ctx va g } := by
  have hup : (linkOf s (sideTo s chip)).st = 2 := by simp [linkReady] at h; exact h.2
  have hlink : linkOf (takeLtag s).1 (sideTo s chip) = linkOf s (sideTo s chip) := by cases sideTo s chip <;> rfl
  rw [sendMrq, if_pos h]
  dsimp only
  rw [sendFrame, if_pos (by simp [hlink, hup])]
  rfl

/-- None leaves by one that is not. -/
theorem sendMrq_down {s : State} {chip : BitVec 2} (h : linkReady s (sideTo s chip) = false) (u : RemoteUser) (a : Access)
    (ctx va g : Nat) : sendMrq s u a chip ctx va g = none := if_neg (by simp [h])

/-! ### The rows -/

/-- The three opcodes start their operation, a read of the own register file apart. -/
theorem exec_memory {l : Land} {va : BitVec 24} {n : Nat} {d : List Byte} {x y : BitVec 32} {i : Instr} {opc : Nat}
    {a : Access} (hn : 1 ≤ n) (hn' : n ≤ 240) (hd : sizeOk d 234 = true)
    (h : (i = .memRd l va n ∧ opc = 0x08 ∧
        a = { kind := .read, pa := va.toNat, count := n, data := [], op1 := 0, op2 := 0 }) ∨
      (i = .memWr l va d ∧ opc = 0x09 ∧
        a = { kind := .write, pa := va.toNat, count := d.length, data := d, op1 := 0, op2 := 0 }) ∨
      (va.toNat % 4 = 0 ∧ opc = 0x0A ∧
        ((i = .fetchAdd l va x ∧ a = { kind := .fetchAdd, pa := va.toNat, count := 4, data := [], op1 := x, op2 := 0 }) ∨
         (i = .swap l va x ∧ a = { kind := .swap, pa := va.toNat, count := 4, data := [], op1 := x, op2 := 0 }) ∨
         (i = .cmpSwap l va x y ∧
           a = { kind := .cmpSwap, pa := va.toNat, count := 4, data := [], op1 := x, op2 := y })))) (s : State) :
    ∃ f, exec i s = .next (opcodeRow s l 0 f) ∧ ∀ u c,
      ((a.kind = .read → regsAt u (portReq l.port) a.pa a.count = none) → f u c = memStart u l opc a) ∧
      (a.kind = .read → a.pa = va.toNat ∧ a.count = n ∧
        ∀ pa, regsAt u (portReq l.port) a.pa a.count = some pa → f u c = memRegs l va.toNat n pa u c) := by
  have hn0 : ¬(n = 0 ∨ n > 240) := by omega
  rcases h with ⟨rfl, rfl, rfl⟩ | ⟨rfl, rfl, rfl⟩ | ⟨hva, rfl, h⟩
  · refine ⟨_, rfl, fun u c => ⟨fun hr => ?_, fun _ => ⟨rfl, rfl, fun pa hp => ?_⟩⟩⟩
    · simp only [memRdOp, if_neg hn0, hr rfl]
    · simp only [memRdOp, if_neg hn0, show regsAt u (portReq l.port) va.toNat n = some pa from hp]
  · obtain ⟨hd1, hd2⟩ := sizeOk_iff.mp hd
    exact ⟨_, rfl, fun u c => ⟨fun _ => if_neg (by omega), fun hk => by cases hk⟩⟩
  · rcases h with ⟨rfl, rfl⟩ | ⟨rfl, rfl⟩ | ⟨rfl, rfl⟩ <;>
      exact ⟨_, rfl, fun u c => ⟨fun _ => if_neg (by omega), fun hk => by cases hk⟩⟩

/-- A read that its context refuses, or that goes to another chip, is not one of the own register file. -/
theorem regsAt_of_fault {s : State} {ctx va n c : Nat} {g : Option Nat}
    (h : translate s ctx .read va (va + n - 1) = .fault c g) : regsAt s ctx va n = none := by
  simp only [regsAt, h]

theorem regsAt_of_at {s : State} {ctx va n pa g : Nat} {chip : BitVec 2}
    (h : translate s ctx .read va (va + n - 1) = .at_ chip pa g) :
    regsAt s ctx va n = if chip = ownPos s ∧ (mapCheck .read pa n).1 = some .regs then some pa else none := by
  simp only [regsAt, h]

/-- An operation that waits: its port is busy with it. -/
theorem waits_port {s : State} {l : Land} {v t : State} {w : Waiting} (hw : w.land = l)
    (ht : t.ports = (setBusy v w).ports) (n : Nat) :
    (portOf (afterLanding s l.port n t) l.port).busy = (portOf v l.port).busy ++ [w] := by
  subst hw
  rw [((afterLanding_keeps s w.land.port n t).port w.land.port).busy, portOf_congr (setBusy v w) t _ ht, portOf_setBusy]

/-- What the end of a landing leaves alone. -/
theorem sameBut_afterLanding {ps : List Part} (s : State) (p : PortId) (n : Nat) {u v : State}
    (h : sameBut (.ports :: ps) u v) : sameBut (.ports :: ps ++ [.seq]) u (afterLanding s p n v) := by
  obtain ⟨q, hq⟩ := afterLanding_eq s p n v
  exact sameBut_mono (sameBut_answered _ u v _ q _ hq h) (by simp)

/-- Settles O7, by what the lookup, the local map and the links say of the operation. -/
theorem memoryOpcodesStart : Obligations.MemoryOpcodesStart := by
  intro l va n d x y s h hn hn' hd u i opc a hi
  obtain ⟨f, hexec, hf⟩ := exec_memory hn hn' hd hi s
  obtain ⟨hstart, hregs⟩ := hf u (landCycle s)
  have hrow : ∀ {v}, f u (landCycle s) = v → exec i s = .next (afterLanding s l.port 0 v) :=
    fun hv => hexec.trans (next_opcodeRow 0 h hv)
  have hlook : ∀ k, translate (found u l a) (portReq l.port) k a.pa (a.pa + a.count - 1) =
      translate u (portReq l.port) k a.pa (a.pa + a.count - 1) := fun k => translate_lookupTime u _ _ _ k _ _
  have hwaits : ∀ t : State, t.ports = (setBusy (found u l a) (waitOf u l opc)).ports →
      (portOf (afterLanding s l.port 0 t) l.port).busy = (portOf u l.port).busy ++ [waitOf u l opc] := fun t ht =>
    (waits_port (w := waitOf u l opc) rfl ht 0).trans (by rw [portOf_lookupTime]; rfl)
  have hother : ∀ {chip pa g}, translate (found u l a) (portReq l.port) a.kind a.pa (a.pa + a.count - 1) = .at_ chip pa g →
      chip ≠ ownPos (found u l a) → a.kind = .read → regsAt u (portReq l.port) a.pa a.count = none := fun hat hc hk => by
    rw [regsAt_of_at (by rw [← hlook, ← hk]; exact hat), if_neg fun hh => hc (hh.1.trans (ownPos_lookupTime _ _ _).symm)]
  refine ⟨fun c g hfault => ?_, fun pa g hat => ⟨fun c hm => ?_, fun c hk hm => ?_, fun r c hm hr hnr hready hsplit => ?_,
    fun c hm hreq hbusy => ?_⟩, fun chip pa g hat hc => ⟨fun hl => ?_, fun hl => ?_⟩⟩
  · exact hrow ((hstart fun hk => regsAt_of_fault (by rw [← hlook, ← hk]; exact hfault)).trans (memStart_fault hfault))
  · refine hrow ((hstart fun hk => ?_).trans (memStart_unmapped hat hm))
    rw [regsAt_of_at (by rw [← hlook, ← hk]; exact hat), ← hk, hm, if_neg (by simp)]
  · obtain ⟨hpa, hcount, hget⟩ := hregs hk
    refine hrow (hget pa ?_)
    rw [regsAt_of_at (by rw [← hlook, ← hk]; exact hat), ← hk, hm, if_pos ⟨ownPos_lookupTime _ _ _, rfl⟩]
  · refine hrow ((hstart fun hk => ?_).trans ((memStart_placed hat hm).trans (placeOp_config hm hr hready hsplit)))
    rw [regsAt_of_at (by rw [← hlook, ← hk]; exact hat), ← hk, hm, if_neg fun hh => hnr ⟨hk, Option.some.inj hh.2⟩]
  · have hcycles : 1 ≤ lookCycles u l a := lookupTime_pos _ _ _
    have hfree : (found u l a).mem.busy ≤ min (found u l a).seq.cycle 6143 + lookCycles u l a := hbusy
    have hnot : a.kind = .read → regsAt u (portReq l.port) a.pa a.count = none := fun hk => by
      rw [regsAt_of_at (by rw [← hlook, ← hk]; exact hat), ← hk, hm, if_neg (by simp)]
    have hmem : (setBusy (found u l a) (waitOf u l opc)).mem = (found u l a).mem := by simp [setBusy]
    have hplaced := placeOp_capture (s := setBusy (found u l a) (waitOf u l opc)) (r := portReq l.port)
      (op := .port (waitOf u l opc) { a with pa := pa } (portReq l.port) a.pa g (lookCycles u l a)) (a := { a with pa := pa })
      (c := min (found u l a).seq.cycle 6143 + lookCycles u l a - 1) hm
      (by rw [requesting, hmem]; exact hreq) (by rw [hmem]; exact hfree.trans (by omega))
    rw [hmem, show min (found u l a).seq.cycle 6143 + lookCycles u l a - 1 + 1 =
      min (found u l a).seq.cycle 6143 + lookCycles u l a by omega] at hplaced
    refine ⟨_, hrow ((hstart hnot).trans ((memStart_placed hat hm).trans hplaced)), ?_, ?_, ?_⟩
    · exact hwaits _ rfl
    · obtain ⟨q, hq⟩ := afterLanding_eq s l.port 0 _
      rw [hq]
    · exact sameBut_afterLanding (ps := [.mem]) s l.port 0 (sameBut_trans
        (sameBut_mono (setBusy_frame _ _) (by decide)) (sameBut_mono (sameBut_mem _ _) (by decide)))
  · have hbusy := setBusy_frame (found u l a) (waitOf u l opc)
    have hchain : (setBusy (found u l a) (waitOf u l opc)).chain = (found u l a).chain := hbusy .chain (by decide)
    have hside : sideTo (setBusy (found u l a) (waitOf u l opc)) chip = sideTo (found u l a) chip := by
      rw [sideTo, sideTo, ownPos_congr hchain]
    have hready : linkReady (setBusy (found u l a) (waitOf u l opc)) (sideTo (setBusy (found u l a) (waitOf u l opc)) chip) =
        true := by
      rw [hside, linkReady, hchain, linkOf_congr _ hchain]
      exact hl
    have hsends := (hstart (hother hat hc)).trans (memStart_remote hat hc)
    rw [sendMrq_ready hready] at hsends
    refine ⟨_, hrow hsends, hwaits _ rfl, ?_, ?_⟩
    · obtain ⟨q, hq⟩ := afterLanding_eq s l.port 0 _
      rw [hq]
      simp only [mrqSent, hside, hchain, ownPos_congr hchain]
    · exact sameBut_afterLanding (ps := [.chain]) s l.port 0 (sameBut_trans (sameBut_mono hbusy (by decide))
        (sameBut_mono (sameBut_chain _ _) (by decide)))
  · have hbusy := setBusy_frame (found u l a) (waitOf u l opc)
    have hchain : (setBusy (found u l a) (waitOf u l opc)).chain = (found u l a).chain := hbusy .chain (by decide)
    have hdown : linkReady (setBusy (found u l a) (waitOf u l opc)) (sideTo (setBusy (found u l a) (waitOf u l opc)) chip) =
        false := by
      rw [sideTo, ownPos_congr hchain, linkReady, hchain, linkOf_congr _ hchain]
      exact hl
    have hsends := (hstart (hother hat hc)).trans (memStart_remote hat hc)
    rw [sendMrq_down hdown] at hsends
    exact hrow hsends

end Sys2Proof.Machine

/-!
Register writes that act at once (00 R8; 02 R27, R34, R39; 03 R57, R76; 06 R143; 08 R187; 09 R206 to R208; 10 R232;
12 R278; 13 R302, R307; O15, O16, O17).
-/

namespace Sys2Proof.Machine

/-! ### A register row -/

/-- The ports at work, a register row writes its register. -/
theorem portWrite_up {s : State} (h : portsUp s = true) (p : PortId) (n : Nat) (v : Word) :
    portWrite s p n v = writeReg s p n v := if_pos h

/-- What a write does of a register that is no window and has no memory side to wait for. -/
theorem writeReg_of_row {n : Nat} {r : RegRow} (hr : regRow n = some r) (hw : ¬(0x681 ≤ n ∧ n ≤ 0x684)) (hc : n ≠ 0x705)
    (hf : n ≠ 0x620) (s : State) (p : PortId) (v : Word) :
    writeReg s p n v = writeEffect (setReg s n (merged r n (getReg s n) v)) p n v (getReg s n)
      (merged r n (getReg s n) v) := by
  simp only [writeReg, hr, if_neg hw, if_neg hc, if_neg hf]

/-- A write of register `n`, the row of which is `r`, and what it brings. -/
theorem portWrite_of_row {n : Nat} {r : RegRow} (hr : regRow n = some r) (hw : ¬(0x681 ≤ n ∧ n ≤ 0x684)) (hc : n ≠ 0x705)
    (hf : n ≠ 0x620) {s : State} (h : portsUp s = true) (p : PortId) (v : Word) :
    portWrite s p n v = writeEffect (setReg s n (merged r n (getReg s n) v)) p n v (getReg s n)
      (merged r n (getReg s n) v) := (portWrite_up h p n v).trans (writeReg_of_row hr hw hc hf s p v)

/-- A register that CORE keeps, written where another component changes too. -/
theorem sameRegsBut_of_regs {ns : List Nat} {s t u : State} (h : sameRegsBut ns s t) (hr : u.regs = t.regs)
    (ha : u.aon = t.aon) : sameRegsBut ns s u := by
  intro n hn
  rw [← h n hn]
  simp only [getReg, hr, ha]

/-! ### Action bits -/

/-- A write of SEQ_CTRL leaves HALT and GO waiting. -/
theorem portWrite_seqCtrl {s : State} (h : portsUp s = true) (p : PortId) (v : Word) : ∃ w,
    portWrite s p 0x182 v = { setReg s 0x182 w with seq := { s.seq with
      haltReq := s.seq.haltReq || bitAt v 1, goReq := s.seq.goReq || bitAt v 0 } } := by
  have hw := portWrite_of_row (n := 0x182) rfl (by decide) (by decide) (by decide) h p v
  generalize merged _ 0x182 (getReg s 0x182) v = w at hw
  have heffect : writeEffect (setReg s 0x182 w) p 0x182 v (getReg s 0x182) w = seqCtrl (setReg s 0x182 w) v := rfl
  exact ⟨w, by rw [hw, heffect, seqCtrl, setReg_seq]⟩

/-- A write of CAP_CTRL leaves ARM, FORCE and STOP waiting. -/
theorem portWrite_capCtrl {s : State} (h : portsUp s = true) (p : PortId) (v : Word) : ∃ w,
    portWrite s p 0x540 v = { setReg s 0x540 w with cap := { s.cap with
      armReq := (s.cap.armReq || bitAt v 0) && !bitAt v 2
      forceReq := s.cap.forceReq || bitAt v 1
      stopReq := s.cap.stopReq || bitAt v 2 } } := by
  have hw := portWrite_of_row (n := 0x540) rfl (by decide) (by decide) (by decide) h p v
  generalize merged _ 0x540 (getReg s 0x540) v = w at hw
  have heffect : writeEffect (setReg s 0x540 w) p 0x540 v (getReg s 0x540) w = capCtrl (setReg s 0x540 w) v := rfl
  exact ⟨w, by rw [hw, heffect, capCtrl, setReg_cap]⟩

/-- A write of ENERGY_CTRL with SAVE_NOW asks for a save where no orderly stop has begun. -/
theorem portWrite_saveNow {s : State} (h : portsUp s = true) (p : PortId) {v : Word} (hv : bitAt v 0 = true) : ∃ w,
    portWrite s p 0x40C v = { setReg s 0x40C w with
      energy := if s.seq.stopping then s.energy else { s.energy with saveReq := true } } := by
  have hw := portWrite_of_row (n := 0x40C) rfl (by decide) (by decide) (by decide) h p v
  generalize merged _ 0x40C (getReg s 0x40C) v = w at hw
  have heffect : writeEffect (setReg s 0x40C w) p 0x40C v (getReg s 0x40C) w =
      if bitAt v 0 && !(setReg s 0x40C w).seq.stopping then
        { setReg s 0x40C w with energy := { (setReg s 0x40C w).energy with saveReq := true } }
      else setReg s 0x40C w := rfl
  refine ⟨w, ?_⟩
  rw [hw, heffect, hv, setReg_seq, setReg_energy]
  cases s.seq.stopping
  · rfl
  · simp only [Bool.not_true, Bool.and_false, Bool.false_eq_true, if_false, if_true]
    rw [← setReg_energy s 0x40C w]

/-- Settles O15: the action bits set what waits in their unit and no more. -/
theorem actionsWait : Obligations.ActionsWait := by
  intro p s h
  have hseq : ∀ w x, sameRegsBut [0x182] s { setReg s 0x182 w with seq := x } ∧
      sameBut [.seq, .regs] s { setReg s 0x182 w with seq := x } := fun w x =>
    ⟨sameRegsBut_setReg s 0x182 w, sameBut_trans (sameBut_mono (setReg_frame_core rfl s w) (by decide))
      (sameBut_mono (sameBut_seq _ x) (by decide))⟩
  have hcap : ∀ w x, sameRegsBut [0x540] s { setReg s 0x540 w with cap := x } ∧
      sameBut [.cap, .regs] s { setReg s 0x540 w with cap := x } := fun w x =>
    ⟨sameRegsBut_setReg s 0x540 w, sameBut_trans (sameBut_mono (setReg_frame_core rfl s w) (by decide))
      (sameBut_mono (sameBut_cap _ x) (by decide))⟩
  have henergy : ∀ w x, sameRegsBut [0x40C] s { setReg s 0x40C w with energy := x } ∧
      sameBut [.energy, .regs] s { setReg s 0x40C w with energy := x } := fun w x =>
    ⟨sameRegsBut_setReg s 0x40C w, sameBut_trans (sameBut_mono (setReg_frame_core rfl s w) (by decide))
      (sameBut_mono (sameBut_energy _ x) (by decide))⟩
  obtain ⟨w1, h1⟩ := portWrite_seqCtrl h p 2
  obtain ⟨w2, h2⟩ := portWrite_seqCtrl h p 1
  obtain ⟨w3, h3⟩ := portWrite_saveNow h p (v := getReg s 0x40C ||| 1) (by simp [bitAt])
  obtain ⟨w4, h4⟩ := portWrite_capCtrl h p 1
  obtain ⟨w5, h5⟩ := portWrite_capCtrl h p 2
  obtain ⟨w6, h6⟩ := portWrite_capCtrl h p 4
  refine ⟨⟨_, congrArg Host.Outcome.next h1, ?_, hseq _ _⟩, ⟨_, congrArg Host.Outcome.next h2, ?_, hseq _ _⟩,
    ⟨_, congrArg Host.Outcome.next h3, rfl, henergy _ _⟩, ⟨_, congrArg Host.Outcome.next h4, ?_, hcap _ _⟩,
    ⟨_, congrArg Host.Outcome.next h5, ?_, hcap _ _⟩, ⟨_, congrArg Host.Outcome.next h6, ?_, hcap _ _⟩⟩ <;>
    simp [bitAt]

end Sys2Proof.Machine

/-!
Settings that are stored and act at once (02 R27, R34, R39; 03 R76; 06 R143; 10 R232; 12 R278; O16).
-/

namespace Sys2Proof.Machine

/-- What a register without W1C bits holds after a write. -/
theorem merged_of_plain {r : RegRow} (h : r.w1c = 0) (n : Nat) (old v : Word) :
    merged r n old v = (old &&& ~~~(wd (r.rw ||| r.sn ||| r.sh))) ||| (adjust n v &&& wd (r.rw ||| r.sn ||| r.sh)) := by
  have hw : wd r.w1c = 0 := by rw [h]; rfl
  simp only [merged, hw]
  simp

/-- What a register holds that is written whole. -/
theorem merged_of_whole {r : RegRow} (h : r.w1c = 0) (hm : wd (r.rw ||| r.sn ||| r.sh) = BitVec.allOnes 20) (n : Nat)
    (old v : Word) : merged r n old v = adjust n v := by
  rw [merged_of_plain h, hm, BitVec.and_allOnes]
  simp

/-- A plain setting that CORE keeps: its write stores and does no more. -/
theorem portWrite_plain {n : Nat} {r : RegRow} (hr : regRow n = some r) (hw : ¬(0x681 ≤ n ∧ n ≤ 0x684)) (hc : n ≠ 0x705)
    (hf : n ≠ 0x620) (hret : isRetained n = false) {s : State} (h : portsUp s = true) (hwf : Registers.wf s = true)
    (p : PortId) (v : Word) (he : ∀ t old new, writeEffect t p n v old new = t) :
    getReg (portWrite s p n v) n = merged r n (getReg s n) v ∧
      sameRegsBut [n] s (portWrite s p n v) ∧ sameBut [.regs] s (portWrite s p n v) := by
  rw [portWrite_of_row hr hw hc hf h, he]
  exact ⟨getReg_setReg n _ hwf, sameRegsBut_setReg s n _, setReg_frame_core hret s _⟩

/-! ### FREEZE -/

/-- FREEZE, the memory side at the cycle of the write. -/
theorem portWrite_freeze {s : State} (h : portsUp s = true) (p : PortId) (v : Word) :
    portWrite s p 0x620 v =
      let u := memTo s (s.seq.cycle + 1)
      drainCheck (setReg u 0x620 (merged { lo := 0x620, hi := 0x620, rw := 0x1 } 0x620 (getReg u 0x620) v)) :=
  portWrite_up h p 0x620 v

/-- DRAINED follows FREEZE, and is told when it comes. -/
theorem drainCheck_eq (s : State) : drainCheck s =
    raiseIf (frozen s && !s.mem.drained) srcArbDrained { s with mem := { s.mem with drained := frozen s } } := rfl

/-- A bit of status 0 to 3 told changes those registers alone. -/
theorem getReg_raiseIf_other (c : Bool) {src n : Nat} (s : State) (h : n ≠ src / 20) :
    getReg (raiseIf c src s) n = getReg s n := by
  cases c
  · rfl
  · exact getReg_raise_other s src n h

theorem sameRegsBut_raiseIf (c : Bool) {src : Nat} (s : State) (h : src < 80) :
    sameRegsBut [0, 1, 2, 3] s (raiseIf c src s) := fun n hn =>
  getReg_raiseIf_other c s (by simp only [List.mem_cons, List.not_mem_nil, or_false, not_or] at hn; omega)

/-- FREEZE after the write of ARB_CTRL with its bit as asked. -/
theorem freeze_effect {s : State} (on : Bool) {x : Word} (hw : Registers.wf s = true)
    (hx : bitAt x 0 = on) :
    let t := drainCheck (setReg s 0x620 x)
    bitAt (getReg t 0x620) 0 = on ∧ t.mem = { s.mem with drained := on } ∧ sameRegsBut [0, 1, 2, 3, 0x620] s t ∧
      sameBut [.regs, .mem, .bureau] s t := by
  intro t
  have hreg : getReg (setReg s 0x620 x) 0x620 = x := getReg_setReg _ _ hw
  have hfro : frozen (setReg s 0x620 x) = on := by rw [frozen, hreg, hx]
  have ht : t = raiseIf (on && !(setReg s 0x620 x).mem.drained) srcArbDrained
      { setReg s 0x620 x with mem := { s.mem with drained := on } } := by
    rw [← setReg_mem s 0x620 x, ← hfro]
    rfl
  rw [ht]
  refine ⟨?_, by rw [raiseIf_mem], ?_, ?_⟩
  · rw [getReg_raiseIf_other _ _ (by decide)]
    exact (congrArg (bitAt · 0) hreg).trans hx
  · intro n hn
    rw [getReg_raiseIf_other _ _ (by simp at hn; simp only [srcArbDrained]; omega)]
    exact getReg_setReg_other s _ n x (by simp at hn; omega)
  · exact sameBut_trans (sameBut_mono (setReg_frame_core rfl s x) (by decide))
      (sameBut_trans (sameBut_mono (sameBut_mem _ _) (by decide)) (sameBut_mono (raiseIf_frame _ _ (by decide)) (by decide)))

/-- The bit of FREEZE that a write of ARB_CTRL stores. -/
theorem bitAt_freeze (g old : Word) (on : Bool) :
    bitAt (merged { lo := 0x620, hi := 0x620, rw := 0x1 } 0x620 old (if on then g ||| 1 else g &&& ~~~(1 : Word))) 0 = on := by
  have hadj : ∀ w, adjust 0x620 w = w := fun _ => rfl
  rw [merged_of_plain rfl, hadj]
  cases on <;> simp [bitAt, wd]

/-! ### LOW_RES_SEL -/

/-- A write of MODE_CTRL compares VRES anew with the level it names. -/
theorem lowRes_written {s : State} (x : Word) (hw : Registers.wf s = true) :
    let t := compareLow (setReg s 0x10A x)
    getReg t 0x10A = x ∧ t.power.belowLow = decide (s.power.vres < lowResMv t) ∧
      sameRegsBut [0, 1, 2, 3, 0x10A] s t ∧ sameBut [.regs, .power, .bureau] s t := by
  intro t
  have ht : t = raiseIf ((lowCompared (setReg s 0x10A x)).belowLow && !(setReg s 0x10A x).power.belowLow) srcLowRes
      { setReg s 0x10A x with power := lowCompared (setReg s 0x10A x) } := compareLow_eq _
  have hreg : getReg t 0x10A = x := by
    rw [ht, getReg_raiseIf_other _ _ (by decide)]
    exact getReg_setReg 0x10A x hw
  have hlevel : lowResMv t = lowResMv (setReg s 0x10A x) := by
    rw [lowResMv, lowResMv, hreg, getReg_setReg 0x10A x hw]
  refine ⟨hreg, ?_, ?_, ?_⟩
  · rw [hlevel, ht, raiseIf_power]
    exact congrArg (fun y : Power => decide (y.vres < _)) (setReg_power s 0x10A x)
  · rw [ht]
    intro n hn
    rw [getReg_raiseIf_other _ _ (by simp at hn; simp only [srcLowRes]; omega)]
    exact getReg_setReg_other s _ n x (by simp at hn; omega)
  · rw [ht]
    exact sameBut_trans (sameBut_mono (setReg_frame_core rfl s x) (by decide))
      (sameBut_mono (raiseIf_power_frame _ _ _ (by decide)) (by decide))

/-! ### PWR_CEIL -/

/-- PWR_CEIL stores no value below 0x80. -/
theorem adjust_pwrCeil (v : Word) : adjust 0x113 v = if v.toNat < 0x80 then 0x80 else v := by
  have hfld : fld v 0 20 = v.toNat := by
    have := v.isLt
    simp only [fld, bitsOf]
    omega
  have hset : setFld v 0 20 0x80 = 0x80 := by
    rw [setFld, hfld, Nat.pow_zero, Nat.mul_one, Nat.sub_self]
    rfl
  show raiseField v 0 20 0x80 = _
  rw [raiseField, hfld, hset]

/-- WAKE_CTRL and WAKE_LEFT together. -/
theorem wakeCtrl_written {s : State} (x : Word) (hw : Registers.wf s = true) :
    let t := setReg (setReg s 0x196 x) 0x197 x
    getReg t 0x196 = x ∧ getReg t 0x197 = x ∧ sameRegsBut [0x196, 0x197] s t ∧ sameBut [.regs] s t := by
  refine ⟨?_, getReg_setReg _ _ (setReg_rwf _ _ hw), fun n hn => ?_, ?_⟩
  · rw [getReg_setReg_other _ _ _ _ (by decide), getReg_setReg _ _ hw]
  · obtain ⟨h6, h7⟩ : n ≠ 0x196 ∧ n ≠ 0x197 := by simpa using hn
    rw [getReg_setReg_other _ _ _ _ h7, getReg_setReg_other _ _ _ _ h6]
  · exact sameBut_trans (setReg_frame_core rfl s x) (setReg_frame_core rfl _ x)

/-- Settles O16, setting by setting. -/
theorem storedSettings : Obligations.StoredSettings := by
  intro p v on s h hw
  refine ⟨fun hu => ?_, ?_, ?_, ?_, ?_, ?_, ?_⟩
  · exact ⟨_, congrArg Host.Outcome.next (portWrite_freeze h p _), freeze_effect on hu (bitAt_freeze _ _ on)⟩
  · obtain ⟨h6, h7, hregs, hframe⟩ := wakeCtrl_written
      (merged { lo := 0x196, hi := 0x196, rw := 0xFFFF } 0x196 (getReg s 0x196) v) hw
    refine ⟨_, congrArg Host.Outcome.next (portWrite_of_row (n := 0x196) rfl (by decide) (by decide) (by decide) h p v),
      h6.trans (merged_of_plain rfl _ _ _), h7.trans h6.symm, hregs, hframe⟩
  · exact ⟨_, congrArg Host.Outcome.next (portWrite_up h p 0x705 v), congrArg Port.cursor (portOf_putPort_self s p _),
      congrArg Port.look (portOf_putPort_self s p _), sameBut_putPort s p _⟩
  · obtain ⟨hreg, hlow, hregs, hframe⟩ := lowRes_written
      (merged { lo := 0x10A, hi := 0x10A, rw := 0x1F0, sn := 0x1, reset := 0x40 } 0x10A (getReg s 0x10A) v) hw
    exact ⟨_, congrArg Host.Outcome.next (portWrite_of_row (n := 0x10A) rfl (by decide) (by decide) (by decide) h p v),
      hreg.trans (merged_of_plain rfl _ _ _), hlow, hregs, hframe⟩
  · obtain ⟨hreg, hregs, hframe⟩ := portWrite_plain (n := 0x113) rfl (by decide) (by decide) (by decide) rfl h hw p v
      fun _ _ _ => rfl
    exact ⟨_, rfl, hreg.trans ((merged_of_whole rfl rfl _ _ _).trans (adjust_pwrCeil v)), hregs, hframe⟩
  · obtain ⟨hreg, hregs, hframe⟩ := portWrite_plain (n := 0x108) rfl (by decide) (by decide) (by decide) rfl h hw p v
      fun _ _ _ => rfl
    exact ⟨_, rfl, hreg.trans (merged_of_plain rfl _ _ _), hregs, hframe⟩
  · obtain ⟨hreg, hregs, hframe⟩ := portWrite_plain (n := 0x300) rfl (by decide) (by decide) (by decide) rfl h hw p v
      fun _ _ _ => rfl
    exact ⟨_, rfl, hreg.trans (merged_of_plain rfl _ _ _), hregs, hframe⟩

end Sys2Proof.Machine

/-!
TAMP_CFG and the registers of the sealed set (13 R302, R304, R307; O17).
-/

namespace Sys2Proof.Machine

/-- Events delivered alike in states of the same sequencer and events. -/
theorem deliver_bureau_congr {s t : State} (hs : t.seq = s.seq) (hb : t.bureau = s.bureau) (e : BEvent) :
    (deliver t e).bureau = (deliver s e).bureau := by
  unfold deliver
  rw [hs]
  split
  · exact hb
  · simp only [hb]

/-! ### Tamper masks -/

/-- The state with a tamper mask stored and its shadow written. -/
def maskStored (s : State) (n : Nat) (w : Word) : State := syncShadow (setReg s n w) n

theorem syncShadow_aon (s : State) (n : Nat) : ∃ q, (syncShadow s n).aon = { s.aon with regShadow := q } := by
  unfold syncShadow
  split
  · exact ⟨_, rfl⟩
  · exact ⟨s.aon.regShadow, rfl⟩

theorem syncShadow_frame (s : State) (n : Nat) : sameBut [.aon] s (syncShadow s n) := by
  unfold syncShadow
  split
  · exact sameBut_aon s _
  · exact sameBut_refl _ s

@[simp] theorem getReg_syncShadow (s : State) (n m : Nat) : getReg (syncShadow s n) m = getReg s m := by
  unfold syncShadow
  split <;> rfl

theorem maskStored_frame (s : State) (n : Nat) (w : Word) : sameBut [.regs, .aon] s (maskStored s n w) :=
  sameBut_trans (setReg_frame s n w) (sameBut_mono (syncShadow_frame _ n) (by decide))

/-- The evidence queue and the log stand while a mask is stored. -/
theorem maskStored_log (s : State) (n : Nat) (w : Word) :
    (maskStored s n w).aon.evQueue = s.aon.evQueue ∧ (maskStored s n w).aon.logClosed = s.aon.logClosed := by
  obtain ⟨q, hq⟩ := syncShadow_aon (setReg s n w) n
  obtain ⟨r, hr⟩ := setReg_aonRegs s n w
  rw [maskStored, hq, hr]
  exact ⟨rfl, rfl⟩

theorem getReg_maskStored {s : State} (n : Nat) (w : Word) (h : Registers.wf s = true) :
    getReg (maskStored s n w) n = w := by
  rw [maskStored, getReg_syncShadow, getReg_setReg n w h]

/-- A write of a tamper mask is the storing of the mask, and its event. -/
theorem writeEffect_mask {n : Nat} (hn : n = 0x780 ∨ n = 0x781) (s : State) (p : PortId) (v old new : Word) :
    writeEffect s p n v old new = tampCfgEvent (syncShadow s n) (portCode p) n old new := by
  unfold writeEffect
  iterate 11 rw [if_neg (by omega)]
  rw [if_pos hn]

/-- The code of the event of a mask. -/
def maskCode (n : Nat) : Nat := if n = 0x780 then 0x192 else 0x193

/-- A write that only sets bits makes no event; one that clears one makes an event and an entry. -/
theorem tampCfgEvent_sets {old new : Word} (h : old &&& ~~~new = 0) (s : State) (p n : Nat) :
    tampCfgEvent s p n old new = s := if_pos h

theorem tampCfgEvent_clears {old new : Word} (h : old &&& ~~~new ≠ 0) (s : State) (p n : Nat) :
    tampCfgEvent s p n old new =
      queueEvidence (deliver s (bEvent (maskCode n) 2 old.toNat new.toNat p))
        (evidEntry s (maskCode n) 2 new.toNat false) := if_neg h

/-- A mask written: its value, its frame, and its event where it lost a bit. -/
theorem mask_written {s : State} {n : Nat} (hn : n = 0x780 ∨ n = 0x781) (old new : Word) (p : Nat)
    (hw : Registers.wf s = true) :
    let t := tampCfgEvent (maskStored s n new) p n old new
    getReg t n = new ∧ sameBut [.regs, .aon, .bureau, .evid] s t ∧
      (old &&& ~~~new = 0 → t.bureau = s.bureau ∧ t.aon.evQueue = s.aon.evQueue) ∧
      (old &&& ~~~new ≠ 0 → s.evid.full = false → s.aon.logClosed = false → s.aon.evQueue.length < 8 →
        t.bureau = (deliver s (bEvent (maskCode n) 2 old.toNat new.toNat p)).bureau ∧
        t.aon.evQueue.length = s.aon.evQueue.length + 1) := by
  have hreg := getReg_maskStored n new hw
  have hframe := maskStored_frame s n new
  obtain ⟨hqueue, hclosed⟩ := maskStored_log s n new
  by_cases hc : old &&& ~~~new = 0
  · rw [tampCfgEvent_sets hc]
    exact ⟨hreg, sameBut_mono hframe (by decide), fun _ => ⟨hframe .bureau (by decide), hqueue⟩, fun h => absurd hc h⟩
  · rw [tampCfgEvent_clears hc]
    refine ⟨?_, ?_, fun h => absurd h hc, fun _ hf hl h8 => ?_⟩
    · rw [getReg_queueEvidence _ _ (by omega) (by simp only [srcEvidence]; omega), getReg_deliver, hreg]
    · exact sameBut_trans (sameBut_mono hframe (by decide))
        (sameBut_trans (sameBut_mono (deliver_frame _ _) (by decide)) (queueEvidence_frame _ _))
    · have hevid : (maskStored s n new).evid = s.evid := hframe .evid (by decide)
      have htakes : evidTakes (deliver (maskStored s n new) (bEvent (maskCode n) 2 old.toNat new.toNat p)) = true := by
        simp [evidTakes, hevid, hf, hclosed, hl, hqueue, h8]
      rw [queueEvidence_of_takes _ htakes]
      exact ⟨deliver_bureau_congr (hframe .seq (by decide)) (hframe .bureau (by decide)) _, by simp [hqueue]⟩

/-! ### The sealed set -/

/-- The registers of the sealed set have a row, and stand in two banks. -/
theorem sealedSet_rows : ∀ n ∈ sealedSet, (regRow n).isSome = true ∧
    ((0x280 ≤ n ∧ n < 0x2C0) ∨ (0x4C0 ≤ n ∧ n < 0x4D0)) := by decide +kernel

/-- A write of one is a change of the sealed set, and nothing else. -/
theorem writeEffect_sealed {n : Nat} (hn : sealedSet.contains n = true) (s : State) (p : PortId) (v old new : Word) :
    writeEffect s p n v old new = sealedChange s (portCode p) n old new := by
  obtain ⟨-, hbank⟩ := sealedSet_rows n (by simpa using hn)
  unfold writeEffect
  iterate 14 rw [if_neg (by omega)]
  rw [if_pos hn]

/-- The shadow of the sealed set written changes the evidence component alone, SEAL_STATE apart. -/
theorem syncSealed_eq (s : State) (n : Nat) : ∃ q, syncSealed s n = { s with evid := { s.evid with shadow := q } } := by
  unfold syncSealed
  split
  · exact ⟨_, rfl⟩
  · exact ⟨s.evid.shadow, rfl⟩

/-- A seal that breaks: SEAL_STATE, an event and an entry. -/
theorem breakSeal_frame (s : State) (n p : Nat) : sameBut [.regs, .aon, .bureau, .evid] s (breakSeal s n p) :=
  sameBut_trans (sameBut_mono (sameBut_evid s _) (by decide))
    (sameBut_trans (sameBut_mono (deliver_frame (setSeal s 2) _) (by decide)) (queueEvidence_frame _ _))

theorem loseEvidence_sealSt (s : State) (k : Nat) : (loseEvidence s k).evid.sealSt = s.evid.sealSt := by
  unfold loseEvidence
  dsimp only
  split <;> simp

/-- An entry queued or lost leaves SEAL_STATE. -/
theorem queueEvidence_sealSt (s : State) (e : List Byte) : (queueEvidence s e).evid.sealSt = s.evid.sealSt := by
  unfold queueEvidence
  split
  · exact loseEvidence_sealSt s 1
  · rfl

theorem breakSeal_sealSt (s : State) (n p : Nat) : (breakSeal s n p).evid.sealSt = 2 := by
  rw [breakSeal, queueEvidence_sealSt, deliver_evid]
  rfl

theorem getReg_breakSeal (s : State) (n p : Nat) {m : Nat} (h1 : m ≠ 0x7A3) (h2 : m ≠ 3) :
    getReg (breakSeal s n p) m = getReg s m := by
  rw [breakSeal, getReg_queueEvidence _ _ h1 (by simpa [srcEvidence] using h2), getReg_deliver]
  rfl

/-- What a change of the sealed set does: the value stands, and the seal breaks where it was whole and the value new. -/
theorem sealedChange_effect (s : State) (p n : Nat) (old new : Word) :
    let t := sealedChange s p n old new
    (∀ m, m ≠ 0x7A3 → m ≠ 3 → getReg t m = getReg s m) ∧
      t.evid.sealSt = (if old ≠ new ∧ (s.evid.sealSt = 1 ∨ s.evid.sealSt = 3) then 2 else s.evid.sealSt) ∧
      sameBut [.regs, .aon, .bureau, .evid] s t := by
  obtain ⟨q, hq⟩ := syncSealed_eq s n
  have hchange : sealedChange s p n old new =
      let u : State := { s with evid := { s.evid with shadow := q } }
      if old ≠ new ∧ (s.evid.sealSt = 1 ∨ s.evid.sealSt = 3) then breakSeal u n p else u := by
    rw [sealedChange, hq]
  have hu : sameBut [.regs, .aon, .bureau, .evid] s { s with evid := { s.evid with shadow := q } } :=
    sameBut_mono (sameBut_evid s _) (by decide)
  rw [hchange]
  dsimp only
  split
  · exact ⟨fun m h1 h2 => getReg_breakSeal _ n p h1 h2, breakSeal_sealSt _ n p, sameBut_trans hu (breakSeal_frame _ n p)⟩
  · exact ⟨fun m _ _ => rfl, rfl, hu⟩

/-- The rows of TAMP_EN and TAMP_ARM. -/
theorem regRow_tamp : regRow 0x780 = some { lo := 0x780, hi := 0x780, rw := 0x7F, reset := 0x7F, ret := true } ∧
    regRow 0x781 = some { lo := 0x781, hi := 0x781, rw := 0x7F, ret := true } := by
  constructor <;> simp [regRow, regRows, rowsSystem, rowsStreams, rowsLine, rowsMemory, findRow]

/-- Settles O17: both masks by one lemma, the sealed set by its change. -/
theorem guardedSettings : Obligations.GuardedSettings := by
  intro p arming v k s h hw
  refine ⟨?_, fun hk => ?_⟩
  · cases arming with
    | false =>
      have hm : merged { lo := 0x780, hi := 0x780, rw := 0x7F, reset := 0x7F, ret := true } 0x780 (getReg s 0x780) v =
        (getReg s 0x780 &&& ~~~(0x7F : Word)) ||| (v &&& 0x7F) := merged_of_plain rfl _ _ _
      have hwrite := portWrite_of_row (n := 0x780) (regRow_tamp.1) (by decide) (by decide) (by decide) h p v
      rw [hm, writeEffect_mask (by decide)] at hwrite
      have hmask := mask_written (n := 0x780) (.inl rfl) (getReg s 0x780)
        ((getReg s 0x780 &&& ~~~(0x7F : Word)) ||| (v &&& 0x7F)) (portCode p) hw
      rw [show maskCode 0x780 = 0x192 from rfl] at hmask
      exact ⟨_, congrArg Host.Outcome.next hwrite, hmask⟩
    | true =>
      have hm : merged { lo := 0x781, hi := 0x781, rw := 0x7F, ret := true } 0x781 (getReg s 0x781) v =
        (getReg s 0x781 &&& ~~~(0x7F : Word)) ||| (v &&& 0x7F) := merged_of_plain rfl _ _ _
      have hwrite := portWrite_of_row (n := 0x781) (regRow_tamp.2) (by decide) (by decide) (by decide) h p v
      rw [hm, writeEffect_mask (by decide)] at hwrite
      have hmask := mask_written (n := 0x781) (.inr rfl) (getReg s 0x781)
        ((getReg s 0x781 &&& ~~~(0x7F : Word)) ||| (v &&& 0x7F)) (portCode p) hw
      rw [show maskCode 0x781 = 0x193 from rfl] at hmask
      exact ⟨_, congrArg Host.Outcome.next hwrite, hmask⟩
  · obtain ⟨hrow, hbank⟩ := sealedSet_rows k.toNat (by simpa using hk)
    obtain ⟨r, hr⟩ := Option.isSome_iff_exists.mp hrow
    have hwrite := portWrite_of_row hr (by omega) (by omega) (by omega) h p v
    rw [writeEffect_sealed hk] at hwrite
    obtain ⟨hregs, hseal, hframe⟩ := sealedChange_effect
      (setReg s k.toNat (merged r k.toNat (getReg s k.toNat) v)) (portCode p) k.toNat (getReg s k.toNat)
      (merged r k.toNat (getReg s k.toNat) v)
    rw [← hwrite] at hregs hseal hframe
    have hread : getReg (portWrite s p k.toNat v) k.toNat = merged r k.toNat (getReg s k.toNat) v := by
      rw [hregs _ (by omega) (by omega), getReg_setReg _ _ hw]
    refine ⟨portWrite s p k.toNat v, r, hr, congrArg Host.Outcome.next (if_pos hk), hread, ?_,
      sameBut_trans (sameBut_mono (setReg_frame s _ _) (by decide)) hframe⟩
    rw [hseal, hread, setReg_evid]
    simp only [ne_comm]

end Sys2Proof.Machine

/-!
Packets of the host and the maintenance port: the checks of 04 R82 in their order (04 R96 to R101; O19, O20).
-/

namespace Sys2Proof.Machine

/-! ### The steps of R82 -/

/-- The ports at work, nothing starts. -/
theorem starting_of_portsUp {s : State} (h : portsUp s = true) : starting s = false := by
  simp only [portsUp, running, starting] at *
  cases hq : s.seq.st <;> simp_all

/-- Step 3: in COLD and LOAD a packet has its BUSY reply. -/
theorem takePacket_starting {s : State} (h : starting s = true) (p : PortId) (way : Option From) (k : Packet) (cyc : Nat) :
    takePacket s p way k cyc = replyNow s p way k.tag stBusy cyc 8 := if_pos h

/-- In the other states the checks go on. -/
theorem takePacket_up {s : State} (h : portsUp s = true) (p : PortId) (way : Option From) (k : Packet) (cyc : Nat) :
    takePacket s p way k cyc = checkPacket (passedCrc s p) p way k cyc := by
  rw [takePacket, starting_of_portsUp h, h]
  rfl

/-- Step 4: reserved flags, an opcode not assigned, a MAC flag not allowed. -/
def opcodeBad (k : Packet) : Bool :=
  decide (bitsOf k.flags.toNat 0 4 ≠ 0) || !assignedOpc k.opc.toNat || (macFlag k.flags && !macAllowed k.opc.toNat)

theorem opcodeBad_iff (k : Packet) : (bitsOf k.flags.toNat 0 4 ≠ 0 ∨ assignedOpc k.opc.toNat = false ∨
    (macFlag k.flags = true ∧ macAllowed k.opc.toNat = false)) ↔ opcodeBad k = true := by
  simp [opcodeBad, or_assoc]

theorem checkPacket_badOpc {k : Packet} (h : opcodeBad k = true) (s : State) (p : PortId) (way : Option From) (cyc : Nat) :
    checkPacket s p way k cyc = replyNow s p way k.tag stBadOpc cyc 8 := if_pos ((opcodeBad_iff k).mpr h)

/-- Step 5: parameters out of range. -/
theorem checkPacket_badLen {k : Packet} {s : State} {p : PortId} (h : opcodeBad k = false) (ha : packetAct s p k 0 = none)
    (way : Option From) (cyc : Nat) : checkPacket s p way k cyc = replyNow s p way k.tag stBadLen cyc 8 := by
  rw [checkPacket, if_neg (by rw [opcodeBad_iff, h]; decide), if_pos (by rw [ha]; rfl)]

/-- A packet that passes steps 4 and 5 goes its way. -/
theorem checkPacket_routes {k : Packet} {s : State} {p : PortId} (h : opcodeBad k = false)
    (ha : (packetAct s p k 0).isSome = true) (way : Option From) (cyc : Nat) :
    checkPacket s p way k cyc = routePacket s p way k cyc := by
  have hn : ¬((packetAct s p k 0).isNone = true) := by simpa [Option.isSome_iff_ne_none] using ha
  rw [checkPacket, if_neg (by rw [opcodeBad_iff, h]; decide), if_neg hn]

/-- What a packet that passes steps 3 to 6 says of itself. -/
theorem checksPass_parts {s : State} {p : PortId} {k : Packet} (h : checksPass s p k = true) :
    portsUp s = true ∧ opcodeBad k = false ∧ (packetAct s p k 0).isSome = true ∧
      BitVec.ofNat 2 (bitsOf k.flags.toNat 4 2) = ownPos s := by
  simp only [checksPass, Bool.and_eq_true, decide_eq_true_eq] at h
  obtain ⟨⟨⟨⟨⟨hup, hflags⟩, hopc⟩, hmac⟩, hact⟩, hpos⟩ := h
  refine ⟨hup, ?_, hact, hpos⟩
  rw [opcodeBad, decide_eq_false (by simpa using hflags), hopc]
  cases hm : macFlag k.flags <;> simp_all

/-! ### Step 7 -/

/-- The state in which a packet is authenticated: a nonce 60 s old is stale. -/
theorem staleNonce_eq (s : State) (p : PortId) : staleNonce s p = s ∨
    staleNonce s p = putPort s p { portOf s p with nonce := none } := by
  unfold staleNonce
  split
  · split
    · exact .inr rfl
    · exact .inl rfl
  · exact .inl rfl

theorem staleNonce_frame (s : State) (p : PortId) : sameBut [.ports] s (staleNonce s p) := by
  rcases staleNonce_eq s p with h | h <;> rw [h]
  · exact sameBut_refl _ s
  · exact sameBut_putPort s p _

/-- The keys stand, so the slot asked for does. -/
theorem authSlot_congr {s t : State} (h : t.aon = s.aon) (k : Packet) : authSlot t k = authSlot s k := by
  unfold authSlot keySlot
  rw [h]

/-- The entry of a packet that waits for its landing. -/
def waitingEntry (s : State) (p : PortId) (k : Packet) (cyc : Nat) : Exec :=
  { pkt := k, cyc := cyc, wait := 1, denied := none, auth := false
    nonce := ((portOf (staleNonce s p) p).nonce.map (·.value)).getD 0 }

/-- The entry of an authenticated packet. -/
def authEntry (s : State) (p : PortId) (k : Packet) (cyc : Nat) (slot : Bool) : Exec :=
  { waitingEntry s p k cyc with
    wait := 2, auth := true, denied := authCheck (staleNonce s p) p k slot (portOf (staleNonce s p) p).nonce }

/-- A packet for this part that asks for no authentication waits for its landing. -/
theorem routePacket_plain {s : State} {p : PortId} {way : Option From} {k : Packet}
    (hw : way.isNone = true → BitVec.ofNat 2 (bitsOf k.flags.toNat 4 2) = ownPos s) (ha : authSlot s k = none) (cyc : Nat) :
    routePacket s p way k cyc = holdPacket (staleNonce s p) p way (waitingEntry s p k cyc) := by
  have hhere : ¬((way.isNone && decide (BitVec.ofNat 2 (bitsOf k.flags.toNat 4 2) ≠ ownPos s)) = true) := by
    cases hn : way.isNone
    · simp
    · simp [hw hn]
  have hslot : authSlot (staleNonce s p) k = none := by rw [authSlot_congr (staleNonce_frame s p .aon (by decide)), ha]
  rw [routePacket]
  dsimp only
  rw [if_neg hhere, hslot]
  rfl

/-- One that asks for it waits a tick more, its nonce used up. -/
theorem routePacket_auth {s : State} {p : PortId} {k : Packet} {slot : Bool}
    (hp : BitVec.ofNat 2 (bitsOf k.flags.toNat 4 2) = ownPos s) (ha : authSlot s k = some slot) (cyc : Nat) :
    routePacket s p none k cyc =
      holdPacket (putPort (staleNonce s p) p { portOf (staleNonce s p) p with nonce := none }) p none
        (authEntry s p k cyc slot) := by
  have hslot : authSlot (staleNonce s p) k = some slot := by
    rw [authSlot_congr (staleNonce_frame s p .aon (by decide)), ha]
  rw [routePacket]
  dsimp only
  rw [if_neg (by simp [hp]), hslot]
  rfl

/-- One for another position is forwarded. -/
theorem routePacket_forwards {s : State} {p : PortId} {k : Packet}
    (hp : BitVec.ofNat 2 (bitsOf k.flags.toNat 4 2) ≠ ownPos s) (cyc : Nat) :
    routePacket s p none k cyc = forwardPacket s p k (BitVec.ofNat 2 (bitsOf k.flags.toNat 4 2)) cyc :=
  if_pos (by simp [hp])

theorem portsUp_congr {s t : State} (h : t.seq = s.seq) : portsUp t = portsUp s := by
  unfold portsUp running
  rw [h]

/-- Step 2 leaves the sequencer alone. -/
theorem passedCrc_seq (s : State) (p : PortId) : (passedCrc s p).seq = s.seq := by
  cases p
  · rfl
  · exact raise_seq _ _
  · rfl

/-- A packet that passes every check and asks for no authentication waits for its landing. -/
theorem takePacket_waits {s : State} {p : PortId} {k : Packet} (h : checksPass (passedCrc s p) p k = true)
    (ha : authSlot (passedCrc s p) k = none) (cyc : Nat) :
    takePacket s p none k cyc =
      holdPacket (staleNonce (passedCrc s p) p) p none (waitingEntry (passedCrc s p) p k cyc) := by
  obtain ⟨hup, ho, hact, hown⟩ := checksPass_parts h
  rw [takePacket_up (by rw [← hup, portsUp_congr (passedCrc_seq s p)]), checkPacket_routes ho hact,
    routePacket_plain (fun _ => hown) ha]

/-- An authenticated one waits a tick more, its nonce used up. -/
theorem takePacket_auth {s : State} {p : PortId} {k : Packet} {slot : Bool} (h : checksPass (passedCrc s p) p k = true)
    (ha : authSlot (passedCrc s p) k = some slot) (cyc : Nat) :
    takePacket s p none k cyc =
      holdPacket (putPort (staleNonce (passedCrc s p) p) p { portOf (staleNonce (passedCrc s p) p) p with nonce := none })
        p none (authEntry (passedCrc s p) p k cyc slot) := by
  obtain ⟨hup, ho, hact, hown⟩ := checksPass_parts h
  rw [takePacket_up (by rw [← hup, portsUp_congr (passedCrc_seq s p)]), checkPacket_routes ho hact,
    routePacket_auth hown ha]

/-- The port that holds a packet. -/
theorem portOf_holdPacket (s : State) (p : PortId) (e : Exec) :
    portOf (holdPacket s p none e) p = { portOf s p with exec := some e } := portOf_putPort_self s p _

theorem holdPacket_frame (s : State) (p : PortId) (way : Option From) (e : Exec) :
    sameBut [.ports] s (holdPacket s p way e) := by
  cases way
  · exact sameBut_putPort s p _
  · exact sameBut_ports s _

/-! ### The host port -/

/-- A whole packet, taken apart. -/
theorem wholePacket_parts {b : List Byte} (h : wholePacket b = true) :
    4 ≤ b.length ∧ lenOf b ≤ 80 ∧ packetLen (lenOf b) (nth b 3 0) ≤ b.length ∧ crcPasses b = true := by
  simpa [wholePacket, and_assoc] using h

section
variable {s : State} {b : List Byte}

/-- The bytes of a host packet that comes to a free port. -/
theorem hostPacket_free {cyc : Nat} (hl : portsListen (portsBy s cyc) = true)
    (hx : portExec (portsBy s cyc) .host = false) (hb : 4 ≤ b.length) :
    hostPacketOp s cyc b =
      let u := portsBy s cyc
      if lenOf b > 80 then answerAt u .host (nth b 1 0) false stBadLen [] cyc 8
      else if b.length < packetLen (lenOf b) (nth b 3 0) then portLost u .host
      else if !crcPasses b then answerAt u .host (nth b 1 0) false stBadCrc [] cyc 8
      else takePacket u .host none (parsePacket b) cyc := by
  have hshort : ¬(b.length < 4) := by omega
  simp [hostPacketOp, hl, hx, hshort]

/-- A whole packet is taken. -/
theorem hostPacket_whole {cyc : Nat} (hl : portsListen (portsBy s cyc) = true)
    (hx : portExec (portsBy s cyc) .host = false) (hb : wholePacket b = true) :
    hostPacketOp s cyc b = takePacket (portsBy s cyc) .host none (parsePacket b) cyc := by
  obtain ⟨h4, h80, hlen, hcrc⟩ := wholePacket_parts hb
  rw [hostPacket_free hl hx h4]
  dsimp only
  rw [if_neg (by omega), if_neg (by omega), hcrc]
  rfl

end

/-- What step 2 leaves of the host's port: its reply discarded. -/
theorem passedCrc_host_frame (s : State) : sameBut [.ports] s (passedCrc s .host) := sameBut_putPort s .host _

/-- The reply stays discarded while a nonce becomes stale. -/
theorem staleNonce_reply (s : State) (p : PortId) : (portOf (staleNonce s p) p).reply = (portOf s p).reply := by
  rcases staleNonce_eq s p with h | h <;> rw [h]
  rw [portOf_putPort_self]

/-- Settles O19, check by check. -/
theorem hostPacketsAreChecked : Obligations.HostPacketsAreChecked := by
  intro cyc b s u r k pos opcBad hl
  have hframe : sameBut [.ports] u r := passedCrc_host_frame u
  have hpos : ownPos r = ownPos u := ownPos_congr (hframe .chain (by decide))
  refine ⟨fun hb => ?_, fun hx h4 => ⟨fun h80 => ?_, fun h80 hlen => ?_, fun h80 hlen hcrc => ?_, fun hb hs => ?_,
    fun hb hup => ⟨fun ho => ?_, fun ho ha => ?_, fun ho ha hp => ?_⟩, fun hb hc => ⟨fun ha => ?_, fun slot ha => ?_⟩⟩⟩
  · refine congrArg Host.Outcome.next ?_
    rw [hostPacketOp, if_neg (by rw [hl]; decide)]
    exact if_pos (by simpa using hb)
  · exact congrArg Host.Outcome.next ((hostPacket_free hl hx h4).trans (if_pos h80))
  · exact congrArg Host.Outcome.next ((hostPacket_free hl hx h4).trans ((if_neg (by omega)).trans (if_pos hlen)))
  · refine congrArg Host.Outcome.next ((hostPacket_free hl hx h4).trans ((if_neg (by omega)).trans
      ((if_neg (by omega)).trans (if_pos ?_))))
    simp [hcrc]
  · exact congrArg Host.Outcome.next ((hostPacket_whole hl hx hb).trans (takePacket_starting hs _ _ _ _))
  · exact congrArg Host.Outcome.next ((hostPacket_whole hl hx hb).trans ((takePacket_up hup _ _ _ _).trans
      (checkPacket_badOpc ho _ _ _ _)))
  · exact congrArg Host.Outcome.next ((hostPacket_whole hl hx hb).trans ((takePacket_up hup _ _ _ _).trans
      (checkPacket_badLen ho ha _ _)))
  · exact congrArg Host.Outcome.next ((hostPacket_whole hl hx hb).trans ((takePacket_up hup _ _ _ _).trans
      ((checkPacket_routes ho ha _ _).trans (routePacket_forwards (by rw [hpos]; exact hp) _))))
  · refine ⟨_, waitingEntry r .host k cyc, congrArg Host.Outcome.next ((hostPacket_whole hl hx hb).trans
      (takePacket_waits hc ha cyc)), ?_, rfl, rfl, rfl, rfl, ?_, ?_⟩
    · rw [portOf_holdPacket]
    · rw [portOf_holdPacket, staleNonce_reply]
      rfl
    · exact sameBut_trans hframe (sameBut_trans (staleNonce_frame r .host) (holdPacket_frame _ _ _ _))
  · refine ⟨_, authEntry r .host k cyc slot, congrArg Host.Outcome.next ((hostPacket_whole hl hx hb).trans
      (takePacket_auth hc ha cyc)), ?_, rfl, rfl, rfl, rfl, rfl, ?_, ?_, ?_⟩
    · rw [portOf_holdPacket]
    · rw [portOf_holdPacket, portOf_putPort_self]
    · rw [portOf_holdPacket, portOf_putPort_self]
      exact (staleNonce_reply r .host).trans rfl
    · exact sameBut_trans hframe (sameBut_trans (staleNonce_frame r .host) (sameBut_trans (sameBut_putPort _ _ _)
        (holdPacket_frame _ _ _ _)))

end Sys2Proof.Machine

/-!
Frames of the maintenance port (04 R99 to R101; O20).
-/

namespace Sys2Proof.Machine

/-! ### What a frame brings to the checks -/

section
variable {s : State} {cyc : Nat} {wire : List Byte} {bad : Bool}

/-- A frame received, that is not empty. -/
theorem maintFrame_received (hm : mrxOn (portsBy s cyc) = true) (hw : wire ≠ []) :
    maintFrameOp s cyc wire bad =
      let u := portsBy s cyc
      let b := unescape wire
      if bad || decide (b.length > 254) || portExec u .maint then portLost u .maint
      else
        let t := delimiterAt u cyc
        if b.length < 4 ∨ lenOf b > 80 ∨ b.length ≠ packetLen (lenOf b) (nth b 3 0) then
          answerAt t .maint (nth b 1 0) false stBadLen [] cyc 8
        else if !crcPasses b then answerAt t .maint (nth b 1 0) false stBadCrc [] cyc 8
        else takePacket t .maint none (parsePacket b) cyc := by
  have hne : wire.isEmpty = false := by simpa using hw
  simp only [maintFrameOp, hm, hne, Bool.not_true, Bool.or_false, Bool.false_eq_true, if_false]

/-- One without a fault of the line, to a free port. -/
theorem maintFrame_free (hm : mrxOn (portsBy s cyc) = true) (hw : wire ≠ []) (hb : bad = false)
    (hl : (unescape wire).length ≤ 254) (hx : portExec (portsBy s cyc) .maint = false) :
    maintFrameOp s cyc wire bad =
      let b := unescape wire
      let t := delimiterAt (portsBy s cyc) cyc
      if b.length < 4 ∨ lenOf b > 80 ∨ b.length ≠ packetLen (lenOf b) (nth b 3 0) then
        answerAt t .maint (nth b 1 0) false stBadLen [] cyc 8
      else if !crcPasses b then answerAt t .maint (nth b 1 0) false stBadCrc [] cyc 8
      else takePacket t .maint none (parsePacket b) cyc := by
  have hnl : decide ((unescape wire).length > 254) = false := decide_eq_false (by omega)
  rw [maintFrame_received hm hw]
  simp only [hb, hnl, hx, Bool.or_false, Bool.false_eq_true, if_false]

/-- A whole frame is taken. -/
theorem maintFrame_whole (hm : mrxOn (portsBy s cyc) = true) (hw : wire ≠ []) (hb : bad = false)
    (hl : (unescape wire).length ≤ 254) (hx : portExec (portsBy s cyc) .maint = false)
    (hp : wholePacket (unescape wire) = true)
    (he : (unescape wire).length = packetLen (lenOf (unescape wire)) (nth (unescape wire) 3 0)) :
    maintFrameOp s cyc wire bad =
      takePacket (delimiterAt (portsBy s cyc) cyc) .maint none (parsePacket (unescape wire)) cyc := by
  obtain ⟨h4, h80, -, hcrc⟩ := wholePacket_parts hp
  rw [maintFrame_free hm hw hb hl hx]
  dsimp only
  rw [if_neg (by omega), hcrc]
  rfl

end

theorem starting_congr {s t : State} (h : t.seq = s.seq) : starting t = starting s := by
  unfold starting
  rw [h]

/-! ### Step 2 -/

/-- The ports after step 2 of a maintenance packet. -/
def crcPassedMaint (s : State) : State :=
  let t := putPort s .maint { s.ports.maint with reply := if s.ports.sending then s.ports.maint.reply else none }
  { t with ports := { t.ports with mtxReq := t.ports.mtxReq && (t.ports.sending || t.power.granted.getLsbD 9) } }

theorem passedCrc_maint (s : State) : passedCrc s .maint = raise (crcPassedMaint s) srcMaintRx := rfl

theorem passedCrc_maint_frame (s : State) : sameBut [.ports, .regs, .bureau] s (passedCrc s .maint) :=
  sameBut_trans (sameBut_mono (sameBut_trans (sameBut_putPort s .maint _) (sameBut_ports _ _)) (by decide))
    (sameBut_mono (raise_frame (crcPassedMaint s) (by decide)) (by decide))

/-- The time since the delimiter stands while a packet is taken. -/
theorem sinceDelim_putPort (s : State) (p : PortId) (q : Port) :
    (putPort s p q).ports.sinceDelim = s.ports.sinceDelim := by cases p <;> rfl

theorem sinceDelim_passedCrc (s : State) : (passedCrc s .maint).ports.sinceDelim = s.ports.sinceDelim := by
  rw [passedCrc_maint, raise_ports]
  rfl

theorem sinceDelim_staleNonce (s : State) (p : PortId) : (staleNonce s p).ports.sinceDelim = s.ports.sinceDelim := by
  rcases staleNonce_eq s p with h | h <;> rw [h]
  exact sinceDelim_putPort s p _

/-- A status bit reads the same where no register has changed. -/
theorem statusBit_congr {s t : State} (hr : t.regs = s.regs) (ha : t.aon = s.aon) (src : Nat) :
    statusBit t src = statusBit s src := by
  simp only [statusBit, getReg, hr, ha]

theorem staleNonce_regs (s : State) (p : PortId) : (staleNonce s p).regs = s.regs := by
  rcases staleNonce_eq s p with h | h <;> rw [h]
  cases p <;> rfl

/-- MAINT_RX after step 2. -/
theorem statusBit_maintRx {s : State} (hup : portsUp s = true) (h : Registers.wf s = true) :
    statusBit (passedCrc s .maint) srcMaintRx = true := by
  rw [passedCrc_maint]
  exact statusBit_raise_wf (by decide) (coreOn_of_portsUp hup) h

theorem delimiterAt_frame (s : State) (cyc : Nat) : sameBut [.ports] s (delimiterAt s cyc) := sameBut_ports s _

section
variable (s : State) (e : Exec)

/-- What the taking of a maintenance packet leaves: the time since the delimiter, MAINT_RX, and what it does not touch. -/
theorem held_sinceDelim : (holdPacket (staleNonce (passedCrc s .maint) .maint) .maint none e).ports.sinceDelim =
    s.ports.sinceDelim :=
  (sinceDelim_putPort _ _ _).trans ((sinceDelim_staleNonce _ .maint).trans (sinceDelim_passedCrc s))

variable {s} in
theorem held_maintRx (hup : portsUp s = true) (h : Registers.wf s = true) :
    statusBit (holdPacket (staleNonce (passedCrc s .maint) .maint) .maint none e) srcMaintRx = true :=
  (statusBit_congr (staleNonce_regs (passedCrc s .maint) .maint) (staleNonce_frame _ .maint .aon (by decide)) _).trans
    (statusBit_maintRx hup h)

theorem held_frame : sameBut [.ports, .regs, .aon, .bureau] s
    (holdPacket (staleNonce (passedCrc s .maint) .maint) .maint none e) :=
  sameBut_trans (sameBut_mono (passedCrc_maint_frame s) (by decide)) (sameBut_trans
    (sameBut_mono (staleNonce_frame _ .maint) (by decide)) (sameBut_mono (holdPacket_frame _ _ _ _) (by decide)))

end

/-- Settles O20, check by check. -/
theorem maintenanceFramesAreChecked : Obligations.MaintenanceFramesAreChecked := by
  intro cyc chars stops s u b stop d r k
  refine ⟨fun hm => ?_, fun hm hc => ⟨fun hlost => ?_, fun hs hb hx => ?_⟩, fun hm => ?_, fun hm => ?_⟩
  · exact congrArg Host.Outcome.next (if_pos (by rw [hm]; rfl))
  · have hw : chars.map uartByte ≠ [] := by simpa using hc
    refine congrArg Host.Outcome.next ((maintFrame_received hm hw).trans (if_pos ?_))
    rcases hlost with h | h | h
    · rw [show stops.any uartBadStop = true from h]
      rfl
    · rw [decide_eq_true (show (unescape (chars.map uartByte)).length > 254 from h)]
      simp
    · rw [show portExec (portsBy s cyc) .maint = true from h]
      simp
  · have hw : chars.map uartByte ≠ [] := by simpa using hc
    have hfree := maintFrame_free hm hw hs hb hx
    have hsince : ∀ e, (holdPacket (staleNonce r .maint) .maint none e).ports.sinceDelim =
        -((min cyc 6144 * cycleClock u : Nat) : Int) := held_sinceDelim d
    have hstart : starting u = true → starting d = true := (starting_congr (delimiterAt_frame u cyc .seq (by decide))).trans
    refine ⟨fun hbad => ?_, fun h4 h80 he hcrc => ?_, fun hp he hst => ?_, fun hp he hpass ha => ?_⟩
    · exact congrArg Host.Outcome.next (hfree.trans (if_pos hbad))
    · have hlen : ¬(b.length < 4 ∨ lenOf b > 80 ∨ b.length ≠ packetLen (lenOf b) (nth b 3 0)) := by omega
      exact congrArg Host.Outcome.next (hfree.trans ((if_neg hlen).trans (if_pos (by rw [hcrc]; rfl))))
    · exact congrArg Host.Outcome.next ((maintFrame_whole hm hw hs hb hx hp he).trans
        (takePacket_starting (hstart hst) _ _ _ _))
    · exact ⟨_, waitingEntry r .maint k cyc, congrArg Host.Outcome.next ((maintFrame_whole hm hw hs hb hx hp he).trans
        (takePacket_waits hpass ha cyc)), (congrArg Port.exec (portOf_holdPacket _ .maint _)), rfl, rfl, rfl, rfl,
        hsince _, fun hwf => held_maintRx _ ((portsUp_congr (passedCrc_seq d .maint)).symm.trans
          (checksPass_parts hpass).1) hwf, sameBut_trans (sameBut_mono (delimiterAt_frame u cyc) (by decide)) (held_frame d _)⟩
  · exact congrArg Host.Outcome.next (if_pos hm)
  · exact congrArg Host.Outcome.next (if_neg (by rw [hm]; decide))

end Sys2Proof.Machine

/-!
Replies that leave, refusals, nonces and the lock (04 R97, R101, R102, R105, R107; O21).
-/

namespace Sys2Proof.Machine

/-! ### Replies leave -/

theorem replyReadOp_eq (s : State) (n : Nat) : replyReadOp s n =
    match (replyReady s .host).ports.host.reply with
    | some r => if portsListen (replyReady s .host) && decide ((replyBytes r).length ≤ n) then
        putPort (replyReady s .host) .host { (replyReady s .host).ports.host with reply := none } else replyReady s .host
    | none => replyReady s .host := rfl

/-- A reply read to its end leaves its buffer. -/
theorem replyRead_whole {s : State} {n : Nat} {r : Reply} (hr : (replyReady s .host).ports.host.reply = some r)
    (hl : portsListen (replyReady s .host) = true) (hn : (replyBytes r).length ≤ n) :
    replyReadOp s n = putPort (replyReady s .host) .host { (replyReady s .host).ports.host with reply := none } := by
  rw [replyReadOp_eq, hr]
  exact if_pos (by simp [hl, hn])

/-- One that ends early leaves it there. -/
theorem replyRead_early {s : State} {n : Nat} {r : Reply} (hr : (replyReady s .host).ports.host.reply = some r)
    (hn : n < (replyBytes r).length) : replyReadOp s n = replyReady s .host := by
  rw [replyReadOp_eq, hr]
  exact if_neg (by simp [hn])

/-- The closing delimiter has left. -/
def replySent (s : State) : State :=
  { s with ports := { s.ports with
    maint := { s.ports.maint with reply := none }, sending := false, idleUnits := some (-(tickClock s : Int))
    deaf := msClock + tickClock s } }

theorem maintSent_eq {s : State} (h : s.ports.sending = true) : maintSentOp s = replySent s := if_pos h

/-- The request for the transmitter is withdrawn 500 ms after the last closing delimiter. -/
theorem mtxRelease_due {s : State} {k : Int} (h : s.ports.idleUnits = some k) (hd : 500 * (msClock : Int) ≤ k + tickClock s)
    (hr : s.ports.maint.reply = none) :
    mtxReleaseOp s = { s with ports := { s.ports with mtxReq := false, idleUnits := none } } := by
  simp [mtxReleaseOp, mtxRelease, h, hd, hr]

/-! ### Refusals -/

/-- The bit and, where it counts, the failure of a refusal. -/
def refusalNoted (s : State) (e : Exec) : State :=
  if e.denied = some true then authFailure (raise s srcAuthFail) else raise s srcAuthFail

theorem refuse_eq (s : State) (p : PortId) (way : Option From) (e : Exec) :
    refuse s p way e = replyNow (refusalNoted s e) p way e.pkt.tag stDenied e.cyc 0 := rfl

/-- A refusal of the host or the maintenance port that is due. -/
theorem deniedReply_port {s : State} {p : PortId} {e : Exec} (hup : portsUp s = true) (hp : p ≠ .chain)
    (he : (portOf s p).exec = some e) (hd : refusalDue e = true) :
    deniedReplyOp s p = refuse (putPort s p { portOf s p with exec := none }) p none e := by
  rw [deniedReplyOp, if_pos hup]
  cases p with
  | chain => exact absurd rfl hp
  | host => simp only [refuseWhen, he, hd, if_true]
  | maint => simp only [refuseWhen, he, hd, if_true]

/-- One of the CHAIN port, of the packet at the front of its queue. -/
theorem deniedReply_chain {s : State} {e : Exec} {w : From} {r : List (Exec × From)} (hup : portsUp s = true)
    (hq : s.ports.chainQ = (e, w) :: r) (hd : refusalDue e = true) :
    deniedReplyOp s .chain = refuse { s with ports := { s.ports with chainQ := r } } .chain (some w) e := by
  rw [deniedReplyOp, if_pos hup]
  simp only [refuseWhen, hq, takeFirst, hd, if_true]

/-! ### Nonces and the lock -/

theorem atOsc_frame (s : State) (now : Nat) : sameBut [.aon] s (atOsc s now) := sameBut_aon s _

theorem portOf_atOsc (s : State) (now : Nat) (p : PortId) : portOf (atOsc s now) p = portOf s p := by cases p <;> rfl

/-- A nonce 60 s old is stale. -/
theorem nonceStale_old {s : State} {p : PortId} {now : Nat} {n : NonceRec} (h : (portOf s p).nonce = some n)
    (hn : n.issued + 60 * 4096000 ≤ max s.aon.time (now * 125)) :
    nonceStaleOp s p now = putPort (atOsc s now) p { portOf (atOsc s now) p with nonce := none } := by
  rw [nonceStaleOp, staleNonce, portOf_atOsc, h]
  exact if_pos hn

theorem nonceStale_young {s : State} {p : PortId} {now : Nat} {n : NonceRec} (h : (portOf s p).nonce = some n)
    (hn : max s.aon.time (now * 125) < n.issued + 60 * 4096000) : nonceStaleOp s p now = atOsc s now := by
  rw [nonceStaleOp, staleNonce, portOf_atOsc, h]
  exact if_neg (Nat.not_le.mpr hn)

/-- The lock ends when its time has come. -/
theorem authLockEnd_due {s : State} {now t0 : Nat} (h : s.aon.lockUntil = some t0) (ht : t0 ≤ max s.aon.time (now * 125)) :
    authLockEndOp s now = syncFlags { atOsc s now with aon := { (atOsc s now).aon with lockUntil := none } } := by
  have hlock : (atOsc s now).aon.lockUntil = some t0 := h
  rw [authLockEndOp, lockEnd, hlock]
  exact if_pos ht

theorem authLockEnd_early {s : State} {now t0 : Nat} (h : s.aon.lockUntil = some t0)
    (ht : max s.aon.time (now * 125) < t0) : authLockEndOp s now = atOsc s now := by
  have hlock : (atOsc s now).aon.lockUntil = some t0 := h
  rw [authLockEndOp, lockEnd, hlock]
  exact if_neg (Nat.not_le.mpr ht)

/-- The flags set beside their shadows change PD0 alone. -/
theorem syncFlags_frame (s : State) : sameBut [.aon] s (syncFlags s) := sameBut_aon s _

/-- Settles O21, row by row. -/
theorem repliesLeaveAndNoncesEnd : Obligations.RepliesLeaveAndNoncesEnd := by
  refine ⟨fun n s => ⟨fun r hr hl hn => ?_, fun r hr hn => ?_, fun hm => ?_, fun hs => ?_, fun k hk hd hr => ?_⟩,
    fun p now s => ⟨fun e hup hp he hd => ?_, fun e w r hup hq hd => ?_, fun n hn => ⟨fun ho => ?_, fun ho => ?_⟩,
      fun t0 ht => ⟨fun ho => ?_, fun ho => ?_⟩⟩⟩
  · exact ⟨_, congrArg Host.Outcome.next (replyRead_whole hr hl hn), congrArg Port.reply (portOf_putPort_self _ .host _),
      sameBut_putPort _ _ _⟩
  · exact congrArg Host.Outcome.next (replyRead_early hr hn)
  · exact congrArg Host.Outcome.next (if_pos hm)
  · exact ⟨_, congrArg Host.Outcome.next (maintSent_eq hs), rfl, rfl, rfl, rfl, sameBut_ports s _⟩
  · exact congrArg Host.Outcome.next (mtxRelease_due hk hd hr)
  · exact congrArg Host.Outcome.next ((deniedReply_port hup hp he hd).trans (refuse_eq _ _ _ _))
  · exact congrArg Host.Outcome.next ((deniedReply_chain hup hq hd).trans (refuse_eq _ _ _ _))
  · refine ⟨_, congrArg Host.Outcome.next (nonceStale_old hn ho), congrArg Port.nonce (portOf_putPort_self _ p _), ?_⟩
    exact sameBut_trans (sameBut_mono (atOsc_frame s now) (by decide)) (sameBut_mono (sameBut_putPort _ _ _) (by decide))
  · exact congrArg Host.Outcome.next (nonceStale_young hn ho)
  · exact ⟨_, congrArg Host.Outcome.next (authLockEnd_due ht ho), rfl, rfl,
      sameBut_trans (atOsc_frame s now) (sameBut_trans (sameBut_aon _ _) (syncFlags_frame _))⟩
  · exact congrArg Host.Outcome.next (authLockEnd_early ht ho)

end Sys2Proof.Machine

/-!
Packet and reply frames along the chain (04 R93, R94; O22).
-/

namespace Sys2Proof.Machine

/-! ### A frame received -/

section
variable {s : State} {f : RxFrame} (h : receives s f.side = true)
include h

theorem frameOp_bad (hc : f.crcOk = false) (type : Nat) (other mine : State → State) :
    frameOp s type f other mine = frameBad s f.side := by
  simp [frameOp, h, hc]

theorem frameOp_passes (hc : f.crcOk = true) (hd : f.dest ≠ ownPos s) (hl : linkReady s (sideTo s f.dest) = true)
    (type : Nat) (other mine : State → State) : frameOp s type f other mine = passOn s type f (sideTo s f.dest) := by
  simp [frameOp, h, hc, hd, hl]

theorem frameOp_mine (hc : f.crcOk = true) (hd : f.dest = ownPos s) (type : Nat) (other mine : State → State) :
    frameOp s type f other mine = mine s := by
  simp [frameOp, h, hc, hd]

/-- The link a frame comes by is up. -/
theorem linkOf_of_receives : (linkOf s f.side).st = 2 := by
  simp only [receives, Bool.and_eq_true, decide_eq_true_eq] at h
  exact h.2

end

/-! ### Packets -/

/-- The reply frame that tells a packet's sender its status at once. -/
def statusFrame (s : State) (f : RxFrame) (st cyc : Nat) : TxFrame :=
  { side := f.side, type := 2, dest := f.src, src := ownPos s, ltag := f.ltag
    payload := replyBytes { tag := nth f.payload 1 0, status := st, fields := [], tick := s.seq.tick, cyc := cyc } }

theorem pktFrameOp_eq (s : State) (cyc : Nat) (f : RxFrame) :
    pktFrameOp s cyc f = frameOp s 1 f (fun t => sendFrame t (statusFrame t f stChainDown cyc)) (fun t =>
      if t.ports.chainQ.length ≥ 4 then sendFrame t (statusFrame t f stBusy cyc)
      else if f.payload.length < 4 ∨ lenOf f.payload > 80 ∨
          f.payload.length < packetLen (lenOf f.payload) (nth f.payload 3 0) then
        replyNow t .chain (some (f.side, f.src, f.ltag)) (nth f.payload 1 0) stBadLen cyc 8
      else takePacket t .chain (some (f.side, f.src, f.ltag)) (parsePacket f.payload) cyc) := rfl

/-- With four queued a packet is answered BUSY. -/
theorem pktFrame_full {s : State} {f : RxFrame} (h : receives s f.side = true) (hc : f.crcOk = true)
    (hd : f.dest = ownPos s) (hq : 4 ≤ s.ports.chainQ.length) (cyc : Nat) :
    pktFrameOp s cyc f = sendFrame s (statusFrame s f stBusy cyc) := by
  rw [pktFrameOp_eq, frameOp_mine h hc hd]
  exact if_pos hq

/-- A whole packet is taken where fewer are queued. -/
theorem pktFrame_taken {s : State} {f : RxFrame} (h : receives s f.side = true) (hc : f.crcOk = true)
    (hd : f.dest = ownPos s) (hq : s.ports.chainQ.length < 4) (hp : wholePacket f.payload = true) (cyc : Nat) :
    pktFrameOp s cyc f = takePacket s .chain (some (f.side, f.src, f.ltag)) (parsePacket f.payload) cyc := by
  obtain ⟨h4, h80, hlen, -⟩ := wholePacket_parts hp
  rw [pktFrameOp_eq, frameOp_mine h hc hd, if_neg (by omega), if_neg (by omega)]

/-- One that passes every check and asks for no authentication is queued. -/
theorem takePacket_queues {s : State} {k : Packet} (h : checksPass s .chain k = true) (ha : authSlot s k = none) (w : From)
    (cyc : Nat) : takePacket s .chain (some w) k cyc =
      holdPacket (staleNonce s .chain) .chain (some w) (waitingEntry s .chain k cyc) := by
  obtain ⟨hup, ho, hact, -⟩ := checksPass_parts h
  rw [takePacket_up hup]
  exact (checkPacket_routes ho hact _ _).trans (routePacket_plain (fun hn => by cases hn) ha cyc)

theorem staleNonce_chainQ (s : State) (p : PortId) : (staleNonce s p).ports.chainQ = s.ports.chainQ := by
  rcases staleNonce_eq s p with h | h <;> rw [h]
  cases p <;> rfl

/-! ### Replies -/

/-- The way back of a packet taken off those forwarded. -/
def unforward (s : State) (w : Forward) : State :=
  { s with ports := { s.ports with forwards := s.ports.forwards.filter (fun v => decide (v ≠ w)) } }

theorem rplFrame_known {s : State} {f : RxFrame} {w : Forward} (h : receives s f.side = true) (hc : f.crcOk = true)
    (hd : f.dest = ownPos s)
    (hw : s.ports.forwards.find? (fun w => w.ltag == f.ltag && w.side == f.side) = some w) :
    rplFrameOp s f = giveReply (unforward s w) w.port (parseReply s f.payload) := by
  rw [rplFrameOp, frameOp_mine h hc hd]
  dsimp only
  rw [hw]
  rfl

theorem rplFrame_unknown {s : State} {f : RxFrame} (h : receives s f.side = true) (hc : f.crcOk = true)
    (hd : f.dest = ownPos s)
    (hw : s.ports.forwards.find? (fun w => w.ltag == f.ltag && w.side == f.side) = none) : rplFrameOp s f = s := by
  rw [rplFrameOp, frameOp_mine h hc hd]
  dsimp only
  rw [hw]

/-- A reply given to a port of this part writes ports, registers and events. -/
theorem giveReply_frame {p : PortId} (hp : p ≠ .chain) (s : State) (r : Reply) :
    sameBut [.ports, .regs, .bureau] s (giveReply s p r) := by
  cases p with
  | host =>
    exact sameBut_trans (sameBut_mono (sameBut_putPort s .host _) (by decide))
      (sameBut_mono (raiseIf_frame _ _ (by decide)) (by decide))
  | maint =>
    exact sameBut_trans (sameBut_mono (sameBut_putPort s .maint { portOf s .maint with reply := some r }) (by decide))
      (sameBut_mono (sameBut_ports _ _) (by decide))
  | chain => exact absurd rfl hp

theorem sendFrame_frame (s : State) (f : TxFrame) : sameBut [.chain] s (sendFrame s f) := by
  unfold sendFrame
  split
  · exact sameBut_chain s _
  · exact sameBut_refl _ s

/-- A reply given to any port may leave by the chain as well. -/
theorem giveReply_frame_any (p : PortId) (s : State) (r : Reply) :
    sameBut [.ports, .regs, .bureau, .chain] s (giveReply s p r) := by
  by_cases hp : p = .chain
  · subst hp
    match hw : s.ports.chainFrom, hd : (portOf s .chain).due with
    | none, _ =>
      rw [giveReply_chain_of_noWay r hw]
      exact sameBut_mono (sameBut_putPort s .chain _) (by decide)
    | some (d, q, g), none =>
      rw [giveReply_chain_of_idle r hw hd]
      exact sameBut_trans (sameBut_mono (sameBut_ports s _) (by decide)) (sameBut_mono (sendFrame_frame _ _) (by decide))
    | some (d, q, g), some c =>
      rw [giveReply_chain_of_executing r hw hd]
      exact sameBut_mono (sameBut_ports s _) (by decide)
  · exact sameBut_mono (giveReply_frame hp s r) (by decide)

/-- So may an answer of a quiet status. -/
theorem answerAt_frame (s : State) (p : PortId) (tag : Byte) (nr : Bool) {st : Nat} (fs : List Field) (c k : Nat)
    (hq : st ≠ stBadCrc ∧ st ≠ stBadOpc ∧ st ≠ stBadLen) :
    sameBut [.ports, .regs, .bureau, .chain] s (answerAt s p tag nr st fs c k) := by
  have hdue : sameBut [.ports, .regs, .bureau, .chain] s (setDue s p (c + k)) := by
    obtain ⟨q, h⟩ := setDue_eq s p (c + k)
    rw [h]
    exact sameBut_mono (sameBut_ports s q) (by decide)
  unfold answerAt
  rw [noteStatus_quiet s p st hq]
  dsimp only
  split
  · exact hdue
  · exact sameBut_trans hdue (giveReply_frame_any p _ _)

theorem forwardTimeout_due {s : State} {p : PortId} {w : Forward}
    (hw : s.ports.forwards.find? (fun v => v.port == p && v.ticks == 0) = some w) :
    forwardTimeoutOp s p = answerNow (unforward s w) p w.tag stTimeout := by
  rw [forwardTimeoutOp, hw]
  rfl

theorem quiet_timeout : stTimeout ≠ stBadCrc ∧ stTimeout ≠ stBadOpc ∧ stTimeout ≠ stBadLen := by decide

/-- Settles O22: frames by their CRC and destination, then packets and replies for this part. -/
theorem chainFramesArriveAndPass : Obligations.ChainFramesArriveAndPass := by
  intro cyc f p s h
  refine ⟨fun hc => ⟨?_, ?_⟩, fun hc hd hl => ⟨?_, ?_⟩, fun hc hd hp => ⟨fun hq hpass ha => ?_, fun hq => ?_⟩,
    fun hc hd => ⟨fun w hw hport => ?_, fun hw => ?_⟩, fun w hw => ?_⟩
  · exact congrArg Host.Outcome.next ((pktFrameOp_eq s cyc f).trans (frameOp_bad h hc _ _ _))
  · exact congrArg Host.Outcome.next (frameOp_bad h hc _ _ _)
  · exact congrArg Host.Outcome.next ((pktFrameOp_eq s cyc f).trans (frameOp_passes h hc hd hl _ _ _))
  · exact congrArg Host.Outcome.next (frameOp_passes h hc hd hl _ _ _)
  · refine ⟨_, waitingEntry s .chain (parsePacket f.payload) cyc, congrArg Host.Outcome.next
      ((pktFrame_taken h hc hd hq hp cyc).trans (takePacket_queues hpass ha _ cyc)), ?_, rfl, rfl, rfl, ?_⟩
    · exact congrArg (· ++ _) (staleNonce_chainQ s .chain)
    · exact sameBut_trans (staleNonce_frame s .chain) (holdPacket_frame _ _ _ _)
  · exact ⟨_, statusFrame s f stBusy cyc, congrArg Host.Outcome.next (pktFrame_full h hc hd hq cyc),
      sendFrame_sent (linkOf_of_receives h), rfl, rfl, rfl, rfl, sendFrame_ports _ _, sendFrame_frame _ _⟩
  · refine ⟨_, congrArg Host.Outcome.next (rplFrame_known h hc hd hw), ?_, giveReply_reply _ _ _, ?_⟩
    · exact (giveReply_keeps (unforward s w) w.port _).forwards
    · exact sameBut_trans (sameBut_mono (sameBut_ports s _) (by decide)) (giveReply_frame hport (unforward s w) _)
  · exact congrArg Host.Outcome.next (rplFrame_unknown h hc hd hw)
  · have hreply := answerAt_reply (unforward s w) p w.tag false stTimeout [] (min (unforward s w).seq.cycle 6143) 8
      quiet_timeout
    rw [if_neg (by simp)] at hreply
    refine ⟨_, _, congrArg Host.Outcome.next (forwardTimeout_due hw), ?_, hreply, rfl, rfl, rfl, ?_⟩
    · exact (answerAt_keeps (unforward s w) p _ _ _ _ _ _).forwards
    · exact sameBut_trans (sameBut_mono (sameBut_ports s _) (by decide))
        (answerAt_frame (unforward s w) p _ _ _ _ _ quiet_timeout)

end Sys2Proof.Machine

/-!
PFAIL, the hard off and the loss of every source (02 R26, R27, R30, R43, R379; O24).
-/

namespace Sys2Proof.Machine

/-! ### The NVM at PFAIL -/

/-- What stands of an operation that is cut lies in the NVM. -/
theorem cutOp_frame (s : State) (op : NvmOp) : sameBut [.nvm] s (cutOp s op).1 := by
  unfold cutOp
  split
  · exact sameBut_nvm s _
  · split
    · unfold cutSave
      dsimp only
      split
      · intro p hp
        cases p <;> simp_all [Part.same, abandonErase, nextFree]
      · split <;> (intro p hp; cases p <;> simp_all [Part.same, nvmPut, nvmErase, nextFree])
    · unfold cutSeal
      dsimp only
      split <;> (intro p hp; cases p <;> simp_all [Part.same, abandonErase, nvmErase, nextFree])
    · exact sameBut_refl _ s

theorem orReg_frame (s : State) (n m : Nat) : sameBut [.regs, .aon] s (orReg s n m) := setReg_frame s n _

theorem nvmSettled_frame (s : State) : sameBut [.nvm, .regs, .aon] s (nvmSettled s) :=
  sameBut_trans (sameBut_mono (sameBut_nvm s _) (by decide)) (sameBut_mono (orReg_frame (nvmIdle s) 0x118 1) (by decide))

/-- PFAIL at the NVM changes the NVM and LAST_GASP alone. -/
theorem nvmPfail_frame (s : State) : sameBut [.nvm, .regs, .aon] s (nvmPfail s) := by
  unfold nvmPfail
  split
  · exact nvmSettled_frame s
  next op _ =>
    have hcut : sameBut [.nvm, .regs, .aon] s (if (cutOp s op).1.nvm.undef.length = s.nvm.undef.length then (cutOp s op).1
        else orReg (cutOp s op).1 0x118 0x40) := by
      split
      · exact sameBut_mono (cutOp_frame s op) (by decide)
      · exact sameBut_trans (sameBut_mono (cutOp_frame s op) (by decide)) (sameBut_mono (orReg_frame _ _ _) (by decide))
    dsimp only
    split
    · exact sameBut_trans hcut (nvmSettled_frame _)
    · exact sameBut_trans hcut (sameBut_mono (sameBut_nvm _ _) (by decide))

/-- With no operation the NVM has settled at once. -/
theorem nvmPfail_idle {s : State} (h : s.nvm.op = none) : nvmPfail s = nvmSettled s := by
  simp only [nvmPfail, h]

/-- The program of a slot or entry goes on. -/
theorem nvmPfail_program {s : State} {op : NvmOp} (h : s.nvm.op = some op) (hp : (programRegion s op).isSome = true)
    (he : eraseRegion op = none) : nvmPfail s = { s with nvm := { s.nvm with op := some op, waiting := [] } } := by
  have hcut : cutOp s op = (s, programRegion s op) := by
    simp only [cutOp, he]
    split
    · simp [programRegion] at hp
    · simp [programRegion] at hp
    · rfl
  obtain ⟨⟨i, b⟩, hib⟩ := Option.isSome_iff_exists.mp hp
  simp only [nvmPfail, h, hcut, hib, if_true, Option.isSome_some, Bool.not_true, Bool.false_eq_true, if_false]

/-! ### GASP begins -/

/-- The sequencer in GASP, PFAIL standing. -/
def gaspBegun (s : State) : State :=
  { s with
    seq := { s.seq with
      st := .gasp, haltReq := false, goReq := false, resetReq := false, commitMask := 0, commitReq := false }
    power := { s.power with pfail := true, coldStarting := false } }

/-- LAST_GASP with its PFAIL bit, the records that are lost counted, the outputs stopped. -/
def gaspLogged (s : State) : State :=
  cfStopAll (addReg (setReg s 0x118 0x10) 0x70F (queuedCount (setReg s 0x118 0x10)))

/-- The state in which PFAIL finds the NVM. -/
def gaspNoted (s : State) : State := gaspLogged (raise (raise (gaspBegun s) srcPfail) srcStateChanged)

/-- What stops with it: the ports, the chain, the requests, the Bureau's events, the saves. -/
def gaspStops (s : State) : State :=
  { s with
    ports := { s.ports with
      host := stopPort s.ports.host, maint := stopPort s.ports.maint, chain := stopPort s.ports.chain
      chainFrom := none, chainQ := [], chainOut := [], keysDue := [], sending := false, mtxReq := false, idleUnits := none
      forwards := [], held := [] }
    chain := { s.chain with remote := [], enum := none, mrqs := [] }
    mem := { s.mem with reqs := [], writeBack := none, poison := none }
    bureau := { s.bureau with events := [], marks := [], writing := false, erasing := false }
    energy := { s.energy with saveReq := false, erasing := false } }

theorem enterGasp_eq (s : State) : enterGasp s = gaspStops (nvmPfail (gaspNoted s)) := rfl

/-- The records wait while a status bit is raised. -/
theorem raise_queue (s : State) {src : Nat} (hr : isRetained (src / 20) = false) :
    (raise s src).bureau.queue = s.bureau.queue := by
  cases h : coreOn s with
  | false => rw [raise_of_off h]
  | true =>
    obtain ⟨ev, he⟩ := raise_of_on h hr
    rw [he]

theorem gaspLogged_frame (s : State) : sameBut [.regs, .aon, .energy] s (gaspLogged s) :=
  sameBut_trans (sameBut_mono (sameBut_trans (setReg_frame s 0x118 _) (setReg_frame _ 0x70F _)) (by decide))
    (sameBut_mono (sameBut_energy _ _) (by decide))

theorem gaspBegun_frame (s : State) : sameBut [.seq, .power] s (gaspBegun s) := by
  intro p hp
  cases p <;> simp_all [Part.same, gaspBegun]

/-- Noting PFAIL leaves what the sequencer and the supplies have become. -/
theorem gaspNoted_begun (s : State) : sameBut [.regs, .bureau, .aon, .energy] (gaspBegun s) (gaspNoted s) :=
  sameBut_trans (sameBut_mono (raise_frame (gaspBegun s) (by decide)) (by decide))
    (sameBut_trans (sameBut_mono (raise_frame _ (by decide)) (by decide)) (sameBut_mono (gaspLogged_frame _) (by decide)))

theorem gaspNoted_frame (s : State) : sameBut [.seq, .power, .regs, .aon, .bureau, .energy] s (gaspNoted s) :=
  sameBut_trans (sameBut_mono (gaspBegun_frame s) (by decide)) (sameBut_mono (gaspNoted_begun s) (by decide))

theorem gaspNoted_seq (s : State) : (gaspNoted s).seq.st = .gasp := by
  rw [gaspNoted_begun s .seq (by decide)]
  rfl

theorem gaspNoted_power (s : State) : (gaspNoted s).power = { s.power with pfail := true, coldStarting := false } :=
  gaspNoted_begun s .power (by decide)

theorem gaspNoted_queue (s : State) : (gaspNoted s).bureau.queue = s.bureau.queue := by
  rw [gaspNoted, gaspLogged_frame _ .bureau (by decide), raise_queue _ (by decide), raise_queue _ (by decide)]
  rfl

theorem gaspLogged_rwf {s : State} (h : Registers.wf s = true) : Registers.wf (gaspLogged s) = true :=
  setReg_rwf 0x70F _ (setReg_rwf 0x118 _ h)

theorem getReg_gaspLogged {s : State} (h : Registers.wf s = true) : getReg (gaspLogged s) 0x118 = 0x10 :=
  (getReg_setReg_other _ 0x70F 0x118 _ (by decide)).trans (getReg_setReg 0x118 _ h)

theorem gaspBegun_rwf {s : State} (h : Registers.wf s = true) : Registers.wf (gaspBegun s) = true := h

theorem raised_gaspBegun_rwf {s : State} (h : Registers.wf s = true) :
    Registers.wf (raise (raise (gaspBegun s) srcPfail) srcStateChanged) = true :=
  raise_rwf srcStateChanged (raise_rwf srcPfail (gaspBegun_rwf h))

theorem gaspNoted_rwf {s : State} (h : Registers.wf s = true) : Registers.wf (gaspNoted s) = true := by
  rw [gaspNoted]
  exact gaspLogged_rwf (raised_gaspBegun_rwf h)

/-- LAST_GASP as PFAIL finds the NVM. -/
theorem getReg_gaspNoted {s : State} (h : Registers.wf s = true) : getReg (gaspNoted s) 0x118 = 0x10 := by
  rw [gaspNoted]
  exact getReg_gaspLogged (raised_gaspBegun_rwf h)

/-- LAST_GASP stands while the ports and the rest stop. -/
theorem getReg_gaspStops (s : State) (n : Nat) : getReg (gaspStops s) n = getReg s n := rfl

theorem nvmIdle_rwf {s : State} (h : Registers.wf s = true) : Registers.wf (nvmIdle s) = true := h

theorem getReg_nvmIdle (s : State) (n : Nat) : getReg (nvmIdle s) n = getReg s n := rfl

/-- With no NVM operation in progress LAST_GASP tells PFAIL and that the NVM has settled. -/
theorem enterGasp_settled {s : State} (ho : s.nvm.op = none) (h : Registers.wf s = true) :
    bitAt (getReg (enterGasp s) 0x118) 0 = true ∧ bitAt (getReg (enterGasp s) 0x118) 4 = true := by
  have hop : (gaspNoted s).nvm.op = none := by rw [gaspNoted_frame s .nvm (by decide), ho]
  have hreg : getReg (enterGasp s) 0x118 = 0x10 ||| wd 1 := by
    have hidle := nvmIdle_rwf (gaspNoted_rwf h)
    have hold := (getReg_nvmIdle (gaspNoted s) 0x118).trans (getReg_gaspNoted h)
    rw [enterGasp_eq, getReg_gaspStops, nvmPfail_idle hop, nvmSettled, orReg, getReg_setReg _ _ hidle, hold]
  rw [hreg]
  decide

/-! ### PFAIL and the hard off -/

/-- PFAIL acts where a start or the schedule runs, and the load is not drawn from VAUX. -/
theorem pfailEvent_acts {s : State} {mv : Nat} (hp : s.power.pd1 = true) (hv : mv < 2900)
    (hc : coreOn s = true ∨ s.power.coldStarting = true) (hg : s.seq.st ≠ .gasp) (hl : s.power.loadAux = false) :
    pfailEvent s mv = enterGasp (setVres s mv) := by
  have hseq : (setVres s mv).seq = s.seq := setVres_seq s mv
  have hcore : coreOn (setVres s mv) = coreOn s := by rw [coreOn, coreOn, hseq]
  rw [pfailEvent, if_pos (by simp [hp, hv]), pfailOp, hcore, hseq, setVres_power]
  exact if_pos (by simp [hg, hl, hc])

/-- While it is drawn from VAUX the voltage alone is taken. -/
theorem pfailEvent_held {s : State} {mv : Nat} (hp : s.power.pd1 = true) (hv : mv < 2900) (hl : s.power.loadAux = true) :
    pfailEvent s mv = setVres s mv := by
  rw [pfailEvent, if_pos (by simp [hp, hv]), pfailOp, setVres_power]
  exact if_neg (by simp [hl])

theorem hardOffEvent_acts {s : State} {mv : Nat} (hp : s.power.pd1 = true) (hv : mv < 2500) (hl : s.power.loadAux = false) :
    hardOffEvent s mv = hardOffNow (setVres s mv) := by
  rw [hardOffEvent, if_pos (by simp [hp, hv])]
  dsimp only
  rw [setVres_power]
  exact if_neg (by simp [hl])

theorem hardOffEvent_held {s : State} {mv : Nat} (hp : s.power.pd1 = true) (hv : mv < 2500) (hl : s.power.loadAux = true) :
    hardOffEvent s mv = setVres s mv := by
  rw [hardOffEvent, if_pos (by simp [hp, hv])]
  dsimp only
  rw [setVres_power]
  exact if_pos hl

/-- What PD2 leaves when it goes off: the schedule at its end, the domains and the grants gone, PD1 as asked. -/
theorem powerDown_effect (s : State) (pd1 : Bool) :
    let t := powerDown s pd1
    t.seq = { Seq.reset with st := .off } ∧ t.power.pd1 = pd1 ∧ t.power.on = (if pd1 then 3 else 1) ∧
      t.power.working = (if pd1 then 3 else 1) ∧ t.power.granted = 0 ∧ t.nvm = s.nvm ∧ t.aon.regs = s.aon.regs := by
  refine ⟨rfl, rfl, rfl, rfl, rfl, rfl, ?_⟩
  show (if coreOn s then _ else s.aon : Aon).regs = s.aon.regs
  split <;> rfl

/-- The Bureau's queue stands while a new VRES is taken. -/
theorem setVres_queue (s : State) (mv : Nat) : (setVres s mv).bureau.queue = s.bureau.queue := by
  rw [setVres_eq, aonFollow_frame _ .bureau (by decide), compareLow_eq, raiseIf]
  split
  · rw [raise_queue _ (by decide)]
    rfl
  · rfl

section
variable (s : State)

/-- What GASP keeps of the state it begins in: capture memory's bytes, the overdrive table, the NVM's bytes. -/
theorem enterGasp_keeps : (enterGasp s).mem.data = s.mem.data ∧ (enterGasp s).od = s.od := by
  have hnoted := gaspNoted_frame s
  have hnvm := nvmPfail_frame (gaspNoted s)
  have hmem : (nvmPfail (gaspNoted s)).mem = s.mem := (hnvm .mem (by decide)).trans (hnoted .mem (by decide))
  exact ⟨by rw [← hmem]; rfl, (hnvm .od (by decide)).trans (hnoted .od (by decide))⟩

/-- The sequencer and the supplies in GASP. -/
theorem enterGasp_stands : (enterGasp s).seq.st = .gasp ∧
    (enterGasp s).power = { s.power with pfail := true, coldStarting := false } := by
  have hnvm := nvmPfail_frame (gaspNoted s)
  exact ⟨(congrArg Seq.st (hnvm .seq (by decide))).trans (gaspNoted_seq s),
    (hnvm .power (by decide)).trans (gaspNoted_power s)⟩

variable {s}

/-- With no NVM operation no byte of the NVM changes. -/
theorem enterGasp_data (h : s.nvm.op = none) : (enterGasp s).nvm.data = s.nvm.data := by
  have hnoted : (gaspNoted s).nvm = s.nvm := gaspNoted_frame s .nvm (by decide)
  have hidle : (nvmPfail (gaspNoted s)).nvm = (nvmIdle (gaspNoted s)).nvm := by
    rw [nvmPfail_idle (by rw [hnoted, h])]
    exact orReg_nvm _ _ _
  calc (enterGasp s).nvm.data = (nvmPfail (gaspNoted s)).nvm.data := rfl
    _ = (gaspNoted s).nvm.data := by rw [hidle]; rfl
    _ = s.nvm.data := by rw [hnoted]

/-- A program of a slot or entry goes on, and no byte has changed yet. -/
theorem enterGasp_program {op : NvmOp} (h : s.nvm.op = some op) (hp : (programRegion s op).isSome = true)
    (he : eraseRegion op = none) : (enterGasp s).nvm = { s.nvm with op := some op, waiting := [] } := by
  have hnoted : (gaspNoted s).nvm = s.nvm := gaspNoted_frame s .nvm (by decide)
  have hregion : programRegion (gaspNoted s) op = programRegion s op := by
    cases op <;> simp only [programRegion, gaspNoted_queue]
  have hgoes := nvmPfail_program (s := gaspNoted s) (by rw [hnoted, h]) (by rw [hregion, hp]) he
  rw [enterGasp_eq, hgoes, ← hnoted]
  rfl

end

/-- Settles O24: PFAIL by the state it leaves, the hard off and the loss of every source by the domains that are off. -/
theorem suppliesFail : Obligations.SuppliesFail := by
  intro mv s
  refine ⟨fun hp hv hc hg hl => ?_, fun hl hp hv => ?_, fun hp hv hl => ?_, fun hl hp hv => ?_, ?_⟩
  · have hu := setVres_frame s mv
    have hnvm : (setVres s mv).nvm = s.nvm := hu .nvm (by decide)
    obtain ⟨hst, hpow⟩ := enterGasp_stands (setVres s mv)
    obtain ⟨hdata, hod⟩ := enterGasp_keeps (setVres s mv)
    refine ⟨_, congrArg Host.Outcome.next (pfailEvent_acts hp hv hc hg hl), hst,
      congrArg Power.pfail hpow, congrArg Power.coldStarting hpow, rfl, rfl, rfl, rfl, rfl, rfl, rfl,
      hdata.trans (congrArg Mem.data (hu .mem (by decide))), hod.trans (hu .od (by decide)),
      fun ho => ⟨?_, fun hw => ?_⟩, fun op ho hr he => ?_⟩
    · exact (enterGasp_data (by rw [hnvm, ho])).trans (congrArg Nvm.data hnvm)
    · have hwf := setVres_wf s mv hw
      simp only [Tables.wf, Bool.and_eq_true] at hwf
      exact enterGasp_settled (by rw [hnvm, ho]) hwf.2
    · have hregion : programRegion (setVres s mv) op = programRegion s op := by
        cases op <;> simp only [programRegion, setVres_queue]
      have hgoes := enterGasp_program (by rw [hnvm, ho]) (by rw [hregion, hr]) he
      exact ⟨congrArg Nvm.op hgoes, congrArg Nvm.waiting hgoes, (congrArg Nvm.data hgoes).trans (by rw [hnvm])⟩
  · exact congrArg Host.Outcome.next (pfailEvent_held hp hv hl)
  · obtain ⟨hst, hpd, hon, hwork, hgrant, -⟩ := powerDown_effect (nvmHardOff (setVres s mv)) false
    exact ⟨_, congrArg Host.Outcome.next (hardOffEvent_acts hp hv hl), congrArg Seq.st hst, hpd, hon, hwork, hgrant⟩
  · exact congrArg Host.Outcome.next (hardOffEvent_held hp hv hl)
  · exact ⟨_, rfl, rfl, rfl, rfl, rfl, rfl, rfl⟩

end Sys2Proof.Machine

/-!
Floors, domains and the stages of GASP (02 R26, R31, R33, R39, R43 to R45; O25, O26, O27).
-/

namespace Sys2Proof.Machine

/-! ### Sets of consumers and of domains -/

theorem getLsbD_setBit10 (m : BitVec 10) {c k : Nat} (hk : k < 10) (b : Bool) :
    (setBit10 m c b).getLsbD k = if k = c then b else m.getLsbD k := by
  have hbit : (BitVec.ofNat 10 (2 ^ c)).getLsbD k = decide (k = c) := by
    rw [BitVec.getLsbD_ofNat, Nat.testBit_two_pow, decide_eq_true hk, Bool.true_and]
    exact decide_eq_decide.mpr eq_comm
  unfold setBit10
  cases b
  · rw [if_neg Bool.false_ne_true, BitVec.getLsbD_and, BitVec.getLsbD_not, hbit]
    by_cases h : k = c <;> simp [h, hk]
  · rw [if_pos rfl, BitVec.getLsbD_or, hbit]
    by_cases h : k = c <;> simp [h]

theorem getLsbD_setBit12 (m : BitVec 12) {d k : Nat} (hk : k < 12) (b : Bool) :
    (setBit12 m d b).getLsbD k = if k = d then b else m.getLsbD k := by
  have hbit : (BitVec.ofNat 12 (2 ^ d)).getLsbD k = decide (k = d) := by
    rw [BitVec.getLsbD_ofNat, Nat.testBit_two_pow, decide_eq_true hk, Bool.true_and]
    exact decide_eq_decide.mpr eq_comm
  unfold setBit12
  cases b
  · rw [if_neg Bool.false_ne_true, BitVec.getLsbD_and, BitVec.getLsbD_not, hbit]
    by_cases h : k = d <;> simp [h, hk]
  · rw [if_pos rfl, BitVec.getLsbD_or, hbit]
    by_cases h : k = d <;> simp [h]

/-! ### FLOOR_REVOKE -/

/-- A grant taken back is no longer in force, and every other stands. -/
theorem dropGrant_granted (s : State) (c : Nat) {k : Nat} (hk : k < 10) :
    (dropGrant s c).power.granted.getLsbD k = (s.power.granted.getLsbD k && decide (k ≠ c)) := by
  unfold dropGrant
  split
  · rw [raise_frame _ (by decide) .power (by decide)]
    show (setBit10 s.power.granted c false).getLsbD k = _
    rw [getLsbD_setBit10 _ hk]
    by_cases h : k = c <;> simp [h]
  next hc =>
    by_cases h : k = c
    · subst h
      simp [hc]
    · simp [h]

/-- Of a list of consumers the grants that a condition names are taken back. -/
theorem dropGrants_granted (p : Nat → Bool) (cs : List Nat) (s : State) {k : Nat} (hk : k < 10) :
    (cs.foldl (fun t c => if p c then dropGrant t c else t) s).power.granted.getLsbD k =
      (s.power.granted.getLsbD k && !(decide (k ∈ cs) && p k)) := by
  induction cs generalizing s with
  | nil => simp
  | cons c cs ih =>
    rw [List.foldl_cons, ih]
    by_cases hkc : k = c
    · subst hkc
      cases p k <;> simp [dropGrant_granted _ _ hk]
    · cases p c <;> simp [hkc, dropGrant_granted _ _ hk]

theorem revokeFloors_granted (s : State) {k : Nat} (hk : k < 10) :
    (revokeFloors s).power.granted.getLsbD k = (s.power.granted.getLsbD k &&
      !(decide (4 ≤ k) && decide (k ≤ 9) && decide (s.power.vres + 200 < floorOf s k))) := by
  have hmem : decide (k ∈ [4, 5, 6, 7, 8, 9]) = (decide (4 ≤ k) && decide (k ≤ 9)) := by
    rw [← Bool.decide_and]
    exact decide_eq_decide.mpr (by simp; omega)
  rw [revokeFloors, dropGrants_granted (fun c => decide (s.power.vres + 200 < floorOf s c)) _ s hk, hmem]

/-- Settles O25: the grants bit by bit, and with none taken back nothing happens. -/
theorem floorsRevoke : Obligations.FloorsRevoke := by
  intro mv s hcore hgasp u crossed
  have hpow : u.power.granted = s.power.granted ∧ u.power.vres = mv := by
    constructor <;> simp only [u, setVres_power]
  have hacts : (coreOn s && decide (s.seq.st ≠ .gasp)) = true := by simp [hcore, hgasp]
  have hbits : ∀ c, c < 10 →
      (revokeFloors u).power.granted.getLsbD c = (s.power.granted.getLsbD c && !crossed c) := by
    intro c hc
    rw [revokeFloors_granted u hc, hpow.1, hpow.2]
  have hrow : exec (.floorRevoke mv) s = .next (if (revokeFloors u).power.granted ≠ u.power.granted then
      grantEffects s.power.granted (revokeFloors u) else s) := by
    refine congrArg Host.Outcome.next ?_
    show (if (coreOn s && decide (s.seq.st ≠ .gasp) && decide ((revokeFloors u).power.granted ≠ u.power.granted)) = true
      then _ else s) = _
    rw [hacts, Bool.true_and]
    simp only [decide_eq_true_eq]
    rfl
  refine ⟨hbits, fun ⟨c, hcross, hgrant⟩ => ?_, fun hnone => ?_⟩
  · have hc : c < 10 := by
      simp only [crossed, Bool.and_eq_true, decide_eq_true_eq] at hcross
      omega
    rw [hrow, if_pos]
    intro heq
    have := hbits c hc
    rw [heq, hpow.1, hgrant, hcross] at this
    exact absurd this (by decide)
  · rw [hrow, if_neg]
    rw [not_not]
    refine BitVec.eq_of_getLsbD_eq fun c hc => ?_
    rw [hbits c hc, hpow.1]
    cases hcross : crossed c with
    | false => simp
    | true => simp [hnone c hcross]

/-! ### Domains that start -/

/-- The supplies once a ramp has ended. -/
def rampEnded (s : State) (d : Nat) : Power :=
  { s.power with
    ramping := setBit12 s.power.ramping d false, on := setBit12 s.power.on d true
    working := if coreOn s then s.power.working else setBit12 s.power.working d true }

theorem bankPowerUp_frame (s : State) (b : Nat) : sameBut [.mem] s (bankPowerUp s b) :=
  sameBut_trans (sameBut_mem s _) (sameBut_mem (clearBank s b) _)

/-- A ramp that ends changes the supplies, and with them the converters or the banks of the domain. -/
theorem domainRampEndOp_ends {s : State} {d : Nat} (h : s.power.ramping.getLsbD d = true) :
    (domainRampEndOp s d).power = rampEnded s d ∧
      sameBut [.streams, .mem] { s with power := rampEnded s d } (domainRampEndOp s d) := by
  have hframe : sameBut [.streams, .mem] { s with power := rampEnded s d } (domainRampEndOp s d) := by
    unfold domainRampEndOp
    rw [h, Bool.not_true, if_neg Bool.false_ne_true]
    show sameBut _ _ (if d = 3 ∨ d = 4 ∨ d = 5 then freshFronts { s with power := rampEnded s d } d
      else if d = 7 then bankPowerUp { s with power := rampEnded s d } 0
      else if d = 8 then bankPowerUp { s with power := rampEnded s d } 1 else _)
    split
    · exact sameBut_mono (sameBut_streams _ _) (by decide)
    · split
      · exact sameBut_mono (bankPowerUp_frame _ 0) (by decide)
      · split
        · exact sameBut_mono (bankPowerUp_frame _ 1) (by decide)
        · exact sameBut_refl _ _
  exact ⟨hframe .power (by decide), hframe⟩

theorem domainRampEndOp_idle {s : State} {d : Nat} (h : s.power.ramping.getLsbD d = false) : domainRampEndOp s d = s := by
  rw [domainRampEndOp, h]
  rfl

theorem domainRampEndOp_coldStarting (s : State) (d : Nat) :
    (domainRampEndOp s d).power.coldStarting = s.power.coldStarting := by
  cases h : s.power.ramping.getLsbD d with
  | false => rw [domainRampEndOp_idle h]
  | true => rw [(domainRampEndOp_ends h).1, rampEnded]

theorem startRamps_coldStarting (s : State) : (startRamps s).power.coldStarting = s.power.coldStarting := by
  simp only [startRamps, List.foldl_cons, List.foldl_nil, domainRampEndOp_coldStarting]

theorem heldLeads_frame (s : State) : sameBut [.regs, .inForce] s (heldLeads s) := by
  intro p hp
  cases p <;> simp_all [Part.same, heldLeads, setForce, setReg, isRetained]

/-- The schedule as the release of CORE's reset leaves it. -/
theorem coldReset_effect (s : State) :
    (coldReset s).seq = Seq.reset ∧ (coldReset s).power.coldStarting = false ∧
      (coldReset s).power.working = (coldReset s).power.on ∧ (coldReset s).ports = Ports.reset ∧
      (coldReset s).energy = Energy.reset := by
  unfold coldReset
  dsimp only [levelLow, chooseLoad, chargeFollow]
  simp only [setReg_seq, setReg_ports, setReg_energy, setReg_power]
  refine ⟨?_, ?_, ?_, ?_, ?_⟩
  · rw [heldLeads_frame _ .seq (by decide)]
    rfl
  · rw [heldLeads_frame _ .power (by decide)]
  · rw [heldLeads_frame _ .power (by decide)]
  · rw [heldLeads_frame _ .ports (by decide)]
    rfl
  · rw [heldLeads_frame _ .energy (by decide)]
    rfl

/-- PD0 is powered exactly as long as it has a source. -/
theorem aonFollow_powered (s : State) : (aonFollow s).aon.powered = decide (s.power.aonSrc ≠ .none) := by
  unfold aonFollow
  by_cases hsrc : s.power.aonSrc = .none <;> cases hp : s.aon.powered <;> simp [hsrc, hp, lostAon, aonUp, Aon.reset]

/-- Settles O26: CORE's release, the end of a ramp, the power-up of PD0 and its sources. -/
theorem domainsStart : Obligations.DomainsStart := by
  intro d vres vbc s
  refine ⟨fun hstart htest => ⟨?_, ?_⟩, fun hramp => ?_, fun hdown => ?_, ?_⟩
  · have hrow : coreResetReleaseOp s false =
        coldReset { startRamps s with power := { (startRamps s).power with testLevel := false } } := by
      rw [coreResetReleaseOp, hstart, htest]
      rfl
    exact ⟨_, congrArg Host.Outcome.next hrow, coldReset_effect _⟩
  · have hrow : coreResetReleaseOp s true =
        { startRamps s with power := { (startRamps s).power with testLevel := true, testHold := true } } := by
      rw [coreResetReleaseOp, hstart, htest]
      rfl
    exact ⟨_, congrArg Host.Outcome.next hrow, rfl, (startRamps_coldStarting s).trans hstart⟩
  · obtain ⟨hpow, hframe⟩ := domainRampEndOp_ends hramp
    refine ⟨_, rfl, ?_, ?_, congrArg Power.working hpow, hframe .seq (by decide), hframe .ports (by decide),
      hframe .nvm (by decide), hframe .energy (by decide)⟩
    · rw [domOn, hpow]
      exact (getLsbD_setBit12 _ d.isLt _).trans (if_pos rfl)
    · rw [hpow]
      exact (getLsbD_setBit12 _ d.isLt _).trans (if_pos rfl)
  · have hrow : pd0PowerUpOp s = aonUp s := by
      rw [pd0PowerUpOp, hdown]
      rfl
    exact congrArg Host.Outcome.next hrow
  · have hpow : (aonSourceChangeOp s vres vbc).power = vbcTaken (setVres s vres) vbc := by
      rw [aonSourceChangeOp, setVbc_eq, aonFollow_power, raiseIf_power]
    have hbefore : (setVres s vres).power.vres = vres ∧ (setVres s vres).power.vauxValid = s.power.vauxValid := by
      constructor <;> simp only [setVres_power]
    refine ⟨_, rfl, ?_, ?_, ?_, ?_⟩
    · rw [hpow, vbcTaken, hbefore.1]
    · rw [hpow, vbcTaken]
    · rw [hpow, vbcTaken, hbefore.1, hbefore.2]
    · rw [aonSourceChangeOp, setVbc_eq, aonFollow_powered, raiseIf_power, vbcTaken, hbefore.1, hbefore.2]

/-! ### The stages of GASP -/

theorem settleUnit_idle {s : State} (h : s.nvm.op = none) : settleUnit s = s := by
  simp only [settleUnit, h]

/-- A retained register is PD0's. -/
theorem setReg_frame_retained (s : State) {n : Nat} (v : Word) (hr : isRetained n = true) :
    sameBut [.aon] s (setReg s n v) := by
  rw [setReg, if_pos hr]
  exact sameBut_aon s _

theorem orReg_frame_retained (s : State) {n : Nat} (m : Nat) (hr : isRetained n = true) : sameBut [.aon] s (orReg s n m) :=
  setReg_frame_retained s _ hr

/-- The open record of GASP's stage leaves the Bureau, which goes on at the next slot. -/
def recordTaken (s : State) : State :=
  { s with
    power := { s.power with gaspBureauEnded := true }
    bureau := { s.bureau with open_ := none, nextSlot := (s.bureau.nextSlot + 1) % 1024 } }

/-- The record of the Bureau's stage, programmed into the next slot. -/
def recordClosed (s : State) (r : BRec) : State :=
  orReg (nvmPut (recordTaken s) (recSlotAt s.bureau.nextSlot) (recBytes { r with gasp := true })) 0x118 2

/-- The energy store goes on with its next slot and sequence. -/
def energyTaken (s : State) : State :=
  { s with
    power := { s.power with gaspEnergyEnded := true }
    energy := { s.energy with
      slot := s.energy.nextSlot, seq := s.energy.seqNext, seqNext := (s.energy.seqNext + 1) % 1048576
      nextSlot := (s.energy.nextSlot + 1) % 16 } }

/-- The energy of GASP's stage, programmed into the next slot of the store. -/
def energyClosed (s : State) : State :=
  orReg (nvmPut (energyTaken s) (energySlotAt s.energy.nextSlot) (energySlot s s.energy.seqNext)) 0x118 4

theorem nvmPut_frame (s : State) (i : Nat) (d : List Byte) : sameBut [.nvm] s (nvmPut s i d) := sameBut_nvm s _

theorem recordClosed_frame (s : State) (r : BRec) : sameBut [.nvm, .bureau, .power, .aon] s (recordClosed s r) := by
  have hset : sameBut [.bureau, .power] s (recordTaken s) := by
    intro p hp
    cases p <;> simp_all [Part.same, recordTaken]
  exact sameBut_trans (sameBut_mono hset (by decide)) (sameBut_trans (sameBut_mono (nvmPut_frame _ _ _) (by decide))
    (sameBut_mono (orReg_frame_retained _ 2 (by decide)) (by decide)))

theorem energyClosed_frame (s : State) : sameBut [.nvm, .energy, .power, .aon] s (energyClosed s) := by
  have hset : sameBut [.energy, .power] s (energyTaken s) := by
    intro p hp
    cases p <;> simp_all [Part.same, energyTaken]
  exact sameBut_trans (sameBut_mono hset (by decide)) (sameBut_trans (sameBut_mono (nvmPut_frame _ _ _) (by decide))
    (sameBut_mono (orReg_frame_retained _ 4 (by decide)) (by decide)))

theorem nvmPut_data (s : State) (i : Nat) (d : List Byte) : (nvmPut s i d).nvm.data = sputs erasedByte s.nvm.data i d := rfl

theorem recordClosed_effect (s : State) (r : BRec) :
    (recordClosed s r).bureau.open_ = none ∧ (recordClosed s r).power.gaspBureauEnded = true ∧
      (recordClosed s r).nvm.data =
        sputs erasedByte s.nvm.data (recSlotAt s.bureau.nextSlot) (recBytes { r with gasp := true }) := by
  simp only [recordClosed, orReg_bureau, orReg_power, orReg_nvm, nvmPut_data]
  exact ⟨rfl, rfl, rfl⟩

theorem energyClosed_effect (s : State) :
    (energyClosed s).power.gaspEnergyEnded = true ∧ (energyClosed s).energy = (energyTaken s).energy ∧
      (energyClosed s).nvm.data =
        sputs erasedByte s.nvm.data (energySlotAt s.energy.nextSlot) (energySlot s s.energy.seqNext) := by
  simp only [energyClosed, orReg_energy, orReg_power, orReg_nvm, nvmPut_data]
  exact ⟨rfl, rfl, rfl⟩

section
variable {s : State} (hst : s.seq.st = .gasp) (hop : s.nvm.op = none)
include hst hop

theorem gaspFree_idle : gaspFree s = true := by simp [gaspFree, hst, hop]

/-- With no open record the Bureau's stage is skipped. -/
theorem gaspBureauCloseOp_skips (hended : s.power.gaspBureauEnded = false) (hopen : s.bureau.open_ = none) :
    gaspBureauCloseOp s = orReg { s with power := { s.power with gaspBureauEnded := true } } 0x118 0x10000 := by
  simp only [gaspBureauCloseOp, settleUnit_idle hop, gaspFree_idle hst hop, hended, hopen]
  rfl

theorem gaspBureauCloseOp_programs {r : BRec} (hended : s.power.gaspBureauEnded = false) (hopen : s.bureau.open_ = some r)
    (hblank : recSlotBlank s s.bureau.nextSlot = true) : gaspBureauCloseOp s = recordClosed s r := by
  simp only [gaspBureauCloseOp, settleUnit_idle hop, gaspFree_idle hst hop, hended, hopen, hblank, if_true]
  simp only [Bool.not_true, Bool.or_false, Bool.false_eq_true, if_false]
  rfl

/-- Before its restore the energy is not saved. -/
theorem gaspEnergySaveOp_skips (hb : s.power.gaspBureauEnded = true) (hended : s.power.gaspEnergyEnded = false)
    (hr : s.energy.restored = false) :
    gaspEnergySaveOp s = orReg { s with power := { s.power with gaspEnergyEnded := true } } 0x118 0x20 := by
  simp only [gaspEnergySaveOp, gaspFree_idle hst hop, hb, hended, hr]
  rfl

theorem gaspEnergySaveOp_programs (hb : s.power.gaspBureauEnded = true) (hended : s.power.gaspEnergyEnded = false)
    (hr : s.energy.restored = true) (hblank : nvmBlank s (energySlotAt s.energy.nextSlot) 256 = true) :
    gaspEnergySaveOp s = energyClosed s := by
  rw [gaspEnergySaveOp, if_neg (by simp [gaspFree_idle hst hop, hb, hended])]
  dsimp only
  rw [if_neg (by simp [hr]), if_pos hblank]
  rfl

end

/-- With the three stages ended nothing is skipped any more. -/
theorem gaspSkips_ended {s : State} (hop : s.nvm.op = none) (hb : s.power.gaspBureauEnded = true)
    (he : s.power.gaspEnergyEnded = true) (hp : s.power.gaspPanelEnded = true) : gaspSkips s = s := by
  have hclose : gaspBureauCloseOp s = s := by
    rw [gaspBureauCloseOp, settleUnit_idle hop]
    simp [hb]
  have hsave : gaspEnergySaveOp s = s := by
    rw [gaspEnergySaveOp]
    simp [hb, he]
  have hpanel : gaspPanelDischargeOp s = s := by
    rw [gaspPanelDischargeOp]
    simp [hp]
  rw [gaspSkips, settleUnit_idle hop]
  simp only [hclose, hsave, hpanel, ite_self]

/-- Settles O27: each stage made or skipped, and the end that switches PD2 off. -/
theorem gaspStages : Obligations.GaspStages := by
  intro mv s hst hop
  refine ⟨fun hb => ⟨fun hopen => ?_, fun r hopen hblank => ?_⟩, fun hb he => ⟨fun hr => ?_, fun hr hblank => ?_⟩,
    fun hs he hlive => ?_, fun hb he hp => ?_⟩
  · exact congrArg Host.Outcome.next (gaspBureauCloseOp_skips hst hop hb hopen)
  · obtain ⟨hnone, hended, hdata⟩ := recordClosed_effect s r
    exact ⟨_, congrArg Host.Outcome.next (gaspBureauCloseOp_programs hst hop hb hopen hblank), hnone, hended, hdata,
      recordClosed_frame s r⟩
  · exact congrArg Host.Outcome.next (gaspEnergySaveOp_skips hst hop hb he hr)
  · obtain ⟨hended, hstore, hdata⟩ := energyClosed_effect s
    exact ⟨_, congrArg Host.Outcome.next (gaspEnergySaveOp_programs hst hop hb he hr hblank), hended,
      congrArg Energy.slot hstore, congrArg Energy.seq hstore, congrArg Energy.seqNext hstore, hdata,
      energyClosed_frame s⟩
  · have hrow : gaspPanelDischargeOp s = orReg { s with power := { s.power with gaspPanelEnded := true } } 0x118 0x80 := by
      simp [gaspPanelDischargeOp, hst, hs, he, hlive]
    exact congrArg Host.Outcome.next hrow
  · let u := setReg s 0x118 (setFld (getReg s 0x118) 8 8 (min 255 ((mv - 2000) / 10)))
    have hrow : gaspEndOp s mv = powerDown u true := by
      rw [gaspEndOp, gaspSkips_ended hop hb he hp]
      simp [hst, hb, he, hp, hop, u]
    obtain ⟨hseq, hpd, hon, -, hgranted, hnvm, hregs⟩ := powerDown_effect u true
    refine ⟨_, congrArg Host.Outcome.next hrow, congrArg Seq.st hseq, hpd, hon, hgranted, hnvm, fun hwf => ?_⟩
    calc getReg (powerDown u true) 0x118 = getReg u 0x118 := by simp only [getReg, isRetained, hregs]; rfl
      _ = _ := getReg_setReg 0x118 _ hwf

end Sys2Proof.Machine

/-!
COMMIT, the snapshot and the comparison of pairs (03 R63, R74, 00 R10; O29).
-/

namespace Sys2Proof.Machine

/-! ### In-force copies that take their shadows -/

theorem forceReg_setForce {s : State} (n m : Nat) (v : Word) (h : swf regReset s.inForce = true) :
    forceReg (setForce s n v) m = if m = n then v else forceReg s m := by
  split
  next e => rw [e]; exact sget_sset_self _ _ h n v
  next e => exact sget_sset_other _ _ n m v e

/-- Only the in-force copies change. -/
theorem applyShadows_eq (s : State) (n k : Nat) : ∃ w, applyShadows s n k = { s with inForce := w } := by
  unfold applyShadows
  generalize upto k = is
  induction is generalizing s with
  | nil => exact ⟨s.inForce, rfl⟩
  | cons i is ih => exact ih (setForce s (n + i) (getReg s (n + i)))

/-- Of a list of shadows each copy is in force as the shadow stands, and the other copies keep their values. -/
theorem applied_shadows (n : Nat) (is : List Nat) (s : State) (h : swf regReset s.inForce = true) :
    let t := is.foldl (fun t i => setForce t (n + i) (getReg t (n + i))) s
    swf regReset t.inForce = true ∧
      ∀ m, forceReg t m = if m ∈ is.map (n + ·) then getReg s m else forceReg s m := by
  induction is generalizing s with
  | nil => exact ⟨h, fun m => by simp⟩
  | cons i is ih =>
    obtain ⟨hwf, hval⟩ := ih (setForce s (n + i) (getReg s (n + i))) (swf_sset _ _ _ _ h)
    refine ⟨hwf, fun m => (hval m).trans ?_⟩
    rw [forceReg_setForce _ _ _ h]
    show (if _ then getReg s m else _) = _
    by_cases hm : m ∈ is.map (n + ·)
    · rw [if_pos hm, if_pos (by rw [List.map_cons]; exact List.mem_cons_of_mem _ hm)]
    · by_cases hi : m = n + i
      · rw [if_neg hm, if_pos hi, if_pos (by rw [hi, List.map_cons]; exact List.mem_cons_self), hi]
      · rw [if_neg hm, if_neg hi, if_neg (by rw [List.map_cons, List.mem_cons]; exact fun h => h.elim hi hm)]

theorem applyShadows_swf {s : State} (n k : Nat) (h : swf regReset s.inForce = true) :
    swf regReset (applyShadows s n k).inForce = true := (applied_shadows n (upto k) s h).1

theorem forceReg_applyShadows {s : State} (n k m : Nat) (h : swf regReset s.inForce = true) :
    forceReg (applyShadows s n k) m = if n ≤ m ∧ m < n + k then getReg s m else forceReg s m := by
  have hmem : (m ∈ (upto k).map (n + ·)) ↔ (n ≤ m ∧ m < n + k) := by
    simp only [upto, List.mem_map, List.mem_range]
    constructor
    · rintro ⟨i, hi, rfl⟩
      omega
    · exact fun hm => ⟨m - n, by omega, by omega⟩
  refine ((applied_shadows n (upto k) s h).2 m).trans ?_
  simp only [hmem]

/-! ### The groups of a COMMIT (03 R63) -/

/-- Group SEG: the windows with their shadows, the cache empty. -/
def commitSeg (s : State) : State :=
  let t := applyShadows s 0x692 3
  { t with dresser := { t.dresser with inForce := t.dresser.shadow, cache := List.replicate 8 none } }

/-- Group FIR: the banks change places. -/
def commitFir (s : State) : State :=
  let t := applyShadows s 0x3A0 10
  raise { t with firActive := !t.firActive } srcFirSwap

/-- A group is applied where its bit of the mask is set. -/
def whereSet (b : Bool) (f : State → State) (s : State) : State := if b then f s else s

/-- The five groups in their order. -/
def commitGroups (m : BitVec 5) (s : State) : State :=
  whereSet (m.getLsbD 4) (applyShadows · 0x184 4)
    (whereSet (m.getLsbD 3) (fun t => applyPinmux t (getReg t 0x880) (pinmuxB t))
      (whereSet (m.getLsbD 2) commitFir
        (whereSet (m.getLsbD 1) commitSeg (whereSet (m.getLsbD 0) (applyShadows · 0x610 8) s))))

/-- A group of COMMIT: the copies of `lo` on take their shadows, and every other stands, as do the registers but the
status words. PINMUX_REQ_B is not told here: a tamper loop may hold its lead (15 R343). -/
structure GroupApplied (b : Bool) (lo k : Nat) (s t : State) : Prop where
  wf : Registers.wf t = true
  force : ∀ m, m ≠ 0x881 → forceReg t m = if b = true ∧ lo ≤ m ∧ m < lo + k then getReg s m else forceReg s m
  reg : ∀ m, 4 ≤ m → getReg t m = getReg s m
  seq : t.seq = s.seq

theorem GroupApplied.whereSet {b : Bool} {lo k : Nat} {f : State → State} {s : State} (hw : Registers.wf s = true)
    (h : GroupApplied true lo k s (f s)) : GroupApplied b lo k s (whereSet b f s) := by
  cases b with
  | false => exact ⟨hw, fun m _ => by rw [if_neg (by simp)]; rfl, fun _ _ => rfl, rfl⟩
  | true => exact h

theorem applyShadows_rwf {s : State} (n k : Nat) (h : Registers.wf s = true) : Registers.wf (applyShadows s n k) = true := by
  obtain ⟨hr, ha, hf, hs⟩ := (Registers.wf_iff s).mp h
  have hforce := applyShadows_swf n k hf
  obtain ⟨w, he⟩ := applyShadows_eq s n k
  rw [he] at hforce ⊢
  exact (Registers.wf_iff _).mpr ⟨hr, ha, hforce, hs⟩

theorem applyShadows_applied {s : State} (lo k : Nat) (h : Registers.wf s = true) :
    GroupApplied true lo k s (applyShadows s lo k) where
  wf := applyShadows_rwf lo k h
  force m _ := by
    obtain ⟨-, -, hf, -⟩ := (Registers.wf_iff s).mp h
    rw [forceReg_applyShadows lo k m hf]
    simp only [true_and]
  reg m _ := by
    obtain ⟨w, he⟩ := applyShadows_eq s lo k
    rw [he]
    rfl
  seq := by
    obtain ⟨w, he⟩ := applyShadows_eq s lo k
    rw [he]

theorem commitSeg_applied {s : State} (h : Registers.wf s = true) : GroupApplied true 0x692 3 s (commitSeg s) :=
  let a := applyShadows_applied 0x692 3 h
  ⟨a.wf, a.force, a.reg, a.seq⟩

theorem commitFir_applied {s : State} (h : Registers.wf s = true) : GroupApplied true 0x3A0 10 s (commitFir s) where
  wf := raise_rwf _ (applyShadows_applied 0x3A0 10 h).wf
  force m hm := by
    rw [← (applyShadows_applied 0x3A0 10 h).force m hm, forceReg, commitFir, raise_inForce]
    rfl
  reg m hm := by
    rw [← (applyShadows_applied 0x3A0 10 h).reg m hm, commitFir, getReg_raise_other _ _ _ (by
      show m ≠ 1
      omega)]
    rfl
  seq := by
    rw [← (applyShadows_applied 0x3A0 10 h).seq, commitFir, raise_seq]

theorem applyPinmux_applied {s : State} (b : Word) (h : Registers.wf s = true) :
    GroupApplied true 0x880 1 s (applyPinmux s (getReg s 0x880) b) where
  wf := by
    obtain ⟨hr, ha, hf, hs⟩ := (Registers.wf_iff s).mp h
    exact (Registers.wf_iff _).mpr ⟨hr, ha, swf_sset _ _ _ _ (swf_sset _ _ _ _ hf), hs⟩
  force m hm := by
    obtain ⟨-, -, hf, -⟩ := (Registers.wf_iff s).mp h
    show forceReg (setForce (setForce s 0x880 _) 0x881 b) m = _
    rw [forceReg_setForce _ _ _ (swf_sset _ _ _ _ hf), if_neg hm, forceReg_setForce _ _ _ hf]
    by_cases e : m = 0x880
    · rw [if_pos e, if_pos ⟨rfl, by omega, by omega⟩, e]
    · rw [if_neg e, if_neg (by omega)]
  reg m _ := rfl
  seq := rfl

theorem commitGroups_applied {s : State} (m : BitVec 5) (h : Registers.wf s = true) :
    Registers.wf (commitGroups m s) = true ∧ (commitGroups m s).seq = s.seq ∧
    (∀ n, 4 ≤ n → n ≠ 0x881 → forceReg (commitGroups m s) n =
      if (m.getLsbD 4 = true ∧ 0x184 ≤ n ∧ n < 0x184 + 4) ∨ (m.getLsbD 3 = true ∧ 0x880 ≤ n ∧ n < 0x880 + 1) ∨
        (m.getLsbD 2 = true ∧ 0x3A0 ≤ n ∧ n < 0x3A0 + 10) ∨ (m.getLsbD 1 = true ∧ 0x692 ≤ n ∧ n < 0x692 + 3) ∨
        (m.getLsbD 0 = true ∧ 0x610 ≤ n ∧ n < 0x610 + 8) then getReg s n else forceReg s n) := by
  have h0 := GroupApplied.whereSet (f := (applyShadows · 0x610 8)) (b := m.getLsbD 0) h (applyShadows_applied 0x610 8 h)
  have h1 := GroupApplied.whereSet (b := m.getLsbD 1) h0.wf (commitSeg_applied h0.wf)
  have h2 := GroupApplied.whereSet (b := m.getLsbD 2) h1.wf (commitFir_applied h1.wf)
  have h3 := GroupApplied.whereSet (f := fun t => applyPinmux t (getReg t 0x880) (pinmuxB t)) (b := m.getLsbD 3) h2.wf
    (applyPinmux_applied _ h2.wf)
  have h4 := GroupApplied.whereSet (f := (applyShadows · 0x184 4)) (b := m.getLsbD 4) h3.wf (applyShadows_applied 0x184 4 h3.wf)
  refine ⟨h4.wf, h4.seq.trans (h3.seq.trans (h2.seq.trans (h1.seq.trans h0.seq))), fun n hn hb => ?_⟩
  rw [commitGroups, h4.force n hb, h3.force n hb, h2.force n hb, h1.force n hb, h0.force n hb, h3.reg n hn, h2.reg n hn,
    h1.reg n hn, h0.reg n hn]
  simp only [ite_or]

theorem applyShadows_dresser (s : State) (n k : Nat) : (applyShadows s n k).dresser = s.dresser := by
  obtain ⟨w, he⟩ := applyShadows_eq s n k
  rw [he]

theorem applyShadows_firActive (s : State) (n k : Nat) : (applyShadows s n k).firActive = s.firActive := by
  obtain ⟨w, he⟩ := applyShadows_eq s n k
  rw [he]

theorem whereSet_eq {α : Type} (g : State → α) (b : Bool) (f : State → State) (s : State) :
    g (whereSet b f s) = if b then g (f s) else g s := by
  cases b <;> rfl

/-- The segments' windows change with SEG alone, the banks with FIR alone. -/
theorem commitGroups_windows (m : BitVec 5) (s : State) :
    (commitGroups m s).dresser.inForce = (if m.getLsbD 1 then s.dresser.shadow else s.dresser.inForce) ∧
      (commitGroups m s).firActive = xor s.firActive (m.getLsbD 2) := by
  have hseg : ∀ t, (commitSeg t).dresser.inForce = t.dresser.shadow := fun t => by
    show (applyShadows t 0x692 3).dresser.shadow = _
    rw [applyShadows_dresser]
  have hsegFir : ∀ t, (commitSeg t).firActive = t.firActive := fun t => applyShadows_firActive t 0x692 3
  have hfir : ∀ t, (commitFir t).dresser = t.dresser := fun t => by
    rw [commitFir, raise_dresser]
    exact applyShadows_dresser t 0x3A0 10
  have hfirFir : ∀ t, (commitFir t).firActive = !t.firActive := fun t => by
    rw [commitFir, raise_firActive]
    show (!(applyShadows t 0x3A0 10).firActive) = _
    rw [applyShadows_firActive]
  have hpin : ∀ t a b, (applyPinmux t a b).dresser = t.dresser ∧ (applyPinmux t a b).firActive = t.firActive :=
    fun _ _ _ => ⟨rfl, rfl⟩
  constructor
  · simp only [commitGroups, whereSet_eq (fun t => t.dresser.inForce), whereSet_eq (fun t => t.dresser.shadow),
      applyShadows_dresser, (hpin _ _ _).1, hfir, hseg, ite_self]
  · simp only [commitGroups, whereSet_eq (fun t => t.firActive), applyShadows_firActive, (hpin _ _ _).2, hfirFir, hsegFir,
      ite_self]
    cases m.getLsbD 2 <;> simp

/-- A COMMIT that waits is applied: its groups, the margin told, COMMIT_APPLIED. -/
theorem commitStep_eq {s : State} (h : ¬(s.seq.commitMask = 0 ∧ s.seq.commitReq = false)) :
    commitStep s =
      let t := raiseIf ((s.seq.commitMask.getLsbD 2 || s.seq.commitMask.getLsbD 4) && schedShort s) srcSchedShort
        (commitGroups s.seq.commitMask s)
      raise { t with seq := { t.seq with commitMask := 0, commitReq := false } } srcCommitApplied :=
  if_neg h

/-! ### The snapshot and the pairs -/

/-- Of a list of registers each is taken as it stands, and the rest of the table keeps its values. -/
theorem sget_taken (f : Nat → Word) (ns : List Nat) (m : List (Nat × Word)) (h : swf regReset m = true) (n : Nat) :
    sget regReset (ns.foldl (fun m k => sset regReset m k (f k)) m) n = if n ∈ ns then f n else sget regReset m n := by
  induction ns generalizing m with
  | nil => simp
  | cons k ns ih =>
    rw [List.foldl_cons, ih _ (swf_sset _ _ _ _ h)]
    by_cases hn : n ∈ ns
    · rw [if_pos hn, if_pos (List.mem_cons_of_mem _ hn)]
    · by_cases hk : n = k
      · rw [if_neg hn, hk, if_pos List.mem_cons_self, sget_sset_self _ _ h]
      · rw [if_neg hn, sget_sset_other _ _ _ _ _ hk, if_neg (by rw [List.mem_cons]; exact fun h => h.elim hk hn)]

theorem snapReg_snapshotStep {s : State} (h : Registers.wf s = true) {n : Nat} (hn : n ∈ snRegs) :
    snapReg (snapshotStep s) n = getReg s n := by
  obtain ⟨-, -, -, hs⟩ := (Registers.wf_iff s).mp h
  rw [snapReg, snapshotStep]
  dsimp only
  rw [sget_taken (getReg s) snRegs s.snap hs n, if_pos hn]

theorem nth_setNth {α : Type} {l : List α} {k : Nat} (h : k < l.length) (x d : α) : nth (setNth l k x) k d = x := by
  simp [nth, setNth, h]

/-- The count of pair `k` has become `n`. -/
def pairCounted (s : State) (k n : Nat) : State :=
  { s with seq := { s.seq with mism := setNth s.seq.mism k n } }

theorem comparePair_agrees {s : State} {k : Nat} (h : pairDiffers s k = false) :
    comparePair s k = clearReg (pairCounted s k 0) 0x193 (2 ^ k) := by
  rw [comparePair, h]
  rfl

theorem comparePair_differs {s : State} {k : Nat} (h : pairDiffers s k = true) :
    comparePair s k = (let n := min (nth s.seq.mism k 0 + 1) 5
      let t := pairCounted s k n
      if n = 5 then raise (orReg t 0x193 (2 ^ k)) srcCfgMismatch else t) := by
  rw [comparePair, h]
  rfl

theorem pairCounted_rwf {s : State} (k n : Nat) (h : Registers.wf s = true) : Registers.wf (pairCounted s k n) = true := h

theorem bitAt_orReg {s : State} (n : Nat) {q : Nat} (hq : q < 20) (h : Registers.wf s = true) :
    bitAt (getReg (orReg s n (2 ^ q)) n) q = true := by
  rw [orReg, getReg_setReg n _ h, bitAt_or_wd_two_pow _ _ _ hq]
  simp

theorem clearReg_mism (s : State) (n m : Nat) : (clearReg s n m).seq.mism = s.seq.mism := by
  rw [clearReg_seq]

section
variable {s : State} {k : Nat} (hk : k < 4) (hlen : s.seq.mism.length = 4)
include hk hlen

theorem comparePair_count_agrees (h : pairDiffers s k = false) : nth (comparePair s k).seq.mism k 0 = 0 := by
  rw [comparePair_agrees h, clearReg_mism]
  exact nth_setNth (by omega) _ _

theorem comparePair_count_differs (h : pairDiffers s k = true) :
    nth (comparePair s k).seq.mism k 0 = min (nth s.seq.mism k 0 + 1) 5 := by
  rw [comparePair_differs h]
  dsimp only
  split
  · rw [raise_seq, orReg_seq]
    exact nth_setNth (by omega) _ _
  · exact nth_setNth (by omega) _ _

end

/-- The fifth boundary in a row at which a pair differs sets its bit. -/
theorem comparePair_reports {s : State} {k : Nat} (hk : k < 4) (hw : Registers.wf s = true) (h : pairDiffers s k = true)
    (h4 : 4 ≤ nth s.seq.mism k 0) : bitAt (getReg (comparePair s k) 0x193) k = true := by
  rw [comparePair_differs h]
  dsimp only
  rw [if_pos (by omega), getReg_raise_other _ _ _ (by decide)]
  exact bitAt_orReg 0x193 (by omega) (pairCounted_rwf k _ hw)

/-- Settles O29: the groups of a COMMIT, the snapshot, each pair by its count. -/
theorem stepsOfTheBoundary : Obligations.StepsOfTheBoundary := by
  intro s
  refine ⟨fun hm hr => if_pos ⟨hm, hr⟩, fun hwait hup hw => ?_, fun hw n hn => snapReg_snapshotStep hw hn,
    fun k hk hlen => ⟨comparePair_count_agrees hk hlen, comparePair_count_differs hk hlen, fun hw _ =>
      ⟨fun h => ?_, comparePair_reports hk hw⟩⟩⟩
  · have hne : ¬(s.seq.commitMask = 0 ∧ s.seq.commitReq = false) := by
      rintro ⟨hm, hr⟩
      exact hwait.elim (fun h => h hm) (fun h => by simp [hr] at h)
    obtain ⟨hgwf, hseq, hforce⟩ := commitGroups_applied s.seq.commitMask hw
    obtain ⟨hseg, hfir⟩ := commitGroups_windows s.seq.commitMask s
    have hcopies : (commitStep s).inForce = (commitGroups s.seq.commitMask s).inForce := by
      rw [commitStep_eq hne, raise_inForce]
      exact raiseIf_inForce _ _ _
    have hf : ∀ n, forceReg (commitStep s) n = forceReg (commitGroups s.seq.commitMask s) n := fun n => by
      rw [forceReg, forceReg, hcopies]
    refine ⟨?_, ?_, ?_, fun i hi => ?_, ?_, fun i hi => ?_, ?_, fun i hi => ?_, ?_, fun i hi => ?_⟩
    · rw [commitStep_eq hne, raise_seq]
    · rw [commitStep_eq hne, raise_seq]
    · rw [commitStep_eq hne]
      refine statusBit_raise_wf (by decide) ?_ (raiseIf_rwf _ _ hgwf)
      have hon := coreOn_of_portsUp hup
      simp only [coreOn, raiseIf_seq, hseq] at hon ⊢
      exact hon
    · rw [hf, hforce _ (by omega) (by omega)]
      refine if_congr ?_ rfl rfl
      grind
    · rw [commitStep_eq hne, raise_dresser]
      simp only [raiseIf_dresser]
      exact hseg
    · rw [hf, hforce _ (by omega) (by omega)]
      refine if_congr ?_ rfl rfl
      grind
    · rw [commitStep_eq hne, raise_firActive]
      simp only [raiseIf_firActive]
      exact hfir
    · rw [hf, hforce _ (by omega) (by omega)]
      refine if_congr ?_ rfl rfl
      grind
    · rw [hf, hforce _ (by omega) (by omega)]
      refine if_congr ?_ rfl rfl
      grind
    · rw [hf, hforce _ (by omega) (by omega)]
      refine if_congr ?_ rfl rfl
      grind
  · rw [comparePair_agrees h]
    exact bitAt_clearReg 0x193 k (pairCounted_rwf k 0 hw)

end Sys2Proof.Machine

/-!
The Bureau's events and records (12 R258 to R272): rules that several obligations use.
-/

namespace Sys2Proof.Machine

/-! ### What taking an event leaves alone -/

/-- Records are made: nothing but registers, the Bureau and its requests to capture memory changes, and no event is
delivered. -/
def RecordsMade (s t : State) : Prop := sameBut [.regs, .bureau, .mem] s t ∧ t.bureau.events = s.bureau.events

theorem RecordsMade.refl (s : State) : RecordsMade s s := ⟨sameBut_refl _ s, rfl⟩

theorem RecordsMade.trans {s t u : State} (h : RecordsMade s t) (k : RecordsMade t u) : RecordsMade s u :=
  ⟨sameBut_trans h.1 k.1, k.2.trans h.2⟩

theorem RecordsMade.bureau (s : State) {b : Bureau} (h : b.events = s.bureau.events) :
    RecordsMade s { s with bureau := b } :=
  ⟨sameBut_mono (sameBut_bureau s b) (by decide), h⟩

/-- Records are made after a change of the Bureau that delivers no event. -/
theorem RecordsMade.after {s t : State} {b : Bureau} (k : RecordsMade { s with bureau := b } t)
    (h : b.events = s.bureau.events) : RecordsMade s t :=
  (RecordsMade.bureau s h).trans k

theorem RecordsMade.setReg (s : State) {n : Nat} (v : Word) (hr : isRetained n = false) : RecordsMade s (setReg s n v) := by
  refine ⟨?_, by rw [setReg_bureau]⟩
  rw [Machine.setReg, hr]
  intro p hp
  cases p <;> simp_all [Part.same]

/-- REC_LIMIT and REC_LOSS make no records of their own. -/
theorem RecordsMade.raise (s : State) {src : Nat} (hr : isRetained (src / 20) = false) (h : 69 ≤ src ∧ src ≤ 71) :
    RecordsMade s (raise s src) := by
  refine ⟨sameBut_mono (raise_frame s hr) (by decide), ?_⟩
  have hnot : routedRec s src = false := by simp [routedRec, h.1, h.2]
  unfold Machine.raise
  simp only [hnot, Bool.and_false, Bool.false_and, Bool.false_eq_true, if_false]
  split
  · exact congrArg Bureau.events (orReg_bureau s _ _)
  · rfl

theorem RecordsMade.raiseIf (c : Bool) (s : State) {src : Nat} (hr : isRetained (src / 20) = false)
    (h : 69 ≤ src ∧ src ≤ 71) : RecordsMade s (raiseIf c src s) := by
  cases c
  · exact RecordsMade.refl s
  · exact RecordsMade.raise s hr h

theorem recLost_made (s : State) : RecordsMade s (recLost s) :=
  (RecordsMade.setReg s _ (by decide)).trans (RecordsMade.raise _ (by decide) (by decide))

theorem raiseReq_frame (s : State) (r : Nat) (op : MemOp) : sameBut [.mem] s (raiseReq s r op) := by
  unfold raiseReq raiseAt
  split
  · split
    · exact sameBut_mem s _
    · exact sameBut_refl _ s
  · exact sameBut_mem s _

theorem raiseReq_made (s : State) (r : Nat) (op : MemOp) : RecordsMade s (raiseReq s r op) :=
  ⟨sameBut_mono (raiseReq_frame s r op) (by decide), congrArg Bureau.events (raiseReq_frame s r op .bureau (by decide))⟩

theorem enqueueRec_made (s : State) (r : BRec) : RecordsMade s (enqueueRec s r) := by
  unfold enqueueRec
  dsimp only
  split
  · exact RecordsMade.bureau s rfl
  · split
    · exact recLost_made s
    · exact RecordsMade.after (raiseReq_made _ 7 .stage) rfl

theorem closeOpen_made (s : State) : RecordsMade s (closeOpen s) := by
  unfold closeOpen
  split
  · exact RecordsMade.after (enqueueRec_made _ _) rfl
  · exact RecordsMade.refl s

theorem openRecord_made (s : State) (e : BEvent) : RecordsMade s (openRecord s e) := by
  unfold openRecord
  dsimp only
  refine (closeOpen_made s).trans ?_
  split
  · exact RecordsMade.after (enqueueRec_made _ _) rfl
  · split
    · exact RecordsMade.after (closeOpen_made _) rfl
    · exact RecordsMade.bureau _ rfl

theorem suppress_made (s : State) (e : BEvent) : RecordsMade s (suppress s e) := by
  unfold suppress
  dsimp only
  have hcount : ∀ b : Bureau, b.events = (closeOpen s).bureau.events →
      RecordsMade (closeOpen s) (addReg { closeOpen s with bureau := b } 0x70D 1) := fun b h =>
    (RecordsMade.bureau _ h).trans (RecordsMade.setReg _ _ (by decide))
  refine (closeOpen_made s).trans ((hcount _ ?_).trans (RecordsMade.raiseIf (src := srcRecLimit) _ _ (by decide) (by decide)))
  rfl

/-- An event opens its record, or is suppressed at its group's limit. -/
theorem newEvent_made (s : State) (e : BEvent) :
    RecordsMade s (match groupLimit s (e.code / 32) with
      | some k => if nth s.bureau.opened (e.code / 32) 0 ≥ k then suppress s e else openRecord s e
      | none => openRecord s e) := by
  split
  · split
    · exact suppress_made s e
    · exact openRecord_made s e
  · exact openRecord_made s e

theorem takeEvent_made (s : State) (e : BEvent) : RecordsMade s (takeEvent s e) := by
  unfold takeEvent
  split
  · split
    · dsimp only
      split
      · exact RecordsMade.after (closeOpen_made _) rfl
      · exact RecordsMade.bureau s rfl
    · exact newEvent_made s e
  · exact newEvent_made s e

/-- The events of a tick are taken, every one of them. -/
theorem takeEvents_effect (s : State) :
    (takeEvents s).bureau.events = [] ∧ sameBut [.regs, .bureau, .mem] s (takeEvents s) := by
  have hall : ∀ (es : List BEvent) (t : State), RecordsMade t (es.foldl takeEvent t) := fun es => by
    induction es with
    | nil => exact fun t => RecordsMade.refl t
    | cons e es ih => exact fun t => (takeEvent_made t e).trans (ih _)
  obtain ⟨hframe, hevents⟩ := hall (sortEvents s.bureau.events) { s with bureau := { s.bureau with events := [] } }
  exact ⟨hevents, sameBut_trans (sameBut_mono (sameBut_bureau s _) (by decide)) hframe⟩

end Sys2Proof.Machine

/-!
The panel's stops and starts (14 R308, R326 to R332): rules that several obligations use.
-/

namespace Sys2Proof.Machine

/-- Of the Bureau only the events that wait change. -/
def BureauKept (s t : State) : Prop := ∃ ev, t.bureau = { s.bureau with events := ev }

theorem BureauKept.of_eq {s t : State} (h : t.bureau = s.bureau) : BureauKept s t := ⟨s.bureau.events, h⟩

theorem BureauKept.trans {s t u : State} (h : BureauKept s t) (k : BureauKept t u) : BureauKept s u := by
  obtain ⟨ev, h⟩ := h
  obtain ⟨ev', k⟩ := k
  exact ⟨ev', by rw [k, h]⟩

theorem BureauKept.raise (s : State) {src : Nat} (hr : isRetained (src / 20) = false) : BureauKept s (raise s src) := by
  cases h : coreOn s with
  | false => exact .of_eq (by rw [raise_of_off h])
  | true =>
    obtain ⟨ev, he⟩ := raise_of_on h hr
    exact ⟨ev, by rw [he]⟩

/-- What the panel may change besides itself: its requests, its operations on other chips, the frontlight's grant, its
errors told. -/
def PanelOnly (s t : State) : Prop :=
  sameBut [.hutch, .power, .mem, .chain, .regs, .bureau] s t ∧ BureauKept s t

theorem PanelOnly.refl (s : State) : PanelOnly s s := ⟨sameBut_refl _ s, .of_eq rfl⟩

theorem PanelOnly.trans {s t u : State} (h : PanelOnly s t) (k : PanelOnly t u) : PanelOnly s u :=
  ⟨sameBut_trans h.1 k.1, h.2.trans k.2⟩

/-- A change of parts that leaves registers and Bureau alone. -/
theorem PanelOnly.of_frame {s t : State} {ps : List Part} (h : sameBut ps s t)
    (hps : ps ⊆ [.hutch, .power, .mem, .chain, .regs, .bureau] := by decide) (hb : .bureau ∉ ps := by decide) :
    PanelOnly s t :=
  ⟨sameBut_mono h hps, .of_eq (h .bureau hb)⟩

theorem PanelOnly.raise (s : State) {src : Nat} (hr : isRetained (src / 20) = false) : PanelOnly s (raise s src) :=
  ⟨sameBut_mono (raise_frame s hr) (by decide), BureauKept.raise s hr⟩

theorem setReg_frame_regs (s : State) {n : Nat} (v : Word) (hr : isRetained n = false) : sameBut [.regs] s (setReg s n v) := by
  rw [setReg, hr]
  intro p hp
  cases p <;> simp_all [Part.same]

theorem putHutch_frame (s : State) (h : Hutch) : sameBut [.hutch] s (putHutch s h) := sameBut_hutch s h

theorem dropEngine_frame (s : State) (es : List Engine) : sameBut [.chain] s (dropEngine s es) := sameBut_chain s _

theorem withdrawReq_frame (s : State) (r : Nat) : sameBut [.mem] s (withdrawReq s r) := sameBut_mem s _

theorem dropCopy_frame (s : State) : sameBut [.hutch, .mem, .chain] s (dropCopy s) :=
  sameBut_trans (sameBut_mono (putHutch_frame s _) (by decide)) (sameBut_trans
    (sameBut_mono (withdrawReq_frame _ 3) (by decide)) (sameBut_mono (dropEngine_frame _ _) (by decide)))

theorem flDrop_frame (s : State) : sameBut [.hutch, .power] s (flDrop s) := by
  intro p hp
  cases p <;> simp_all [Part.same, flDrop]

theorem flRaise_frame (s : State) : sameBut [.hutch] s (flRaise s) := by
  unfold flRaise
  dsimp only
  split
  · exact putHutch_frame s _
  · exact sameBut_refl _ s

/-- A rectangle that fails frees its slot and is told; the supplies are as before. -/
theorem rectError_only (s : State) (i : Nat) : PanelOnly s (rectError s i) ∧ (rectError s i).power = s.power := by
  have hput := PanelOnly.of_frame (putHutch_frame s { s.hutch with rects := setNth s.hutch.rects i freeRect })
  have hcopy : ∀ t, PanelOnly t (if t.hutch.copying = some i then dropCopy t else t) ∧
      (if t.hutch.copying = some i then dropCopy t else t).power = t.power := fun t => by
    split
    · exact ⟨PanelOnly.of_frame (dropCopy_frame t), dropCopy_frame t .power (by decide)⟩
    · exact ⟨PanelOnly.refl t, rfl⟩
  unfold rectError
  dsimp only
  refine ⟨(hput.trans (hcopy _).1).trans ((PanelOnly.of_frame (setReg_frame_regs _ _ (by decide))).trans
    (PanelOnly.raise _ (by decide))), ?_⟩
  rw [raise_power, orReg_power]
  exact (hcopy _).2

theorem freeRects_only (s : State) : PanelOnly s (freeRects s) ∧ (freeRects s).power = s.power := by
  unfold freeRects
  generalize upto 4 = is
  induction is generalizing s with
  | nil => exact ⟨PanelOnly.refl s, rfl⟩
  | cons i is ih =>
    rw [List.foldl_cons]
    have hone : PanelOnly s (if (rectAt s.hutch i).st = 0 then s else rectError s i) ∧
        (if (rectAt s.hutch i).st = 0 then s else rectError s i).power = s.power := by
      split
      · exact ⟨PanelOnly.refl s, rfl⟩
      · exact rectError_only s i
    exact ⟨hone.1.trans (ih _).1, (ih _).2.trans hone.2⟩

/-- The rectangles are given up, the frontlight goes off, the panel takes another state. -/
theorem panelDropped_only (s : State) (h : Hutch) :
    PanelOnly s (dropEngine (withdrawReq (putHutch (flDrop (freeRects s)) h) 2) [.row]) :=
  (freeRects_only s).1.trans ((PanelOnly.of_frame (flDrop_frame _)).trans ((PanelOnly.of_frame (putHutch_frame _ h)).trans
    ((PanelOnly.of_frame (withdrawReq_frame _ 2)).trans (PanelOnly.of_frame (dropEngine_frame _ _)))))

theorem startDischarge_only (s : State) (st after : Nat) : PanelOnly s (startDischarge s st after) := panelDropped_only s _

theorem hutchDown_only (s : State) (after : Nat) : PanelOnly s (hutchDown s after) := panelDropped_only s _

/-- With the panel off its supplies the frontlight's grant alone goes. -/
theorem startDischarge_power (s : State) (st after : Nat) : (startDischarge s st after).power = (flDrop s).power := by
  show (flDrop (freeRects s)).power = _
  simp only [flDrop, (freeRects_only s).2]

theorem hutchDown_power (s : State) (after : Nat) : (hutchDown s after).power = (flDrop s).power := by
  show (flDrop (freeRects s)).power = _
  simp only [flDrop, (freeRects_only s).2]

theorem hutchStop_only (s : State) : PanelOnly s (hutchStop s) := by
  unfold hutchStop
  split
  · exact hutchDown_only s 0
  · split
    · exact startDischarge_only s 4 0
    · exact PanelOnly.refl s

theorem hutchStop_dead {s : State} (h : panelLive s = false) : hutchStop s = s := by
  unfold hutchStop
  simp only [panelLive, Bool.or_eq_false_iff, beq_eq_false_iff_ne] at h
  obtain ⟨⟨⟨⟨h1, h2⟩, h3⟩, -⟩, -⟩ := h
  rw [if_neg (fun h => h.elim h2 h3), if_neg h1]

theorem hutchFault_frame (s : State) (cause : Nat) : sameBut [.hutch, .regs, .bureau] s (hutchFault s cause) :=
  sameBut_trans (sameBut_mono (putHutch_frame s _) (by decide)) (sameBut_mono (raise_frame _ (by decide)) (by decide))

theorem hutchUp_frame (s : State) : sameBut [.hutch, .regs, .bureau] s (hutchUp s) := by
  unfold hutchUp
  split
  · exact hutchFault_frame s 6
  · exact sameBut_mono (putHutch_frame s _) (by decide)

theorem hutchAuto_frame (s : State) : sameBut [.hutch, .regs, .bureau] s (hutchAuto s) := by
  unfold hutchAuto
  split
  · exact hutchUp_frame s
  · exact sameBut_refl _ s

end Sys2Proof.Machine

/-!
The moves of the sequencer, WAKE and CFG_MISMATCH (03 R52 to R58, R74, R76; O30).
-/

namespace Sys2Proof.Machine

/-! ### The start of the Bureau -/

theorem surveyEnergy_frame (s : State) : sameBut [.energy, .nvm] s (surveyEnergy s) := by
  unfold surveyEnergy
  split
  · dsimp only
    split
    · exact sameBut_mono (sameBut_energy s _) (by decide)
    · exact sameBut_trans (sameBut_mono (sameBut_energy s _) (by decide)) (sameBut_mono (sameBut_nvm _ _) (by decide))
  · exact sameBut_mono (sameBut_energy s _) (by decide)

theorem restoreRecords_frame (s : State) : sameBut [.bureau, .nvm, .regs, .aon] s (restoreRecords s) := by
  unfold restoreRecords
  split
  · exact sameBut_trans (sameBut_mono (sameBut_bureau s _) (by decide)) (sameBut_mono (setReg_frame _ _ _) (by decide))
  · refine sameBut_trans ?_ (sameBut_mono (setReg_frame _ 0x70E _) (by decide))
    intro p hp
    cases p <;> simp_all [Part.same]

theorem restoreBureau_frame (s : State) : sameBut [.bureau, .nvm, .regs, .aon] s (restoreBureau s) :=
  sameBut_trans (restoreRecords_frame s) (sameBut_mono (sameBut_bureau _ _) (by decide))

theorem raiseIf_frame_any (c : Bool) (s : State) (src : Nat) : sameBut [.regs, .aon, .bureau] s (raiseIf c src s) := by
  cases c
  · exact sameBut_refl _ s
  · exact raise_frame_any s src

/-- What the events of a start may change. -/
abbrev startParts : List Part := [.regs, .aon, .bureau, .evid]

theorem deliverDark_frame (s : State) (c : Nat) : sameBut startParts s (deliverDark s c) := by
  have hsensed : ∀ k, sameBut startParts s (if k = 0 then s
      else deliver (raise s srcTampSense) { bEvent (0x180 + c) 1 0 0 0 with rep := k - 1 }) := fun k => by
    split
    · exact sameBut_refl _ s
    · exact sameBut_trans (sameBut_mono (raise_frame_any s _) (by decide)) (sameBut_mono (deliver_frame _ _) (by decide))
  unfold deliverDark
  dsimp only
  split
  next secs cnt er _ =>
    refine sameBut_trans (hsensed (nth s.aon.heldSense c 0)) ?_
    refine sameBut_trans (sameBut_mono (raise_frame_any _ srcTampQualified) (by decide)) ?_
    refine sameBut_trans (sameBut_mono (raiseIf_frame_any er _ srcCupboardErased) (by decide)) ?_
    exact sameBut_mono (deliver_frame _ _) (by decide)
  · exact hsensed _

theorem deliverSet_frame (s : State) : sameBut [.bureau] s (deliverSet s) := by
  unfold deliverSet
  generalize upto 80 = is
  induction is generalizing s with
  | nil => exact sameBut_refl _ s
  | cons i is ih =>
    refine sameBut_trans ?_ (ih _)
    dsimp only
    split
    · exact sameBut_bureau s _
    · exact sameBut_refl _ s

theorem deliverDarks_frame (cs : List Nat) (s : State) : sameBut startParts s (cs.foldl deliverDark s) := by
  induction cs generalizing s with
  | nil => exact sameBut_refl _ s
  | cons c cs ih => exact sameBut_trans (deliverDark_frame s c) (ih _)

theorem startEvents_frame (s : State) : sameBut startParts s (startEvents s) := by
  unfold startEvents
  extract_lets s1 lost s2 a2 s3 e u au s4 s5 a5 s6 a6 s7
  have h1 : sameBut startParts s s1 := sameBut_mono (deliver_frame s _) (by decide)
  have h2 : sameBut startParts s1 s2 := by
    unfold s2
    split
    · exact sameBut_refl _ s1
    · exact sameBut_trans (sameBut_mono (deliver_frame _ _) (by decide)) (sameBut_mono (setReg_frame _ 0x70F 0) (by decide))
  have h3 : sameBut startParts s2 s3 := sameBut_mono (sameBut_aon s2 _) (by decide)
  have h4 : sameBut startParts s3 s4 := by
    unfold s4
    split
    · have hu : sameBut startParts s3 u := sameBut_mono (deliver_frame s3 _) (by decide)
      refine sameBut_trans hu ?_
      split
      · exact sameBut_mono (loseEvidence_frame u 1) (by decide)
      · exact sameBut_mono (sameBut_aon u _) (by decide)
    · exact sameBut_refl _ s3
  have h5 : sameBut startParts s4 s5 := deliverDarks_frame (upto 7) s4
  have h6 : sameBut startParts s5 s6 :=
    sameBut_trans (sameBut_mono (sameBut_aon s5 _) (by decide)) (sameBut_mono (setReg_frame _ 0x784 0) (by decide))
  have h7 : sameBut startParts s6 s7 := by
    unfold s7
    split
    · exact sameBut_refl _ s6
    · exact sameBut_trans (sameBut_mono (sameBut_aon s6 _) (by decide)) (sameBut_trans
        (sameBut_mono (raise_frame_any _ srcEvidence) (by decide)) (sameBut_mono (deliver_frame _ _) (by decide)))
  have hset : sameBut startParts s7 (deliverSet s7) := sameBut_mono (deliverSet_frame s7) (by decide)
  exact sameBut_trans h1 (sameBut_trans h2 (sameBut_trans h3 (sameBut_trans h4 (sameBut_trans h5 (sameBut_trans h6
    (sameBut_trans h7 hset))))))

/-! ### COLD and LOAD end -/

theorem mark_frame (s : State) (d : Did) : sameBut [.seq] s (mark s d) := sameBut_seq s _

theorem mark_loaded (s : State) (d : Did) : (mark s d).seq.loaded = s.seq.loaded := rfl

theorem loadPins_frame (s : State) : sameBut [.inForce, .pins, .aon] s (loadPins s) := by
  intro p hp
  cases p <;> simp_all [Part.same, loadPins, applyPinmux, setForce]

/-- COLD's end before the trim region decides: LINK_CHANGE as the wiring test found it, the state told. -/
def coldTold (s : State) : State :=
  raise (mark (if s.chain.posValid || s.chain.conflict then raise s srcLinkChange else s) .entered) srcStateChanged

theorem coldTold_frame (s : State) : sameBut [.regs, .bureau, .seq] s (coldTold s) := by
  have hlink : sameBut [.regs, .bureau, .seq] s (if s.chain.posValid || s.chain.conflict then raise s srcLinkChange else s) := by
    split
    · exact sameBut_mono (raise_frame s (by decide)) (by decide)
    · exact sameBut_refl _ s
  exact sameBut_trans hlink (sameBut_trans (sameBut_mono (mark_frame _ _) (by decide))
    (sameBut_mono (raise_frame _ (by decide)) (by decide)))

theorem coldTold_rwf {s : State} (h : Registers.wf s = true) : Registers.wf (coldTold s) = true := by
  refine raise_rwf srcStateChanged (s := mark _ .entered) ?_
  show Registers.wf (if s.chain.posValid || s.chain.conflict then raise s srcLinkChange else s) = true
  split
  · exact raise_rwf _ h
  · exact h

/-- HOLD begins because the trim region is bad. -/
def trimHold (s : State) : State :=
  { loadPins (coldTold s) with seq := { (loadPins (coldTold s)).seq with
    st := .hold, stateTicks := 0, holdCause := 2, holdRestore := true, trimBad := true, item := 17 } }

theorem coldEnds_eq (s : State) : coldEnds s =
    if trimValid s then
      { coldTold s with seq := { (coldTold s).seq with st := .load, stateTicks := 0, tick := 0, item := 17 } }
    else raise (raise (trimHold s) srcTrimBad) srcHoldEntered := rfl

theorem loadPins_rwf {s : State} (h : Registers.wf s = true) : Registers.wf (loadPins s) = true := by
  obtain ⟨hr, ha, hf, hs⟩ := (Registers.wf_iff s).mp h
  exact (Registers.wf_iff _).mpr ⟨hr, ha, swf_sset _ _ _ _ (swf_sset _ _ _ _ hf), hs⟩

theorem trimHold_rwf {s : State} (h : Registers.wf s = true) : Registers.wf (trimHold s) = true :=
  (Registers.wf_iff _).mpr ((Registers.wf_iff _).mp (loadPins_rwf (coldTold_rwf h)))

theorem trimHold_on (s : State) : coreOn (trimHold s) = true := by simp [coreOn, trimHold]

theorem trimHold_frame (s : State) : sameBut [.regs, .bureau, .seq, .inForce, .pins, .aon] s (trimHold s) :=
  sameBut_trans (sameBut_mono (coldTold_frame s) (by decide)) (sameBut_trans
    (sameBut_mono (loadPins_frame _) (by decide)) (sameBut_mono (sameBut_seq _ _) (by decide)))

theorem raises_seq (s : State) (a b : Nat) : (raise (raise s a) b).seq = s.seq := by rw [raise_seq, raise_seq]

/-- The end of COLD by the state that the trim region decides. -/
theorem coldEnds_effect (s : State) : (coldEnds s).seq.stateTicks = 0 ∧
    (trimValid s = true → (coldEnds s).seq.st = .load ∧ (coldEnds s).seq.tick = 0 ∧
      sameBut [.regs, .bureau, .seq] s (coldEnds s)) ∧
    (trimValid s = false → (coldEnds s).seq.st = .hold ∧ (coldEnds s).seq.holdCause = 2 ∧
      (coldEnds s).seq.holdRestore = true ∧ (Registers.wf s = true → statusBit (coldEnds s) srcTrimBad = true)) ∧
    sameBut [.regs, .bureau, .seq, .inForce, .pins, .aon] s (coldEnds s) := by
  cases ht : trimValid s with
  | true =>
    have hframe : sameBut [.regs, .bureau, .seq] s
        { coldTold s with seq := { (coldTold s).seq with st := .load, stateTicks := 0, tick := 0, item := 17 } } :=
      sameBut_trans (coldTold_frame s) (sameBut_mono (sameBut_seq _ _) (by decide))
    rw [coldEnds_eq, ht, if_pos rfl]
    exact ⟨rfl, fun _ => ⟨rfl, rfl, hframe⟩, fun h => by simp at h, sameBut_mono hframe (by decide)⟩
  | false =>
    have hseq := raises_seq (trimHold s) srcTrimBad srcHoldEntered
    have hrow : coldEnds s = raise (raise (trimHold s) srcTrimBad) srcHoldEntered := by
      rw [coldEnds_eq, ht, if_neg Bool.false_ne_true]
    have hframe : sameBut [.regs, .bureau, .seq, .inForce, .pins, .aon] s (coldEnds s) := by
      rw [hrow]
      exact sameBut_trans (trimHold_frame s) (sameBut_trans (sameBut_mono (raise_frame _ (by decide)) (by decide))
        (sameBut_mono (raise_frame _ (by decide)) (by decide)))
    rw [← hrow] at hseq
    refine ⟨congrArg Seq.stateTicks hseq, fun h => by simp at h,
      fun _ => ⟨congrArg Seq.st hseq, congrArg Seq.holdCause hseq, congrArg Seq.holdRestore hseq, fun hw => ?_⟩, hframe⟩
    have hset := statusBit_raise_wf (src := srcTrimBad) (s := trimHold s) (by decide) (trimHold_on s) (trimHold_rwf hw)
    rw [hrow, statusBit_raise (by rw [coreOn, raise_seq, ← coreOn, trimHold_on]) (by decide)
      (Registers.swf_regs (raise_rwf srcTrimBad (trimHold_rwf hw))), hset]
    rfl

/-- The state told, the mode taken, the events of the start taken, the leads in force. -/
def loadTold (s : State) (ok : Bool) : State :=
  let s1 := raiseIf s.seq.coldStart srcRestarted (raise s srcStateChanged)
  loadPins (takeEvents (startEvents (if ok then modeAfterLoad s1 else raise s1 srcHoldEntered)))

/-- RUN, SETTLE or HOLD begins. -/
def loadLeft (s : State) (ok : Bool) : State :=
  { s with
    seq := { s.seq with
      st := if !ok then .hold else if s.power.settle then .settle else .run
      stateTicks := 0, holdCause := if ok then 0 else 1, item := 17 }
    bureau := { s.bureau with tsDue := s.bureau.tsDue + b2n (!ok) } }

/-- A copy has been loaded. -/
def imageLoaded (s : State) : Bool := decide (s.seq.loaded ≠ 0)

theorem loadEnds_eq (s : State) : loadEnds s =
    let t := mark (loadSteps s) .entered
    hutchAuto (flRaise (loadLeft (loadTold t (imageLoaded t)) (imageLoaded t))) := rfl

/-- The state that begins, with what the panel and the frontlight do in it. -/
theorem loadLeft_effect (u : State) (ok : Bool) :
    let t := hutchAuto (flRaise (loadLeft u ok))
    (ok = false → t.seq.st = .hold ∧ t.seq.holdCause = 1) ∧
      (ok = true → t.seq.holdCause = 0 ∧ t.seq.st = if t.power.settle then .settle else .run) := by
  have hseq : ∀ v, (hutchAuto (flRaise v)).seq = v.seq := fun v =>
    (hutchAuto_frame _ .seq (by decide)).trans (flRaise_frame v .seq (by decide))
  have hpow : ∀ v, (hutchAuto (flRaise v)).power = v.power := fun v =>
    (hutchAuto_frame _ .power (by decide)).trans (flRaise_frame v .power (by decide))
  dsimp only
  rw [hseq, hpow]
  constructor <;> intro h <;> simp [loadLeft, h]

theorem imageLoaded_mark (s : State) (d : Did) : imageLoaded (mark s d) = decide (s.seq.loaded ≠ 0) := rfl

theorem loadEnds_effect (s : State) :
    ((loadSteps s).seq.loaded = 0 → (loadEnds s).seq.st = .hold ∧ (loadEnds s).seq.holdCause = 1) ∧
    ((loadSteps s).seq.loaded ≠ 0 → (loadEnds s).seq.holdCause = 0 ∧
      (loadEnds s).seq.st = if (loadEnds s).power.settle then .settle else .run) := by
  have hok := imageLoaded_mark (loadSteps s) .entered
  have hleft := loadLeft_effect (loadTold (mark (loadSteps s) .entered) (imageLoaded (mark (loadSteps s) .entered)))
    (imageLoaded (mark (loadSteps s) .entered))
  rw [← loadEnds_eq] at hleft
  obtain ⟨hhold, hrun⟩ := hleft
  exact ⟨fun h => hhold (hok.trans (by simp [h])), fun h => hrun (hok.trans (by simp [h]))⟩

theorem holdRestore_effect {s : State} (hst : s.seq.st = .hold) (hr : s.seq.holdRestore = true)
    (hd : did s .entered = false) :
    (holdRestoreOp s).seq.holdRestore = false ∧ (holdRestoreOp s).seq.st = .hold ∧ (holdRestoreOp s).bureau.events = [] := by
  have hrow : holdRestoreOp s =
      { takeEvents (startEvents (restoreBureau (surveyEnergy s))) with
        seq := { (takeEvents (startEvents (restoreBureau (surveyEnergy s)))).seq with holdRestore := false }
        bureau := { (takeEvents (startEvents (restoreBureau (surveyEnergy s)))).bureau with
          tsDue := (takeEvents (startEvents (restoreBureau (surveyEnergy s)))).bureau.tsDue + 1 } } := by
    rw [holdRestoreOp, if_pos (by simp [hst, hr, hd])]
  obtain ⟨hnone, htaken⟩ := takeEvents_effect (startEvents (restoreBureau (surveyEnergy s)))
  have hseq : (takeEvents (startEvents (restoreBureau (surveyEnergy s)))).seq = s.seq :=
    calc _ = (startEvents (restoreBureau (surveyEnergy s))).seq := htaken .seq (by decide)
      _ = (restoreBureau (surveyEnergy s)).seq := startEvents_frame _ .seq (by decide)
      _ = (surveyEnergy s).seq := restoreBureau_frame _ .seq (by decide)
      _ = s.seq := surveyEnergy_frame s .seq (by decide)
  rw [hrow]
  exact ⟨rfl, (congrArg Seq.st hseq).trans hst, hnone⟩

/-! ### The orderly stop and the reset -/

theorem raiseReq_bureau (s : State) (r : Nat) (op : MemOp) : (raiseReq s r op).bureau = s.bureau :=
  raiseReq_frame s r op .bureau (by decide)

/-- A record that joins the queue leaves the open record and the time store alone. -/
theorem enqueueRec_bureau (s : State) (r : BRec) :
    (enqueueRec s r).bureau.open_ = s.bureau.open_ ∧ (enqueueRec s r).bureau.tsDue = s.bureau.tsDue := by
  have hlost : (recLost s).bureau.open_ = s.bureau.open_ ∧ (recLost s).bureau.tsDue = s.bureau.tsDue := by
    obtain ⟨ev, h⟩ := BureauKept.raise (addReg s 0x70C 1) (src := srcRecLoss) (by decide)
    have hb : (addReg s 0x70C 1).bureau = s.bureau := setReg_bureau s _ _
    rw [recLost, h, hb]
    exact ⟨rfl, rfl⟩
  unfold enqueueRec
  dsimp only
  split
  · exact ⟨rfl, rfl⟩
  · split
    · exact hlost
    · rw [raiseReq_bureau]
      exact ⟨rfl, rfl⟩

theorem closeOpen_bureau (s : State) :
    (closeOpen s).bureau.open_ = none ∧ (closeOpen s).bureau.tsDue = s.bureau.tsDue := by
  unfold closeOpen
  split
  · exact enqueueRec_bureau _ _
  next h => exact ⟨h, rfl⟩

/-- The orderly stop has begun: the open record closes, the energy asks for its save. -/
def stopBegun (s : State) : State :=
  closeOpen { s with
    seq := { s.seq with stopping := true, stopped := false }
    energy := { s.energy with saveReq := s.energy.restored } }

/-- A time-store entry falls due with it. -/
def timeFallsDue (s : State) : State := { s with bureau := { s.bureau with tsDue := s.bureau.tsDue + 1 } }

theorem orderlyStopOp_begins {s : State} (hr : s.seq.resetReq = true) (hrun : running s = true)
    (hs : s.seq.stopping = false) : orderlyStopOp s =
      hutchStop (timeFallsDue (stopBegun s)) := by
  rw [orderlyStopOp, if_pos (by simp [hr, hrun, hs])]
  rfl

theorem panelLive_congr {s t : State} (h : t.hutch = s.hutch) : panelLive t = panelLive s := by
  rw [panelLive, panelLive, h]

theorem orderlyStop_effect {s : State} (hr : s.seq.resetReq = true) (hrun : running s = true)
    (hs : s.seq.stopping = false) :
    let t := orderlyStopOp s
    t.seq.stopping = true ∧ t.bureau.open_ = none ∧ t.energy.saveReq = s.energy.restored ∧
      t.bureau.tsDue = s.bureau.tsDue + 1 ∧ (panelLive s = false → t.hutch = s.hutch) := by
  have hclose := (closeOpen_made { s with
    seq := { s.seq with stopping := true, stopped := false }
    energy := { s.energy with saveReq := s.energy.restored } }).1
  obtain ⟨hopen, hdue⟩ := closeOpen_bureau { s with
    seq := { s.seq with stopping := true, stopped := false }
    energy := { s.energy with saveReq := s.energy.restored } }
  rw [orderlyStopOp_begins hr hrun hs]
  dsimp only
  obtain ⟨hstop, ev, hb⟩ := hutchStop_only (timeFallsDue (stopBegun s))
  refine ⟨?_, ?_, ?_, ?_, fun hlive => ?_⟩
  · exact (congrArg Seq.stopping (hstop .seq (by decide))).trans (congrArg Seq.stopping (hclose .seq (by decide)))
  · rw [hb]
    exact hopen
  · exact (congrArg Energy.saveReq (hstop .energy (by decide))).trans (congrArg Energy.saveReq (hclose .energy (by decide)))
  · rw [hb]
    exact congrArg (· + 1) hdue
  · have hhutch : (timeFallsDue (stopBegun s)).hutch = s.hutch := hclose .hutch (by decide)
    rw [hutchStop_dead ((panelLive_congr hhutch).trans hlive)]
    exact hhutch

/-- Links that are OFF stay as they are. -/
theorem linkDownOp_off {s : State} {d : Side} (h : (linkOf s d).st = 0) : linkDownOp s d = s := by
  rw [linkDownOp, h]
  simp

theorem linksFollow_off {s : State} (hu : s.chain.up.st = 0) (hd : s.chain.dn.st = 0) : linksFollow s = s := by
  have hone : ∀ d, (if linkDriven s d then s else linkDownOp s d) = s := fun d => by
    split
    · rfl
    · exact linkDownOp_off (by cases d <;> assumption)
  simp only [linksFollow, List.foldl_cons, List.foldl_nil, hone]

/-- CORE as RESET_SOFT leaves it, before the records lost are counted. -/
def softBase (s : State) : State :=
  { State.reset with
    pending := s.pending, free := s.free, fir := s.fir, od := s.od
    power := { s.power with settle := false, autoReq := false, granted := 0, refused := 0, modeRefused := false, pfail := false }
    aon := s.aon, pins := { State.reset.pins with board := s.pins.board }
    nvm := { s.nvm with op := none, waiting := [] }
    mem := { Mem.reset with
      data := s.mem.data, tags := s.mem.tags, ready := s.mem.ready, init := s.mem.init, initCyc := s.mem.initCyc }
    streams := { Streams.reset with conv := s.streams.conv.map (fun v => { v with e := 0, ePrev := 0 }) }
    hutch := softHutch s
    seq := { Seq.reset with soft := true, coldStart := false, slow := s.seq.slow } }

/-- The records that a RESET_SOFT loses. -/
def softLost (s : State) : Nat :=
  s.bureau.queue.length + s.bureau.staged.length + s.bureau.toStage.length + s.bureau.open_.toList.length

/-- CORE reset, the leads held, the supplies compared. -/
def softDone (s : State) : State := compareLow (chooseLoad (linksFollow (heldLeads (addReg (softBase s) 0x70F (softLost s)))))

theorem softReset_eq (s : State) :
    softReset s = mark { softDone s with seq := { (softDone s).seq with item := 17 } } .entered := rfl

theorem softHeld_frame (s : State) :
    sameBut [.regs, .aon, .inForce] (softBase s) (heldLeads (addReg (softBase s) 0x70F (softLost s))) :=
  sameBut_trans (sameBut_mono (setReg_frame _ 0x70F _) (by decide)) (sameBut_mono (heldLeads_frame _) (by decide))

theorem softDone_frame (s : State) : sameBut [.regs, .aon, .inForce, .power, .bureau] (softBase s) (softDone s) := by
  have hheld := softHeld_frame s
  have hchain := hheld .chain (by decide)
  have hoff := linksFollow_off (congrArg (·.up.st) hchain) (congrArg (·.dn.st) hchain)
  have hlow : ∀ u, sameBut [.power, .regs, .bureau] u (compareLow u) := fun u => by
    rw [compareLow_eq]
    exact raiseIf_power_frame _ u _ (by decide)
  rw [softDone, hoff]
  exact sameBut_trans (sameBut_mono hheld (by decide)) (sameBut_trans (sameBut_mono (chooseLoad_frame _) (by decide))
    (sameBut_mono (hlow _) (by decide)))

theorem softReset_effect (s : State) :
    let t := softReset s
    t.seq.st = .cold ∧ t.seq.soft = true ∧ t.seq.coldStart = false ∧ t.ports = Ports.reset ∧ t.nvm.data = s.nvm.data ∧
      t.fir = s.fir ∧ t.od = s.od ∧ t.mem.data = s.mem.data := by
  have hframe := softDone_frame s
  have hseq : (softDone s).seq = { Seq.reset with soft := true, coldStart := false, slow := s.seq.slow } :=
    hframe .seq (by decide)
  have hfir : (softDone s).fir = s.fir := (hframe .fir (by decide)).1
  have hdata : (softDone s).nvm.data = s.nvm.data := by
    rw [hframe .nvm (by decide)]
    rfl
  have hmem : (softDone s).mem.data = s.mem.data := by
    rw [hframe .mem (by decide)]
    rfl
  rw [softReset_eq]
  exact ⟨congrArg Seq.st hseq, congrArg Seq.soft hseq, congrArg Seq.coldStart hseq, hframe .ports (by decide),
    hdata, hfir, hframe .od (by decide), hmem⟩

/-! ### WAKE and CFG_MISMATCH -/

/-- The second that completes takes WAKE_LEFT to 0. -/
theorem wakeOp_rises {s : State} (hd : did s .wake = false) (hsec : secondRolls s = true) (h1 : regN s 0x197 = 1) :
    wakeOp s = raise (setReg (mark s .wake) 0x197 (getReg (mark s .wake) 0x196)) srcWake := by
  have hmark : regN (mark s .wake) 0x197 = 1 := h1
  rw [wakeOp, if_neg (by simp [hd, hsec, h1])]
  dsimp only
  rw [hmark]
  rfl

theorem mark_rwf {s : State} (d : Did) (h : Registers.wf s = true) : Registers.wf (mark s d) = true := h

theorem wake_effect {s : State} (hrun : running s = true) (hw : Registers.wf s = true) :
    let t := raise (setReg (mark s .wake) 0x197 (getReg (mark s .wake) 0x196)) srcWake
    getReg t 0x197 = getReg s 0x196 ∧ statusBit t srcWake = true ∧ did t .wake = true ∧
      sameBut [.regs, .bureau, .seq] s t := by
  have hon : coreOn (setReg (mark s .wake) 0x197 (getReg (mark s .wake) 0x196)) = true := by
    rw [coreOn, setReg_seq]
    exact coreOn_of_portsUp (s := s) (by simp [portsUp, hrun])
  refine ⟨?_, statusBit_raise_wf (by decide) hon (setReg_rwf 0x197 _ (mark_rwf .wake hw)), ?_, ?_⟩
  · rw [getReg_raise_other _ _ _ (by decide), getReg_setReg 0x197 _ (mark_rwf .wake hw)]
    rfl
  · rw [did, raise_seq, setReg_seq]
    simp [mark]
  · exact sameBut_trans (sameBut_mono (mark_frame s .wake) (by decide)) (sameBut_trans
      (sameBut_mono (setReg_frame_regs _ _ (by decide)) (by decide)) (sameBut_mono (raise_frame _ (by decide)) (by decide)))

/-- The bits of the pairs that a condition names. -/
def pairBits (hit : Nat → Bool) : Nat := (upto 4).foldl (fun a k => if hit k then a + 2 ^ k else a) 0

theorem getLsbD_fourBits : ∀ b0 b1 b2 b3 : Bool,
    let w := wd (b2n b0 + 2 * b2n b1 + 4 * b2n b2 + 8 * b2n b3)
    w.getLsbD 0 = b0 ∧ w.getLsbD 1 = b1 ∧ w.getLsbD 2 = b2 ∧ w.getLsbD 3 = b3 := by
  decide

theorem getLsbD_pairBits (hit : Nat → Bool) {k : Nat} (hk : k < 4) : (wd (pairBits hit)).getLsbD k = hit k := by
  have hbits : pairBits hit = b2n (hit 0) + 2 * b2n (hit 1) + 4 * b2n (hit 2) + 8 * b2n (hit 3) := by
    cases h0 : hit 0 <;> cases h1 : hit 1 <;> cases h2 : hit 2 <;> cases h3 : hit 3 <;>
      simp [pairBits, upto, List.range, List.range.loop, b2n, h0, h1, h2, h3]
  obtain ⟨h0, h1, h2, h3⟩ := getLsbD_fourBits (hit 0) (hit 1) (hit 2) (hit 3)
  rw [hbits]
  have hcase : k = 0 ∨ k = 1 ∨ k = 2 ∨ k = 3 := by omega
  rcases hcase with rfl | rfl | rfl | rfl <;> assumption

/-- Pair `k` reaches its fifth count at the coming boundary. -/
def pairHit (s : State) (k : Nat) : Bool := pairDiffers (middleSteps (runAll s)) k && decide (nth s.seq.mism k 0 ≥ 4)

theorem cfgMismatchOp_reports {s : State} (hon : coreOn s = true) (hg : s.seq.st ≠ .gasp) {k : Nat} (hk : k < 4)
    (hhit : pairHit s k = true) : cfgMismatchOp s = raise (orReg s 0x193 (pairBits (pairHit s))) srcCfgMismatch := by
  have hany : (upto 4).any (pairHit s) = true := List.any_eq_true.mpr ⟨k, List.mem_range.mpr hk, hhit⟩
  have hcond : (coreOn s && decide (s.seq.st ≠ .gasp) && (upto 4).any (pairHit s)) = true := by simp [hon, hg, hany]
  exact if_pos hcond

/-- Settles O30: each row by the state it ends or begins, WAKE and CFG_MISMATCH by their bits. -/
theorem sequencerMovesAndWakes : Obligations.SequencerMovesAndWakes := by
  refine ⟨fun s => ⟨fun hst hticks hd => ?_, fun hst hd => ⟨fun hr => ?_, fun hr hf => ?_, fun hr hf => ?_⟩,
    fun hst hr hd => ?_, fun hr hrun hs => ?_, fun hready => ?_⟩,
    fun s => ⟨fun hrun hunits htime hwake hleft hw => ?_, fun hon hg hw k hk hdiff hcount => ?_⟩⟩
  · have hrow : coldEndOp s = coldEnds s := by rw [coldEndOp, if_pos (by simp [hst, hticks, hd])]
    exact ⟨_, congrArg Host.Outcome.next hrow, coldEnds_effect s⟩
  · have hrow : loadEndOp s = softReset s := by rw [loadEndOp, if_pos (by simp [hst, hd]), if_pos hr]
    exact congrArg Host.Outcome.next hrow
  · have hrow : loadEndOp s = releaseHeldOff (loadChosen s) := by
      rw [loadEndOp, if_pos (by simp [hst, hd]), if_neg (by simp [hr]), if_pos hf]
    exact congrArg Host.Outcome.next hrow
  · have hrow : loadEndOp s = loadEnds s := by
      rw [loadEndOp, if_pos (by simp [hst, hd]), if_neg (by simp [hr]), if_neg (by simp [hf])]
    obtain ⟨hhold, hgo⟩ := loadEnds_effect s
    exact ⟨_, congrArg Host.Outcome.next hrow, fun h => hhold (not_not.mp h), hgo⟩
  · exact ⟨_, rfl, holdRestore_effect hst hr hd⟩
  · exact ⟨_, rfl, orderlyStop_effect hr hrun hs⟩
  · have hrow : softResetOp s = softReset s := if_pos hready
    exact ⟨_, congrArg Host.Outcome.next hrow, softReset_effect s⟩
  · have hsec : secondRolls s = true := by simp [secondRolls, hrun, htime, hunits]
    have hone : regN s 0x197 = 1 := by rw [regN, hleft]; rfl
    have hrow : (if secondRolls s && decide (regN s 0x197 = 1) then wakeOp s else s) = _ :=
      (if_pos (by simp [hsec, hone])).trans (wakeOp_rises hwake hsec hone)
    exact ⟨_, congrArg Host.Outcome.next hrow, wake_effect hrun hw⟩
  · have hhit : pairHit s k = true := by simp [pairHit, hdiff, hcount]
    have hon' : coreOn (orReg s 0x193 (pairBits (pairHit s))) = true := by rw [coreOn, orReg_seq, ← coreOn, hon]
    refine ⟨_, congrArg Host.Outcome.next (cfgMismatchOp_reports hon hg hk hhit), ?_,
      statusBit_raise_wf (by decide) hon' (setReg_rwf 0x193 _ hw),
      sameBut_trans (sameBut_mono (setReg_frame_regs s _ (by decide)) (by decide)) (raise_frame _ (by decide))⟩
    rw [getReg_raise_other _ _ _ (by decide), orReg, getReg_setReg 0x193 _ hw, bitAt, BitVec.getLsbD_or,
      getLsbD_pairBits _ hk, hhit, Bool.or_true]

end Sys2Proof.Machine

/-!
Crossings, half cycles and the publication of cycles (08 R172 to R180, 03 R71; O32).
-/

namespace Sys2Proof.Machine

/-! ### An item of the tick as an event -/

/-- Item `m` is done, and the one after it is next. -/
def itemDone (s : State) (m : Nat) : State := { s with seq := { s.seq with item := m + 1 } }

theorem itemDone_frame (s : State) (m : Nat) : sameBut [.seq] s (itemDone s m) := sameBut_seq s _

/-- The next item brings an event that has not come yet. -/
theorem itemEvent_next {s : State} {m : Nat} {d : Did} (hrun : running s = true) (hm : s.seq.item = m)
    (hnot : did s d = false) (hdid : did (runItem s m) d = true) : itemEvent s m d = itemDone (runItem s m) m := by
  have hstep : itemStep s = itemDone (runItem s m) m := by
    rw [itemStep, hrun, if_pos rfl, hm]
    rfl
  have hlast : runThrough 16 (itemDone (runItem s m) m) m = itemDone (runItem s m) m := by
    rw [runThrough, if_neg]
    simp [itemDone]
  have hall : runThrough 17 s m = itemDone (runItem s m) m := by
    rw [runThrough, if_pos (by simp [hrun, hm]), hstep, hlast]
  have hdone : did (itemDone (runItem s m) m) d = true := hdid
  rw [itemEvent, hall]
  simp [hdone, hnot]

/-! ### Tracking without a raw crossing (08 R173 to R175) -/

/-- The tracker takes up its tick. -/
def lineFresh (s : State) : State := { s with line := { s.line with cross := none, prov := none } }

/-- The three states of the tracker, with what the tick has found. -/
def tracked (s : State) (raw : Option Int) : State :=
  if s.line.st = 0 then trackAcquire s raw else if s.line.st = 1 then trackLocked s raw else trackFree s raw

/-- The tracker has done its tick: LINE_STAT is told. -/
def lineTold (s : State) (armed : List Bool) (raw : Option Int) (refOn : Bool) : State :=
  publish { s with line := { s.line with
      armed := armed
      lastRaw := match raw with | some x => some x | none => s.line.lastRaw
      itemOn := true, refOn := refOn } }
    (.set 0x401 (wd (s.line.st + 16 * s.line.flyCnt)))

/-- What makes the tracker begin anew. -/
def beginsAnew (s : State) : Bool :=
  s.line.enter || !s.line.itemOn || (inSched s (refStream s) && !s.line.refOn)

theorem item4_eq (s : State) : item4 s =
    if !decide ((schedNow s).w ≠ 0) then
      { lineFresh s with line := { (lineFresh s).line with itemOn := false, refOn := false } }
    else
      let v := if beginsAnew s then enterAcquire (lineFresh s) else lineFresh s
      lineTold (tracked v (rawCrossing v)) (armNext v (rawCrossing v).isSome) (rawCrossing v) (inSched s (refStream s)) :=
  rfl

theorem rawCrossing_lineFresh (s : State) : rawCrossing (lineFresh s) = rawCrossing s := rfl

/-- A tick that goes on without a raw crossing. -/
theorem item4_quiet {s : State} (hw : (schedNow s).w ≠ 0) (hon : s.line.itemOn = true) (he : s.line.enter = false)
    (href : inSched s (refStream s) = true → s.line.refOn = true) (hraw : rawCrossing s = none) :
    item4 s = lineTold (tracked (lineFresh s) none) (armNext (lineFresh s) false) none (inSched s (refStream s)) := by
  have hnew : beginsAnew s = false := by
    cases h : inSched s (refStream s) with
    | false => simp [beginsAnew, h, he, hon]
    | true => simp [beginsAnew, h, he, hon, href h]
  rw [item4_eq, if_neg (by simp [hw]), hnew, if_neg Bool.false_ne_true]
  dsimp only
  rw [rawCrossing_lineFresh, hraw]
  rfl

theorem lineTold_frame (s : State) (armed : List Bool) (raw : Option Int) (on : Bool) :
    sameBut [.line, .seq] s (lineTold s armed raw on) :=
  sameBut_trans (sameBut_mono (sameBut_line s _) (by decide)) (sameBut_mono (sameBut_seq _ _) (by decide))

theorem report_frame (s : State) (m : Int) (k : Nat) (e : Int) : sameBut [.line, .proc] s (report s m k e) := by
  intro p hp
  cases p <;> simp_all [Part.same, report]

/-- A crossing is reported at `m`, the tracker takes another state, and the results and the event are noted. -/
def crossed (s : State) (m : Int) (k : Nat) (e : Int) (st fly : Nat) (irqs : List Pub) (d : Did) : State :=
  let r := report s m k e
  mark (publishAll { r with line := { r.line with st := st, flyCnt := fly } } irqs) d

theorem crossed_frame (s : State) (m : Int) (k : Nat) (e : Int) (st fly : Nat) (irqs : List Pub) (d : Did) :
    sameBut [.line, .proc, .seq] s (crossed s m k e st fly irqs d) :=
  sameBut_trans (sameBut_mono (report_frame s m k e) (by decide)) (sameBut_trans
    (sameBut_mono (sameBut_line _ _) (by decide)) (sameBut_trans (sameBut_mono (sameBut_seq _ _) (by decide))
    (sameBut_mono (mark_frame _ d) (by decide))))

/-- The tracker's tick in which such a crossing falls, as the row leaves it. -/
def crossingRow (s : State) (m : Int) (k : Nat) (e : Int) (st fly : Nat) (irqs : List Pub) (d : Did) : State :=
  itemDone (lineTold (crossed (lineFresh s) m k e st fly irqs d) (armNext (lineFresh s) false) none (inSched s (refStream s))) 4

theorem crossingRow_effect (s : State) (m : Int) (k : Nat) (e : Int) (st fly : Nat) (irqs : List Pub) (d : Did) :
    let t := crossingRow s m k e st fly irqs d
    t.line.st = st ∧ t.line.flyCnt = fly ∧ t.line.last = m ∧ t.line.exp = e ∧ t.line.cross = some (m, k) ∧
      (∀ x ∈ irqs, x ∈ t.seq.pub) ∧ Pub.set 0x401 (wd (st + 16 * fly)) ∈ t.seq.pub ∧
      sameBut [.line, .proc, .seq] s t := by
  refine ⟨rfl, rfl, rfl, rfl, rfl, fun x hx => ?_, ?_, ?_⟩
  · show x ∈ (s.seq.pub ++ irqs) ++ [_]
    simp [hx]
  · show _ ∈ (s.seq.pub ++ irqs) ++ [Pub.set 0x401 (wd (st + 16 * fly))]
    exact List.mem_append_right _ List.mem_cons_self
  · exact sameBut_trans (sameBut_mono (sameBut_line s _) (by decide)) (sameBut_trans
      (crossed_frame (lineFresh s) m k e st fly irqs d) (sameBut_trans (sameBut_mono (lineTold_frame _ _ _ _) (by decide))
        (sameBut_mono (itemDone_frame _ 4) (by decide))))

section
variable {s : State} (hrun : running s = true) (hitem : s.seq.item = 4) (hw : (schedNow s).w ≠ 0)
  (hon : s.line.itemOn = true) (he : s.line.enter = false) (href : inSched s (refStream s) = true → s.line.refOn = true)
  (hraw : rawCrossing s = none)
include hrun hitem hw hon he href hraw

/-- The row of a crossing that the tracker brings in this tick. -/
theorem trackingRow {m e : Int} {k st fly : Nat} {irqs : List Pub} {d : Did} (hnot : did s d = false)
    (htrack : tracked (lineFresh s) none = crossed (lineFresh s) m k e st fly irqs d) :
    itemEvent s 4 d = crossingRow s m k e st fly irqs d := by
  have hwork : runItem s 4 = lineTold (crossed (lineFresh s) m k e st fly irqs d) (armNext (lineFresh s) false) none
      (inSched s (refStream s)) := (item4_quiet hw hon he href hraw).trans (by rw [htrack])
  have hdid : did (runItem s 4) d = true := by
    rw [hwork]
    simp [did, lineTold, publish, crossed, mark]
  rw [itemEvent_next hrun hitem hnot hdid, hwork]
  rfl

end

/-! ### The three kinds of crossing -/

theorem tracked_flywheel_first {s : State} (hst : s.line.st = 1) (hexp : s.line.exp ≤ s.line.clk) :
    tracked s none = crossed s s.line.exp 1 (s.line.exp + s.line.pg) 2 1 [.irq srcLineFly] .flywheel := by
  rw [tracked, if_neg (by omega), if_pos hst]
  exact if_pos hexp

theorem tracked_flywheel_lost {s : State} (hst : s.line.st = 2) (hfly : s.line.flyCnt = 7) (hexp : s.line.exp ≤ s.line.clk) :
    tracked s none = crossed s s.line.exp 1 (s.line.exp + nominalP0 s) 3 8 [.irq srcLineLost] .flywheel := by
  rw [tracked, if_neg (by omega), if_neg (by omega)]
  refine (if_pos hexp).trans ?_
  rw [if_neg (by omega)]
  exact if_pos (by omega)

theorem tracked_nominal {s : State} (hst : s.line.st = 3) (hexp : s.line.exp ≤ s.line.clk) :
    tracked s none = crossed s s.line.exp 2 (s.line.exp + nominalP0 s) 3 s.line.flyCnt [] .nominal := by
  rw [tracked, if_neg (by omega), if_neg (by omega)]
  refine (if_pos hexp).trans ?_
  rw [if_pos hst]
  simp [crossed, mark, publishAll, report, hst]

theorem nominalP0_pos (s : State) : 0 < nominalP0 s := by
  unfold nominalP0
  split <;> decide

theorem tracked_timeout {s : State} (hst : s.line.st = 0) (hprov : s.line.provStart = none)
    (hend : s.line.entered + nominalP0 s * 3 / 2 ≤ s.line.clk) :
    tracked s none = crossed s (s.line.entered + nominalP0 s * 3 / 2) 2
      (s.line.entered + nominalP0 s * 3 / 2 + nominalP0 s) 3 s.line.flyCnt [.irq srcLineLost] .acquireTimeout := by
  have hends : acquireEnds s none = s.line.entered + nominalP0 s * 3 / 2 := by
    have hpos := nominalP0_pos s
    simp only [acquireEnds, hprov]
    omega
  rw [tracked, if_pos hst]
  show (if acquireEnds s none ≤ s.line.clk then acquireLost s (acquireEnds s none) else s) = _
  rw [hends, if_pos hend]
  rfl

/-! ### The half cycle (08 R178) -/

/-- HALF_RMS of the ten streams, before saturation. -/
def halfValues (s : State) : List Int := (upto 10).map (halfRms s.line.halfPrev s.line.halfCur)

/-- What a half-cycle boundary publishes. -/
def halfPubs (s : State) : List Pub :=
  (mapIx (fun i v => Pub.set (0x428 + i) (wdI (sat20 v))) (halfValues s))
    ++ (if (halfValues s).any clamps20 then [Pub.or 0x40A 4, Pub.irq srcResultSat] else [])

/-- The half in progress takes this tick's sample. -/
def halfJoined (s t : State) : State :=
  { t with line := { t.line with halfCur :=
    { sq := zip2 (· + ·) t.line.halfCur.sq ((upto 10).map (fun n => tickWeight s * y8 s n * y8 s n))
      len := t.line.halfCur.len + tickWeight s, force := t.line.halfCur.force &&& forceMask s } } }

/-- A half-cycle boundary: the half that ends becomes the one before, and its values are published. -/
def halfTurned (s : State) (mid : Option Int) : State :=
  mark (publishAll { s with line := { s.line with
    halfPrev := s.line.halfCur, halfCur := noHalf, halfNow := true, halfVals := (halfValues s).map sat20, mid := mid } }
    (halfPubs s)) .half

theorem halfWork_crossing {s : State} (h : s.line.cross.isSome = true ∨ s.line.prov.isSome = true) :
    ∃ mid, halfWork s = halfJoined s (halfTurned s mid) := by
  have hb : ∀ b, (s.line.cross.isSome || s.line.prov.isSome || b) = true := fun b => by
    rcases h with h | h <;> simp [h]
  exact ⟨_, congrArg (halfJoined s) (if_pos (hb _))⟩

theorem mem_mapIdxFrom {α β : Type} (f : Nat → α → β) (l : List α) (d : α) (k n : Nat) (hn : n < l.length) :
    f (k + n) (l.getD n d) ∈ mapIdxFrom f k l := by
  induction l generalizing k n with
  | nil => simp at hn
  | cons a l ih =>
    cases n with
    | zero => exact List.mem_cons_self
    | succ n =>
      have := ih (k + 1) n (by simpa using hn)
      rw [show k + (n + 1) = k + 1 + n by omega]
      exact List.mem_cons_of_mem _ this

theorem halfPubs_mem (s : State) {n : Nat} (hn : n < 10) :
    Pub.set (0x428 + n) (wdI (sat20 (halfRms s.line.halfPrev s.line.halfCur n))) ∈ halfPubs s := by
  have hmem := mem_mapIdxFrom (fun i v => Pub.set (0x428 + i) (wdI (sat20 v))) (halfValues s) 0 0 n
    (by simpa [halfValues, upto] using hn)
  have hval : (halfValues s).getD n 0 = halfRms s.line.halfPrev s.line.halfCur n := by
    simp [halfValues, upto, hn]
  rw [hval, Nat.zero_add] at hmem
  exact List.mem_append_left _ hmem

/-- The half-cycle boundary as its row leaves it. -/
theorem halfRow_effect (s : State) (mid : Option Int) :
    let t := itemDone (halfJoined s (halfTurned s mid)) 7
    t.line.halfPrev = s.line.halfCur ∧ t.line.halfNow = true ∧
      t.line.halfVals = (upto 10).map (fun n => sat20 (halfRms s.line.halfPrev s.line.halfCur n)) ∧
      t.line.halfCur.len = tickWeight s ∧
      (∀ n, n < 10 → Pub.set (0x428 + n) (wdI (sat20 (halfRms s.line.halfPrev s.line.halfCur n))) ∈ t.seq.pub) ∧
      sameBut [.line, .seq] s t := by
  refine ⟨rfl, rfl, ?_, ?_, fun n hn => List.mem_append_right _ (halfPubs_mem s hn), ?_⟩
  · show (halfValues s).map sat20 = _
    simp [halfValues]
  · show 0 + tickWeight s = _
    omega
  · refine sameBut_trans (t := halfTurned s mid) ?_ (sameBut_trans (sameBut_mono (sameBut_line _ _) (by decide))
      (sameBut_mono (itemDone_frame _ 7) (by decide)))
    exact sameBut_trans (sameBut_mono (sameBut_line s _) (by decide)) (sameBut_trans
      (sameBut_mono (sameBut_seq _ _) (by decide)) (sameBut_mono (mark_frame _ .half) (by decide)))

/-! ### The publication of a cycle (03 R71, 08 R179, R180) -/

/-- Registers that take values, one after another. -/
def regsTake (s : State) (es : List (Nat × Word)) : State := es.foldl (fun a e => setReg a e.1 e.2) s

theorem regsTake_rwf {s : State} (es : List (Nat × Word)) (h : Registers.wf s = true) : Registers.wf (regsTake s es) = true := by
  induction es generalizing s with
  | nil => exact h
  | cons e es ih => exact ih (setReg_rwf e.1 e.2 h)

theorem getReg_regsTake_other (s : State) (es : List (Nat × Word)) {n : Nat} (h : n ∉ es.map (·.1)) :
    getReg (regsTake s es) n = getReg s n := by
  induction es generalizing s with
  | nil => rfl
  | cons e es ih =>
    rw [List.map_cons, List.mem_cons, not_or] at h
    exact (ih _ h.2).trans (getReg_setReg_other _ _ _ _ h.1)

theorem getReg_regsTake {s : State} {es : List (Nat × Word)} (hw : Registers.wf s = true) (h : (es.map (·.1)).Nodup)
    {e : Nat × Word} (he : e ∈ es) : getReg (regsTake s es) e.1 = e.2 := by
  induction es generalizing s with
  | nil => simp at he
  | cons a es ih =>
    rw [List.map_cons, List.nodup_cons] at h
    rcases List.mem_cons.mp he with rfl | he
    · exact (getReg_regsTake_other _ es h.1).trans (getReg_setReg _ _ hw)
    · exact ih (setReg_rwf _ _ hw) h.2 he

theorem regsTake_frame (s : State) {es : List (Nat × Word)} (h : ∀ e ∈ es, isRetained e.1 = false) :
    sameBut [.regs] s (regsTake s es) := by
  induction es generalizing s with
  | nil => exact sameBut_refl _ s
  | cons e es ih =>
    exact sameBut_trans (setReg_frame_regs s e.2 (h e List.mem_cons_self)) (ih _ (fun x hx => h x (List.mem_cons_of_mem _ hx)))

/-- The results of the cycle stand, and the tail is over. -/
def tailTaken (s : State) (t : Tail) : State :=
  regsTake { s with line := { s.line with tail := none, sSum := t.sSum } } t.results

/-- The period of a measured crossing, with its frequency. -/
def periodTaken (s : State) (t : Tail) : State :=
  match t.period with
  | some p => setReg (setReg (setReg s 0x402 (wd p)) 0x403 (wd (p / 2 ^ 20 % 1024))) 0x404 (wd (freqMhz 1 p))
  | none => s

/-- The cycle is counted. -/
def cycleCounted (s : State) : State := raise (incMod s 0x405) srcCycleDone

/-- The window is counted where the cycle ends one. -/
def windowCounted (s : State) (t : Tail) : State := if t.window then raise (incMod s 0x408) srcWindowDone else s

/-- A clamp is told. -/
def satTold (s : State) (t : Tail) : State := if t.sat = 0 then s else raise (orReg s 0x40A t.sat) srcResultSat

theorem publishCycle_eq {s : State} {t : Tail} (h : s.line.tail = some t) :
    publishCycle s = satTold (windowCounted (cycleCounted (periodTaken (tailTaken s t) t)) t) t := by
  simp only [publishCycle, h]
  rfl

/-- A stage of the publication: it keeps the tables canonical and the sequencer, writes the registers `ns` alone, and
leaves all but registers and events as they are. -/
structure Published (ns : List Nat) (s t : State) : Prop where
  rwf : Registers.wf s = true → Registers.wf t = true
  other : ∀ n, n ∉ ns → getReg t n = getReg s n
  frame : sameBut [.regs, .bureau] s t

theorem Published.trans {ms ns : List Nat} {s t u : State} (h : Published ms s t) (k : Published ns t u) :
    Published (ms ++ ns) s u where
  rwf hw := k.rwf (h.rwf hw)
  other n hn := by
    rw [List.mem_append, not_or] at hn
    rw [k.other n hn.2, h.other n hn.1]
  frame := sameBut_trans h.frame k.frame

theorem Published.setReg (s : State) {n : Nat} (v : Word) (hr : isRetained n = false) : Published [n] s (setReg s n v) where
  rwf := setReg_rwf n v
  other m hm := getReg_setReg_other s n m v (by simpa using hm)
  frame := sameBut_mono (setReg_frame_regs s v hr) (by decide)

theorem Published.raise (s : State) {src : Nat} (hr : isRetained (src / 20) = false) :
    Published [src / 20] s (raise s src) where
  rwf := raise_rwf src
  other m hm := getReg_raise_other s src m (by simpa using hm)
  frame := raise_frame s hr

theorem Published.refl (ns : List Nat) (s : State) : Published ns s s := ⟨id, fun _ _ => rfl, sameBut_refl _ s⟩

theorem Published.mono {ms ns : List Nat} {s t : State} (h : Published ms s t) (hs : ms ⊆ ns) : Published ns s t :=
  ⟨h.rwf, fun n hn => h.other n (fun hm => hn (hs hm)), h.frame⟩

theorem periodTaken_published (s : State) (t : Tail) : Published [0x402, 0x403, 0x404] s (periodTaken s t) := by
  unfold periodTaken
  split
  · exact ((Published.setReg s _ (by decide)).trans (Published.setReg _ _ (by decide))).trans
      (Published.setReg _ _ (by decide))
  · exact Published.refl _ s

theorem cycleCounted_published (s : State) : Published [0x405, 2] s (cycleCounted s) :=
  (Published.setReg s _ (by decide)).trans (Published.raise (src := srcCycleDone) _ (by decide))

theorem windowCounted_published (s : State) (t : Tail) : Published [0x408, 2] s (windowCounted s t) := by
  unfold windowCounted
  split
  · exact (Published.setReg s _ (by decide)).trans (Published.raise (src := srcWindowDone) _ (by decide))
  · exact Published.refl _ s

theorem satTold_published (s : State) (t : Tail) : Published [0x40A, 2] s (satTold s t) := by
  unfold satTold
  split
  · exact Published.refl _ s
  · exact (Published.setReg s _ (by decide)).trans (Published.raise (src := srcResultSat) _ (by decide))

/-- A status bit that stands is left standing by whatever else is raised. -/
theorem statusBit_raise_keeps {s : State} (hw : Registers.wf s = true) {src b : Nat} (hr : isRetained (src / 20) = false)
    (h : statusBit s b = true) : statusBit (raise s src) b = true := by
  cases hon : coreOn s with
  | false => rw [raise_of_off hon, h]
  | true => rw [statusBit_raise hon hr (Registers.swf_regs hw), h, Bool.true_or]

theorem statusBit_of_getReg {s t : State} {b : Nat} (h : getReg t (b / 20) = getReg s (b / 20)) :
    statusBit t b = statusBit s b := by
  rw [statusBit, statusBit, h]

section
variable {s : State} (hw : Registers.wf s = true) (hon : coreOn s = true)
include hw

theorem getReg_periodTaken {t : Tail} {p : Nat} (hp : t.period = some p) :
    getReg (periodTaken s t) 0x402 = wd p ∧ getReg (periodTaken s t) 0x404 = wd (freqMhz 1 p) := by
  have h1 := setReg_rwf (s := s) 0x402 (wd p) hw
  have h2 := setReg_rwf 0x403 (wd (p / 2 ^ 20 % 1024)) h1
  simp only [periodTaken, hp]
  refine ⟨?_, getReg_setReg 0x404 _ h2⟩
  rw [getReg_setReg_other _ _ _ _ (by decide), getReg_setReg_other _ _ _ _ (by decide), getReg_setReg 0x402 _ hw]

theorem getReg_cycleCounted : getReg (cycleCounted s) 0x405 = getReg s 0x405 + 1 := by
  rw [cycleCounted, getReg_raise_other _ _ _ (by decide), incMod, getReg_setReg 0x405 _ hw]

theorem getReg_windowCounted (t : Tail) :
    getReg (windowCounted s t) 0x408 = if t.window then getReg s 0x408 + 1 else getReg s 0x408 := by
  cases h : t.window
  · rw [windowCounted, h]
    rfl
  · rw [windowCounted, h, if_pos rfl, if_pos rfl, getReg_raise_other _ _ _ (by decide), incMod, getReg_setReg 0x408 _ hw]

include hon

theorem statusBit_cycleCounted : statusBit (cycleCounted s) srcCycleDone = true :=
  statusBit_raise_wf (by decide) (by rw [incMod, coreOn, setReg_seq, ← coreOn, hon]) (setReg_rwf 0x405 _ hw)

theorem statusBit_windowCounted {t : Tail} (h : t.window = true) : statusBit (windowCounted s t) srcWindowDone = true := by
  rw [windowCounted, if_pos h]
  exact statusBit_raise_wf (by decide) (by rw [incMod, coreOn, setReg_seq, ← coreOn, hon]) (setReg_rwf 0x408 _ hw)

end

/-- A status bit outlives the window's count and the clamp. -/
theorem statusBit_windowCounted_keeps {s : State} (hw : Registers.wf s = true) (t : Tail) (h : statusBit s srcCycleDone = true) :
    statusBit (windowCounted s t) srcCycleDone = true := by
  unfold windowCounted
  split
  · refine statusBit_raise_keeps (setReg_rwf 0x408 _ hw) (by decide) ?_
    exact (statusBit_of_getReg (getReg_setReg_other s 0x408 (srcCycleDone / 20) _ (by decide))).trans h
  · exact h

theorem statusBit_satTold_keeps {s : State} (hw : Registers.wf s = true) (t : Tail) {b : Nat} (hb : b / 20 ≠ 0x40A)
    (h : statusBit s b = true) : statusBit (satTold s t) b = true := by
  unfold satTold
  split
  · exact h
  · refine statusBit_raise_keeps (setReg_rwf 0x40A _ hw) (by decide) ?_
    exact (statusBit_of_getReg (getReg_setReg_other s 0x40A (b / 20) _ hb)).trans h

/-- The publication of a cycle, register by register. -/
theorem publishCycle_effect {s : State} {t : Tail} (hon : coreOn s = true) (hw : Registers.wf s = true)
    (htail : s.line.tail = some t)
    (hres : ∀ e ∈ t.results, isRetained e.1 = false ∧ e.1 ∉ [0, 1, 2, 3, 0x402, 0x403, 0x404, 0x405, 0x408, 0x40A]) :
    let u := publishCycle s
    u.line.tail = none ∧ getReg u 0x405 = getReg s 0x405 + 1 ∧
      getReg u 0x408 = (if t.window then getReg s 0x408 + 1 else getReg s 0x408) ∧
      statusBit u srcCycleDone = true ∧ (t.window = true → statusBit u srcWindowDone = true) ∧
      ((t.results.map (·.1)).Nodup → ∀ e ∈ t.results, getReg u e.1 = e.2) ∧
      (∀ p, t.period = some p → getReg u 0x402 = wd p ∧ getReg u 0x404 = wd (freqMhz 1 p)) ∧
      sameBut [.regs, .bureau, .line] s u := by
  intro u
  let s1 := tailTaken s t
  let s2 := periodTaken s1 t
  let s3 := cycleCounted s2
  let s4 := windowCounted s3 t
  have hu : u = satTold s4 t := publishCycle_eq htail
  have hempty : Registers.wf { s with line := { s.line with tail := none, sSum := t.sSum } } = true := hw
  have hw1 : Registers.wf s1 = true := regsTake_rwf t.results hempty
  have hp2 : Published [0x402, 0x403, 0x404] s1 s2 := periodTaken_published s1 t
  have hp3 : Published [0x405, 2] s2 s3 := cycleCounted_published s2
  have hp4 : Published [0x408, 2] s3 s4 := windowCounted_published s3 t
  have hp5 : Published [0x40A, 2] s4 (satTold s4 t) := satTold_published s4 t
  have hw2 := hp2.rwf hw1
  have hw3 := hp3.rwf hw2
  have hw4 := hp4.rwf hw3
  have hframe1 : sameBut [.regs, .line] s s1 := sameBut_trans (sameBut_mono (sameBut_line s _) (by decide))
    (sameBut_mono (regsTake_frame _ (fun e he => (hres e he).1)) (by decide))
  have hframe2 : sameBut [.regs, .bureau, .line] s s2 :=
    sameBut_trans (sameBut_mono hframe1 (by decide)) (sameBut_mono hp2.frame (by decide))
  have hon2 : coreOn s2 = true := by rw [coreOn, hframe2 .seq (by decide), ← coreOn, hon]
  have hon3 : coreOn s3 = true := by rw [coreOn, hp3.frame .seq (by decide), ← coreOn, hon2]
  have hkept : ∀ n, n ∉ t.results.map (·.1) → getReg s1 n = getReg s n := fun n hn =>
    getReg_regsTake_other { s with line := { s.line with tail := none, sSum := t.sSum } } t.results hn
  have hnot : ∀ n, n ∈ [0, 1, 2, 3, 0x402, 0x403, 0x404, 0x405, 0x408, 0x40A] → n ∉ t.results.map (·.1) := by
    intro n hn hmem
    obtain ⟨e, he, rfl⟩ := List.mem_map.mp hmem
    exact (hres e he).2 hn
  have hline : u.line = s1.line := by
    rw [hu, hp5.frame .line (by decide), hp4.frame .line (by decide), hp3.frame .line (by decide), hp2.frame .line (by decide)]
  rw [hu] at *
  refine ⟨?_, ?_, ?_, ?_, fun h => ?_, fun hnodup e he => ?_, fun p hp => ⟨?_, ?_⟩, ?_⟩
  · rw [hline]
    exact congrArg Line.tail (regsTake_frame _ (fun e he => (hres e he).1) .line (by decide))
  · rw [hp5.other _ (by decide), hp4.other _ (by decide), getReg_cycleCounted hw2, hp2.other _ (by decide),
      hkept _ (hnot _ (by decide))]
  · rw [hp5.other _ (by decide), getReg_windowCounted hw3, hp3.other _ (by decide), hp2.other _ (by decide),
      hkept _ (hnot _ (by decide))]
  · exact statusBit_satTold_keeps hw4 t (by decide)
      (statusBit_windowCounted_keeps hw3 t (statusBit_cycleCounted hw2 hon2))
  · exact statusBit_satTold_keeps hw4 t (by decide) (statusBit_windowCounted hw3 hon3 h)
  · have hne : e.1 ∉ [0, 1, 2, 3, 0x402, 0x403, 0x404, 0x405, 0x408, 0x40A] := (hres e he).2
    simp only [List.mem_cons, List.not_mem_nil, or_false, not_or] at hne
    rw [hp5.other _ (by simp; omega), hp4.other _ (by simp; omega), hp3.other _ (by simp; omega), hp2.other _ (by simp; omega)]
    exact getReg_regsTake hempty hnodup he
  · rw [hp5.other _ (by decide), hp4.other _ (by decide), hp3.other _ (by decide), (getReg_periodTaken hw1 hp).1]
  · rw [hp5.other _ (by decide), hp4.other _ (by decide), hp3.other _ (by decide), (getReg_periodTaken hw1 hp).2]
  · exact sameBut_trans hframe2 (sameBut_mono (sameBut_trans hp3.frame (sameBut_trans hp4.frame hp5.frame)) (by decide))

/-- Settles O32: the crossings that come of themselves, the half cycle, and the publication of a cycle. -/
theorem crossingsAndCycles : Obligations.CrossingsAndCycles := by
  refine ⟨fun s hrun hitem hw hon he href hraw => ⟨fun hst hexp hnot => ?_, fun hst hfly hexp hnot => ?_,
    fun hst hexp hnot => ?_, fun hst hprov hend hnot => ?_⟩, fun s => ⟨fun hrun hitem hon hnot hcross => ?_, ?_⟩⟩
  · have hrow := trackingRow hrun hitem hw hon he href hraw hnot (tracked_flywheel_first (s := lineFresh s) hst hexp)
    obtain ⟨h1, h2, h3, h4, h5, hirq, hstat, hframe⟩ := crossingRow_effect s _ 1 (s.line.exp + s.line.pg) 2 1
      [.irq srcLineFly] .flywheel
    exact ⟨_, congrArg Host.Outcome.next hrow, h1, h2, h3, h4, h5, hirq _ List.mem_cons_self, hstat, hframe⟩
  · have hrow := trackingRow hrun hitem hw hon he href hraw hnot (tracked_flywheel_lost (s := lineFresh s) hst hfly hexp)
    obtain ⟨h1, h2, -, h4, h5, hirq, -, hframe⟩ := crossingRow_effect s _ 1 (s.line.exp + nominalP0 s) 3 8
      [.irq srcLineLost] .flywheel
    exact ⟨_, congrArg Host.Outcome.next hrow, h1, h2, h4, h5, hirq _ List.mem_cons_self, hframe⟩
  · have hrow := trackingRow hrun hitem hw hon he href hraw hnot (tracked_nominal (s := lineFresh s) hst hexp)
    obtain ⟨h1, -, h3, h4, h5, -, -, hframe⟩ := crossingRow_effect s _ 2 (s.line.exp + nominalP0 s) 3 s.line.flyCnt [] .nominal
    exact ⟨_, congrArg Host.Outcome.next hrow, h1, h3, h4, h5, hframe⟩
  · have hrow := trackingRow hrun hitem hw hon he href hraw hnot (tracked_timeout (s := lineFresh s) hst hprov hend)
    obtain ⟨h1, -, -, -, h5, hirq, -, hframe⟩ := crossingRow_effect s (s.line.entered + nominalP0 s * 3 / 2) 2
      (s.line.entered + nominalP0 s * 3 / 2 + nominalP0 s) 3 s.line.flyCnt [.irq srcLineLost] .acquireTimeout
    exact ⟨_, congrArg Host.Outcome.next hrow, h1, h5, hirq _ List.mem_cons_self, hframe⟩
  · obtain ⟨mid, hhalf⟩ := halfWork_crossing hcross
    have hwork : runItem s 7 = halfJoined s (halfTurned s mid) := (if_pos hon).trans hhalf
    have hdid : did (runItem s 7) .half = true := by
      rw [hwork]
      simp [did, halfJoined, halfTurned, mark]
    have hrow := itemEvent_next hrun hitem hnot hdid
    rw [hwork] at hrow
    exact ⟨_, congrArg Host.Outcome.next hrow, halfRow_effect s mid⟩
  · intro u hdue hw tl htail hres
    have hrow : cyclePublicationOp s = publishCycle u := if_pos hdue
    have hon : coreOn u = true := by
      simp only [cyclePublicationDue, Bool.and_eq_true] at hdue
      exact coreOn_of_portsUp (by simp [portsUp, hdue.1])
    exact ⟨_, congrArg Host.Outcome.next hrow, publishCycle_effect hon hw htail hres⟩

end Sys2Proof.Machine

/-!
The save that fails while a peer's read of undefined NVM waits (08 R187, 11 R245, 02 R43; O34).
-/

namespace Sys2Proof.Machine

/-- A peer reads byte 0 of the NVM. -/
def undefinedRead : MemOp :=
  .remote { kind := .read, pa := 0x820000, count := 1, data := [], op1 := 0, op2 := 0 } .up 0 0

/-- RUN with the program of slot 1 in progress; the erase of the NVM's first bytes was abandoned, and the read of them
waits for the program's end; every window of the Bureau has changed in this tick. -/
def savingUndefined : State :=
  { State.reset with
    seq := { State.reset.seq with st := .run }
    nvm := { State.reset.nvm with op := some (.energyProg 1 []), undef := [(0, 16)] }
    bureau := { State.reset.bureau with chgDone := [true, true, true] }
    ports := { State.reset.ports with held := [undefinedRead] } }

/-- The failed program draws a free value, and so does the read that goes on with the program's end. -/
theorem energySaveDone_draws_twice : (energySaveDoneOp savingUndefined false).free = 2 := by
  decide +kernel

/-- Refutes O34: a save that fails draws one free value for the bytes it leaves, but a read of undefined NVM that it held
back goes on at once and draws a second one. -/
theorem not_energyIsSaved : ¬ Obligations.EnergyIsSaved := by
  unfold Obligations.EnergyIsSaved
  intro h
  obtain ⟨-, hsave, -⟩ := h savingUndefined
  obtain ⟨-, t, hnext, -, -, -, -, hfree, -⟩ := hsave 1 [] rfl (by decide) (by decide) (by decide)
  have ht : energySaveDoneOp savingUndefined false = t := Host.Outcome.next.inj hnext
  rw [← ht, energySaveDone_draws_twice] at hfree
  exact absurd hfree (by decide)

end Sys2Proof.Machine

/-!
The Stool: ends of steps, rotations and switches (05 R117 to R126; O36).
-/

namespace Sys2Proof.Machine

/-! ### What the Stool may change -/

/-- What the Stool's turns and switches may change. -/
abbrev stoolParts : List Part := [.stool, .streams, .regs, .bureau, .seq]

/-- A rotation has been told since `s`, or none has been completed. -/
def RotationTold (s v : State) : Prop :=
  did v .rotation = did s .rotation ∨ (coreOn s = true → Registers.wf s = true → statusBit v srcRotationDone = true)

/-- The Stool turns on: what it may change, its tables canonical, and a rotation that completes told for good. -/
structure Turns (s v : State) : Prop where
  frame : sameBut stoolParts s v
  st : v.seq.st = s.seq.st
  rwf : Registers.wf s = true → Registers.wf v = true
  keeps : Registers.wf s = true → statusBit s srcRotationDone = true → statusBit v srcRotationDone = true
  told : RotationTold s v

theorem coreOn_of_st {s v : State} (h : v.seq.st = s.seq.st) : coreOn v = coreOn s := by rw [coreOn, coreOn, h]

theorem Turns.refl (s : State) : Turns s s := ⟨sameBut_refl _ s, rfl, id, fun _ h => h, .inl rfl⟩

theorem Turns.trans {s v w : State} (h : Turns s v) (k : Turns v w) : Turns s w where
  frame := sameBut_trans h.frame k.frame
  st := k.st.trans h.st
  rwf hw := k.rwf (h.rwf hw)
  keeps hw hs := k.keeps (h.rwf hw) (h.keeps hw hs)
  told := by
    rcases k.told with hk | hk
    · rcases h.told with hh | hh
      · exact .inl (hk.trans hh)
      · exact .inr fun hon hw => k.keeps (h.rwf hw) (hh hon hw)
    · exact .inr fun hon hw => hk ((coreOn_of_st h.st).trans hon) (h.rwf hw)

/-- A step that leaves registers and the tick's notes alone. -/
theorem Turns.of_parts {s v : State} {ps : List Part} (h : sameBut ps s v) (hps : ps ⊆ [.stool, .streams] := by decide)
    (hr : v.regs = s.regs := by rfl) (ha : v.aon = s.aon := by rfl) (hf : v.inForce = s.inForce := by rfl)
    (hn : v.snap = s.snap := by rfl) : Turns s v where
  frame := sameBut_mono h (fun p hp => (by decide : [.stool, .streams] ⊆ stoolParts) (hps hp))
  st := congrArg Seq.st (h .seq (fun hp => absurd (hps hp) (by decide)))
  rwf hw := by
    rw [Registers.wf_iff] at hw ⊢
    rw [hr, ha, hf, hn]
    exact hw
  keeps _ hs := by
    rw [← hs, statusBit, statusBit, getReg, getReg, hr, ha]
  told := .inl (congrArg (fun q : Seq => q.did.contains .rotation) (h .seq (fun hp => absurd (hps hp) (by decide))))

theorem Turns.stool (s : State) (x : Stool) : Turns s { s with stool := x } := .of_parts (sameBut_stool s x)

theorem Turns.setReg (s : State) {n : Nat} (v : Word) (hr : isRetained n = false) (hn : n ≠ srcRotationDone / 20) :
    Turns s (setReg s n v) where
  frame := sameBut_mono (setReg_frame_regs s v hr) (by decide)
  st := by rw [setReg_seq]
  rwf := setReg_rwf n v
  keeps _ h := (statusBit_of_getReg (getReg_setReg_other s n _ v (Ne.symm hn))).trans h
  told := .inl (by rw [did, did, setReg_seq])

theorem Turns.raise (s : State) {src : Nat} (hr : isRetained (src / 20) = false) : Turns s (raise s src) where
  frame := sameBut_mono (raise_frame s hr) (by decide)
  st := by rw [raise_seq]
  rwf := raise_rwf src
  keeps hw h := statusBit_raise_keeps hw hr h
  told := .inl (by rw [did, did, raise_seq])

/-- A note of the tick other than a rotation's. -/
theorem Turns.mark (s : State) {d : Did} (hd : d ≠ .rotation) : Turns s (mark s d) where
  frame := sameBut_mono (mark_frame s d) (by decide)
  st := rfl
  rwf hw := hw
  keeps _ h := h
  told := .inl (by
    show (d :: s.seq.did).contains .rotation = s.seq.did.contains .rotation
    rw [List.contains_cons, beq_false_of_ne (Ne.symm hd), Bool.false_or])

theorem Turns.stoolFault (s : State) (cause : Nat) : Turns s (stoolFault s cause) :=
  (Turns.stool s _).trans (Turns.raise _ (by decide))

/-! ### Turns of the rotation (05 R117) -/

theorem stoolStep_turns (s : State) (st step : Nat) : Turns s (stoolStep s st step) := Turns.stool s _

theorem startSelf_turns (s : State) : Turns s (startSelf s) := Turns.stool s _

theorem startOverlap_turns (s : State) (n : Nat) : Turns s (startOverlap s n) := by
  refine .of_parts (ps := [.stool, .streams]) ?_
  intro p hp
  cases p <;> simp_all [Part.same, startOverlap, stoolStep]

/-- A rotation whose last slice has been served. -/
def rotationOver (s : State) : State :=
  mark (raise (incMod { s with stool := { s.stool with nextSlice := 11 } } 0x2F6) srcRotationDone) .rotation

theorem rotationEnd_over {s : State} (h : s.stool.nextSlice ≠ 11 ∧ nextServed s = none) : rotationEnd s = rotationOver s :=
  if_pos h

theorem rotationEnd_goes {s : State} (h : ¬(s.stool.nextSlice ≠ 11 ∧ nextServed s = none)) : rotationEnd s = s := if_neg h

theorem rotationOver_turns (s : State) : Turns s (rotationOver s) := by
  have hcount : Turns s (incMod { s with stool := { s.stool with nextSlice := 11 } } 0x2F6) :=
    (Turns.stool s _).trans (Turns.setReg _ _ (by decide) (by decide))
  have hraise : Turns s (raise (incMod { s with stool := { s.stool with nextSlice := 11 } } 0x2F6) srcRotationDone) :=
    hcount.trans (Turns.raise _ (by decide))
  refine ⟨sameBut_trans hraise.frame (sameBut_mono (mark_frame _ .rotation) (by decide)), hraise.st, hraise.rwf,
    hraise.keeps, .inr fun hon hw => ?_⟩
  exact statusBit_raise_wf (src := srcRotationDone) (by decide) ((coreOn_of_st hcount.st).trans hon) (hcount.rwf hw)

theorem rotationEnd_turns (s : State) : Turns s (rotationEnd s) := by
  by_cases h : s.stool.nextSlice ≠ 11 ∧ nextServed s = none
  · rw [rotationEnd_over h]
    exact rotationOver_turns s
  · rw [rotationEnd_goes h]
    exact Turns.refl s

theorem serveNext_turns (s : State) : Turns s (serveNext s) := by
  unfold serveNext
  split
  · exact startOverlap_turns s _
  · exact (rotationEnd_turns s).trans (startSelf_turns _)

theorem serveSelected_turns (s : State) (n : Nat) : Turns s (serveSelected s n) := by
  have hchosen := Turns.stool s { s.stool with selectNext := none }
  unfold serveSelected
  dsimp only
  split
  · exact hchosen.trans (startSelf_turns _)
  · split
    · exact hchosen.trans (startOverlap_turns _ n)
    · exact (Turns.stool s { s.stool with selectNext := none, nextSlice := n }).trans (serveNext_turns _)

/-- The rotation with its end told: held by PAUSE, turned by SELECT, or going on. -/
def turned (t : State) : State :=
  if t.stool.pauseReq then
    { t with stool := { t.stool with
      st := stoolIdle, step := 0, left := 0, paused := true, pauseReq := false, due := false, deferred := false } }
  else
    match t.stool.selectNext with
    | some n => serveSelected t n
    | none => serveNext t

theorem stoolAdvance_eq (s : State) : stoolAdvance s = turned (rotationEnd s) := rfl

theorem turned_turns (t : State) : Turns t (turned t) := by
  unfold turned
  split
  · exact Turns.stool t _
  · split
    · exact serveSelected_turns t _
    · exact serveNext_turns t

theorem stoolAdvance_turns (s : State) : Turns s (stoolAdvance s) := (rotationEnd_turns s).trans (turned_turns _)

/-- What a turn leaves of the Stool: nothing due, the carrying and the cause as they were. -/
structure TurnLeaves (s v : State) : Prop where
  due : v.stool.due = false
  carrying : v.stool.carrying = s.stool.carrying
  cause : v.stool.cause = s.stool.cause

theorem rotationOver_stool (s : State) : (rotationOver s).stool = { s.stool with nextSlice := 11 } := by
  show (raise (incMod { s with stool := { s.stool with nextSlice := 11 } } 0x2F6) srcRotationDone).stool = _
  rw [raise_stool, incMod, setReg_stool]

theorem rotationEnd_stool (s : State) : ∃ k, (rotationEnd s).stool = { s.stool with nextSlice := k } := by
  by_cases h : s.stool.nextSlice ≠ 11 ∧ nextServed s = none
  · exact ⟨11, by rw [rotationEnd_over h, rotationOver_stool]⟩
  · exact ⟨s.stool.nextSlice, by rw [rotationEnd_goes h]⟩

theorem startSelf_leaves (s : State) : TurnLeaves s (startSelf s) := ⟨rfl, rfl, rfl⟩

theorem startOverlap_leaves (s : State) (n : Nat) : TurnLeaves s (startOverlap s n) := ⟨rfl, rfl, rfl⟩

theorem TurnLeaves.after {s t v : State} (h : TurnLeaves t v) (hc : t.stool.carrying = s.stool.carrying)
    (hk : t.stool.cause = s.stool.cause) : TurnLeaves s v := ⟨h.due, h.carrying.trans hc, h.cause.trans hk⟩

theorem serveNext_leaves (s : State) : TurnLeaves s (serveNext s) := by
  unfold serveNext
  split
  · exact startOverlap_leaves s _
  · obtain ⟨k, hk⟩ := rotationEnd_stool s
    exact (startSelf_leaves _).after (by rw [hk]) (by rw [hk])

theorem serveSelected_leaves (s : State) (n : Nat) : TurnLeaves s (serveSelected s n) := by
  unfold serveSelected
  dsimp only
  split
  · exact (startSelf_leaves _).after rfl rfl
  · split
    · exact (startOverlap_leaves _ n).after rfl rfl
    · exact (serveNext_leaves _).after rfl rfl

theorem turned_leaves (t : State) : TurnLeaves t (turned t) := by
  unfold turned
  split
  · exact ⟨rfl, rfl, rfl⟩
  · split
    · exact serveSelected_leaves t _
    · exact serveNext_leaves t

theorem stoolAdvance_leaves (s : State) : TurnLeaves s (stoolAdvance s) := by
  obtain ⟨k, hk⟩ := rotationEnd_stool s
  exact (turned_leaves _).after (by rw [hk]) (by rw [hk])

/-- With no slice left nothing is served any more. -/
theorem nextServed_ended {s : State} (h : s.stool.nextSlice = 11) : nextServed s = none := if_pos h

theorem did_startOverlap (s : State) (n : Nat) (d : Did) : did (startOverlap s n) d = did s d := rfl

theorem did_startSelf (s : State) (d : Did) : did (startSelf s) d = did s d := rfl

/-- A rotation that completes, with neither a PAUSE nor a SELECT waiting, begins SELF. -/
theorem stoolAdvance_self {s : State} (hp : s.stool.pauseReq = false) (hsel : s.stool.selectNext = none)
    (hnot : did s .rotation = false) (hdid : did (stoolAdvance s) .rotation = true) :
    (stoolAdvance s).stool.st = 1 ∧ (stoolAdvance s).stool.step = 0 ∧ (stoolAdvance s).stool.target = 10 := by
  have hturn : ∀ t : State, t.stool.pauseReq = false → t.stool.selectNext = none → turned t = serveNext t := by
    intro t ht hs
    simp [turned, ht, hs]
  by_cases h : s.stool.nextSlice ≠ 11 ∧ nextServed s = none
  · have hst := rotationOver_stool s
    have hnext : nextServed (rotationOver s) = none := nextServed_ended (by rw [hst])
    have hserve : stoolAdvance s = startSelf (rotationEnd (rotationOver s)) := by
      rw [stoolAdvance_eq, rotationEnd_over h, hturn _ (by rw [hst]; exact hp) (by rw [hst]; exact hsel), serveNext, hnext]
    rw [hserve]
    exact ⟨rfl, rfl, rfl⟩
  · have hserve : stoolAdvance s = serveNext s := by rw [stoolAdvance_eq, rotationEnd_goes h, hturn _ hp hsel]
    exfalso
    rw [hserve, serveNext] at hdid
    split at hdid
    · rw [did_startOverlap, hnot] at hdid
      exact absurd hdid (by decide)
    · rw [rotationEnd_goes h, did_startSelf, hnot] at hdid
      exact absurd hdid (by decide)

/-! ### The rotation within one boundary -/

/-- A turn can follow: the PAUSE and the SELECT that wait are those of `u`, and no rotation has been completed. -/
structure Steady (u w : State) : Prop where
  turns : Turns u w
  pause : w.stool.pauseReq = u.stool.pauseReq
  select : w.stool.selectNext = u.stool.selectNext
  did : did w .rotation = did u .rotation

theorem Steady.refl (u : State) : Steady u u := ⟨Turns.refl u, rfl, rfl, rfl⟩

theorem Steady.trans {u v w : State} (h : Steady u v) (k : Steady v w) : Steady u w :=
  ⟨h.turns.trans k.turns, k.pause.trans h.pause, k.select.trans h.select, k.did.trans h.did⟩

/-- A rotation has turned within the boundary. -/
structure Advanced (u v : State) : Prop where
  turns : Turns u v
  due : v.stool.due = false
  self : did u .rotation = false → did v .rotation = true → u.stool.pauseReq = false → u.stool.selectNext = none →
    v.stool.st = 1 ∧ v.stool.step = 0 ∧ v.stool.target = 10

theorem Advanced.of_steady {u w : State} (h : Steady u w) : Advanced u (stoolAdvance w) where
  turns := h.turns.trans (stoolAdvance_turns w)
  due := (stoolAdvance_leaves w).due
  self hnot hdid hp hs := stoolAdvance_self (h.pause.trans hp) (h.select.trans hs) (h.did.trans hnot) hdid

theorem did_mark {s : State} {d e : Did} (h : e ≠ d) : did (mark s d) e = did s e := by
  show (d :: s.seq.did).contains e = s.seq.did.contains e
  rw [List.contains_cons, beq_false_of_ne h, Bool.false_or]

theorem Advanced.mark {u v : State} (h : Advanced u v) {d : Did} (hd : d ≠ .rotation) : Advanced u (mark v d) where
  turns := h.turns.trans (Turns.mark v hd)
  due := h.due
  self hnot hdid := h.self hnot ((did_mark (Ne.symm hd)).symm.trans hdid)

theorem Steady.mark {u w : State} (h : Steady u w) {d : Did} (hd : d ≠ .rotation) : Steady u (mark w d) :=
  h.trans ⟨Turns.mark w hd, rfl, rfl, did_mark (Ne.symm hd)⟩

/-- The Stool within one boundary: no turn yet and the same steps still possible; turned; or nothing due and no rotation
completed. -/
def TurnState (u v : State) : Prop :=
  Steady u v ∨ Advanced u v ∨ (v.stool.due = false ∧ did v .rotation = did u .rotation)

theorem TurnState.mark {u v : State} (h : TurnState u v) {d : Did} (hd : d ≠ .rotation) : TurnState u (mark v d) := by
  rcases h with h | h | ⟨hdue, hdid⟩
  · exact .inl (h.mark hd)
  · exact .inr (.inl (h.mark hd))
  · exact .inr (.inr ⟨hdue, (did_mark (Ne.symm hd)).trans hdid⟩)

theorem Steady.setReg (s : State) {n : Nat} (v : Word) (hr : isRetained n = false) (hn : n ≠ srcRotationDone / 20) :
    Steady s (setReg s n v) :=
  ⟨Turns.setReg s v hr hn, by rw [setReg_stool], by rw [setReg_stool], by rw [Machine.did, Machine.did, setReg_seq]⟩

theorem Steady.raise (s : State) {src : Nat} (hr : isRetained (src / 20) = false) : Steady s (raise s src) :=
  ⟨Turns.raise s hr, by rw [raise_stool], by rw [raise_stool], by rw [Machine.did, Machine.did, raise_seq]⟩

/-- A change of the Stool that leaves what waits. -/
theorem Steady.stool (s : State) (x : Stool) (hp : x.pauseReq = s.stool.pauseReq) (hs : x.selectNext = s.stool.selectNext) :
    Steady s { s with stool := x } := ⟨Turns.stool s x, hp, hs, rfl⟩

theorem Steady.after {s t : State} {x : Stool} (k : Steady { s with stool := x } t) (hp : x.pauseReq = s.stool.pauseReq)
    (hs : x.selectNext = s.stool.selectNext) : Steady s t :=
  (Steady.stool s x hp hs).trans k

theorem Steady.stoolFault (s : State) (cause : Nat) : Steady s (stoolFault s cause) :=
  (Steady.stool s { s.stool with cause := cause } rfl rfl).trans (Steady.raise _ (by decide))

/-- A field term of the Stool's own converter, or of a slice, is stored or shown. -/
theorem putField_steady (apply : Bool) (s : State) {n : Nat} (v : Int) (hr : isRetained n = false) (hn : 4 ≤ n) :
    Steady s (putField apply s n v) := by
  have hne : n ≠ srcRotationDone / 20 := fun e => by rw [e] at hn; exact absurd hn (by decide)
  unfold putField
  dsimp only
  split
  · exact Steady.after (Steady.setReg _ _ hr hne) rfl rfl
  · exact Steady.stool s _ rfl rfl

/-- The calibration of the Stool's own converter. -/
theorem calibrate_self_steady (s : State) : Steady s (calibrate s 10) := by
  unfold calibrate
  extract_lets o half apply offs gain s1 s2 ph
  split
  · exact Steady.stoolFault s 6
  · have h1 : Steady s s1 := Steady.stool s _ rfl rfl
    have h2 : Steady s s2 := (h1.trans (putField_steady apply s1 offs.1 (n := 0x2D0 + 10) (by decide) (by decide))).trans
      (putField_steady apply _ gain.1 (n := 0x2C0 + 10) (by decide) (by decide))
    have hph : ph.1 = s2 := by
      unfold ph
      split <;> rfl
    rw [hph]
    split
    · exact h2.trans (Steady.stoolFault s2 2)
    · exact h2

/-! ### The ends of steps (05 R118) -/

theorem stoolStepEnd_self {s : State} (hst : s.stool.st = 1) (hstep : ¬s.stool.step ≤ 2) :
    stoolStepEnd s = stoolAdvance (calibrate s 10) := by
  simp only [stoolStepEnd]
  rw [if_pos hst, if_neg hstep]

/-- A reference step of SELF or CARRY gives its mean and goes on. -/
theorem stoolStepEnd_mean {s : State} (hst : s.stool.st = 1 ∨ s.stool.st = 3) (hstep : s.stool.step ≤ 2) :
    stoolStepEnd s = stoolStep (takeMean s) s.stool.st (s.stool.step + 1) := by
  simp only [stoolStepEnd]
  rcases hst with h | h
  · rw [if_pos h, if_pos hstep, h]
  · rw [if_neg (by omega), if_neg (by omega), if_pos h, if_pos hstep, h]

/-- The measured terms of OVERLAP.1 stand, and the takeover is due. -/
def overlapMeasured (s : State) : State :=
  { s with stool := { s.stool with mGain := (measuredGain s).1, mOffs := (measuredGain s).2.1, left := 0, due := true } }

theorem stoolStepEnd_overlap {s : State} (hst : s.stool.st = 2) (hstep : s.stool.step ≠ 0) :
    stoolStepEnd s = if (measuredGain s).2.2 then abandonSlice (stoolFault s 1) true else overlapMeasured s := by
  simp only [stoolStepEnd]
  rw [if_neg (by omega), if_pos hst, if_neg hstep]
  rfl

theorem stoolStep_due (s : State) (st step : Nat) : (stoolStep s st step).stool.due = false := rfl

theorem did_stoolStep (s : State) (st step : Nat) (d : Did) : did (stoolStep s st step) d = did s d := rfl

/-- A step that goes on leaves nothing due, and completes no rotation. -/
theorem TurnState.step {u t : State} (st step : Nat) (h : did t .rotation = did u .rotation) :
    TurnState u (stoolStep t st step) := .inr (.inr ⟨rfl, h⟩)

theorem did_stoolFault (s : State) (cause : Nat) (d : Did) : did (stoolFault s cause) d = did s d := by
  rw [stoolFault, did, did, raise_seq]

theorem did_putField (apply : Bool) (s : State) (n : Nat) (v : Int) (d : Did) : did (putField apply s n v) d = did s d := by
  unfold putField
  dsimp only
  split
  · rw [did, did, setReg_seq]
  · rfl

theorem did_calibrate (s : State) (c : Nat) (d : Did) : did (calibrate s c) d = did s d := by
  unfold calibrate
  extract_lets o half apply offs gain s1 s2 ph
  split
  · exact did_stoolFault s 6 d
  · have h2 : did s2 d = did s d := by
      unfold s2
      rw [did_putField, did_putField]
      rfl
    have hph : did ph.1 d = did s d := by
      unfold ph
      split
      · split
        · exact (did_putField _ _ _ _ d).trans h2
        · exact h2
      · exact h2
    split
    · exact (did_stoolFault _ 2 d).trans hph
    · exact hph

theorem abandonSlice_advanced {u w : State} (h : Steady u w) : Advanced u (abandonSlice w true) :=
  Advanced.of_steady (w := addReg w 0x2F4 1) (h.trans (Steady.setReg w _ (by decide) (by decide)))

/-- The end of a step: the Stool turns, has its switch due, or goes on with its next step. -/
theorem stoolStepEnd_turn (u : State) : TurnState u (stoolStepEnd u) := by
  by_cases h1 : u.stool.st = 1
  · by_cases hs : u.stool.step ≤ 2
    · rw [stoolStepEnd_mean (.inl h1) hs]
      exact TurnState.step _ _ rfl
    · rw [stoolStepEnd_self h1 hs]
      exact .inr (.inl (Advanced.of_steady (calibrate_self_steady u)))
  by_cases h2 : u.stool.st = 2
  · by_cases hs : u.stool.step = 0
    · simp only [stoolStepEnd]
      rw [if_neg h1, if_pos h2, if_pos hs]
      exact TurnState.step _ _ rfl
    · rw [stoolStepEnd_overlap h2 hs]
      split
      · exact .inr (.inl (abandonSlice_advanced (Steady.stoolFault u 1)))
      · exact .inl (Steady.stool u _ rfl rfl)
  simp only [stoolStepEnd]
  rw [if_neg h1, if_neg h2]
  split
  · split
    · exact TurnState.step _ _ rfl
    · exact TurnState.step _ _ (did_calibrate u u.stool.target .rotation)
  · split
    · split
      · exact TurnState.step _ _ rfl
      · split
        · split
          · exact TurnState.step _ _ (did_stoolFault _ 1 .rotation)
          · exact TurnState.step _ _ rfl
        · exact .inl (Steady.stool u _ rfl rfl)
    · exact .inl (Steady.refl u)

/-! ### The switches (05 R121, R125, R126) -/

theorem Steady.streams (s : State) (x : Streams) : Steady s { s with streams := x } :=
  ⟨.of_parts (sameBut_streams s x), rfl, rfl, rfl⟩

theorem switchMade_steady (s : State) : Steady s (switchMade s) :=
  (Steady.streams s _).trans ((Steady.setReg _ _ (by decide) (by decide)).trans (Steady.raise _ (by decide)))

theorem switchMade_stool (s : State) : (switchMade s).stool = s.stool := by
  rw [switchMade]
  dsimp only
  rw [raise_stool, setReg_stool]

theorem switchMade_conv (s : State) : (switchMade s).streams.conv = s.streams.conv := by
  rw [switchMade]
  dsimp only
  rw [raise_streams, setReg_streams]

theorem deferSwitch_steady (s : State) : Steady s (deferSwitch s) := by
  unfold deferSwitch
  split
  · exact Steady.refl s
  · exact Steady.after ((Steady.setReg _ _ (by decide) (by decide)).trans (Steady.raise (src := srcStoolDefer) _ (by decide)))
      rfl rfl

/-- The slice takes the Stool's DC-block estimate, and the Stool carries no longer. -/
def handedBack (s : State) : State :=
  let t := switchMade s
  let e := (nth t.streams.conv 10 freshConv).e
  { t with
    stool := { t.stool with carrying := false, due := false }
    streams := { t.streams with conv := modNth t.streams.conv t.stool.target (fun c => { c with e := e, ePrev := e }) } }

theorem handbackMade_eq (s : State) : handbackMade s = stoolAdvance (handedBack s) := rfl

theorem handedBack_steady (s : State) : Steady s (handedBack s) := by
  have hparts : Steady (switchMade s) (handedBack s) := by
    refine ⟨.of_parts (ps := [.stool, .streams]) ?_, rfl, rfl, rfl⟩
    intro p hp
    cases p <;> simp_all [Part.same, handedBack]
  exact (switchMade_steady s).trans hparts

theorem handbackDue_of_not_due {v : State} (h : v.stool.due = false) : handbackDue v = false := by simp [handbackDue, h]

theorem takeoverDue_of_not_due {v : State} (h : v.stool.due = false) : takeoverDue v = false := by simp [takeoverDue, h]

theorem TurnState.handback {u v : State} (h : TurnState u v) : TurnState u (handbackOp v) := by
  unfold handbackOp
  by_cases hd : handbackDue v = true
  · rcases h with h | h | ⟨hdue, -⟩
    · rw [if_pos hd]
      split
      · exact .inl (h.trans (deferSwitch_steady v))
      · rw [handbackMade_eq]
        exact .inr (.inl (Advanced.of_steady (h.trans (handedBack_steady v))))
    · exact absurd hd (by simp [handbackDue_of_not_due h.due])
    · exact absurd hd (by simp [handbackDue_of_not_due hdue])
  · rw [if_neg hd]
    exact h

theorem TurnState.abandon {u v : State} (h : TurnState u v) : TurnState u (takeoverAbandonOp v) := by
  unfold takeoverAbandonOp
  by_cases hd : takeoverDue v = true
  · rcases h with h | h | ⟨hdue, -⟩
    · split
      · exact .inr (.inl (abandonSlice_advanced (h.trans (Steady.stoolFault v 3))))
      · exact .inl h
    · exact absurd hd (by simp [takeoverDue_of_not_due h.due])
    · exact absurd hd (by simp [takeoverDue_of_not_due hdue])
  · rw [if_neg (by simp [hd])]
    exact h

theorem stoolStepEndOp_turn (u : State) : TurnState u (stoolStepEndOp u) := by
  unfold stoolStepEndOp
  split
  · exact (stoolStepEnd_turn u).mark (by decide)
  · exact .inl (Steady.refl u)

/-- A rotation that completes with this tick's end has turned the Stool. -/
theorem rotationDoneOp_advanced {u : State} (hdid : did (rotationDoneOp u) .rotation = true)
    (hnot : did u .rotation = false) : Advanced u (rotationDoneOp u) := by
  have hturn : TurnState u (takeoverAbandonOp (handbackOp (stoolStepEndOp u))) := (stoolStepEndOp_turn u).handback.abandon
  by_cases h : (did (takeoverAbandonOp (handbackOp (stoolStepEndOp u))) .rotation && !did u .rotation) = true
  · have hrow : rotationDoneOp u = mark (takeoverAbandonOp (handbackOp (stoolStepEndOp u))) .stoolStep := if_pos h
    rw [hnot, Bool.not_false, Bool.and_true] at h
    rw [hrow]
    refine Advanced.mark ?_ (by decide)
    rcases hturn with hturn | hturn | ⟨-, hsame⟩
    · rw [hturn.did, hnot] at h
      exact absurd h (by decide)
    · exact hturn
    · rw [hsame, hnot] at h
      exact absurd h (by decide)
  · have hrow : rotationDoneOp u = u := if_neg h
    rw [hrow, hnot] at hdid
    exact absurd hdid (by decide)

theorem coreOn_of_stoolOn {u : State} (h : stoolOn u = true) : coreOn u = true := by
  rw [stoolOn, Bool.and_eq_true] at h
  exact coreOn_of_portsUp (by simp [portsUp, h.1])

theorem statusBit_mark (s : State) (d : Did) (b : Nat) : statusBit (mark s d) b = statusBit s b := rfl

theorem getReg_mark (s : State) (d : Did) (n : Nat) : getReg (mark s d) n = getReg s n := rfl

theorem getReg_stoolStep (s : State) (st step n : Nat) : getReg (stoolStep s st step) n = getReg s n := rfl

/-- The takeover switch: the Stool carries, in CARRY.0, with the step told. -/
theorem takeoverMade_effect {u : State} (hon : coreOn u = true) :
    let t := mark (takeoverMade u) .stoolStep
    t.stool.carrying = true ∧ t.stool.st = 3 ∧ t.stool.step = 0 ∧ t.stool.left = 8000 ∧ t.stool.target = u.stool.target ∧
      (Registers.wf u = true → statusBit t srcStoolSwitch = true ∧
        getReg t 0x2F5 = wd (nth u.streams.yc 10 0 - nth u.streams.yc u.stool.target 0).natAbs) ∧
      sameBut stoolParts u t := by
  have hframe : sameBut stoolParts u (mark (takeoverMade u) .stoolStep) :=
    sameBut_trans (switchMade_steady u).turns.frame (sameBut_trans (sameBut_mono (sameBut_stool _ _) (by decide))
      (sameBut_mono (mark_frame _ .stoolStep) (by decide)))
  refine ⟨rfl, rfl, rfl, rfl, (congrArg Stool.target (switchMade_stool u) :), fun hw => ⟨?_, ?_⟩, hframe⟩
  · show statusBit (switchMade u) srcStoolSwitch = true
    refine statusBit_raise_wf (by decide) ?_ (setReg_rwf 0x2F5 _ ?_)
    · rw [coreOn, setReg_seq]
      exact hon
    · exact (Steady.streams u _).turns.rwf hw
  · show getReg (switchMade u) 0x2F5 = _
    rw [switchMade]
    dsimp only
    rw [getReg_raise_other _ _ _ (by decide)]
    exact getReg_setReg 0x2F5 _ ((Steady.streams u _).turns.rwf hw)

/-- A switch held back for the first time is told, and stays due. -/
theorem deferSwitch_first {u : State} (hon : coreOn u = true) (h : u.stool.deferred = false) :
    let t := mark (deferSwitch u) .stoolStep
    t.stool.deferred = true ∧ t.stool.carrying = u.stool.carrying ∧ t.stool.due = u.stool.due ∧
      (Registers.wf u = true → statusBit t srcStoolDefer = true) ∧ sameBut [.stool, .regs, .bureau, .seq] u t := by
  have hrow : deferSwitch u = raise (addReg { u with stool := { u.stool with
      deferred := true, deferUnits := -(tickUnits u : Int) } } 0x2F3 1) srcStoolDefer := by
    rw [deferSwitch, h]
    rfl
  have hstool : (deferSwitch u).stool = { u.stool with deferred := true, deferUnits := -(tickUnits u : Int) } := by
    rw [hrow, raise_stool, addReg, setReg_stool]
  refine ⟨(congrArg Stool.deferred hstool :), (congrArg Stool.carrying hstool :), (congrArg Stool.due hstool :), fun hw => ?_, ?_⟩
  · rw [statusBit_mark, hrow]
    refine statusBit_raise_wf (by decide) ?_ (setReg_rwf 0x2F3 _ ((Turns.stool u _).rwf hw))
    rw [coreOn, addReg, setReg_seq]
    exact hon
  · refine sameBut_trans ?_ (sameBut_mono (mark_frame _ .stoolStep) (by decide))
    rw [hrow]
    exact sameBut_trans (sameBut_mono (sameBut_stool u _) (by decide)) (sameBut_trans
      (sameBut_mono (setReg_frame_regs _ _ (by decide)) (by decide)) (sameBut_mono (raise_frame _ (by decide)) (by decide)))

/-- Registers but the rotations' count and the status words outlive a turn. -/
theorem getReg_stoolAdvance (s : State) {n : Nat} (h : n ≠ 0x2F6) (hn : n ≠ srcRotationDone / 20) :
    getReg (stoolAdvance s) n = getReg s n := by
  have hover : ∀ t, getReg (rotationEnd t) n = getReg t n := fun t => by
    by_cases hr : t.stool.nextSlice ≠ 11 ∧ nextServed t = none
    · rw [rotationEnd_over hr, rotationOver, getReg_mark, getReg_raise_other _ _ _ hn, incMod, getReg_setReg_other _ _ _ _ h]
      rfl
    · rw [rotationEnd_goes hr]
  have hself : ∀ t, getReg (startSelf t) n = getReg t n := fun _ => rfl
  have hoverlap : ∀ t k, getReg (startOverlap t k) n = getReg t n := fun _ _ => rfl
  have hnext : ∀ t, getReg (serveNext t) n = getReg t n := fun t => by
    unfold serveNext
    split
    · exact hoverlap t _
    · rw [hself, hover]
  have hturned : ∀ t, getReg (turned t) n = getReg t n := fun t => by
    unfold turned
    split
    · rfl
    · split
      · unfold serveSelected
        dsimp only
        split
        · exact hself _
        · split
          · exact hoverlap _ _
          · exact hnext _
      · exact hnext t
  rw [stoolAdvance_eq, hturned, hover]

/-- A status bit that stands outlives a turn. -/
theorem statusBit_stoolAdvance {s : State} (hw : Registers.wf s = true) {b : Nat} (hb : b / 20 ≠ 0x2F6)
    (h : statusBit s b = true) : statusBit (stoolAdvance s) b = true := by
  have hover : ∀ t, Registers.wf t = true → statusBit t b = true → statusBit (rotationEnd t) b = true := fun t hwt ht => by
    by_cases hr : t.stool.nextSlice ≠ 11 ∧ nextServed t = none
    · rw [rotationEnd_over hr, rotationOver, statusBit_mark]
      refine statusBit_raise_keeps (setReg_rwf 0x2F6 _ ((Turns.stool t _).rwf hwt)) (by decide) ?_
      exact (statusBit_of_getReg (getReg_setReg_other _ 0x2F6 (b / 20) _ hb)).trans ht
    · rw [rotationEnd_goes hr]
      exact ht
  have hnext : ∀ t, Registers.wf t = true → statusBit t b = true → statusBit (serveNext t) b = true := fun t hwt ht => by
    unfold serveNext
    split
    · exact ht
    · exact hover t hwt ht
  have hwe := (rotationEnd_turns s).rwf hw
  have he := hover s hw h
  rw [stoolAdvance_eq, turned]
  split
  · exact he
  · split
    · unfold serveSelected
      dsimp only
      split
      · exact he
      · split
        · exact he
        · exact hnext _ ((Turns.stool _ _).rwf hwe) he
    · exact hnext _ hwe he

theorem nth_modNth_other {α : Type} (l : List α) {i k : Nat} (f : α → α) (d : α) (h : k ≠ i) :
    nth (modNth l i f) k d = nth l k d := by
  simp [nth, modNth, List.getD_eq_getElem?_getD, Ne.symm h]

theorem nth_modNth_self {α : Type} {l : List α} {i : Nat} (f : α → α) (d : α) (h : i < l.length) :
    nth (modNth l i f) i d = f (nth l i d) := by
  simp [nth, modNth, List.getD_eq_getElem?_getD, h]

/-- A turn loads the Stool's own converter alone. -/
theorem conv_stoolAdvance (s : State) {k : Nat} (hk : k ≠ 10) (d : Conv) :
    nth (stoolAdvance s).streams.conv k d = nth s.streams.conv k d := by
  have hover : ∀ t, (rotationEnd t).streams = t.streams := fun t => by
    by_cases hr : t.stool.nextSlice ≠ 11 ∧ nextServed t = none
    · rw [rotationEnd_over hr]
      show (raise (incMod _ 0x2F6) srcRotationDone).streams = _
      rw [raise_streams, incMod, setReg_streams]
    · rw [rotationEnd_goes hr]
  have hoverlap : ∀ t n, nth (startOverlap t n).streams.conv k d = nth t.streams.conv k d := fun t n =>
    nth_modNth_other t.streams.conv _ d hk
  have hself : ∀ t, (startSelf t).streams = t.streams := fun _ => rfl
  have hnext : ∀ t, nth (serveNext t).streams.conv k d = nth t.streams.conv k d := fun t => by
    unfold serveNext
    split
    · exact hoverlap t _
    · rw [hself, hover]
  rw [stoolAdvance_eq, ← hover s]
  generalize rotationEnd s = t
  unfold turned
  split
  · rfl
  · split
    · unfold serveSelected
      dsimp only
      split
      · rw [hself]
      · split
        · exact hoverlap _ _
        · exact hnext _
    · exact hnext t

/-- The takeover is abandoned and counted. -/
theorem abandonSlice_effect {u : State} (hon : coreOn u = true) :
    let t := mark (abandonSlice (stoolFault u 3) true) .stoolStep
    t.stool.carrying = u.stool.carrying ∧ t.stool.due = false ∧ t.stool.cause = 3 ∧
      (Registers.wf u = true → getReg t 0x2F4 = wd (min (regN u 0x2F4 + 1) 0xFFFFF) ∧ statusBit t srcStoolFault = true) ∧
      sameBut stoolParts u t := by
  let w := addReg (stoolFault u 3) 0x2F4 1
  have hw' : w.stool = { u.stool with cause := 3 } := by
    show (addReg (stoolFault u 3) 0x2F4 1).stool = _
    rw [addReg, setReg_stool, stoolFault, raise_stool]
  have hleaves : TurnLeaves w (stoolAdvance w) := stoolAdvance_leaves w
  have hadv : Advanced u (abandonSlice (stoolFault u 3) true) := abandonSlice_advanced (Steady.stoolFault u 3)
  refine ⟨hleaves.carrying.trans (congrArg Stool.carrying hw' :), hleaves.due,
    hleaves.cause.trans (congrArg Stool.cause hw' :), fun hw => ⟨?_, ?_⟩,
    sameBut_trans hadv.turns.frame (sameBut_mono (mark_frame _ .stoolStep) (by decide))⟩
  · have hfault := (Turns.stoolFault u 3).rwf hw
    have hreg : regN (stoolFault u 3) 0x2F4 = regN u 0x2F4 := by
      rw [regN, stoolFault, getReg_raise_other _ _ _ (by decide)]
      rfl
    show getReg (stoolAdvance (addReg (stoolFault u 3) 0x2F4 1)) 0x2F4 = _
    rw [getReg_stoolAdvance _ (by decide) (by decide), addReg, getReg_setReg 0x2F4 _ hfault, hreg]
  · have hfault : statusBit (stoolFault u 3) srcStoolFault = true :=
      statusBit_raise_wf (by decide) hon ((Turns.stool u _).rwf hw)
    refine statusBit_stoolAdvance (setReg_rwf 0x2F4 _ ((Turns.stoolFault u 3).rwf hw)) (by decide) ?_
    exact (statusBit_of_getReg (getReg_setReg_other _ 0x2F4 (srcStoolFault / 20) _ (by decide))).trans hfault

/-- The handback: the carrying ends, and the slice goes on with the Stool's estimate. -/
theorem handbackMade_effect {u : State} (htarget : u.stool.target ≤ 9) (hlen : u.streams.conv.length = 11) :
    let t := mark (handbackMade u) .stoolStep
    t.stool.carrying = false ∧ t.stool.due = false ∧
      (nth t.streams.conv u.stool.target Conv.reset).e = (nth u.streams.conv 10 Conv.reset).e ∧ sameBut stoolParts u t := by
  have hleaves : TurnLeaves (handedBack u) (stoolAdvance (handedBack u)) := stoolAdvance_leaves _
  have hadv : Advanced u (handbackMade u) := Advanced.of_steady (handedBack_steady u)
  refine ⟨hleaves.carrying, hleaves.due, ?_,
    sameBut_trans hadv.turns.frame (sameBut_mono (mark_frame _ .stoolStep) (by decide))⟩
  show (nth (stoolAdvance (handedBack u)).streams.conv u.stool.target Conv.reset).e = _
  rw [conv_stoolAdvance _ (by omega)]
  show (nth (modNth (switchMade u).streams.conv (switchMade u).stool.target _) u.stool.target Conv.reset).e = _
  rw [switchMade_stool, switchMade_conv, nth_modNth_self _ _ (by omega)]
  rfl

/-- A handback that waits too long is told. -/
def stallTold (u : State) : State := stoolFault { u with stool := { u.stool with stalled := true } } 4

/-- A handback that is told waits on. -/
theorem handbackStall_effect {u : State} (hon : coreOn u = true) :
    let t := stallTold u
    t.stool.stalled = true ∧ t.stool.cause = 4 ∧ t.stool.due = u.stool.due ∧ t.stool.carrying = u.stool.carrying ∧
      (Registers.wf u = true → statusBit t srcStoolFault = true) ∧ sameBut [.stool, .regs, .bureau] u t := by
  have hstool : (stallTold u).stool = { u.stool with stalled := true, cause := 4 } := by
    rw [stallTold, stoolFault, raise_stool]
  refine ⟨(congrArg Stool.stalled hstool :), (congrArg Stool.cause hstool :), (congrArg Stool.due hstool :),
    (congrArg Stool.carrying hstool :), fun hw => statusBit_raise_wf (by decide) hon ((Turns.stool u _).rwf hw), ?_⟩
  exact sameBut_trans (sameBut_mono (sameBut_stool u _) (by decide)) (sameBut_trans
    (sameBut_mono (sameBut_stool _ _) (by decide)) (sameBut_mono (raise_frame _ (by decide)) (by decide)))

/-- A reference step that ends leaves its mean and begins the next. -/
theorem meanStep_effect {u : State} :
    let t := mark (stoolStep (takeMean u) u.stool.st (u.stool.step + 1)) .stoolStep
    t.stool.st = u.stool.st ∧ t.stool.step = u.stool.step + 1 ∧ t.stool.left = 8000 ∧ t.stool.n = 0 ∧
      t.stool.target = u.stool.target ∧ (u.stool.step = 1 → t.stool.mPos = (takeMean u).stool.mPos) ∧
      sameBut [.stool, .seq] u t := by
  have htarget : (takeMean u).stool.target = u.stool.target := by
    unfold takeMean
    dsimp only
    split
    · rfl
    · split <;> rfl
  refine ⟨rfl, rfl, rfl, rfl, htarget, fun _ => rfl, ?_⟩
  exact sameBut_trans (sameBut_mono (sameBut_stool u _) (by decide)) (sameBut_trans
    (sameBut_mono (sameBut_stool _ _) (by decide)) (sameBut_mono (mark_frame _ .stoolStep) (by decide)))

/-- OVERLAP.1 whose gain is accepted. -/
theorem overlapMeasured_effect (u : State) :
    let t := mark (overlapMeasured u) .stoolStep
    t.stool.due = true ∧ t.stool.mGain = (measuredGain u).1 ∧ t.stool.mOffs = (measuredGain u).2.1 ∧
      t.stool.carrying = u.stool.carrying ∧ sameBut [.stool, .seq] u t :=
  ⟨rfl, rfl, rfl, rfl,
    sameBut_trans (sameBut_mono (sameBut_stool u _) (by decide)) (sameBut_mono (mark_frame _ .stoolStep) (by decide))⟩

/-- An event of the boundary that comes now. -/
theorem boundaryEvent_due {s : State} {due : State → Bool} {f : State → State} (h : due (runAll s) = true) :
    boundaryEvent s due f = f (runAll s) := by
  rw [boundaryEvent]
  exact if_pos h

theorem did_mark_self (s : State) (d : Did) : did (mark s d) d = true := by simp [did, mark]

/-- Settles O36: the ends of steps, the rotation that completes, the switches and what holds them back. -/
theorem stoolStepsAndSwitches : Obligations.StoolStepsAndSwitches := by
  constructor
  · intro s u
    refine ⟨fun hdue => ?_, fun hdid hnot => ?_⟩
    · have hrow : boundaryEvent s stepDue stoolStepEndOp = mark (stoolStepEnd u) .stoolStep :=
        (boundaryEvent_due hdue).trans (if_pos hdue)
      refine ⟨_, congrArg Host.Outcome.next hrow, did_mark_self _ _, fun hst hstep => ?_, fun hst hstep hgain => ?_⟩
      · rw [stoolStepEnd_mean hst hstep]
        exact meanStep_effect
      · have hend : stoolStepEnd u = overlapMeasured u := by
          rw [stoolStepEnd_overlap hst (by omega), if_neg (by simp [hgain])]
        rw [hend]
        exact overlapMeasured_effect u
    · have hadv := rotationDoneOp_advanced hdid hnot
      have hrow : boundaryEvent s (fun t => did (rotationDoneOp t) .rotation && !did t .rotation) rotationDoneOp =
          rotationDoneOp u :=
        boundaryEvent_due (Bool.and_eq_true _ _ ▸ ⟨hdid, by rw [hnot]; rfl⟩)
      refine ⟨_, congrArg Host.Outcome.next hrow, hdid, fun hon hw => ?_, hadv.self hnot hdid, hadv.turns.frame⟩
      rcases hadv.turns.told with h | h
      · rw [hdid, hnot] at h
        exact absurd h (by decide)
      · exact h hon hw
  · intro s u
    refine ⟨fun hdue => ⟨fun hfree => ?_, fun hheld hfirst => ?_, fun hover => ?_⟩,
      fun hdue => ⟨fun hfree htarget hlen => ?_, fun hover hstall => ?_⟩⟩
    · have hon : coreOn u = true := coreOn_of_stoolOn (by simp only [takeoverDue, Bool.and_eq_true] at hdue; exact hdue.1.1)
      have hop : takeoverOp u = takeoverMade u := by rw [takeoverOp, if_pos hdue, if_neg (by simp [hfree])]
      have hrow : boundaryEvent s takeoverDue (fun t => mark (takeoverOp t) .stoolStep) = mark (takeoverMade u) .stoolStep :=
        (boundaryEvent_due hdue).trans (congrArg (mark · .stoolStep) hop)
      exact ⟨_, congrArg Host.Outcome.next hrow, takeoverMade_effect hon⟩
    · have hon : coreOn u = true := coreOn_of_stoolOn (by simp only [takeoverDue, Bool.and_eq_true] at hdue; exact hdue.1.1)
      have hop : takeoverOp u = deferSwitch u := by rw [takeoverOp, if_pos hdue, if_pos hheld]
      have hrow : boundaryEvent s takeoverDue (fun t => mark (takeoverOp t) .stoolStep) = mark (deferSwitch u) .stoolStep :=
        (boundaryEvent_due hdue).trans (congrArg (mark · .stoolStep) hop)
      obtain ⟨h1, h2, h3, h4, h5⟩ := deferSwitch_first hon hfirst
      have hud : u.stool.due = true := by simp only [takeoverDue, Bool.and_eq_true] at hdue; exact hdue.1.2
      exact ⟨_, congrArg Host.Outcome.next hrow, h1, h2, h3.trans hud, h4, h5⟩
    · have hon : coreOn u = true := coreOn_of_stoolOn (by simp only [takeoverDue, Bool.and_eq_true] at hdue; exact hdue.1.1)
      have hboth : (takeoverDue u && deferralOver u) = true := by rw [hdue, hover]; rfl
      have hop : takeoverAbandonOp u = abandonSlice (stoolFault u 3) true := if_pos hboth
      have hrow : boundaryEvent s (fun t => takeoverDue t && deferralOver t) (fun t => mark (takeoverAbandonOp t) .stoolStep) =
          mark (abandonSlice (stoolFault u 3) true) .stoolStep :=
        (boundaryEvent_due (due := fun t => takeoverDue t && deferralOver t) hboth).trans (congrArg (mark · .stoolStep) hop)
      exact ⟨_, congrArg Host.Outcome.next hrow, abandonSlice_effect hon⟩
    · have hop : handbackOp u = handbackMade u := by rw [handbackOp, if_pos hdue, if_neg (by simp [hfree])]
      have hrow : boundaryEvent s handbackDue (fun t => mark (handbackOp t) .stoolStep) = mark (handbackMade u) .stoolStep :=
        (boundaryEvent_due hdue).trans (congrArg (mark · .stoolStep) hop)
      exact ⟨_, congrArg Host.Outcome.next hrow, handbackMade_effect htarget hlen⟩
    · have hon : coreOn u = true := coreOn_of_stoolOn (by simp only [handbackDue, Bool.and_eq_true] at hdue; exact hdue.1.1)
      have hboth : (handbackDue u && deferralOver u) = true := by rw [hdue, hover]; rfl
      have hop : handbackStallOp u = stallTold u := by
        rw [handbackStallOp, if_pos (by simp [hdue, hover, hstall])]
        rfl
      have hrow : boundaryEvent s (fun t => handbackDue t && deferralOver t) handbackStallOp =
          stallTold u := (boundaryEvent_due (due := fun t => handbackDue t && deferralOver t) hboth).trans hop
      have hud : u.stool.due = true := by simp only [handbackDue, Bool.and_eq_true] at hdue; exact hdue.1.2
      obtain ⟨hstalled, hcause, hd, hcarry, hbit, hframe⟩ := handbackStall_effect hon
      exact ⟨_, congrArg Host.Outcome.next hrow, hstalled, hcause, hd.trans hud, hcarry, hbit, hframe⟩

end Sys2Proof.Machine

/-!
Converters, peak guards, detectors and settling (05 R112, R130, 07 R166, R169, R170; O37).
-/

namespace Sys2Proof.Machine

theorem nth_setNth_other {α : Type} (l : List α) {i k : Nat} (x d : α) (h : k ≠ i) : nth (setNth l i x) k d = nth l k d := by
  simp [nth, setNth, List.getD_eq_getElem?_getD, Ne.symm h]

/-! ### OVERRANGE and PEAK -/

/-- The front of converter `c` delivers full scale, its estimate held. -/
def fullScale (s : State) (c : Nat) (neg : Bool) : State :=
  { s with streams := { s.streams with
    conv := setNth s.streams.conv c
      { nth s.streams.conv c freshConv with
        ovr := 17, ovrNeg := neg, y16 := if neg then -(maxCode * 16) else maxCode * 16
        e := (nth s.streams.conv c freshConv).ePrev } } }

theorem overrangeEvent_works {s : State} {c : Nat} (neg : Bool) (hon : coreOn s = true)
    (hw : works s (streamDomain c) = true) :
    overrangeEvent s c neg = raise (orReg (fullScale s c neg) 0x2F7 (2 ^ c)) srcOverrange := by
  rw [overrangeEvent, if_pos (by simp [hon, hw])]
  rfl

theorem overrangeEvent_rests {s : State} {c : Nat} (neg : Bool)
    (h : coreOn s = false ∨ works s (streamDomain c) = false) : overrangeEvent s c neg = s := by
  rw [overrangeEvent, if_neg]
  rcases h with h | h <;> simp [h]

/-- A register bit is set and told. -/
theorem bitTold {s : State} {n q src : Nat} (hq : q < 20) (hn : n ≠ src / 20) (hr : isRetained (src / 20) = false)
    (hon : coreOn s = true) (hw : Registers.wf s = true) :
    bitAt (getReg (raise (orReg s n (2 ^ q)) src) n) q = true ∧ statusBit (raise (orReg s n (2 ^ q)) src) src = true := by
  refine ⟨?_, statusBit_raise_wf hr (by rw [coreOn, orReg_seq, ← coreOn, hon]) (setReg_rwf n _ hw)⟩
  rw [getReg_raise_other _ _ _ hn]
  exact bitAt_orReg n hq hw

theorem bitTold_frame (s : State) {n : Nat} (m : Nat) {src : Nat} (hn : isRetained n = false)
    (hr : isRetained (src / 20) = false) : sameBut [.regs, .bureau] s (raise (orReg s n m) src) :=
  sameBut_trans (sameBut_mono (setReg_frame_regs s _ hn) (by decide)) (raise_frame _ hr)

theorem streams_rwf {s : State} (x : Streams) (h : Registers.wf s = true) :
    Registers.wf { s with streams := x } = true := h

theorem overrange_effect {s : State} {c : Nat} (hc : c < 11) (neg : Bool) (hon : coreOn s = true)
    (hlen : s.streams.conv.length = 11) :
    let t := raise (orReg (fullScale s c neg) 0x2F7 (2 ^ c)) srcOverrange
    (nth t.streams.conv c Conv.reset).ovr = 17 ∧
      (nth t.streams.conv c Conv.reset).y16 = (if neg then -8388592 else 8388592) ∧
      (nth t.streams.conv c Conv.reset).e = (nth s.streams.conv c Conv.reset).ePrev ∧
      (∀ k, k ≠ c → nth t.streams.conv k Conv.reset = nth s.streams.conv k Conv.reset) ∧
      (Registers.wf s = true → bitAt (getReg t 0x2F7) c = true ∧ statusBit t srcOverrange = true) ∧
      sameBut [.streams, .regs, .bureau] s t := by
  intro t
  have hconv : t.streams.conv = (fullScale s c neg).streams.conv := by
    show (raise (orReg (fullScale s c neg) 0x2F7 (2 ^ c)) srcOverrange).streams.conv = _
    rw [raise_streams, orReg_streams]
  have hself : nth t.streams.conv c Conv.reset = _ :=
    (congrArg (nth · c Conv.reset) hconv).trans (nth_setNth (by omega) _ _)
  refine ⟨congrArg Conv.ovr hself, ?_, congrArg Conv.e hself, fun k hk => ?_, fun hw => ?_, ?_⟩
  · rw [hself]
    cases neg <;> rfl
  · rw [hconv]
    exact nth_setNth_other _ _ _ hk
  · exact bitTold (by omega) (by decide) (by decide) hon (streams_rwf _ hw)
  · exact sameBut_trans (sameBut_mono (sameBut_streams s _) (by decide))
      (sameBut_mono (bitTold_frame _ _ (by decide) (by decide)) (by decide))

/-- A guard that has not counted. -/
abbrev freshGuard : Guard := { count := 0, blocked := false, thrRaw := 0 }

/-- The guard takes the sample that completes its qualification. -/
def guardTaken (s : State) (g : Nat) (x : Int) : State :=
  { s with streams := { s.streams with
    guards := setNth s.streams.guards g (guardSample (guardNeed s) (nth s.streams.guards g freshGuard) x).1 } }

theorem peakEvent_qualifies {s : State} {g : Nat} {x : Int} (hon : coreOn s = true) (hg : guardOn s g = true)
    (hw : works s (streamDomain (guardConv s g)) = true) (hd : did s (.peak g) = false)
    (hq : (guardSample (guardNeed s) (nth s.streams.guards g freshGuard) x).2 = true) :
    peakEvent s g x = mark (guardHit (guardTaken s g x) g) (.peak g) := by
  rw [peakEvent]
  dsimp only
  rw [if_pos (by simp [hon, hg, hw, hd, hq])]
  rfl

theorem peakEvent_off {s : State} {g : Nat} (x : Int) (hg : guardOn s g = false) : peakEvent s g x = s := by
  rw [peakEvent]
  dsimp only
  rw [if_neg (by simp [hg])]

theorem cap_rwf {s : State} (x : Capture) (h : Registers.wf s = true) : Registers.wf { s with cap := x } = true := h

theorem peak_effect {s : State} {g : Nat} (hg : g < 6) (x : Int) (hon : coreOn s = true) :
    let t := mark (guardHit (guardTaken s g x) g) (.peak g)
    t.cap.peakSeen = true ∧ did t (.peak g) = true ∧
      (Registers.wf s = true → bitAt (getReg t 0x2FF) g = true ∧ statusBit t srcPeak = true) ∧
      sameBut [.streams, .regs, .bureau, .cap, .seq] s t := by
  have hcap : (guardHit (guardTaken s g x) g).cap = { s.cap with peakSeen := true } := by
    rw [guardHit, raise_cap, orReg_cap]
    rfl
  refine ⟨(congrArg Capture.peakSeen hcap :), did_mark_self _ _, fun hw => ?_, ?_⟩
  · exact bitTold (by omega) (by decide) (by decide) hon (cap_rwf _ (streams_rwf _ hw))
  · have htaken : sameBut [.streams, .regs, .bureau, .cap, .seq] s (guardTaken s g x) :=
      sameBut_mono (sameBut_streams s (guardTaken s g x).streams) (by decide)
    have hseen : sameBut [.streams, .regs, .bureau, .cap, .seq] (guardTaken s g x)
        { guardTaken s g x with cap := { (guardTaken s g x).cap with peakSeen := true } } :=
      sameBut_mono (sameBut_cap (guardTaken s g x) _) (by decide)
    refine sameBut_trans htaken (sameBut_trans hseen ?_)
    exact sameBut_trans (sameBut_mono (bitTold_frame _ _ (by decide) (by decide)) (by decide))
      (sameBut_mono (mark_frame _ _) (by decide))

/-! ### Detectors -/

/-- The other detectors have had their tick: what detector `d` works on is as it was, and what has been published stands. -/
def OtherDets (d : Nat) (s v : State) : Prop :=
  ∃ x a b, v = { s with streams := { s.streams with dets := x }, seq := { s.seq with did := a, pub := b } } ∧
    nth x d freshDet = nth s.streams.dets d freshDet ∧ x.length = s.streams.dets.length ∧
    (∀ p ∈ s.seq.pub, p ∈ b) ∧ (∀ e, s.seq.did.contains e = true → a.contains e = true)

theorem OtherDets.refl (d : Nat) (s : State) : OtherDets d s s :=
  ⟨_, _, _, rfl, rfl, rfl, fun _ h => h, fun _ h => h⟩

theorem OtherDets.trans {d : Nat} {s v w : State} (h : OtherDets d s v) (k : OtherDets d v w) : OtherDets d s w := by
  obtain ⟨x, a, b, rfl, hx, hl, hp, he⟩ := h
  obtain ⟨y, a', b', rfl, hy, hl', hp', he'⟩ := k
  exact ⟨y, a', b', rfl, hy.trans hx, hl'.trans hl, fun p h => hp' p (hp p h), fun e h => he' e (he e h)⟩

theorem length_setNth {α : Type} (l : List α) (i : Nat) (x : α) : (setNth l i x).length = l.length := by simp [setNth]

theorem detTick_other (s : State) {d k : Nat} (h : k ≠ d) : OtherDets d s (detTick s k) := by
  have hne : ∀ w, nth (setNth s.streams.dets k w) d freshDet = nth s.streams.dets d freshDet := fun w =>
    nth_setNth_other _ _ _ (Ne.symm h)
  unfold detTick
  dsimp only
  split
  · exact ⟨_, _, _, rfl, hne _, length_setNth _ _ _, fun _ h => h, fun _ h => h⟩
  · generalize (if (nth s.streams.dets k freshDet).active then nth s.streams.dets k freshDet
      else freshDet) = b
    split
    · exact ⟨_, _, _, rfl, hne _, length_setNth _ _ _, fun p h => List.mem_append_left _ h,
        fun e h => by rw [List.contains_cons]; exact Bool.or_eq_true_iff.2 (Or.inr h)⟩
    · exact ⟨_, _, _, rfl, hne _, length_setNth _ _ _, fun _ h => h, fun _ h => h⟩

theorem detTicks_other (ks : List Nat) (s : State) {d : Nat} (h : d ∉ ks) : OtherDets d s (ks.foldl detTick s) := by
  induction ks generalizing s with
  | nil => exact OtherDets.refl d s
  | cons k ks ih =>
    rw [List.mem_cons, not_or] at h
    exact (detTick_other s (Ne.symm h.1)).trans (ih _ h.2)

/-- The block of detector `d` ends in this tick. -/
structure BlockEnds (s : State) (d : Nat) : Prop where
  on : detOn s d = true
  active : (nth s.streams.dets d freshDet).active = true
  last : detLen s d ≤ (nth s.streams.dets d freshDet).n + 1

/-- AMP of the block that ends. -/
def blockAmp (s : State) (d : Nat) : Nat :=
  let b := nth s.streams.dets d freshDet
  detAmp (regI s (0x3DC + d)) (detInput s d + asr (regI s (0x3DC + d) * b.s1) 18 - b.s2) b.s1 (b.n + 1)

/-- The block ends: the next starts from nothing, and AMP is published. -/
def blockEnded (s : State) (d : Nat) : State :=
  mark (publishAll { s with streams := { s.streams with
      dets := setNth s.streams.dets d { freshDet with active := true } } } (detPublish s d (blockAmp s d))) (.detBlock d)

theorem detTick_ends {s : State} {d : Nat} (h : BlockEnds s d) : detTick s d = blockEnded s d := by
  unfold detTick
  dsimp only
  rw [if_neg (by simp [h.on])]
  simp only [h.active, if_true]
  rw [if_pos h.last]
  rfl

theorem BlockEnds.other {d : Nat} {s v : State} (h : BlockEnds s d) (k : OtherDets d s v) :
    BlockEnds v d ∧ detPublish v d (blockAmp v d) = detPublish s d (blockAmp s d) := by
  obtain ⟨x, a, b, rfl, hx, -⟩ := k
  refine ⟨⟨h.on, (congrArg Det.active hx).trans h.active, ?_⟩, ?_⟩
  · show detLen s d ≤ (nth x d freshDet).n + 1
    rw [hx]
    exact h.last
  · have hamp : blockAmp { s with streams := { s.streams with dets := x }, seq := { s.seq with did := a, pub := b } } d =
        blockAmp s d := by
      show (let c := nth x d freshDet
        detAmp (regI s (0x3DC + d)) (detInput s d + asr (regI s (0x3DC + d) * c.s1) 18 - c.s2) c.s1 (c.n + 1)) = _
      rw [hx]
      rfl
    rw [hamp]
    rfl

theorem detTick_frame (s : State) (d : Nat) : sameBut [.streams, .seq] s (detTick s d) := by
  obtain ⟨x, a, b, h, -⟩ := detTick_other s (d := d + 1) (k := d) (by omega)
  have hdets : sameBut [.streams, .seq] s { s with streams := { s.streams with dets := x } } :=
    sameBut_mono (sameBut_streams s _) (by decide)
  rw [h]
  exact sameBut_trans hdets (sameBut_mono (sameBut_seq _ { s.seq with did := a, pub := b }) (by decide))

/-- Item 11 in the tick in which the block of detector `d` ends. -/
theorem item11_ends {s : State} {d : Nat} (hd : d < 4) (h : BlockEnds s d) (hlen : s.streams.dets.length = 4) :
    (nth (item11 s).streams.dets d freshDet).n = 0 ∧ (∀ p ∈ detPublish s d (blockAmp s d), p ∈ (item11 s).seq.pub) ∧
      did (item11 s) (.detBlock d) = true ∧ sameBut [.streams, .seq] s (item11 s) := by
  have hall : ∀ (ks : List Nat) (t : State), sameBut [.streams, .seq] t (ks.foldl detTick t) := fun ks => by
    induction ks with
    | nil => exact fun t => sameBut_refl _ t
    | cons k ks ih => exact fun t => sameBut_trans (detTick_frame t k) (ih _)
  have hsplit : ∃ as bs, upto 4 = as ++ d :: bs ∧ d ∉ as ∧ d ∉ bs := by
    have hcase : d = 0 ∨ d = 1 ∨ d = 2 ∨ d = 3 := by omega
    rcases hcase with rfl | rfl | rfl | rfl
    · exact ⟨[], [1, 2, 3], rfl, by decide, by decide⟩
    · exact ⟨[0], [2, 3], rfl, by decide, by decide⟩
    · exact ⟨[0, 1], [3], rfl, by decide, by decide⟩
    · exact ⟨[0, 1, 2], [], rfl, by decide, by decide⟩
  obtain ⟨as, bs, hks, ha, hb⟩ := hsplit
  have hbefore := detTicks_other as s ha
  obtain ⟨hends, hpub⟩ := h.other hbefore
  have hafter := detTicks_other bs (blockEnded (as.foldl detTick s) d) hb
  have hitem : item11 s = bs.foldl detTick (blockEnded (as.foldl detTick s) d) := by
    rw [item11, hks, List.foldl_append, List.foldl_cons, detTick_ends hends]
  have hvlen : (as.foldl detTick s).streams.dets.length = 4 := by
    obtain ⟨x, a, b, hv, -, hl, -⟩ := hbefore
    rw [hv]
    exact hl.trans hlen
  obtain ⟨x, a, b, hv, hx, -, hp, he⟩ := hafter
  have hframe : sameBut [.streams, .seq] s (item11 s) := hall (upto 4) s
  refine ⟨?_, fun p hmem => ?_, ?_, hframe⟩
  · rw [hitem, hv]
    show (nth x d freshDet).n = 0
    rw [hx]
    show (nth (setNth _ d _) d freshDet).n = 0
    rw [nth_setNth (by omega)]
    rfl
  · rw [hitem, hv]
    refine hp p (List.mem_append_right _ ?_)
    rw [hpub]
    exact hmem
  · rw [hitem, hv]
    exact he _ (by simp [blockEnded, mark])

/-! ### Settling -/

/-- The last tick of settling of stream `n`. -/
def settledNow (s : State) (n : Nat) : State :=
  mark { s with streams := { s.streams with settling := setNth s.streams.settling n 0 } } (.settled n)

theorem settlingEnd_last {s : State} {n : Nat} (hon : coreOn s = true) (h : nth s.streams.settling n 0 = 1)
    (hd : did s (.settled n) = false) : settlingEnd s n = settledNow s n := by
  rw [settlingEnd, if_pos (by simp [hon, h, hd])]
  rfl

theorem settledNow_effect {s : State} {n : Nat} (hn : n < 11) (hlen : s.streams.settling.length = 11) :
    nth (settledNow s n).streams.settling n 0 = 0 ∧
      (∀ k, k ≠ n → nth (settledNow s n).streams.settling k 0 = nth s.streams.settling k 0) ∧
      sameBut [.streams, .seq] s (settledNow s n) :=
  ⟨nth_setNth (by omega) _ _, fun _ hk => nth_setNth_other _ _ _ hk,
    sameBut_trans (sameBut_mono (sameBut_streams s _) (by decide)) (sameBut_mono (mark_frame _ _) (by decide))⟩

/-- Settles O37: OVERRANGE, PEAK, the block that ends, the settling that ends. -/
theorem convertersAndDetectors : Obligations.ConvertersAndDetectors := by
  constructor
  · intro c neg g x s
    refine ⟨fun hon hw hlen => ?_, fun h => ?_, fun hon hg hw hd hq => ?_, fun hg => ?_⟩
    · exact ⟨_, congrArg Host.Outcome.next (overrangeEvent_works neg hon hw), overrange_effect c.isLt neg hon hlen⟩
    · exact congrArg Host.Outcome.next (overrangeEvent_rests neg h)
    · exact ⟨_, congrArg Host.Outcome.next (peakEvent_qualifies hon hg hw hd hq), peak_effect g.isLt x hon⟩
    · exact congrArg Host.Outcome.next (peakEvent_off x hg)
  · intro d n s
    refine ⟨fun hrun hitem hnot hon hlen hactive hlast => ?_, ?_⟩
    · intro b s0 amp
      obtain ⟨hn, hpub, hdid, hframe⟩ := item11_ends d.isLt ⟨hon, hactive, hlast⟩ hlen
      have hall : ∀ p ∈ detPublish s d.val amp, p ∈ (itemDone (item11 s) 11).seq.pub := hpub
      refine ⟨_, congrArg Host.Outcome.next (itemEvent_next hrun hitem hnot hdid), hn, hall _ ?_, hall _ ?_, hall _ ?_,
        fun hthr => hall _ ?_, sameBut_trans hframe (sameBut_mono (itemDone_frame _ 11) (by decide))⟩
      · simp [detPublish]
      · simp [detPublish]
      · simp [detPublish]
      · simp [detPublish, hthr]
    · intro u hon hone hlen hnot
      have hop := settlingEnd_last hon hone hnot
      have hdue : did (settlingEnd u n.val) (.settled n.val) = true := by
        rw [hop]
        exact did_mark_self _ _
      have hrow := (boundaryEvent_due (due := fun t => did (settlingEnd t n.val) (.settled n.val))
        (f := fun t => settlingEnd t n.val) hdue).trans hop
      exact ⟨_, congrArg Host.Outcome.next hrow, settledNow_effect n.isLt hlen⟩

end Sys2Proof.Machine

/-!
Process sequences, windows and parks (06 R134 to R146, 15 R342; O39).
-/

namespace Sys2Proof.Machine

/-! ### What falls due within a tick -/

theorem mem_of_earliest {l : List (Nat × Nat)} {e : Nat × Nat} (h : earliest l = some e) : e ∈ l := by
  induction l generalizing e with
  | nil => cases h
  | cons a r ih =>
    rw [earliest] at h
    split at h
    · next b hb =>
      split at h
      · exact (Option.some.inj h) ▸ List.mem_cons_self
      · exact List.mem_cons_of_mem _ ((Option.some.inj h) ▸ ih hb)
    · exact (Option.some.inj h) ▸ List.mem_cons_self

/-- A row brings the event of its kind that is the earliest. -/
theorem procRow_earliest {s : State} {c k : Nat} (h : earliest (procEvents s) = some (c, k)) :
    procRow k s = procHappens s (c, k) := by
  rw [procRow, if_pos (List.any_eq_true.2 ⟨_, mem_of_earliest h, beq_self_eq_true k⟩)]
  show procUntil k (s.proc.lineDue.length + 7 + 1) s = _
  rw [procUntil, h]
  exact if_pos rfl

theorem procDelayEnd_earliest {s : State} {c : Nat} (h : earliest (procEvents s) = some (c, evDelay)) :
    procDelayEnd s = openGroup s c := procRow_earliest h

theorem lineBoundaryOp_earliest {s : State} {c : Nat} (h : earliest (procEvents s) = some (c, evLine)) :
    lineBoundaryOp s = lineFalls s c := procRow_earliest h

theorem fixedCloseOp_earliest {s : State} {c : Nat} (h : earliest (procEvents s) = some (c, evFixed)) :
    fixedCloseOp s = closeGroup s c 0 := procRow_earliest h

theorem pwmTimeoutOp_earliest {s : State} {c : Nat} (h : earliest (procEvents s) = some (c, evPwm)) :
    pwmTimeoutOp s = closeGroup s c 3 := procRow_earliest h

/-! ### Groups open and close -/

theorem sameBut_openWindows (s : State) (c k : Nat) : sameBut [.proc] s (openWindows s c k) := sameBut_proc s _

/-- The first group opens at the end of the delay, or waits for what its mode needs. -/
theorem openGroup_effect (s : State) (c : Nat) :
    (openGroup s c).proc.delaying = false ∧
      (entryMode (seqEntry s s.proc.group) = 1 → (openGroup s c).proc.isOpen = true ∧
        (openGroup s c).proc.openCyc = cclkUp s c ∧
        (openGroup s c).proc.openLen = entryLen (seqEntry s s.proc.group)) ∧
      (entryMode (seqEntry s s.proc.group) ≠ 1 → (openGroup s c).proc.waiting = true ∧ (openGroup s c).proc.isOpen = false) ∧
      sameBut [.proc] s (openGroup s c) := by
  by_cases hm : entryMode (seqEntry s s.proc.group) = 1
  · rw [openGroup, if_pos hm]
    exact ⟨rfl, fun _ => ⟨rfl, rfl, rfl⟩, fun h => absurd hm h, sameBut_openWindows s _ _⟩
  · rw [openGroup, if_neg hm]
    exact ⟨rfl, fun h => absurd h hm, fun _ => ⟨rfl, rfl⟩, sameBut_proc s _⟩

/-- The boundary that falls is due no more. -/
def lineFallen (s : State) (r : List (Nat × Nat)) : State := { s with proc := { s.proc with lineDue := r } }

theorem lineFalls_eq {s : State} {m k : Nat} {r : List (Nat × Nat)} (c : Nat) (hdue : s.proc.lineDue = (m, k) :: r)
    (hon : procOn s = true) (hbusy : procBusy s = true) :
    lineFalls s c =
      if s.proc.isOpen && decide (s.proc.openMode = 0) then closeGroup (lineFallen s r) c k
      else if s.proc.waiting && decide (entryMode (seqEntry s s.proc.group) = 0) then openWindows (lineFallen s r) c k
      else lineFallen s r := by
  rw [lineFalls, hdue]
  dsimp only
  rw [if_pos (by simp [hon, hbusy])]
  rfl

theorem lineFalls_closes {s : State} {c m k : Nat} {r : List (Nat × Nat)} (hdue : s.proc.lineDue = (m, k) :: r)
    (hon : procOn s = true) (hbusy : procBusy s = true) (hopen : s.proc.isOpen = true) (hmode : s.proc.openMode = 0) :
    lineFalls s c = closeGroup (lineFallen s r) c k := by
  rw [lineFalls_eq c hdue hon hbusy, if_pos (by simp [hopen, hmode])]

theorem lineFalls_opens {s : State} {c m k : Nat} {r : List (Nat × Nat)} (hdue : s.proc.lineDue = (m, k) :: r)
    (hon : procOn s = true) (hbusy : procBusy s = true) (hopen : s.proc.isOpen = false) (hwait : s.proc.waiting = true)
    (hmode : entryMode (seqEntry s s.proc.group) = 0) :
    lineFalls s c = openWindows (lineFallen s r) c k := by
  rw [lineFalls_eq c hdue hon hbusy, if_neg (by simp [hopen]), if_pos (by simp [hwait, hmode])]

/-- The window of an urgent conversion closes, and none is left open. -/
theorem closeGroup_urgent {s : State} (h : s.proc.urgent = true) (c k : Nat) :
    (closeGroup s c k).proc.isOpen = false ∧ (∀ v ∈ (closeGroup s c k).proc.wins, v.closed = true) ∧
      (closeGroup s c k).proc.passDone = true := by
  unfold closeGroup
  dsimp only
  rw [if_pos h]
  refine ⟨rfl, fun v hv => ?_, rfl⟩
  obtain ⟨w, -, rfl⟩ := List.mem_map.1 hv
  split
  · assumption
  · rfl

/-! ### Sequences start -/

theorem setQual_seq (s : State) (i code : Nat) : (setQual s i code).seq = s.seq := setReg_seq s _ _

theorem latchSeq_seq (s : State) (rd : Nat → Word) : (latchSeq s rd).seq = s.seq := by
  unfold latchSeq
  dsimp only
  refine List.foldlRecOn (motive := fun t : State => t.seq = s.seq) _ _ rfl ?_
  intro t ht i _
  split
  · exact ht
  · exact (setQual_seq t i 5).trans ht

theorem startSeq_seq (s : State) (rd : Nat → Word) (d : Nat) : (startSeq s rd (some d)).seq = s.seq := by
  unfold startSeq
  dsimp only
  split
  · exact latchSeq_seq _ rd
  · exact latchSeq_seq _ rd

theorem procTimerFire_due {u : State} (hon : procOn u = true) (hsel : procStartSel u = 1) (hrate : snapN u 0x302 ≠ 0)
    (hdue : 8 * snapN u 0x302 ≤ u.proc.timerUnits + tickUnits u) (hnot : did u .procTimer = false) :
    procTimerFire u = if procBusy u then procOverrun (mark u .procTimer)
      else startSeq (mark u .procTimer) (getReg u) (some (regN u 0x303 + 6144)) := by
  rw [procTimerFire]
  dsimp only
  rw [if_pos (by simp [hon, hsel, hrate, hdue, hnot])]
  rfl

theorem procOverrun_seq (s : State) : (procOverrun s).seq = s.seq := by rw [procOverrun, raise_seq, incReg_seq]

/-- The timer that fires has been counted off, whether it starts a sequence or not. -/
theorem did_procTimerFire {u : State} (hon : procOn u = true) (hsel : procStartSel u = 1) (hrate : snapN u 0x302 ≠ 0)
    (hdue : 8 * snapN u 0x302 ≤ u.proc.timerUnits + tickUnits u) (hnot : did u .procTimer = false) :
    did (procTimerFire u) .procTimer = true := by
  have hseq : (procTimerFire u).seq = (mark u .procTimer).seq := by
    rw [procTimerFire_due hon hsel hrate hdue hnot]
    split
    · exact procOverrun_seq _
    · exact startSeq_seq _ _ _
  rw [did, hseq]
  exact did_mark_self u .procTimer

/-- A trigger that is ignored is counted and told. -/
theorem procOverrun_effect {u : State} (hon : coreOn u = true) (hw : Registers.wf u = true) :
    getReg (procOverrun u) 0x304 = wd (min (regN u 0x304 + 1) 0xFFFFF) ∧ statusBit (procOverrun u) srcProcOverrun = true ∧
      sameBut [.regs, .bureau] u (procOverrun u) := by
  refine ⟨?_, statusBit_raise_wf (by decide) (by rw [coreOn, incReg_seq, ← coreOn, hon]) (setReg_rwf 0x304 _ hw), ?_⟩
  · rw [procOverrun, getReg_raise_other _ _ _ (by decide)]
    exact getReg_incReg 0x304 hw
  · exact sameBut_trans (sameBut_mono (setReg_frame_regs u _ (by decide)) (by decide)) (raise_frame _ (by decide))

theorem coreOn_of_procOn {s : State} (h : procOn s = true) : coreOn s = true := by
  have hr : running s = true := (Bool.and_eq_true_iff.1 h).1
  rw [running] at hr
  rw [coreOn, decide_eq_true_iff]
  intro ho
  simp [ho] at hr

theorem timerRow {s u : State} (hu : runAll s = u) (hon : procOn u = true) (hsel : procStartSel u = 1)
    (hrate : snapN u 0x302 ≠ 0) (hdue : 8 * snapN u 0x302 ≤ u.proc.timerUnits + tickUnits u)
    (hnot : did u .procTimer = false) :
    exec .procTimerFire s = .next (if procBusy u then procOverrun (mark u .procTimer)
      else startSeq (mark u .procTimer) (getReg u) (some (regN u 0x303 + 6144))) := by
  subst hu
  rw [← procTimerFire_due hon hsel hrate hdue hnot]
  exact congrArg Host.Outcome.next (boundaryEvent_due
    (due := fun t => did (procTimerFire t) .procTimer && !did t .procTimer)
    (by simp [did_procTimerFire hon hsel hrate hdue hnot, hnot]))

theorem timerIgnored_effect {u : State} (hon : procOn u = true) (hw : Registers.wf u = true) :
    let t := procOverrun (mark u .procTimer)
    getReg t 0x304 = wd (min (regN u 0x304 + 1) 0xFFFFF) ∧ statusBit t srcProcOverrun = true ∧
      did t .procTimer = true ∧ sameBut [.regs, .bureau, .seq] u t := by
  obtain ⟨hcount, htold, hframe⟩ :=
    procOverrun_effect (u := mark u .procTimer) (coreOn_of_procOn (s := u) hon) (mark_rwf _ hw)
  refine ⟨hcount, htold, ?_, sameBut_trans (sameBut_mono (mark_frame u _) (by decide)) (sameBut_mono hframe (by decide))⟩
  rw [did, procOverrun_seq]
  exact did_mark_self u .procTimer

/-! ### TRIG edges -/

theorem trigLead_of_seen {s : State} (h : trigSeen s = true) : (trigLead s).isSome = true := by
  unfold trigSeen at h
  split at h
  · next hl => rw [hl]; rfl
  · cases h

/-- A TRIG edge that is seen, where no CONVERT_NOW of its tick is undone. -/
theorem trigEdgeRow_seen {s : State} {rising : Bool} {cyc : Nat} (hurg : s.proc.urgentAt = none)
    (hseen : trigSeen (parksBy s cyc) = true) : trigEdgeRow s rising cyc = trigEdge (parksBy s cyc) rising cyc := by
  have hnone : convertTooLate s rising cyc = none := by rw [convertTooLate, hurg]
  rw [trigEdgeRow, hnone]
  exact if_pos hseen

section Edge

variable {v u : State} {rising : Bool} {cyc : Nat} (hon : procOn v = true) (hlead : (trigLead v).isSome = true)
  (hu : procTo v cyc = u)

include hon hlead hu

theorem trigEdge_opens (hbusy : procBusy u = true) (hpol : edgeMatches u.proc.ctrl rising = true)
    (hwait : u.proc.waiting = true) (hmode : entryMode (seqEntry u u.proc.group) = 2) :
    trigEdge v rising cyc = openWindows u (cclkUp u cyc) 0 := by
  rw [trigEdge, if_pos (by simp [hon, hlead]), hu]
  dsimp only
  rw [if_pos (by simp [hbusy, hpol, hwait, hmode])]

theorem trigEdge_closes (hbusy : procBusy u = true) (hpol : edgeMatches u.proc.ctrl rising = true)
    (hwait : u.proc.waiting = false) (hopen : u.proc.isOpen = true) (hmode : u.proc.openMode = 2)
    (hms : msCycles u ≤ openCycles u cyc) : trigEdge v rising cyc = closeGroup u (cclkUp u cyc) 0 := by
  rw [trigEdge, if_pos (by simp [hon, hlead]), hu]
  dsimp only
  rw [if_neg (by simp [hwait]), if_pos (by simp [hbusy, hpol, hopen, hmode, hms])]

theorem trigEdge_starts (hwait : u.proc.waiting = false) (hopen : u.proc.isOpen = false) :
    trigEdge v rising cyc = trigStart u rising cyc := by
  rw [trigEdge, if_pos (by simp [hon, hlead]), hu]
  dsimp only
  rw [if_neg (by simp [hwait]), if_neg (by simp [hopen])]

end Edge

theorem trigStart_overrun {u : State} (rising : Bool) (cyc : Nat) (hsel : procStartSel u = 2)
    (hrun : u.proc.running = true) : trigStart u rising cyc = procOverrun u := by
  rw [trigStart, if_neg (by simp [hsel]), if_pos hrun]

theorem trigStart_starts {u : State} {rising : Bool} (cyc : Nat) (hsel : procStartSel u = 2)
    (hidle : procBusy u = false) (hpol : edgeMatches (snapReg u 0x300) rising = true) :
    trigStart u rising cyc = startSeq u (snapReg u) (some (snapN u 0x303 + cyc)) := by
  obtain ⟨hrun, hurg⟩ : u.proc.running = false ∧ u.proc.urgent = false := by simpa [procBusy] using hidle
  rw [trigStart, if_neg (by simp [hsel]), if_neg (by simp [hrun]), if_neg (by simp [hpol]), if_neg (by simp [hurg])]

/-! ### Parks -/

theorem trigEdge_off {s : State} (rising : Bool) (cyc : Nat) (h : procOn s = false) : trigEdge s rising cyc = s := by
  rw [trigEdge, if_neg (by simp [h])]

/-- The park of lead `n` has ended. -/
def unparked (s : State) (n : Nat) : State :=
  { s with pins := { s.pins with parked := setBit8 s.pins.parked n false } }

/-- Only the leads and what PD0 holds of them have changed. -/
def OnlyLeads (s t : State) : Prop := ∃ p a, t = { s with pins := p, aon := a }

/-- Where no edge comes with it, a park that ends hands a tamper loop's lead to PD0 with the loop at OK. -/
def loopTaken (s : State) (n : Nat) : State :=
  if leadFunc s n = 8 then { unparked s n with aon := { s.aon with loop0 := 0, normal0 := 0 } }
  else if leadFunc s n = 9 then { unparked s n with aon := { s.aon with loop1 := 0, normal1 := 0 } }
  else unparked s n

theorem parkEndOp_eq (s : State) {n : Nat} (hpark : s.pins.parked.getLsbD n = true) :
    parkEndOp s n =
      if trigLead s = some n ∧ s.pins.board.getLsbD n ≠ s.pins.latched.getLsbD n then
        trigEdge (unparked s n) (s.pins.board.getLsbD n) (parkCycles s)
      else loopTaken s n := by
  rw [parkEndOp, if_pos hpark]
  rfl

theorem loopTaken_leads (s : State) (n : Nat) : OnlyLeads s (loopTaken s n) := by
  unfold loopTaken
  split
  · exact ⟨_, _, rfl⟩
  · split <;> exact ⟨_, _, rfl⟩

theorem parkEndOp_idle {s : State} {n : Nat} (h : s.pins.parked.getLsbD n = false) : parkEndOp s n = s := by
  rw [parkEndOp, if_neg (by simp [h])]

theorem parkEndOp_off {s : State} (n : Nat) (h : procOn s = false) : OnlyLeads s (parkEndOp s n) := by
  cases hpark : s.pins.parked.getLsbD n with
  | false => exact ⟨_, _, parkEndOp_idle hpark⟩
  | true =>
    rw [parkEndOp_eq s hpark, trigEdge_off (s := unparked s n) _ _ h]
    split
    · exact ⟨_, _, rfl⟩
    · exact loopTaken_leads s n

theorem parkFlush_off {s : State} (h : procOn s = false) : OnlyLeads s (parkFlush s) := by
  refine List.foldlRecOn (motive := OnlyLeads s) _ _ ⟨_, _, rfl⟩ ?_
  intro t ht n _
  obtain ⟨p, a, rfl⟩ := ht
  obtain ⟨p', a', hstep⟩ := parkEndOp_off (s := { s with pins := p, aon := a }) n h
  exact ⟨p', a', hstep⟩

theorem parksBy_off {s : State} (cyc : Nat) (h : procOn s = false) : OnlyLeads s (parksBy s cyc) := by
  rw [parksBy]
  split
  · exact parkFlush_off h
  · exact ⟨_, _, rfl⟩

/-- With the block out of the schedule an edge ends the parks of its tick, no more. -/
theorem trigEdgeRow_off {s : State} (rising : Bool) (cyc : Nat) (h : procOn s = false) :
    trigEdgeRow s rising cyc = parksBy s cyc := by
  have hnone : convertTooLate s rising cyc = none := by
    rw [convertTooLate]
    split
    · rw [if_neg (by simp [h])]
    · rfl
  have hoff : procOn (parksBy s cyc) = false := by
    obtain ⟨p, a, hp⟩ := parksBy_off cyc h
    rw [hp]
    exact h
  rw [trigEdgeRow, hnone]
  show (if trigSeen (parksBy s cyc) then trigEdge (parksBy s cyc) rising cyc else parksBy s cyc) = _
  rw [trigEdge_off _ _ hoff, ite_self]

theorem getLsbD_setBit8_false (m : BitVec 8) (n k : Nat) :
    (setBit8 m n false).getLsbD k = (m.getLsbD k && !decide (k = n ∧ k < 8)) := by
  have hbit : (BitVec.ofNat 8 (2 ^ n)).getLsbD k = decide (k = n ∧ k < 8) := by
    rw [BitVec.getLsbD_ofNat, Nat.testBit_two_pow]
    by_cases h8 : k < 8 <;> simp [h8, @eq_comm _ k n]
  show (m &&& ~~~(BitVec.ofNat 8 (2 ^ n))).getLsbD k = _
  rw [BitVec.getLsbD_and, BitVec.getLsbD_not, hbit]
  by_cases h8 : k < 8
  · simp [h8]
  · simp [h8, BitVec.getLsbD_of_ge m k (by omega)]

theorem parkEndOp_quiet {s : State} {n : Nat} (hpark : s.pins.parked.getLsbD n = true)
    (hquiet : trigLead s ≠ some n ∨ s.pins.board.getLsbD n = s.pins.latched.getLsbD n) :
    parkEndOp s n = loopTaken s n := by
  rw [parkEndOp_eq s hpark, if_neg]
  rintro ⟨hlead, hlvl⟩
  exact hquiet.elim (fun h => h hlead) hlvl

theorem OnlyLeads.frame {s t : State} (h : OnlyLeads s t) : sameBut [.pins, .aon] s t := by
  obtain ⟨p, a, rfl⟩ := h
  exact sameBut_trans (sameBut_mono (sameBut_pins s p) (by decide))
    (sameBut_mono (sameBut_aon { s with pins := p } a) (by decide))

theorem unparked_bits {s : State} {n : Nat} (hn : n < 8) :
    (unparked s n).pins.parked.getLsbD n = false ∧
      ∀ k, k < 8 → k ≠ n → (unparked s n).pins.parked.getLsbD k = s.pins.parked.getLsbD k := by
  refine ⟨?_, fun k _ hk => ?_⟩
  · exact (getLsbD_setBit8_false _ n n).trans (by simp [hn])
  · exact (getLsbD_setBit8_false _ n k).trans (by simp [hk])

theorem parkEndOp_effect {s : State} {n : Nat} (hn : n < 8) (hpark : s.pins.parked.getLsbD n = true)
    (hquiet : trigLead s ≠ some n ∨ s.pins.board.getLsbD n = s.pins.latched.getLsbD n) :
    let t := parkEndOp s n
    t.pins.parked.getLsbD n = false ∧ t.pins.latched = s.pins.latched ∧
      (∀ k, k < 8 → k ≠ n → t.pins.parked.getLsbD k = s.pins.parked.getLsbD k) ∧
      (leadFunc s n = 8 → t.aon.loop0 = 0 ∧ t.aon.normal0 = 0) ∧
      (leadFunc s n = 9 → t.aon.loop1 = 0 ∧ t.aon.normal1 = 0) ∧
      (leadFunc s n ≠ 8 → leadFunc s n ≠ 9 → t.aon = s.aon) ∧ sameBut [.pins, .aon] s t := by
  obtain ⟨hself, hother⟩ := unparked_bits (s := s) hn
  dsimp only
  rw [parkEndOp_quiet hpark hquiet, loopTaken]
  by_cases h8 : leadFunc s n = 8
  · rw [if_pos h8]
    exact ⟨hself, rfl, hother, fun _ => ⟨rfl, rfl⟩, fun h9 => absurd (h8.symm.trans h9) (by decide),
      fun hne => absurd h8 hne, OnlyLeads.frame ⟨_, _, rfl⟩⟩
  · rw [if_neg h8]
    by_cases h9 : leadFunc s n = 9
    · rw [if_pos h9]
      exact ⟨hself, rfl, hother, fun h => absurd h h8, fun _ => ⟨rfl, rfl⟩, fun _ hne => absurd h9 hne,
        OnlyLeads.frame ⟨_, _, rfl⟩⟩
    · rw [if_neg h9]
      exact ⟨hself, rfl, hother, fun h => absurd h h8, fun h => absurd h h9, fun _ _ => rfl,
        OnlyLeads.frame ⟨_, _, rfl⟩⟩

/-! ### The end of a run-down -/

/-- The integrator latches what it measured, and is free. -/
theorem runDownEndOp_frees {s : State} {pair : Nat} {b : Bool} (net rd : Int) (w : Nat) (sat : Bool) {v : ProcWin}
    (h : s.proc.wins.find? (fun u => u.closed && u.pair == pair && u.integB == b) = some v) :
    let t := runDownEndOp s pair b net rd w sat
    t.proc.fresh = s.proc.fresh ++ [{ entry := v.entry, chan := v.chan, scale := v.scale, rate := v.rate, kind := v.kind
                                      net := net, rd := rd, w := w, sat := sat }] ∧
      (∀ u ∈ t.proc.wins, (u.closed && u.pair == pair && u.integB == b) = false) ∧ sameBut [.proc] s t := by
  dsimp only
  rw [runDownEndOp, h]
  dsimp only
  exact ⟨rfl, fun u hu => Bool.not_eq_true' _ ▸ (List.mem_filter.1 hu).2, sameBut_proc s _⟩

/-- Settles O39: what starts, what ends, and the parks of the leads. -/
theorem processWindows : Obligations.ProcessWindows := by
  refine ⟨fun rising cyc s => ⟨?_, fun h => ?_, fun hurg hseen hon => ?_, fun hoff => ?_⟩,
    fun pair b net rd w sat s => ⟨fun h => ?_, fun h => ?_, fun m k r hdue => ?_, fun h c k => ?_, fun v h => ?_⟩,
    fun n s => ⟨fun hpark hquiet => ?_, fun h => ?_⟩⟩
  · intro u hon hsel hrate hdue hnot
    have hrow := timerRow (s := s) (u := u) rfl hon hsel hrate hdue hnot
    refine ⟨fun hbusy hw => ⟨_, hrow.trans ?_, timerIgnored_effect hon hw⟩, fun hidle => hrow.trans ?_⟩
    · rw [if_pos hbusy]
    · rw [if_neg (by simp [hidle])]
  · exact ⟨_, congrArg Host.Outcome.next (procDelayEnd_earliest h), openGroup_effect s _⟩
  · intro u
    have hrow : exec (.trigEdge rising cyc) s = .next (trigEdge (parksBy s cyc) rising cyc) :=
      congrArg Host.Outcome.next (trigEdgeRow_seen hurg hseen)
    have hlead := trigLead_of_seen hseen
    refine ⟨fun hbusy hpol => ⟨fun hwait hmode => ?_, fun hwait hopen hmode hms => ?_⟩, fun hwait hopen hsel =>
      ⟨fun hrun => ?_, fun hidle hpol => ?_⟩⟩
    · rw [hrow, trigEdge_opens hon hlead rfl hbusy hpol hwait hmode]
      exact ⟨_, rfl, rfl, rfl, rfl, hmode, sameBut_openWindows u _ _⟩
    · rw [hrow, trigEdge_closes hon hlead rfl hbusy hpol hwait hopen hmode hms]
    · rw [hrow, trigEdge_starts hon hlead rfl hwait hopen, trigStart_overrun _ _ hsel hrun]
    · rw [hrow, trigEdge_starts hon hlead rfl hwait hopen, trigStart_starts _ hsel hidle hpol]
  · exact congrArg Host.Outcome.next (trigEdgeRow_off rising cyc hoff)
  · exact congrArg Host.Outcome.next (fixedCloseOp_earliest h)
  · exact congrArg Host.Outcome.next (pwmTimeoutOp_earliest h)
  · intro c u hev hon hbusy
    have hrow : exec .lineBoundary s = .next (lineFalls s c) := congrArg Host.Outcome.next (lineBoundaryOp_earliest hev)
    refine ⟨fun hopen hmode => ?_, fun hopen hwait hmode => ?_⟩
    · rw [hrow, lineFalls_closes hdue hon hbusy hopen hmode]
      rfl
    · rw [hrow, lineFalls_opens hdue hon hbusy hopen hwait hmode]
      rfl
  · exact closeGroup_urgent h c k
  · exact ⟨_, rfl, runDownEndOp_frees net rd w sat h⟩
  · exact ⟨_, rfl, parkEndOp_effect n.isLt hpark hquiet⟩
  · exact congrArg Host.Outcome.next (parkEndOp_idle h)

end Sys2Proof.Machine

/-!
The Sideboard's decisions (10 R228 to R232; O42).
-/

namespace Sys2Proof.Machine

/-! ### Which request a decision names -/

theorem le_of_leastOf {l : List Nat} {c : Nat} (h : leastOf l = some c) : ∀ a ∈ l, c ≤ a := by
  induction l generalizing c with
  | nil => cases h
  | cons a l ih =>
    rw [leastOf] at h
    intro x hx
    split at h
    · next hnone =>
      obtain rfl := Option.some.inj h
      cases l with
      | nil => rw [List.mem_singleton.1 hx]
      | cons b l' =>
        rw [leastOf] at hnone
        split at hnone <;> cases hnone
    · next b hb =>
      obtain rfl := Option.some.inj h
      rcases List.mem_cons.1 hx with rfl | hx
      · exact Nat.min_le_left _ _
      · exact (Nat.min_le_right _ _).trans (ih hb x hx)

/-- The effective age with which `p` meets the decision for cycle `c`. -/
abbrev ageAt (s : State) (c : Nat) (p : Req) : Nat := effAge s p (ageWait s p c)

/-- `p` does not come before `q` in the decision for cycle `c`. -/
def Yields (s : State) (c : Nat) (p q : Req) : Prop :=
  ageAt s c p ≤ ageAt s c q ∧ (ageAt s c p = ageAt s c q → q.r ≤ p.r)

theorem Yields.refl (s : State) (c : Nat) (q : Req) : Yields s c q q := ⟨Nat.le_refl _, fun _ => Nat.le_refl _⟩

theorem Yields.trans {s : State} {c : Nat} {p q r : Req} (h : Yields s c p q) (k : Yields s c q r) : Yields s c p r := by
  obtain ⟨hle, heq⟩ := h
  obtain ⟨kle, keq⟩ := k
  refine ⟨hle.trans kle, fun he => ?_⟩
  have hpq : ageAt s c p = ageAt s c q := by omega
  exact (keq (by omega)).trans (heq hpq)

/-- The winner is one of the list to which every other yields. -/
theorem bestReq_best {s : State} {c : Nat} {l : List Req} {q : Req} (h : bestReq s c l = some q) :
    q ∈ l ∧ ∀ p ∈ l, Yields s c p q := by
  induction l generalizing q with
  | nil => cases h
  | cons a l ih =>
    rw [bestReq] at h
    split at h
    · next hnone =>
      obtain rfl := Option.some.inj h
      refine ⟨List.mem_cons_self, fun p hp => ?_⟩
      cases l with
      | nil => rw [List.mem_singleton.1 hp]; exact Yields.refl s c a
      | cons b l' =>
        rw [bestReq] at hnone
        split at hnone
        · cases hnone
        · dsimp only at hnone
          split at hnone <;> cases hnone
    · next b hb =>
      obtain ⟨hmem, hbest⟩ := ih hb
      dsimp only at h
      split at h
      · next hwin =>
        obtain rfl := Option.some.inj h
        have hba : Yields s c b a := by
          refine ⟨?_, fun he => ?_⟩
          · rcases hwin with hgt | ⟨he, -⟩
            · exact Nat.le_of_lt hgt
            · exact Nat.le_of_eq he.symm
          · rcases hwin with hgt | ⟨-, hlt⟩
            · exact absurd he (Nat.ne_of_lt hgt)
            · exact Nat.le_of_lt hlt
        refine ⟨List.mem_cons_self, fun p hp => ?_⟩
        rcases List.mem_cons.1 hp with rfl | hp
        · exact Yields.refl s c _
        · exact (hbest p hp).trans hba
      · next hlose =>
        obtain rfl := Option.some.inj h
        rw [not_or, not_and] at hlose
        obtain ⟨hle, hne⟩ := hlose
        have hab : Yields s c a b := ⟨Nat.le_of_not_lt hle, fun he => Nat.le_of_not_lt (hne he)⟩
        refine ⟨List.mem_cons_of_mem _ hmem, fun p hp => ?_⟩
        rcases List.mem_cons.1 hp with rfl | hp
        · exact hab
        · exact hbest p hp

theorem winner_frozen {s : State} (h : frozen s = true) : winner s = none := by
  rw [winner, if_neg (by simp [h])]

/-- What a decision's choice is: the earliest cycle that a candidate can own, and the best of those that can own it. -/
theorem winner_best {s : State} {q : Req} {c : Nat} (h : winner s = some (q, c)) :
    q ∈ candidates s ∧ c < 6144 ∧ firstOwn s q ≤ c ∧
      ∀ p ∈ candidates s, c ≤ firstOwn s p ∧ (firstOwn s p ≤ c → Yields s c p q) := by
  rw [winner] at h
  split at h
  · split at h
    · next c' hleast =>
      split at h
      · next hlt =>
        obtain ⟨q', hbest, hpair⟩ := Option.map_eq_some_iff.1 h
        cases hpair
        obtain ⟨hmem, hall⟩ := bestReq_best hbest
        obtain ⟨hcand, hown⟩ := List.mem_filter.1 hmem
        refine ⟨hcand, hlt, of_decide_eq_true hown, fun p hp => ⟨?_, fun hle => ?_⟩⟩
        · exact le_of_leastOf hleast _ (List.mem_map_of_mem hp)
        · exact hall p (List.mem_filter.2 ⟨hp, decide_eq_true hle⟩)
      · cases h
    · cases h
  · cases h

theorem servable_of_candidate {s : State} {q : Req} (h : q ∈ candidates s) :
    q.gone = true ∨ (opReady s q = true ∧ opAway s q = false) := by
  have hq := (List.mem_filter.1 h).2
  simpa using hq

/-! ### The grant -/

theorem serveIf_granted {s : State} {q : Req} {c : Nat} (h : winner ((serveAway s).getD s) = some (q, c)) :
    serveIf s q.r = grantReq ((serveAway s).getD s) q c := by
  rw [serveIf, h]
  exact if_pos rfl

theorem serveIf_other {s : State} {r : Nat}
    (h : ∀ q c, winner ((serveAway s).getD s) = some (q, c) → q.r ≠ r) : serveIf s r = (serveAway s).getD s := by
  rw [serveIf]
  split
  · next q hq => exact if_neg (h q.1 q.2 hq)
  · rfl

theorem grantReq_gone {s : State} {q : Req} {c : Nat} (h : q.gone = true) :
    grantReq s q c = deadCycle (forgetGone (idleTo s c)) q.r c := by
  rw [grantReq]
  exact if_pos h

/-! ### The cycles the Sideboard comes to -/

/-- Bringing the Sideboard on, its waits noted and starved requests reported, keeps the cycle it has come to and the
registers below those of the waits, but for those of ARB_STARVE. -/
structure WaitsKept (s t : State) : Prop where
  busy : t.mem.busy = s.mem.busy
  regs : ∀ n, n < 0x628 → n ≠ 0x623 → n ≠ srcArbStarve / 20 → getReg t n = getReg s n

theorem WaitsKept.refl (s : State) : WaitsKept s s := ⟨rfl, fun _ _ _ _ => rfl⟩

theorem WaitsKept.trans {s t u : State} (h : WaitsKept s t) (k : WaitsKept t u) : WaitsKept s u :=
  ⟨k.busy.trans h.busy, fun n hn h3 hs => (k.regs n hn h3 hs).trans (h.regs n hn h3 hs)⟩

theorem starveCheck_waits (s : State) (r slack : Nat) : WaitsKept s (starveCheck s r slack) := by
  rw [starveCheck]
  dsimp only
  split
  · refine ⟨by rw [raise_mem, orReg_mem], fun n _ h3 hs => ?_⟩
    rw [getReg_raise_other _ _ _ hs]
    exact getReg_setReg_other _ _ _ _ h3
  · exact WaitsKept.refl s

theorem noteWait_waits (s : State) (q : Req) : WaitsKept s (noteWait s q) := by
  rw [noteWait]
  split
  · exact ⟨by rw [setReg_mem], fun n hn _ _ => getReg_setReg_other _ _ _ _ (by omega)⟩
  · exact WaitsKept.refl s

/-- Every request has counted the cycles up to `c` in which it was visible. -/
def waitsCounted (s : State) (c : Nat) : State :=
  { s with mem := { s.mem with
    busy := c, owner := none
    reqs := s.mem.reqs.map (fun q =>
      let k := c - max q.at_ s.mem.busy
      { q with wait := q.wait + k, starve := if frozen s then q.starve else min (q.starve + k) 0xFFFFF }) } }

theorem boardTo_later {s : State} {c : Nat} (h : s.mem.busy < c) :
    boardTo s c =
      (upto 8).foldl (fun u r => starveCheck u r 0) ((waitsCounted s c).mem.reqs.foldl noteWait (waitsCounted s c)) := by
  rw [boardTo, if_neg (by omega)]
  rfl

theorem boardTo_waits {s : State} {c : Nat} (h : s.mem.busy < c) : WaitsKept (waitsCounted s c) (boardTo s c) := by
  rw [boardTo_later h]
  refine List.foldlRecOn (motive := WaitsKept (waitsCounted s c)) _ _ ?_ fun u hu r _ => hu.trans (starveCheck_waits u r 0)
  exact List.foldlRecOn (motive := WaitsKept (waitsCounted s c)) _ _ (WaitsKept.refl _) fun u hu q _ =>
    hu.trans (noteWait_waits u q)

/-- A cycle named for a request that has withdrawn is dead, and counted. -/
theorem deadCycle_effect {s : State} {r c : Nat} (h : s.mem.busy ≤ c) (hw : Registers.wf s = true) :
    (deadCycle s r c).mem.busy = c + 1 ∧ (deadCycle s r c).mem.owner = some r ∧
      getReg (deadCycle s r c) 0x624 = wd (min (regN s 0x624 + 1) 0xFFFFF) := by
  have hbusy : (addReg s 0x624 1).mem.busy < c + 1 := by rw [addReg_mem]; omega
  have hto := boardTo_waits hbusy
  refine ⟨hto.busy, rfl, ?_⟩
  exact (hto.regs 0x624 (by decide) (by decide) (by decide)).trans (getReg_incReg 0x624 hw)

/-- Settles O42: what a decision names, and what its grant is. -/
theorem sideboardGrants : Obligations.SideboardGrants := by
  intro r s hup a b
  have hrow : exec (.memoryRequest r) s = .next (serveIf s r.val) := congrArg Host.Outcome.next (if_pos hup)
  refine ⟨fun q c hwin hr => ⟨?_, fun hgone => ?_⟩, fun hother => ?_, fun q c hwin hr => ?_, fun q c hwin hr => ?_,
    fun c hbusy hw => deadCycle_effect hbusy hw, winner_frozen, fun q c hwin => ?_⟩
  · rw [hrow, ← hr, serveIf_granted hwin]
  · rw [grantReq_gone hgone, hr]
  · rw [hrow, serveIf_other hother]
  · exact (congrArg Host.Outcome.next (if_pos hup)).trans (congrArg Host.Outcome.next (hr ▸ serveIf_granted hwin))
  · exact (congrArg Host.Outcome.next (if_pos hup)).trans (congrArg Host.Outcome.next (hr ▸ serveIf_granted hwin))
  · obtain ⟨hcand, hlt, hown, hall⟩ := winner_best hwin
    exact ⟨hcand, hlt, hown, servable_of_candidate hcand, hall⟩

end Sys2Proof.Machine

/-!
The steps that a tick leaves over, under FREEZE, with a request of a requester that the part has not (10 R225, R233; O43).
-/

namespace Sys2Proof.Machine

/-- A request that has waited, of requester 0x158: ARB_MAXWAIT of that number would be register 0x780, TAMP_EN. -/
def strayRequest : Req := { r := 0x158, op := .capture, at_ := 0, wait := 0, starve := 0xFFFFF, reported := false, gone := false }

/-- RUN with FREEZE 1, one step of the scrub engine left over, and the stray request. -/
def frozenStray : State :=
  { State.reset with
    seq := { State.reset.seq with st := .run }
    regs := sset regReset State.reset.regs 0x620 1
    mem := { State.reset.mem with reqs := [strayRequest], scrubDue := 1, backlog := 1 } }

theorem tampEn_scrubYieldOp : getReg (scrubYieldOp frozenStray) 0x780 ≠ getReg frozenStray 0x780 := by decide +kernel

/-- Refutes O43: the yields of a tick bring the Sideboard to the tick's end, where each request's wait is kept in
0x628 plus its requester, and for a request of a requester above 7 (the state type admits any number) that register can
be one PD0 holds: the step then changes PD0, which the statement leaves no room for. -/
theorem not_memoryKeepsHouse : ¬ Obligations.MemoryKeepsHouse := by
  unfold Obligations.MemoryKeepsHouse
  intro h
  obtain ⟨-, -, -, hyield, -⟩ := h 0 0 frozenStray
  obtain ⟨t, hnext, -, -, -, hframe⟩ := hyield (by decide +kernel) (by decide +kernel) (by decide) (by decide) (by decide +kernel)
  have ht : scrubYieldOp frozenStray = t := Host.Outcome.next.inj hnext
  have haon : t.aon = frozenStray.aon := hframe .aon (by decide)
  have hkept : getReg t 0x780 = getReg frozenStray 0x780 := congrArg (fun a : Aon => sget regReset a.regs 0x780) haon
  rw [← ht] at hkept
  exact tampEn_scrubYieldOp hkept

end Sys2Proof.Machine

/-!
Frames of the Dresser along the chain, and requests of peers (11 R248, R249, R254; O44).
-/

namespace Sys2Proof.Machine

theorem frameOp_deaf {s : State} {f : RxFrame} (h : receives s f.side = false) (type : Nat) (other mine : State → State) :
    frameOp s type f other mine = s := by
  simp [frameOp, h]

theorem enumFrameOp_deaf {s : State} {f : RxFrame} (h : receives s f.side = false) : enumFrameOp s f = s := by
  simp [enumFrameOp, h]

theorem enumFrameOp_bad {s : State} {f : RxFrame} (h : receives s f.side = true) (hc : f.crcOk = false) :
    enumFrameOp s f = frameBad s f.side := by
  simp [enumFrameOp, h, hc]

/-- The frame that leaves towards the destination is the one received. -/
theorem passOn_effect {s : State} {f : RxFrame} (type : Nat) (h : linkReady s (sideTo s f.dest) = true) :
    (passOn s type f (sideTo s f.dest)).chain.sent = s.chain.sent ++
        [{ side := sideTo s f.dest, type := type, dest := f.dest, src := f.src, ltag := f.ltag, payload := f.payload }] ∧
      sameBut [.chain] s (passOn s type f (sideTo s f.dest)) :=
  ⟨sendFrame_sent (of_decide_eq_true (Bool.and_eq_true_iff.1 h).2), sendFrame_frame s _⟩

/-! ### MRQ frames for this part -/

theorem mrqFrameOp_held {s : State} {f : RxFrame} (h : receives s f.side = true) (hc : f.crcOk = true)
    (hd : f.dest = ownPos s) (hroom : s.chain.mrqs.length < 8) :
    mrqFrameOp s f =
      { s with chain := { s.chain with mrqs := s.chain.mrqs ++ [(f.side, f.src, f.ltag, f.payload)] } } := by
  rw [mrqFrameOp, frameOp_mine h hc hd]
  exact if_neg (by omega)

theorem mrqFrameOp_full {s : State} {f : RxFrame} (h : receives s f.side = true) (hc : f.crcOk = true)
    (hd : f.dest = ownPos s) (hfull : 8 ≤ s.chain.mrqs.length) :
    mrqFrameOp s f = sendMrs s f.side f.src f.ltag stBusy 0 [] := by
  rw [mrqFrameOp, frameOp_mine h hc hd]
  exact if_pos hfull

theorem sendFrame_mrqs (s : State) (f : TxFrame) : (sendFrame s f).chain.mrqs = s.chain.mrqs := by
  unfold sendFrame
  split <;> rfl

theorem getReg_sendFrame (s : State) (f : TxFrame) (n : Nat) : getReg (sendFrame s f) n = getReg s n := by
  rw [getReg, getReg, sendFrame_regs, sendFrame_aon]

/-! ### A request refused -/

/-- The oldest request of a peer has left the queue. -/
def mrqTaken (s : State) (rest : List (Side × BitVec 2 × Byte × List Byte)) : State :=
  { s with chain := { s.chain with mrqs := rest } }

theorem takeMrq_rejects {s : State} {side : Side} {src : BitVec 2} {ltag : Byte} {p : List Byte}
    {rest : List (Side × BitVec 2 × Byte × List Byte)} {a : Access} (hq : s.chain.mrqs = (side, src, ltag, p) :: rest)
    (ha : mrqAccess p = some a) (hno : accepts s src a = false) :
    takeMrq s = rejectMrq (mrqTaken s rest) side src ltag a := by
  have hno' : accepts (mrqTaken s rest) src a = false := hno
  rw [takeMrq, hq]
  dsimp only
  rw [ha]
  show (if (!accepts (mrqTaken s rest) src a) = true then rejectMrq (mrqTaken s rest) side src ltag a else _) = _
  rw [hno']
  exact if_pos rfl

theorem mrqTaken_rwf {s : State} {rest : List (Side × BitVec 2 × Byte × List Byte)} (h : Registers.wf s = true) :
    Registers.wf (mrqTaken s rest) = true := h

/-- The refusal is counted, noted with its source, kind and line, and told; memory is not touched. -/
theorem rejectMrq_effect {s : State} (side : Side) (src : BitVec 2) (ltag : Byte) (a : Access) (hon : coreOn s = true)
    (hw : Registers.wf s = true) :
    let t := rejectMrq s side src ltag a
    t.chain.mrqs = s.chain.mrqs ∧ getReg t 0x698 = wd (min (regN s 0x698 + 1) 0xFFFFF) ∧
      getReg t 0x699 = wd (src.toNat * 16 + kindCode a.kind) ∧ getReg t 0x69A = wd (a.pa / 16) ∧
      statusBit t srcChainReject = true ∧ t.mem = s.mem := by
  have hw1 : Registers.wf (addReg s 0x698 1) = true := setReg_rwf _ _ hw
  have hw2 := setReg_rwf 0x699 (wd (src.toNat * 16 + kindCode a.kind)) hw1
  have hw3 := setReg_rwf 0x69A (wd (a.pa / 16)) hw2
  refine ⟨?_, ?_, ?_, ?_, ?_, ?_⟩
  · rw [rejectMrq, sendMrs, sendFrame_mrqs, raise_chain, setReg_chain, setReg_chain, addReg_chain]
  · rw [rejectMrq, sendMrs, getReg_sendFrame, getReg_raise_other _ _ _ (by decide), getReg_setReg_other _ _ _ _ (by decide),
      getReg_setReg_other _ _ _ _ (by decide)]
    exact getReg_incReg 0x698 hw
  · rw [rejectMrq, sendMrs, getReg_sendFrame, getReg_raise_other _ _ _ (by decide), getReg_setReg_other _ _ _ _ (by decide)]
    exact getReg_setReg 0x699 _ hw1
  · rw [rejectMrq, sendMrs, getReg_sendFrame, getReg_raise_other _ _ _ (by decide)]
    exact getReg_setReg 0x69A _ hw2
  · rw [rejectMrq, sendMrs, statusBit, getReg_sendFrame]
    exact statusBit_raise_wf (by decide) (by rw [coreOn, setReg_seq, setReg_seq, addReg_seq, ← coreOn, hon]) hw3
  · rw [rejectMrq, sendMrs, sendFrame_mem, raise_mem, setReg_mem, setReg_mem, addReg_mem]

/-- Settles O44: frames for others, bad frames, and what peers ask. -/
theorem framesAndPeers : Obligations.FramesAndPeers := by
  refine ⟨fun f s => ⟨fun h => ?_, fun h hc => ?_, fun h hc hd hl => ?_⟩,
    fun f s => ⟨fun h hc hd => ⟨fun hroom => ?_, fun hfull => ?_⟩, fun hdue => ?_, ?_⟩⟩
  · exact ⟨congrArg Host.Outcome.next (frameOp_deaf h _ _ _), congrArg Host.Outcome.next (frameOp_deaf h _ _ _),
      congrArg Host.Outcome.next (frameOp_deaf h _ _ _), congrArg Host.Outcome.next (enumFrameOp_deaf h)⟩
  · exact ⟨congrArg Host.Outcome.next (frameOp_bad h hc _ _ _), congrArg Host.Outcome.next (frameOp_bad h hc _ _ _),
      congrArg Host.Outcome.next (frameOp_bad h hc _ _ _), congrArg Host.Outcome.next (enumFrameOp_bad h hc)⟩
  · exact ⟨⟨_, congrArg Host.Outcome.next (frameOp_passes h hc hd hl _ _ _), passOn_effect 3 hl⟩,
      ⟨_, congrArg Host.Outcome.next (frameOp_passes h hc hd hl _ _ _), passOn_effect 4 hl⟩,
      ⟨_, congrArg Host.Outcome.next (frameOp_passes h hc hd hl _ _ _), passOn_effect 6 hl⟩⟩
  · exact ⟨_, congrArg Host.Outcome.next (mrqFrameOp_held h hc hd hroom), rfl, sameBut_chain s _⟩
  · exact ⟨_, congrArg Host.Outcome.next (mrqFrameOp_full h hc hd hfull), sendFrame_mrqs s _,
      sendFrame_sent (linkOf_of_receives h), sendFrame_frame s _⟩
  · exact congrArg Host.Outcome.next (if_pos hdue)
  · intro side src ltag p rest a hq ha hno hw hon
    rw [takeMrq_rejects hq ha hno]
    exact rejectMrq_effect side src ltag a hon (mrqTaken_rwf hw)

end Sys2Proof.Machine

/-!
Links and the position (11 R252, R253, R256; O46).
-/

namespace Sys2Proof.Machine

theorem putLink_frame (s : State) (d : Side) (l : Link) : sameBut [.chain] s (putLink s d l) := by
  cases d <;> exact sameBut_chain s _

theorem linkOf_putLink (s : State) (d : Side) (l : Link) : linkOf (putLink s d l) d = l := by cases d <;> rfl

theorem putLink_rwf {s : State} (d : Side) (l : Link) (h : Registers.wf s = true) : Registers.wf (putLink s d l) = true := by
  cases d <;> exact h

/-! ### The wiring test -/

/-- The wiring test has found the upstream link `wired` or not. -/
def wiringFound (s : State) (wired : Bool) : State :=
  if wired then { s with chain := { s.chain with wired := true, wiringDone := true } }
  else { s with chain := { s.chain with wired := false, wiringDone := true, posValid := true, pos := 0 } }

theorem wiringTestOp_due {s : State} (wired : Bool) (hon : domOn s 11 = true) (hd : s.chain.wiringDone = false) :
    wiringTestOp s wired = raiseIf (!wired) srcLinkChange (wiringFound s wired) := by
  rw [wiringTestOp, if_neg (by simp [hon, hd])]
  cases wired <;> rfl

/-! ### Idle bytes -/

theorem idleByteOp_malformed {s : State} {d : Side} {b : Byte} (hon : domOn s 11 = true) (hg : s.seq.st ≠ .gasp)
    (h : bitsOf b.toNat 5 3 ≠ 5 ∨ b.toNat % 2 ≠ 0) :
    idleByteOp s d b = putLink s d { linkOf s d with aligned := 0, idleRun := 0 } := by
  rw [idleByteOp, if_neg (by simp [hon, hg]), if_pos h]

theorem idlePosition_unknown (s : State) (d : Side) (pos : Nat) : idlePosition s d false pos = s := by
  cases d <;> rfl

/-- The link of side `d` has taken an idle byte of the right form. -/
def idleTaken (s : State) (d : Side) (b : Byte) : Link :=
  { linkOf s d with
    aligned := satInc (linkOf s d).aligned 64, idleRun := satInc (linkOf s d).idleRun 64, rxok := b.getLsbD 1
    st := if (linkOf s d).st = 0 && linkDriven s d && !(linkOf s d).held then 1 else (linkOf s d).st }

theorem idleByteOp_unknown {s : State} {d : Side} {b : Byte} (hon : domOn s 11 = true) (hg : s.seq.st ≠ .gasp)
    (hform : bitsOf b.toNat 5 3 = 5) (heven : b.toNat % 2 = 0) (hknown : b.getLsbD 4 = false) (hst : (linkOf s d).st ≠ 2) :
    idleByteOp s d b = putLink s d (idleTaken s d b) := by
  rw [idleByteOp, if_neg (by simp [hon, hg]), if_neg (by simp [hform, heven])]
  dsimp only
  rw [if_neg (fun h => hst h.1), hknown, idlePosition_unknown]
  rfl

/-! ### Links up and down -/

theorem linkUpOp_comes {s : State} {d : Side} (hon : coreOn s = true) (hst : (linkOf s d).st = 1)
    (hal : 64 ≤ (linkOf s d).aligned) (hrx : (linkOf s d).rxok = true) (hpos : s.chain.posValid = true)
    (hheld : (linkOf s d).held = false) (hdrv : linkDriven s d = true) :
    linkUpOp s d = raise (putLink s d { linkOf s d with st := 2 }) srcLinkChange := by
  rw [linkUpOp]
  exact if_pos (by simp [hon, hst, hal, hrx, hpos, hheld, hdrv])

/-- The link of side `d` is OFF. -/
def linkOff (s : State) (d : Side) : Link := { linkOf s d with st := 0, aligned := 0, idleRun := 0 }

theorem linkDownOp_training {s : State} {d : Side} (hon : coreOn s = true) (hst : (linkOf s d).st = 1) :
    linkDownOp s d = putLink s d (linkOff s d) := by
  rw [linkDownOp, if_pos (by simp [hon, hst]), linkTo]
  dsimp only
  rw [if_neg (by simp [hst])]
  rfl

/-- The link of side `d` is OFF, and its frames that have not left are dropped. -/
def linkEmptied (s : State) (d : Side) : State :=
  { putLink s d (linkOff s d) with
    chain := { (putLink s d (linkOff s d)).chain with
      sent := (putLink s d (linkOff s d)).chain.sent.filter (fun f => decide (f.side ≠ d)) }
    ports := { s.ports with chainOut := s.ports.chainOut.filter (fun f => decide (f.2.side ≠ d)) } }

/-- With nothing waiting on the link, what goes down with it is the link alone. -/
theorem linkDownOp_up {s : State} {d : Side} (hon : coreOn s = true) (hst : (linkOf s d).st = 2)
    (hrem : s.chain.remote = []) (hfwd : s.ports.forwards = []) (henum : s.chain.enum = none) :
    linkDownOp s d = raise (incTen (linkEmptied s d) (linkErr d) 0) srcLinkChange := by
  have hdown : linkDownOp s d =
      dropEnum (dropRemotes (dropForwards (raise (incTen (linkEmptied s d) (linkErr d) 0) srcLinkChange) d) d) d := by
    rw [linkDownOp, if_pos (by simp [hon, hst]), linkTo]
    dsimp only
    rw [if_pos hst]
    cases d <;> rfl
  have hports : (raise (incTen (linkEmptied s d) (linkErr d) 0) srcLinkChange).ports = (linkEmptied s d).ports := by
    rw [raise_ports, incTen, setReg_ports]
  have hchain : (raise (incTen (linkEmptied s d) (linkErr d) 0) srcLinkChange).chain = (linkEmptied s d).chain := by
    rw [raise_chain, incTen, setReg_chain]
  have hrem' : (linkEmptied s d).chain.remote = [] := by cases d <;> exact hrem
  have henum' : (linkEmptied s d).chain.enum = none := by cases d <;> exact henum
  rw [hdown]
  generalize raise (incTen (linkEmptied s d) (linkErr d) 0) srcLinkChange = u at hports hchain
  have hf : u.ports.forwards = [] := by rw [hports]; exact hfwd
  have h1 : dropForwards u d = u := by
    rw [dropForwards, hf]
    show { u with ports := { u.ports with forwards := [] } } = u
    rw [← hf]
  have h2 : dropRemotes u d = u := by rw [dropRemotes, hchain, hrem']; rfl
  rw [h1, h2, dropEnum, hchain, henum']

theorem satInc_lt {n : Nat} (h : n < 1024) : satInc n 0x3FF < 1024 := by
  rw [satInc]
  split <;> omega

theorem fld_ten_lt (w : Word) : fld w 0 10 < 1024 := by
  rw [fld, bitsOf]
  exact Nat.mod_lt _ (by decide)

/-- The low ten bits of a word read as they are set. -/
theorem fld_setFld_ten (w : Word) {v : Nat} (h : v < 1024) : fld (setFld w 0 10 v) 0 10 = v := by
  have hw := w.isLt
  simp only [fld, setFld, bitsOf, wd, BitVec.toNat_ofNat]
  omega

theorem linkErr_stored (d : Side) : isRetained (linkErr d) = false := by cases d <;> rfl

theorem linkErr_source (d : Side) : linkErr d ≠ srcLinkChange / 20 := by cases d <;> decide

theorem linkEmptied_rwf {s : State} (d : Side) (h : Registers.wf s = true) : Registers.wf (linkEmptied s d) = true := by
  cases d <;> exact h

theorem getReg_linkEmptied (s : State) (d : Side) (n : Nat) : getReg (linkEmptied s d) n = getReg s n := by
  cases d <;> rfl

theorem linkEmptied_frame (s : State) (d : Side) : sameBut [.chain, .ports] s (linkEmptied s d) := by
  have hchain : sameBut [.chain, .ports] s { s with chain := (linkEmptied s d).chain } :=
    sameBut_mono (sameBut_chain s _) (by decide)
  refine sameBut_trans hchain ?_
  cases d <;> exact sameBut_mono (sameBut_ports _ _) (by decide)

theorem linkWentDown_effect {s : State} (d : Side) (hon : coreOn s = true) :
    let t := raise (incTen (linkEmptied s d) (linkErr d) 0) srcLinkChange
    (linkOf t d).st = 0 ∧
      (Registers.wf s = true → statusBit t srcLinkChange = true ∧
        fld (getReg t (linkErr d)) 0 10 = satInc (fld (getReg s (linkErr d)) 0 10) 0x3FF) ∧
      t.chain.sent = s.chain.sent.filter (fun f => decide (f.side ≠ d)) ∧
      t.ports = { s.ports with chainOut := s.ports.chainOut.filter (fun f => decide (f.2.side ≠ d)) } ∧
      sameBut [.chain, .ports, .regs, .bureau] s t := by
  have hchain : (raise (incTen (linkEmptied s d) (linkErr d) 0) srcLinkChange).chain = (linkEmptied s d).chain := by
    rw [raise_chain, incTen, setReg_chain]
  refine ⟨?_, fun hw => ⟨?_, ?_⟩, ?_, ?_, ?_⟩
  · rw [linkOf_congr d hchain]
    cases d <;> rfl
  · refine statusBit_raise_wf (by decide) ?_ (setReg_rwf _ _ (linkEmptied_rwf d hw))
    rw [coreOn, incTen, setReg_seq]
    exact (by cases d <;> exact hon : coreOn (linkEmptied s d) = true)
  · rw [getReg_raise_other _ _ _ (linkErr_source d), incTen, getReg_setReg _ _ (linkEmptied_rwf d hw), getReg_linkEmptied]
    exact fld_setFld_ten _ (satInc_lt (fld_ten_lt _))
  · rw [hchain]
    cases d <;> rfl
  · rw [raise_ports, incTen, setReg_ports]
    rfl
  · refine sameBut_trans (sameBut_mono (linkEmptied_frame s d) (by decide)) ?_
    have hcount : sameBut [.regs] (linkEmptied s d) (incTen (linkEmptied s d) (linkErr d) 0) :=
      setReg_frame_regs _ _ (linkErr_stored d)
    refine sameBut_trans (sameBut_mono hcount (by decide)) ?_
    exact sameBut_mono (raise_frame _ (by decide)) (by decide)

/-- Settles O46: the wiring test, idle bytes, and links that come and go. -/
theorem linksComeAndGo : Obligations.LinksComeAndGo := by
  intro d b s
  refine ⟨fun hon hd => ⟨?_, ?_⟩, fun hon hg => ⟨fun h => ?_, fun hform heven hknown hst => ?_⟩,
    fun hon hst hal hrx hpos hheld hdrv => ?_, fun hon hst => ?_, fun hon hst hrem hfwd henum => ?_⟩
  · have hchain : (raiseIf true srcLinkChange (wiringFound s false)).chain = (wiringFound s false).chain := raise_chain _ _
    refine ⟨_, congrArg Host.Outcome.next (wiringTestOp_due false hon hd), (congrArg Chain.wiringDone hchain :),
      (congrArg Chain.wired hchain :), (congrArg Chain.posValid hchain :), (congrArg Chain.pos hchain :), ?_⟩
    exact sameBut_trans (sameBut_mono (sameBut_chain s (wiringFound s false).chain) (by decide))
      (sameBut_mono (raise_frame (wiringFound s false) (by decide)) (by decide))
  · exact ⟨_, congrArg Host.Outcome.next (wiringTestOp_due true hon hd), rfl, rfl, rfl, sameBut_chain s _⟩
  · refine ⟨_, congrArg Host.Outcome.next (idleByteOp_malformed hon hg h), ?_, ?_, ?_, putLink_frame s d _⟩ <;>
      rw [linkOf_putLink]
  · refine ⟨_, congrArg Host.Outcome.next (idleByteOp_unknown hon hg hform heven hknown hst), ?_, ?_, ?_,
      putLink_frame s d _⟩ <;> rw [linkOf_putLink] <;> simp [idleTaken, and_assoc]
  · refine ⟨_, congrArg Host.Outcome.next (linkUpOp_comes hon hst hal hrx hpos hheld hdrv), ?_, fun hw => ?_, ?_⟩
    · rw [linkOf_congr d (raise_chain _ _), linkOf_putLink]
    · exact statusBit_raise_wf (by decide) (by rw [coreOn, putLink_seq, ← coreOn, hon]) (putLink_rwf d _ hw)
    · exact sameBut_trans (sameBut_mono (putLink_frame s d _) (by decide)) (sameBut_mono (raise_frame _ (by decide)) (by decide))
  · refine ⟨_, congrArg Host.Outcome.next (linkDownOp_training hon hst), ?_, ?_, putLink_frame s d _⟩ <;>
      rw [linkOf_putLink] <;> rfl
  · exact ⟨_, congrArg Host.Outcome.next (linkDownOp_up hon hst hrem hfwd henum), linkWentDown_effect d hon⟩

end Sys2Proof.Machine

/-!
Pulse outputs (08 R190; O47).
-/

namespace Sys2Proof.Machine

/-- What would stop the search does so with the next event. -/
theorem cfUntil_next {stop : CfOut → CfOut → Bool} {s : State} {x : Nat} (n : Nat) (hev : cfNext s (cfGet s x) ≠ .none)
    (hstop : stop (cfGet s x) (cfGet (cfEvent s x) x) = true) : cfUntil stop (n + 1) s x = some (cfEvent s x) := by
  rw [cfUntil]
  split
  · contradiction
  · exact if_pos hstop

theorem cfGet_cfPut_self {s : State} {x : Nat} (c : CfOut) (h : x < s.energy.cf.length) : cfGet (cfPut s x c) x = c :=
  nth_setNth h c noCf

theorem cfGet_cfPut_other (s : State) {x y : Nat} (c : CfOut) (h : y ≠ x) : cfGet (cfPut s x c) y = cfGet s y :=
  nth_setNth_other _ _ _ h

theorem sameBut_cfPut (s : State) (x : Nat) (c : CfOut) : sameBut [.energy] s (cfPut s x c) := sameBut_energy s _

theorem cfEvent_ends {s : State} {x : Nat} (h : cfNext s (cfGet s x) = .ends) :
    cfEvent s x = cfPut s x { cfGet s x with high := false } := by
  rw [cfEvent]
  dsimp only
  rw [h]

theorem cfEvent_start {s : State} {x : Nat} {i : Int} (h : cfNext s (cfGet s x) = .start i) :
    cfEvent s x = cfPut s x (cfStart s { cfGet s x with queue := (cfGet s x).queue.tail } i) := by
  rw [cfEvent]
  dsimp only
  rw [h]

/-- Only a pulse that stands can end. -/
theorem high_of_cfNext_ends {s : State} {c : CfOut} (h : cfNext s c = .ends) : c.high = true := by
  by_contra hlow
  have hnone : (if c.high && decide (c.ends < tickEnd s) then some c.ends else none) = none := if_neg (by simp [hlow])
  rw [cfNext, hnone] at h
  split at h
  · next heq => cases heq
  · split at h
    · cases h
    · split at h <;> cases h
  · cases h
  · cases h

theorem cfPulseStart_starts {s : State} {x : Nat} (hx : x < s.energy.cf.length) (hrun : running s = true) (hon : cfOn s x = true)
    {i : Int} (hev : cfNext s (cfGet s x) = .start i) (hnew : (cfGet s x).lastStart ≠ some i) :
    cfPulseStart s x = cfPut s x (cfStart s { cfGet s x with queue := (cfGet s x).queue.tail } i) := by
  have hstop : cfStarted (cfGet s x) (cfGet (cfEvent s x) x) = true := by
    rw [cfEvent_start hev, cfGet_cfPut_self _ hx]
    exact decide_eq_true hnew
  rw [cfPulseStart, if_pos (by simp [hrun, hon]), cfFuel, cfUntil_next 95 (by simp [hev]) hstop, cfEvent_start hev]
  rfl

theorem cfPulseEnd_ends {s : State} {x : Nat} (hx : x < s.energy.cf.length) (hrun : running s = true) (hon : cfOn s x = true)
    (hev : cfNext s (cfGet s x) = .ends) : cfPulseEnd s x = cfPut s x { cfGet s x with high := false } := by
  have hstop : cfEnded (cfGet s x) (cfGet (cfEvent s x) x) = true := by
    rw [cfEvent_ends hev, cfGet_cfPut_self _ hx, cfEnded, high_of_cfNext_ends hev]
    rfl
  rw [cfPulseEnd, if_pos (by simp [hrun, hon]), cfFuel, cfUntil_next 95 (by simp [hev]) hstop, cfEvent_ends hev]
  rfl

/-- Settles O47: a pulse starts, a pulse ends, an output out of force rests. -/
theorem pulsesStartAndEnd : Obligations.PulsesStartAndEnd := by
  intro x s
  refine ⟨fun hrun hon hlen => ⟨fun i hev hnew => ?_, fun hev => ?_⟩, fun hoff => ⟨?_, ?_⟩⟩
  · have hx : x.val < s.energy.cf.length := by omega
    refine ⟨_, congrArg Host.Outcome.next (cfPulseStart_starts hx hrun hon hev hnew), ?_, ?_, ?_,
      fun y hy => cfGet_cfPut_other s _ hy, sameBut_cfPut s _ _⟩ <;> rw [cfGet_cfPut_self _ hx] <;> rfl
  · have hx : x.val < s.energy.cf.length := by omega
    refine ⟨_, congrArg Host.Outcome.next (cfPulseEnd_ends hx hrun hon hev), ?_, fun y hy => cfGet_cfPut_other s _ hy,
      sameBut_cfPut s _ _⟩
    rw [cfGet_cfPut_self _ hx]
  · exact congrArg Host.Outcome.next (if_neg (by simp [hoff]))
  · exact congrArg Host.Outcome.next (if_neg (by simp [hoff]))

end Sys2Proof.Machine

/-!
What operations that the NVM has held back leave alone as they go on (11 R245).
-/

namespace Sys2Proof.Machine

/-- Operations on the configuration path have gone on: NVM, the sequencer, the energy, the evidence, the records of the
Bureau and REC_FAIL are as they were, and REC_WRITTEN stays where it stands. -/
structure HeldServed (s t : State) : Prop where
  nvm : t.nvm = s.nvm
  seq : t.seq = s.seq
  bureau : ∃ ev chg, t.bureau = { s.bureau with events := ev, chgDone := chg }
  recFail : getReg t 0x70E = getReg s 0x70E
  rwf : Registers.wf s = true → Registers.wf t = true
  written : Registers.wf s = true → statusBit s srcRecWritten = true → statusBit t srcRecWritten = true
  energy : t.energy = s.energy
  evid : t.evid = s.evid

theorem HeldServed.refl (s : State) : HeldServed s s := ⟨rfl, rfl, ⟨_, _, rfl⟩, rfl, id, fun _ h => h, rfl, rfl⟩

theorem HeldServed.trans {s t u : State} (h : HeldServed s t) (k : HeldServed t u) : HeldServed s u where
  nvm := k.nvm.trans h.nvm
  seq := k.seq.trans h.seq
  bureau := by
    obtain ⟨ev, chg, hb⟩ := h.bureau
    obtain ⟨ev', chg', kb⟩ := k.bureau
    exact ⟨ev', chg', by rw [kb, hb]⟩
  recFail := k.recFail.trans h.recFail
  rwf := fun hw => k.rwf (h.rwf hw)
  written := fun hw hb => k.written (h.rwf hw) (h.written hw hb)
  energy := k.energy.trans h.energy
  evid := k.evid.trans h.evid

/-- A change of other parts. -/
theorem HeldServed.of_parts {s t : State} (hn : t.nvm = s.nvm) (hs : t.seq = s.seq)
    (hb : ∃ ev chg, t.bureau = { s.bureau with events := ev, chgDone := chg }) (hr : t.regs = s.regs) (ha : t.aon = s.aon)
    (hw : Registers.wf s = true → Registers.wf t = true) (he : t.energy = s.energy := by rfl)
    (hv : t.evid = s.evid := by rfl) : HeldServed s t where
  nvm := hn
  seq := hs
  bureau := hb
  recFail := by rw [getReg, getReg, hr, ha]
  rwf := hw
  written := fun _ h => by rw [statusBit, getReg, hr, ha]; exact h
  energy := he
  evid := hv

theorem HeldServed.setReg (s : State) {n : Nat} (v : Word) (h : n ≠ 0x70E) (h3 : n ≠ srcRecWritten / 20) :
    HeldServed s (setReg s n v) where
  nvm := setReg_nvm s n v
  seq := setReg_seq s n v
  bureau := ⟨s.bureau.events, s.bureau.chgDone, setReg_bureau s n v⟩
  recFail := getReg_setReg_other s n _ v (Ne.symm h)
  rwf := setReg_rwf n v
  written := fun _ hb => by rw [statusBit, getReg_setReg_other s n _ v (Ne.symm h3)]; exact hb
  energy := setReg_energy s n v
  evid := setReg_evid s n v

theorem HeldServed.raise (s : State) {src : Nat} (hr : isRetained (src / 20) = false) (h : src / 20 ≠ 0x70E) :
    HeldServed s (raise s src) where
  nvm := raise_nvm s src
  seq := raise_seq s src
  bureau := by
    obtain ⟨ev, he⟩ := BureauKept.raise s (src := src) hr
    exact ⟨ev, s.bureau.chgDone, he⟩
  recFail := getReg_raise_other s src _ (Ne.symm h)
  rwf := raise_rwf src
  written := fun hw hb => statusBit_raise_keeps hw hr hb
  energy := raise_energy s src
  evid := raise_evid s src

theorem segFault_served (s : State) (c va : Nat) (k : AccKind) (cause : Nat) (g : Option Nat) :
    HeldServed s (segFault s c va k cause g) := by
  rw [segFault]
  refine .trans ?_ (.raise _ (by decide) (by decide))
  refine .trans ?_ (.setReg _ (n := 0x68B) _ (by decide) (by decide))
  exact .trans (.setReg s (n := 0x689) (wd _) (by decide) (by decide)) (.setReg _ (n := 0x68A) _ (by decide) (by decide))

theorem cfgPut_served (s : State) (i : Nat) (b : Byte) : HeldServed s (cfgPut s i b) := by
  unfold cfgPut
  split
  · dsimp only
    split
    · exact .of_parts rfl rfl ⟨_, _, rfl⟩ rfl rfl id
    · exact .setReg s (n := 0x3C0) _ (by decide) (by decide)
  · exact .of_parts rfl rfl ⟨_, _, rfl⟩ rfl rfl id
  · exact .refl s

theorem cfgPuts_served (l : List Byte) (s : State) (i : Nat) : HeldServed s (cfgPuts s i l) := by
  induction l generalizing s i with
  | nil => exact .refl s
  | cons b r ih => exact .trans (cfgPut_served s i b) (ih _ _)

/-- An access on the configuration path ends OK or refused. -/
theorem localAccess_served (s : State) (req ctx : Nat) {a : Access} (h : usesSideboard a = false) :
    HeldServed s (localAccess s req ctx a).st ∧
      ((localAccess s req ctx a).status = stOk ∨ (localAccess s req ctx a).status = stSegFault) := by
  rw [usesSideboard] at h
  unfold localAccess
  split at h
  · cases h
  · split
    · exact ⟨.refl s, Or.inr rfl⟩
    · next hcap => exact absurd hcap (by simp_all)
    · dsimp only
      split
      · refine ⟨?_, Or.inl rfl⟩
        rw [drawNvm]
        split
        · exact .of_parts rfl rfl ⟨_, _, rfl⟩ rfl rfl id
        · exact .refl s
      · exact ⟨cfgPuts_served _ s _, Or.inl rfl⟩

theorem ports_served (s : State) (q : Ports) : HeldServed s { s with ports := q } :=
  .of_parts rfl rfl ⟨_, _, rfl⟩ rfl rfl id

theorem finishAt_served (s : State) (w : Waiting) (c : Nat) {st : Nat} (fs : List Field)
    (hq : st ≠ stBadCrc ∧ st ≠ stBadOpc ∧ st ≠ stBadLen) : HeldServed s (finishAt s w c st fs) := by
  obtain ⟨q, h⟩ := finishAt_ports s w c fs hq
  rw [h]
  exact ports_served s q

theorem portServe_served (s : State) (w : Waiting) {a : Access} (ctx va g look : Nat) (h : usesSideboard a = false) :
    HeldServed s (portServe s w a ctx va g look).1 := by
  obtain ⟨hacc, hst⟩ := localAccess_served s (portReq w.land.port) ctx h
  rw [portServe]
  dsimp only
  have hquiet : (localAccess s (portReq w.land.port) ctx a).status ≠ stBadCrc ∧
      (localAccess s (portReq w.land.port) ctx a).status ≠ stBadOpc ∧
      (localAccess s (portReq w.land.port) ctx a).status ≠ stBadLen := by
    rcases hst with hst | hst <;> rw [hst] <;> decide
  refine .trans ?_ (finishAt_served _ w _ _ hquiet)
  split
  · exact hacc.trans (segFault_served _ _ _ _ _ _)
  · exact hacc

theorem sendFrame_served (s : State) (f : TxFrame) : HeldServed s (sendFrame s f) := by
  unfold sendFrame
  split
  · exact .of_parts rfl rfl ⟨_, _, rfl⟩ rfl rfl id
  · exact .refl s

theorem remoteServe_served (s : State) {a : Access} (side : Side) (src : BitVec 2) (ltag : Byte)
    (h : usesSideboard a = false) : HeldServed s (remoteServe s a side src ltag).1 :=
  (localAccess_served s 6 8 h).1.trans (sendFrame_served _ _)

theorem raiseAt_served (s : State) (r : Nat) (op : MemOp) (c : Nat) : HeldServed s (raiseAt s r op c) := by
  have hm : ∀ m : Mem, HeldServed s { s with mem := m } := fun m => .of_parts rfl rfl ⟨_, _, rfl⟩ rfl rfl id
  unfold raiseAt
  split
  · split
    · exact hm _
    · exact .refl s
  · exact hm _

/-- An operation that goes on, at this part or as the Sideboard's request. -/
theorem placeOp_served {op : MemOp} {r : Nat} {a : Access} (h : heldParts op = some (r, a)) (s : State) (c : Nat) :
    HeldServed s (placeOp s r op a c) := by
  have hold : ∀ (t : State) (o : MemOp), HeldServed t (holdOp t o) := fun t o => ports_served t _
  unfold placeOp
  split
  · split
    · exact hold s op
    · exact raiseAt_served s r op c
  · next hboard =>
    have hcfg : usesSideboard a = false := by simpa using hboard
    split
    · split
      · exact (cfgPuts_served _ s _).trans (hold _ _)
      · cases op with
        | port w b ctx va g look =>
          cases h
          exact portServe_served s w ctx va g look hcfg
        | remote b side src ltag =>
          cases h
          exact remoteServe_served s side src ltag hcfg
        | _ => cases h
    · exact hold s op

theorem releaseHeld_served (s : State) : HeldServed s (releaseHeld s) := by
  rw [releaseHeld]
  refine List.foldlRecOn (motive := HeldServed s) _ _ (ports_served s _) ?_
  intro t ht op _
  split
  · next r a hparts => exact ht.trans (placeOp_served hparts t _)
  · exact ht

theorem showWindow_served (s : State) (p : PortId) : HeldServed s (showWindow s p) := by
  rw [showWindow]
  dsimp only
  split
  · exact .refl s
  · have hb : ∀ q, (putPort s p q).bureau = s.bureau := fun q => by cases p <;> rfl
    exact .of_parts (by cases p <;> rfl) (by cases p <;> rfl)
      ⟨s.bureau.events, setNth s.bureau.chgDone (portIx p) true, by dsimp only; rw [hb]⟩ (by cases p <;> rfl) (by cases p <;> rfl)
      (by cases p <;> exact id) (by cases p <;> rfl) (by cases p <;> rfl)

theorem showWindows_served (s : State) : HeldServed s (showWindows s) := by
  refine List.foldlRecOn (motive := HeldServed s) _ _ (.refl s) ?_
  exact fun t ht p _ => ht.trans (showWindow_served t p)

/-! ### With nothing held back -/

theorem releaseHeld_empty {s : State} (h : s.ports.held = []) : releaseHeld s = s := by
  rw [releaseHeld, h]
  show { s with ports := { s.ports with held := [] } } = s
  rw [← h]

theorem showWindow_frame (s : State) (p : PortId) :
    sameBut [.ports, .bureau] s (showWindow s p) ∧ (showWindow s p).ports.held = s.ports.held := by
  rw [showWindow]
  dsimp only
  split
  · exact ⟨sameBut_refl _ s, rfl⟩
  · refine ⟨?_, by cases p <;> rfl⟩
    exact sameBut_trans (sameBut_mono (sameBut_putPort s p _) (by decide)) (sameBut_mono (sameBut_bureau _ _) (by decide))

theorem showWindows_frame (s : State) :
    sameBut [.ports, .bureau] s (showWindows s) ∧ (showWindows s).ports.held = s.ports.held := by
  refine List.foldlRecOn (motive := fun t => sameBut [.ports, .bureau] s t ∧ t.ports.held = s.ports.held) _ _
    ⟨sameBut_refl _ s, rfl⟩ ?_
  intro t ht p _
  obtain ⟨hframe, hheld⟩ := ht
  obtain ⟨pframe, pheld⟩ := showWindow_frame t p
  exact ⟨sameBut_trans hframe pframe, pheld.trans hheld⟩

/-! ### The end of an NVM operation -/

/-- Nothing is in progress in NVM. -/
def nvmFree (s : State) : State := { s with nvm := { s.nvm with op := none } }

theorem nvmEnded_served {s : State} (hg : s.seq.st ≠ .gasp) : HeldServed (nvmFree s) (nvmEnded s) := by
  have hnot : inGasp (nvmFree s) = false := decide_eq_false hg
  have heq : nvmEnded s = releaseHeld (showWindows (nvmFree s)) := by
    rw [nvmEnded, ← nvmFree, if_neg (by simp [hnot])]
  rw [heq]
  exact (showWindows_served _).trans (releaseHeld_served _)

theorem nvmEnded_frame {s : State} (hg : s.seq.st ≠ .gasp) (hheld : s.ports.held = []) :
    sameBut [.nvm, .ports, .bureau] s (nvmEnded s) := by
  have hnot : inGasp (nvmFree s) = false := decide_eq_false hg
  obtain ⟨hframe, hkept⟩ := showWindows_frame (nvmFree s)
  have heq : nvmEnded s = showWindows (nvmFree s) := by
    rw [nvmEnded, ← nvmFree, if_neg (by simp [hnot]), releaseHeld_empty (hkept.trans hheld)]
  rw [heq]
  exact sameBut_trans (sameBut_mono (sameBut_nvm s (nvmFree s).nvm) (by decide)) (sameBut_mono hframe (by decide))

theorem nvmEnded_gasp {s : State} (hg : s.seq.st = .gasp) : nvmEnded s = orReg (nvmFree s) 0x118 1 := by
  rw [nvmEnded, ← nvmFree, if_pos (show inGasp (nvmFree s) = true from decide_eq_true hg)]

end Sys2Proof.Machine

/-!
Records close, the hour rolls, and what the Bureau programs (12 R265 to R274; O48).
-/

namespace Sys2Proof.Machine

/-! ### Coalescing and the hour -/

theorem coalesceRow {s u : State} (hu : runAll s = u) (h : coalesceDue u = true) :
    exec .coalesceTimeout s = .next (mark (closeOpen u) .coalesce) := by
  subst hu
  exact congrArg Host.Outcome.next ((boundaryEvent_due (due := coalesceDue) h).trans (if_pos h))

theorem closeOpen_held {u : State} {r : BRec} (h : u.bureau.open_ = some r) (hroom : u.bureau.queue.length < 4)
    (hst : u.bureau.staged = []) (hto : u.bureau.toStage = []) :
    closeOpen u = { u with bureau := { u.bureau with open_ := none, queue := u.bureau.queue ++ [r] } } := by
  rw [closeOpen, h]
  exact if_pos ⟨hroom, hst, hto⟩

/-- The time base stands as it is. -/
def ClockKept (s t : State) : Prop := t.bureau.soh = s.bureau.soh ∧ t.bureau.hours = s.bureau.hours

theorem ClockKept.trans {s t u : State} (h : ClockKept s t) (k : ClockKept t u) : ClockKept s u :=
  ⟨k.1.trans h.1, k.2.trans h.2⟩

theorem recLost_clock (s : State) : ClockKept s (recLost s) := by
  obtain ⟨ev, h⟩ := BureauKept.raise (addReg s 0x70C 1) (src := srcRecLoss) (by decide)
  rw [ClockKept, recLost, h, addReg_bureau]
  exact ⟨rfl, rfl⟩

theorem enqueueRec_clock (s : State) (r : BRec) : ClockKept s (enqueueRec s r) := by
  unfold enqueueRec
  dsimp only
  split
  · exact ⟨rfl, rfl⟩
  · split
    · exact recLost_clock s
    · rw [ClockKept, raiseReq_bureau]
      exact ⟨rfl, rfl⟩

theorem closeOpen_clock (s : State) : ClockKept s (closeOpen s) := by
  unfold closeOpen
  split
  · exact enqueueRec_clock _ _
  · exact ⟨rfl, rfl⟩

theorem openRecord_clock (s : State) (e : BEvent) : ClockKept s (openRecord s e) := by
  unfold openRecord
  dsimp only
  refine (closeOpen_clock s).trans ?_
  split
  · exact enqueueRec_clock _ _
  · split
    · exact closeOpen_clock _
    · exact ⟨rfl, rfl⟩

theorem makeSummaries_clock (s : State) : ClockKept s (makeSummaries s) := by
  rw [makeSummaries]
  refine List.foldlRecOn (motive := ClockKept s) _ _ ⟨rfl, rfl⟩ ?_
  intro t ht g _
  dsimp only
  split
  · exact ht
  · exact ht.trans (openRecord_clock t _)

theorem coalesceOp_clock (s : State) : ClockKept s (coalesceOp s) := by
  unfold coalesceOp
  split
  · exact closeOpen_clock s
  · exact ⟨rfl, rfl⟩

/-- The time base goes to the next hour, where it has not advanced yet. -/
theorem timeAdvance_rolls {u : State} (h : hourRolls u = true) (hd : did u .timeBase = false) :
    (timeAdvance u).bureau.soh = 0 ∧ (timeAdvance u).bureau.hours = satInc u.bureau.hours 0xFFFFF := by
  obtain ⟨⟨hrun, hsec⟩, hhour⟩ : (running u = true ∧ 8000 ≤ u.bureau.units + tickUnits u) ∧ 3599 ≤ u.bureau.soh := by
    simpa [hourRolls, secondRolls, hd] using h
  rw [timeAdvance, if_neg (by simp [hd, hrun])]
  dsimp only
  rw [if_neg (by omega)]
  exact ⟨if_pos (decide_eq_true hhour), if_pos (decide_eq_true hhour)⟩

/-- The hour's row, as it stands on the tick that ends. -/
def hourRolled (u : State) : State := mark (makeSummaries (coalesceOp (timeAdvance u))) .hour

theorem hourRow {s u : State} (hu : runAll s = u) (h : hourRolls u = true) (hd : did u .hour = false) :
    exec .hourRoll s = .next (hourRolled u) := by
  subst hu
  have hop : hourRollOp (runAll s) = hourRolled (runAll s) := if_neg (by simp [h, hd])
  have hdone : did (hourRollOp (runAll s)) .hour = true := by
    rw [hop]
    exact did_mark_self _ .hour
  exact congrArg Host.Outcome.next ((boundaryEvent_due (due := fun t => did (hourRollOp t) .hour && !did t .hour)
    (by simp [hdone, hd])).trans hop)

theorem hourRolled_effect {u : State} (h : hourRolls u = true) :
    did (hourRolled u) .hour = true ∧ (hourRolled u).bureau.opened = List.replicate 32 0 ∧
      (hourRolled u).bureau.suppressed = List.replicate 32 0 ∧
      (did u .timeBase = false →
        (hourRolled u).bureau.soh = 0 ∧ (hourRolled u).bureau.hours = satInc u.bureau.hours 0xFFFFF) := by
  refine ⟨did_mark_self _ .hour, rfl, rfl, fun hd => ?_⟩
  obtain ⟨hsoh, hhours⟩ := (coalesceOp_clock (timeAdvance u)).trans (makeSummaries_clock _)
  obtain ⟨hz, hn⟩ := timeAdvance_rolls h hd
  exact ⟨(hsoh.trans hz :), (hhours.trans hn :)⟩

/-! ### How an NVM operation ends -/

/-- A program or an erase has ended: NVM holds what it held, and of the Bureau and the sequencer only what the next
operation needs has changed. -/
structure ProgramEnded (v t : State) : Prop where
  data : t.nvm.data = v.nvm.data
  seq : t.seq = v.seq
  bureau : ∃ ev chg er, t.bureau = { v.bureau with events := ev, chgDone := chg, erasing := er }
  recFail : getReg t 0x70E = getReg v 0x70E
  written : Registers.wf v = true → statusBit v srcRecWritten = true → statusBit t srcRecWritten = true
  frame : v.ports.held = [] → sameBut [.nvm, .bureau, .ports, .aon] v t
  awake : v.ports.held = [] → v.seq.st ≠ .gasp → sameBut [.nvm, .bureau, .ports] v t

theorem nvmEnded_bureau (v : State) : ∃ ev chg, (nvmEnded v).bureau = { v.bureau with events := ev, chgDone := chg } := by
  by_cases hg : v.seq.st = .gasp
  · rw [nvmEnded_gasp hg]
    exact ⟨v.bureau.events, v.bureau.chgDone, orReg_bureau (nvmFree v) _ _⟩
  · exact (nvmEnded_served hg).bureau

theorem nvmEnded_program (v : State) : ProgramEnded v (nvmEnded v) := by
  by_cases hg : v.seq.st = .gasp
  · have hframe : sameBut [.nvm, .aon] v (orReg (nvmFree v) 0x118 1) :=
      sameBut_trans (sameBut_mono (sameBut_nvm v (nvmFree v).nvm) (by decide))
        (sameBut_mono (orReg_frame_retained (nvmFree v) _ (by decide)) (by decide))
    rw [nvmEnded_gasp hg]
    refine ⟨(congrArg Nvm.data (orReg_nvm (nvmFree v) _ _) :), orReg_seq _ _ _,
      ⟨v.bureau.events, v.bureau.chgDone, v.bureau.erasing, orReg_bureau (nvmFree v) _ _⟩,
      getReg_setReg_other (nvmFree v) _ _ _ (by decide), fun _ h => ?_, fun _ => sameBut_mono hframe (by decide),
      fun _ h => absurd hg h⟩
    rw [statusBit, orReg, getReg_setReg_other (nvmFree v) _ _ _ (by decide)]
    exact h
  · have hserved := nvmEnded_served hg
    obtain ⟨ev, chg, hb⟩ := hserved.bureau
    have hframe : v.ports.held = [] → sameBut [.nvm, .bureau, .ports] v (nvmEnded v) := fun hh =>
      sameBut_mono (nvmEnded_frame hg hh) (by decide)
    exact ⟨(congrArg Nvm.data hserved.nvm :), hserved.seq, ⟨ev, chg, v.bureau.erasing, hb⟩, hserved.recFail, hserved.written,
      fun hh => sameBut_mono (hframe hh) (by decide), fun hh _ => hframe hh⟩

/-- The next erase has begun at once. -/
theorem nvmBegin_program {v t : State} {n : Nvm} {er : Bool} (hd : n.data = v.nvm.data)
    (h : t = { v with nvm := n, bureau := { v.bureau with erasing := er } }) : ProgramEnded v t := by
  subst h
  have hn : sameBut [.nvm, .bureau, .ports] v { v with nvm := n } := sameBut_mono (sameBut_nvm v n) (by decide)
  have hframe : sameBut [.nvm, .bureau, .ports] v { v with nvm := n, bureau := { v.bureau with erasing := er } } :=
    sameBut_trans hn (sameBut_mono (sameBut_bureau _ _) (by decide))
  exact ⟨hd, rfl, ⟨v.bureau.events, v.bureau.chgDone, er, rfl⟩, rfl, fun _ h => h,
    fun _ => sameBut_mono hframe (by decide), fun _ _ => hframe⟩

theorem nvmFollow_awake {v : State} (op : NvmOp) (hg : v.seq.st ≠ .gasp) : nvmFollow v op = nvmBegin (nvmFree v) op :=
  if_neg (by simp [inGasp, hg])

theorem nvmFollow_bureauErase (v : State) (k : Nat) : ProgramEnded v (nvmFollow v (.bureauErase k)) := by
  by_cases hg : v.seq.st = .gasp
  · rw [show nvmFollow v (.bureauErase k) = nvmEnded v from if_pos (decide_eq_true hg)]
    exact nvmEnded_program v
  · rw [nvmFollow_awake _ hg]
    exact nvmBegin_program (n := (nvmBegin (nvmFree v) (.bureauErase k)).nvm) (er := true) rfl rfl

theorem nvmFollow_timeErase (v : State) (k : Nat) : ProgramEnded v (nvmFollow v (.timeErase k)) := by
  by_cases hg : v.seq.st = .gasp
  · rw [show nvmFollow v (.timeErase k) = nvmEnded v from if_pos (decide_eq_true hg)]
    exact nvmEnded_program v
  · rw [nvmFollow_awake _ hg]
    exact nvmBegin_program (n := (nvmBegin (nvmFree v) (.timeErase k)).nvm) (er := v.bureau.erasing) rfl rfl

/-- A sector erased reads 0xFF, and the rest as before. -/
theorem sget_nvmErase (s : State) (i n k : Nat) :
    sget erasedByte (nvmErase s i n).nvm.data k = if i ≤ k ∧ k < i + n then 0xFF else sget erasedByte s.nvm.data k := by
  rw [nvmErase, sget_sfilter]
  by_cases h : i ≤ k ∧ k < i + n
  · rw [if_pos h, if_neg (by simp; omega)]
    rfl
  · rw [if_neg h, if_pos (by simp; omega)]

theorem nvmErase_frame (s : State) (i n : Nat) : sameBut [.nvm] s (nvmErase s i n) := sameBut_nvm s _

/-! ### Records -/

/-- The program of slot `k` has ended, its bytes in NVM. -/
def slotEnded (t : State) (k : Nat) : State :=
  { t with bureau := { t.bureau with writing := false, nextSlot := (k + 1) % 1024 } }

/-- The program of slot `k` has ended, and the next record is at the head of the queue. -/
def recordStands (t : State) (k : Nat) (rest : List BRec) : State :=
  { t with bureau := { t.bureau with writing := false, nextSlot := (k + 1) % 1024, queue := rest } }

/-- The record in slot `k` has verified, and leaves the head of the queue. -/
def recordSaved (t : State) (k : Nat) (rest : List BRec) : State := stageMore (raise (recordStands t k rest) srcRecWritten)

/-- The record in slot `k` has not verified. -/
def recordFailed (s : State) (k : Nat) (r : BRec) : State :=
  addReg (slotEnded (programmed s (recSlotAt k) (recBytes r) false) k) 0x70E 1

/-- The first slot of a sector begins the erase of the next. -/
def recordFollowed (v : State) (k : Nat) : State :=
  if k % 32 = 0 then nvmFollow v (.bureauErase ((k / 32 + 1) % 32)) else nvmEnded v

theorem recordFollowed_program (v : State) (k : Nat) : ProgramEnded v (recordFollowed v k) := by
  rw [recordFollowed]
  split
  · exact nvmFollow_bureauErase v _
  · exact nvmEnded_program v

theorem recordDoneOp_saved {s : State} {k : Nat} {r : BRec} {rest : List BRec} (ho : s.nvm.op = some (.bureauProg k))
    (hq : s.bureau.queue = r :: rest) :
    recordDoneOp s true = recordFollowed (recordSaved (nvmPut s (recSlotAt k) (recBytes r)) k rest) k := by
  rw [recordDoneOp, ho, hq, show nvmPut s (recSlotAt k) (recBytes r) = programmed s (recSlotAt k) (recBytes r) true from rfl]
  dsimp only
  generalize programmed s (recSlotAt k) (recBytes r) true = t
  rfl

theorem recordDoneOp_failed {s : State} {k : Nat} {r : BRec} {rest : List BRec} (ho : s.nvm.op = some (.bureauProg k))
    (hq : s.bureau.queue = r :: rest) : recordDoneOp s false = recordFollowed (recordFailed s k r) k := by
  rw [recordDoneOp, ho, hq]
  rfl

theorem stageMore_mem (s : State) : ∃ m, stageMore s = { s with mem := m } := by
  unfold stageMore raiseReq raiseAt
  split
  · split
    · split
      · exact ⟨_, rfl⟩
      · exact ⟨_, rfl⟩
    · exact ⟨_, rfl⟩
  · exact ⟨_, rfl⟩

/-- A record's place in NVM is told, and staging goes on. -/
theorem recWritten_told (u : State) :
    let v := stageMore (raise u srcRecWritten)
    (∃ ev, v.bureau = { u.bureau with events := ev }) ∧ v.nvm = u.nvm ∧ v.seq = u.seq ∧ v.ports = u.ports ∧
      (coreOn u = true → Registers.wf u = true → Registers.wf v = true ∧ statusBit v srcRecWritten = true) ∧
      sameBut [.bureau, .regs, .mem] u v := by
  obtain ⟨m, hm⟩ := stageMore_mem (raise u srcRecWritten)
  dsimp only
  rw [hm]
  refine ⟨BureauKept.raise u (by decide), raise_nvm u _, raise_seq u _, raise_ports u _, fun hon hw => ⟨?_, ?_⟩, ?_⟩
  · exact raise_rwf (s := u) srcRecWritten hw
  · exact statusBit_raise_wf (s := u) (by decide) hon hw
  · exact sameBut_trans (sameBut_mono (raise_frame u (by decide)) (by decide)) (sameBut_mono (sameBut_mem _ m) (by decide))

theorem recordSaved_effect (t : State) (k : Nat) (rest : List BRec) :
    let v := recordSaved t k rest
    (∃ ev, v.bureau = { t.bureau with writing := false, nextSlot := (k + 1) % 1024, queue := rest, events := ev }) ∧
      v.nvm = t.nvm ∧ v.seq = t.seq ∧ v.ports = t.ports ∧
      (coreOn t = true → Registers.wf t = true → Registers.wf v = true ∧ statusBit v srcRecWritten = true) ∧
      sameBut [.bureau, .regs, .mem] t v := by
  obtain ⟨hb, hn, hs, hp, ht, hf⟩ := recWritten_told (recordStands t k rest)
  exact ⟨hb, hn, hs, hp, ht, sameBut_trans (sameBut_mono (sameBut_bureau t _) (by decide)) hf⟩

theorem programmed_failed (s : State) (i : Nat) (b : List Byte) :
    ∃ n f, programmed s i b false = { s with nvm := n, free := f } := ⟨_, _, rfl⟩

theorem sameBut_programmed (s : State) (n : Nvm) (f : Nat) (b : Bureau) :
    sameBut [.nvm, .bureau] s { s with nvm := n, free := f, bureau := b } := by
  intro p hp
  cases p <;> simp_all [Part.same]

/-- One more program has failed. -/
theorem recFail_counted (u : State) :
    (addReg u 0x70E 1).bureau = u.bureau ∧ (addReg u 0x70E 1).seq = u.seq ∧ (addReg u 0x70E 1).ports = u.ports ∧
      (Registers.wf u = true → getReg (addReg u 0x70E 1) 0x70E = wd (min (regN u 0x70E + 1) 0xFFFFF)) ∧
      sameBut [.regs] u (addReg u 0x70E 1) :=
  ⟨addReg_bureau u _ _, addReg_seq u _ _, addReg_ports u _ _, fun hw => getReg_incReg 0x70E hw,
    setReg_frame_regs u _ (by decide)⟩

theorem recordFailed_effect (s : State) (k : Nat) (r : BRec) :
    let v := recordFailed s k r
    v.bureau = { s.bureau with writing := false, nextSlot := (k + 1) % 1024 } ∧ v.seq = s.seq ∧ v.ports = s.ports ∧
      (Registers.wf s = true → getReg v 0x70E = wd (min (regN s 0x70E + 1) 0xFFFFF)) ∧
      sameBut [.nvm, .bureau, .regs] s v := by
  obtain ⟨n, f, hp⟩ := programmed_failed s (recSlotAt k) (recBytes r)
  obtain ⟨hb, hs, hq, hc, hf⟩ := recFail_counted (slotEnded { s with nvm := n, free := f } k)
  intro v
  have hv : v = addReg (slotEnded { s with nvm := n, free := f } k) 0x70E 1 := by
    show recordFailed s k r = _
    rw [recordFailed, hp]
  rw [hv]
  exact ⟨hb, hs, hq, hc, sameBut_trans (sameBut_mono (sameBut_programmed s n f _) (by decide))
    (sameBut_mono hf (by decide))⟩

/-- What follows a record that has verified in slot `k`, where its program has left NVM as in `p`. -/
theorem recordFollowed_saved {s p : State} {d : List (Nat × Byte)} (k : Nat) (rest : List BRec) (hg : s.seq.st ≠ .gasp)
    (hput : sameBut [.nvm] s p) (hdata : p.nvm.data = d) (hwf : Registers.wf s = true → Registers.wf p = true)
    {t : State} (ht : recordFollowed (recordSaved p k rest) k = t) :
    t.bureau.queue = rest ∧ t.bureau.nextSlot = (k + 1) % 1024 ∧ t.bureau.writing = false ∧ t.nvm.data = d ∧
      (k % 32 = 0 → t.nvm.op = some (.bureauErase ((k / 32 + 1) % 32))) ∧
      (coreOn s = true → Registers.wf s = true → statusBit t srcRecWritten = true) ∧
      (s.ports.held = [] → sameBut [.nvm, .bureau, .regs, .ports, .mem] s t) := by
  obtain ⟨⟨ev, hb⟩, hn, hs, hp, htold, hf⟩ := recordSaved_effect p k rest
  generalize recordSaved p k rest = v at hb hn hs hp htold hf ht
  have hseq : p.seq = s.seq := hput .seq (by decide)
  have hports : p.ports = s.ports := hput .ports (by decide)
  have hend : ProgramEnded v t := ht ▸ recordFollowed_program v k
  have hg' : v.seq.st ≠ .gasp := by rw [hs, hseq]; exact hg
  obtain ⟨ev', chg, er, hb'⟩ := hend.bureau
  rw [hb', hb]
  refine ⟨rfl, rfl, rfl, ?_, fun hk => ?_, fun hon hw => ?_, fun hheld => ?_⟩
  · rw [hend.data, hn, hdata]
  · rw [← ht, recordFollowed, if_pos hk, nvmFollow_awake _ hg']
    rfl
  · obtain ⟨hw', hset⟩ := htold (by rw [coreOn, hseq]; exact hon) (hwf hw)
    exact hend.written hw' hset
  · refine sameBut_trans (sameBut_mono hput (by decide)) (sameBut_trans (sameBut_mono hf (by decide)) ?_)
    exact sameBut_mono (hend.awake (by rw [hp, hports]; exact hheld) hg') (by decide)

/-! ### Time-store entries -/

/-- The entry of place `k` has been programmed, or its verify has failed and it is due again. -/
def timeEntered (t : State) (k : Nat) (ok : Bool) : State :=
  { t with
    bureau := { t.bureau with
      tsNext := (k + 1) % 128, tsSeq := if ok then (t.bureau.tsSeq + 1) % 1048576 else t.bureau.tsSeq
      tsDue := t.bureau.tsDue + b2n (!ok) }
    seq := { t.seq with stopped := t.seq.stopped || (ok && t.seq.stopping && decide (t.bureau.tsDue = 0)) } }

/-- The first place of a half begins the erase of the other. -/
def timeFollowed (u : State) (k : Nat) : State :=
  if k % 64 = 0 then nvmFollow u (.timeErase (1 - k / 64)) else nvmEnded u

theorem timeFollowed_program (u : State) (k : Nat) : ProgramEnded u (timeFollowed u k) := by
  rw [timeFollowed]
  split
  · exact nvmFollow_timeErase u _
  · exact nvmEnded_program u

theorem timeStoreOp_ends {s : State} {k : Nat} {b : List Byte} (ho : s.nvm.op = some (.timeProg k b)) (ok : Bool) :
    timeStoreOp s ok = timeFollowed (timeEntered (programmed s (timeAt k) b ok) k ok) k := by
  rw [timeStoreOp, ho]
  dsimp only
  generalize programmed s (timeAt k) b ok = t
  rfl

theorem timeEntered_frame (t : State) (k : Nat) (ok : Bool) : sameBut [.bureau, .seq] t (timeEntered t k ok) :=
  sameBut_trans (sameBut_mono (sameBut_bureau t (timeEntered t k ok).bureau) (by decide))
    (sameBut_mono (sameBut_seq _ _) (by decide))

theorem sameBut_nvm_free (s : State) (n : Nvm) (f : Nat) : sameBut [.nvm] s { s with nvm := n, free := f } := by
  intro p hp
  cases p <;> simp_all [Part.same]

theorem programmed_frame (s : State) (i : Nat) (b : List Byte) (ok : Bool) :
    sameBut [.nvm] s (programmed s i b ok) ∧ (programmed s i b ok).bureau = s.bureau ∧
      (programmed s i b ok).seq = s.seq ∧ (programmed s i b ok).ports = s.ports := by
  cases ok with
  | true => exact ⟨nvmPut_frame s i b, rfl, rfl, rfl⟩
  | false => exact ⟨sameBut_nvm_free s _ _, rfl, rfl, rfl⟩

/-- What a time-store entry leaves, verified or not. -/
theorem timeStoreOp_effect {s : State} {k : Nat} {b : List Byte} (ho : s.nvm.op = some (.timeProg k b)) (ok : Bool) :
    let t := timeStoreOp s ok
    t.bureau.tsNext = (k + 1) % 128 ∧
      t.bureau.tsSeq = (if ok then (s.bureau.tsSeq + 1) % 1048576 else s.bureau.tsSeq) ∧
      t.bureau.tsDue = s.bureau.tsDue + b2n (!ok) ∧ (ok = false → t.seq.stopped = s.seq.stopped) ∧
      (ok = true → t.nvm.data = sputs erasedByte s.nvm.data (timeAt k) b) ∧
      (s.ports.held = [] → sameBut [.nvm, .bureau, .seq, .aon, .ports] s t) := by
  obtain ⟨hframe, hbur, hseq, hports⟩ := programmed_frame s (timeAt k) b ok
  have hdata : ok = true → (programmed s (timeAt k) b ok).nvm.data = sputs erasedByte s.nvm.data (timeAt k) b := by
    rintro rfl
    exact nvmPut_data s _ b
  dsimp only
  rw [timeStoreOp_ends ho]
  generalize programmed s (timeAt k) b ok = p at hframe hbur hseq hports hdata
  have hend := timeFollowed_program (timeEntered p k ok) k
  obtain ⟨ev, chg, er, hb⟩ := hend.bureau
  rw [hb, hend.seq, ← hbur]
  refine ⟨rfl, rfl, rfl, fun hno => ?_, fun hok => hend.data.trans (hdata hok), fun hheld => ?_⟩
  · subst hno
    show (p.seq.stopped || (false && p.seq.stopping && decide (p.bureau.tsDue = 0))) = s.seq.stopped
    simp [hseq]
  · refine sameBut_trans (sameBut_mono hframe (by decide)) ?_
    refine sameBut_trans (sameBut_mono (timeEntered_frame p k ok) (by decide)) ?_
    exact sameBut_mono (hend.frame ((congrArg Ports.held hports).trans hheld)) (by decide)

/-! ### Erases -/

/-- An erase of the Bureau's has ended. -/
def eraseEnded (s : State) (i n : Nat) (er : Bool) : State :=
  { nvmErase s i n with bureau := { s.bureau with erasing := er } }

theorem eraseEnded_effect (s : State) (i n : Nat) (er : Bool) :
    let t := nvmEnded (eraseEnded s i n er)
    (s.ports.held = [] → sameBut [.nvm, .bureau, .aon, .ports] s t) ∧
      ∀ k, sget erasedByte t.nvm.data k = if i ≤ k ∧ k < i + n then 0xFF else sget erasedByte s.nvm.data k := by
  have hend := nvmEnded_program (eraseEnded s i n er)
  refine ⟨fun hheld => ?_, fun k => ?_⟩
  · refine sameBut_trans (sameBut_mono (nvmErase_frame s i n) (by decide)) ?_
    have hbur : sameBut [.bureau] (nvmErase s i n) (eraseEnded s i n er) := sameBut_bureau _ _
    exact sameBut_trans (sameBut_mono hbur (by decide)) (sameBut_mono (hend.frame hheld) (by decide))
  · rw [hend.data]
    exact sget_nvmErase s i n k

/-- Settles O48: records close and hours roll, and the Bureau's programs and erases end. -/
theorem bureauClosesAndPrograms : Obligations.BureauClosesAndPrograms := by
  refine ⟨fun s => ?_, fun k s => ⟨fun r rest ho hq hg => ⟨?_, ?_⟩, fun ho => ?_, fun b ho => ⟨?_, ?_⟩, fun ho => ?_⟩⟩
  · intro u
    refine ⟨fun hdue r hopen => ?_, fun hroll hnot => ?_⟩
    · refine ⟨_, coalesceRow (u := u) rfl hdue, (closeOpen_bureau u).1, did_mark_self _ .coalesce, fun hroom hst hto => ?_⟩
      rw [closeOpen_held hopen hroom hst hto]
      exact ⟨rfl, sameBut_trans (sameBut_mono (sameBut_bureau u _) (by decide)) (sameBut_mono (mark_frame _ _) (by decide))⟩
    · exact ⟨_, hourRow (u := u) rfl hroll hnot, hourRolled_effect hroll⟩
  · exact ⟨_, congrArg Host.Outcome.next (recordDoneOp_saved ho hq), 
      recordFollowed_saved k rest hg (nvmPut_frame s _ _) (nvmPut_data s _ _) id rfl⟩
  · obtain ⟨hb, hs, hp, hc, hf⟩ := recordFailed_effect s k r
    have hnext : exec (.recordProgramDone false) s = .next _ := congrArg Host.Outcome.next (recordDoneOp_failed ho hq)
    generalize recordFailed s k r = v at hb hs hp hc hf hnext
    have hend := recordFollowed_program v k
    have hg' : v.seq.st ≠ .gasp := by rw [hs]; exact hg
    obtain ⟨ev', chg, er, hb'⟩ := hend.bureau
    refine ⟨_, hnext, ?_, ?_, fun hw => hend.recFail.trans (hc hw), fun hheld => ?_⟩
    · rw [hb', hb]
      exact hq
    · rw [hb', hb]
    · exact sameBut_trans (sameBut_mono hf (by decide))
        (sameBut_mono (hend.awake ((congrArg Ports.held hp).trans hheld) hg') (by decide))
  · have hnext : bureauEraseDoneOp s = nvmEnded (eraseEnded s (recSlotAt (32 * k)) 1024 false) := by
      rw [bureauEraseDoneOp, ho]
      rfl
    obtain ⟨ev, chg, hb⟩ := nvmEnded_bureau (eraseEnded s (recSlotAt (32 * k)) 1024 false)
    exact ⟨_, congrArg Host.Outcome.next hnext, (congrArg Bureau.erasing hb :), eraseEnded_effect s _ 1024 false⟩
  · obtain ⟨hnx, hsq, hdue, -, hdata, hf⟩ := timeStoreOp_effect ho true
    exact ⟨_, rfl, hnx, hsq, hdue, hdata rfl, hf⟩
  · obtain ⟨hnx, hsq, hdue, hst, -, hf⟩ := timeStoreOp_effect ho false
    exact ⟨_, rfl, hnx, hsq, hdue, hst rfl, hf⟩
  · have hnext : timeEraseDoneOp s = nvmEnded (eraseEnded s (timeAt (64 * k)) 1024 s.bureau.erasing) := by
      rw [timeEraseDoneOp, ho]
      rfl
    exact ⟨_, congrArg Host.Outcome.next hnext, eraseEnded_effect s _ 1024 _⟩

end Sys2Proof.Machine

/-!
What sensing a tamper event does (13 R290 to R295).
-/

namespace Sys2Proof.Machine

/-- What PD0 has measured, and the failures and the lock it keeps. -/
def measured (a : Aon) : Nat × Nat × BitVec 7 × Option Nat × Int × List Nat × Option Nat :=
  (a.loop0, a.loop1, a.cond, a.slowBack, a.tempC, a.fails, a.lockUntil)

/-- The registers that sensing writes besides the class's count: TAMP_QUALIFIED, TAMP_SENSED, the counts of erasures and of lost
entries, and the status registers. -/
def sensedRegs : List Nat :=
  [0x783, 0x784, 0x798, 0x7A3, srcCupboardErased / 20, srcTampQualified / 20, srcTampSense / 20, srcEvidence / 20]

/-- An event has been sensed, or qualified: what PD0 has measured stands, the shadows of the flags and of the failures
agree where they did, a key that is erased stays erased, and the registers but those of `sensedRegs` read as before. -/
structure TamperKept (s t : State) : Prop where
  frame : sameBut [.regs, .aon, .bureau, .evid, .ports] s t
  measured : measured t.aon = measured s.aon
  flags : s.aon.flagShadow = ~~~(authFlags s) → t.aon.flagShadow = ~~~(authFlags t)
  history : s.aon.failShadow = inverse s.aon.fails → t.aon.failShadow = inverse t.aon.fails
  erased : s.aon.key0 = none ∧ s.aon.key1 = none → t.aon.key0 = none ∧ t.aon.key1 = none
  regs : ∀ n, n ∉ sensedRegs → getReg t n = getReg s n
  rwf : Registers.wf s = true → Registers.wf t = true

namespace TamperKept

variable {s t u : State}

theorem refl (s : State) : TamperKept s s := ⟨sameBut_refl _ s, rfl, id, id, id, fun _ _ => rfl, id⟩

theorem trans (h : TamperKept s t) (k : TamperKept t u) : TamperKept s u where
  frame := sameBut_trans h.frame k.frame
  measured := k.measured.trans h.measured
  flags := fun hf => k.flags (h.flags hf)
  history := fun hf => k.history (h.history hf)
  erased := fun hk => k.erased (h.erased hk)
  regs := fun n hn => (k.regs n hn).trans (h.regs n hn)
  rwf := fun hw => k.rwf (h.rwf hw)

/-- A change of PD0's registers and of its notes of events alone. -/
theorem of_aon (hframe : sameBut [.regs, .aon, .bureau, .evid, .ports] s t) {r h q hs hq d e}
    (ha : t.aon = { s.aon with regs := r, hist := h, sinceQual := q, heldSense := hs, heldQual := hq, darkLost := d, evQueue := e })
    (hregs : ∀ n, n ∉ sensedRegs → getReg t n = getReg s n) (hw : Registers.wf s = true → Registers.wf t = true) :
    TamperKept s t where
  frame := hframe
  measured := by rw [ha]; rfl
  flags := fun hf => by rw [authFlags, locked, ha]; exact hf
  history := fun hf => by rw [ha]; exact hf
  erased := fun hk => by rw [ha]; exact hk
  regs := hregs
  rwf := hw

/-- PD0's notes of events change. -/
theorem notes (s : State) (h : List (List Nat)) (q hs : List Nat) (hq : List (Option (Nat × Nat × Bool))) :
    TamperKept s { s with aon := { s.aon with hist := h, sinceQual := q, heldSense := hs, heldQual := hq } } :=
  .of_aon (sameBut_mono (sameBut_aon s _) (by decide)) rfl (fun _ _ => rfl) id

theorem setReg (s : State) {n : Nat} (v : Word) (hn : n ∈ sensedRegs) : TamperKept s (setReg s n v) :=
  .of_aon (sameBut_mono (setReg_frame s n v) (by decide)) (setReg_aon s n v)
    (fun m hm => getReg_setReg_other s n m v (fun he => hm (he ▸ hn))) (setReg_rwf n v)

theorem raise (s : State) {src : Nat} (hn : src / 20 ∈ sensedRegs) : TamperKept s (raise s src) :=
  .of_aon (sameBut_mono (raise_frame_any s src) (by decide)) (raise_aon s src)
    (fun m hm => getReg_raise_other s src m (fun he => hm (he ▸ hn))) (raise_rwf src)

theorem deliver (s : State) (e : BEvent) : TamperKept s (deliver s e) :=
  .of_aon (r := s.aon.regs) (h := s.aon.hist) (q := s.aon.sinceQual) (hs := s.aon.heldSense) (hq := s.aon.heldQual)
    (d := s.aon.darkLost) (e := s.aon.evQueue) (sameBut_mono (deliver_frame s e) (by decide)) (deliver_aon s e)
    (fun n _ => getReg_deliver s e n) (deliver_rwf e)

theorem queueEvidence (s : State) (e : List Byte) : TamperKept s (queueEvidence s e) := by
  obtain ⟨r, n, q, ha⟩ := queueEvidence_aon s e
  refine .of_aon (sameBut_mono (queueEvidence_frame s e) (by decide)) ha (fun m hm => ?_) (queueEvidence_rwf e)
  exact getReg_queueEvidence s e (fun he => hm (he ▸ by decide)) (fun he => hm (he ▸ by decide))

end TamperKept

/-! ### The Cupboard is erased -/

/-- The keys are gone, and with them what their absence refuses. -/
def keysGone (s : State) : State :=
  { s with
    aon := { s.aon with key0 := none, key1 := none }
    ports := { s.ports with
      host := { s.ports.host with exec := s.ports.host.exec.map Exec.refused }
      maint := { s.ports.maint with exec := s.ports.maint.exec.map Exec.refused }
      chainQ := s.ports.chainQ.map (fun a => (a.1.refused, a.2)), keysDue := [] } }

theorem syncFlags_keysGone_kept (s : State) : TamperKept s (syncFlags (keysGone s)) where
  frame := sameBut_trans (sameBut_mono (sameBut_aon s (keysGone s).aon) (by decide))
    (sameBut_trans (sameBut_mono (sameBut_ports { s with aon := (keysGone s).aon } (keysGone s).ports) (by decide))
      (sameBut_mono (syncFlags_frame (keysGone s)) (by decide)))
  measured := rfl
  flags := fun _ => rfl
  history := fun _ => rfl
  erased := fun _ => ⟨rfl, rfl⟩
  regs := fun _ _ => rfl
  rwf := id

theorem setSeal_kept (s : State) (v : Nat) : TamperKept s (setSeal s v) where
  frame := sameBut_mono (sameBut_evid s _) (by decide)
  measured := rfl
  flags := id
  history := id
  erased := id
  regs := fun _ _ => rfl
  rwf := id

/-- What follows the loss of the keys: an erase of slot 1 leaves a sealed set unverified, and the erasure is counted. -/
theorem eraseCupboard_after (s : State) : TamperKept (syncFlags (keysGone s)) (eraseCupboard s) := by
  have hseal : TamperKept (syncFlags (keysGone s))
      (if (syncFlags (keysGone s)).evid.sealSt = 1 then setSeal (syncFlags (keysGone s)) 3 else syncFlags (keysGone s)) := by
    split
    · exact setSeal_kept _ 3
    · exact .refl _
  exact hseal.trans ((TamperKept.setReg _ (n := 0x798) _ (by decide)).trans (.raise _ (by decide)))

theorem eraseCupboard_kept (s : State) : TamperKept s (eraseCupboard s) :=
  (syncFlags_keysGone_kept s).trans (eraseCupboard_after s)

theorem eraseCupboard_keys (s : State) : (eraseCupboard s).aon.key0 = none ∧ (eraseCupboard s).aon.key1 = none :=
  (eraseCupboard_after s).erased ⟨rfl, rfl⟩

/-! ### Classes qualify and sense -/

/-- The first qualification of a class since its bit was cleared queues an entry. -/
theorem entryQueued (s : State) (c : Nat) (e : List Byte) :
    TamperKept s (if bitAt (getReg s 0x783) c then s else queueEvidence (orReg s 0x783 (2 ^ c)) e) := by
  split
  · exact .refl s
  · exact .trans (.setReg s (n := 0x783) _ (by decide)) (.queueEvidence _ _)

/-- A class qualifies: once its arming has erased the keys, only notes and reports follow. -/
theorem qualify_after (s : State) (c : Nat) :
    TamperKept (if bitAt (getReg s 0x781) c then eraseCupboard s else s) (qualify s c) := by
  unfold qualify
  dsimp only
  generalize (if bitAt (getReg s 0x781) c = true then eraseCupboard s else s) = u
  refine .trans ?_ (entryQueued _ c _)
  refine .trans (.notes u (setNth u.aon.hist c []) (setNth u.aon.sinceQual c 0) u.aon.heldSense u.aon.heldQual) ?_
  split
  · exact .notes _ _ _ _ _
  · exact .trans (.raise _ (by decide)) (.deliver _ _)

theorem qualify_kept (s : State) (c : Nat) : TamperKept s (qualify s c) := by
  refine .trans ?_ (qualify_after s c)
  split
  · exact eraseCupboard_kept s
  · exact .refl s

theorem qualify_armed_keys {s : State} {c : Nat} (h : bitAt (getReg s 0x781) c = true) :
    (qualify s c).aon.key0 = none ∧ (qualify s c).aon.key1 = none := by
  have hafter := qualify_after s c
  rw [if_pos h] at hafter
  exact hafter.erased (eraseCupboard_keys s)

/-- An event sensed is noted and reported, before it may qualify. -/
def sensedOnly (s : State) (c : Nat) : State :=
  let s1 := addReg s (0x790 + c) 1
  let s2 : State := { s1 with aon := { s1.aon with
    hist := modNth s1.aon.hist c (fun h => (s1.aon.time :: h).take 14)
    sinceQual := modNth s1.aon.sinceQual c (· + 1) } }
  if dark s then
    orReg { s2 with aon := { s2.aon with heldSense := modNth s2.aon.heldSense c (· + 1) } } 0x784 (2 ^ c)
  else deliver (raise s2 srcTampSense) (bEvent (0x180 + c) 1 0 0 0)

theorem sensedOnly_after (s : State) (c : Nat) : TamperKept (addReg s (0x790 + c) 1) (sensedOnly s c) := by
  unfold sensedOnly
  dsimp only
  generalize addReg s (0x790 + c) 1 = u
  refine .trans (.notes u (modNth u.aon.hist c (fun h => (u.aon.time :: h).take 14)) (modNth u.aon.sinceQual c (· + 1))
    u.aon.heldSense u.aon.heldQual) ?_
  split
  · exact .trans (.notes _ _ _ (modNth u.aon.heldSense c (· + 1)) _) (.setReg _ (n := 0x784) _ (by decide))
  · exact .trans (.raise _ (by decide)) (.deliver _ _)

theorem sense_senses {s : State} {c : Nat} (hp : s.aon.powered = true) (hon : classOn s c = true) :
    sense s c = if qualifies (addReg s (0x790 + c) 1) c then qualify (sensedOnly s c) c else sensedOnly s c := by
  rw [sense, if_neg (by simp [hp, hon])]
  rfl

theorem sense_rests {s : State} {c : Nat} (h : s.aon.powered = false ∨ classOn s c = false) : sense s c = s := by
  rw [sense, if_pos]
  rcases h with h | h <;> simp [h]

theorem sense_after {s : State} {c : Nat} (hp : s.aon.powered = true) (hon : classOn s c = true) :
    TamperKept (addReg s (0x790 + c) 1) (sense s c) := by
  rw [sense_senses hp hon]
  split
  · exact (sensedOnly_after s c).trans (qualify_kept _ c)
  · exact sensedOnly_after s c

/-- Sensing, in a class that is enabled or not. -/
structure Sensed (s : State) (c : Nat) (t : State) : Prop where
  frame : sameBut [.regs, .aon, .bureau, .evid, .ports] s t
  measured : measured t.aon = measured s.aon
  flags : s.aon.flagShadow = ~~~(authFlags s) → t.aon.flagShadow = ~~~(authFlags t)
  history : s.aon.failShadow = inverse s.aon.fails → t.aon.failShadow = inverse t.aon.fails
  regs : ∀ n, n ∉ sensedRegs → n ≠ 0x790 + c → getReg t n = getReg s n
  rwf : Registers.wf s = true → Registers.wf t = true

theorem sense_sensed (s : State) (c : Nat) : Sensed s c (sense s c) := by
  by_cases h : s.aon.powered = true ∧ classOn s c = true
  · have hk := sense_after h.1 h.2
    have ha := setReg_aon s (0x790 + c) (wd (min (regN s (0x790 + c) + 1) 0xFFFFF))
    exact {
      frame := sameBut_trans (sameBut_mono (setReg_frame s _ _) (by decide)) hk.frame
      measured := hk.measured.trans (by rw [addReg, ha]; rfl)
      flags := fun hf => hk.flags (by rw [authFlags, locked, addReg, ha]; exact hf)
      history := fun hf => hk.history (by rw [addReg, ha]; exact hf)
      regs := fun n hn hc => (hk.regs n hn).trans (getReg_setReg_other s _ n _ hc)
      rwf := fun hw => hk.rwf (setReg_rwf _ _ hw) }
  · have hr : sense s c = s := sense_rests (by simp only [not_and_or, Bool.not_eq_true] at h; exact h)
    rw [hr]
    exact ⟨sameBut_refl _ s, rfl, id, id, fun _ _ _ => rfl, id⟩

/-- In a class that is enabled the event is counted. -/
theorem getReg_sense {s : State} {c : Nat} (hc : c < 7) (hp : s.aon.powered = true) (hon : classOn s c = true)
    (hw : Registers.wf s = true) : getReg (sense s c) (0x790 + c) = wd (min (regN s (0x790 + c) + 1) 0xFFFFF) := by
  have hout : 0x790 + c ∉ sensedRegs := by
    have hcase : c = 0 ∨ c = 1 ∨ c = 2 ∨ c = 3 ∨ c = 4 ∨ c = 5 ∨ c = 6 := by omega
    rcases hcase with rfl | rfl | rfl | rfl | rfl | rfl | rfl <;> decide
  rw [(sense_after hp hon).regs _ hout]
  exact getReg_incReg _ hw

end Sys2Proof.Machine

/-!
The tamper monitors and the comparison of shadows (13 R284 to R289; O50).
-/

namespace Sys2Proof.Machine

/-! ### The condition of a class -/

theorem getLsbD_setCond (s : State) {c : Nat} (hc : c < 7) (b : Bool) : (setCond s c b).aon.cond.getLsbD c = b := by
  have hbit : (BitVec.ofNat 7 (2 ^ c)).getLsbD c = true := by
    rw [BitVec.getLsbD_ofNat, Nat.testBit_two_pow_self]
    simp [hc]
  cases b with
  | true =>
    show (s.aon.cond ||| BitVec.ofNat 7 (2 ^ c)).getLsbD c = true
    rw [BitVec.getLsbD_or, hbit, Bool.or_true]
  | false =>
    show (s.aon.cond &&& ~~~(BitVec.ofNat 7 (2 ^ c))).getLsbD c = false
    rw [BitVec.getLsbD_and, BitVec.getLsbD_not, hbit]
    simp

theorem setCond_frame (s : State) (c : Nat) (b : Bool) : sameBut [.aon] s (setCond s c b) := sameBut_aon s _

/-- Only what PD0 has measured changes before an event is sensed: its registers, and what it is made of, read the same. -/
structure Measures (s t : State) : Prop where
  frame : sameBut [.aon] s t
  powered : t.aon.powered = s.aon.powered
  regs : ∀ n, getReg t n = getReg s n
  rwf : Registers.wf s = true → Registers.wf t = true

theorem Measures.classOn {s t : State} (h : Measures s t) (c : Nat) : classOn t c = classOn s c := by
  rw [Machine.classOn, h.regs, ← Machine.classOn]

/-- What is sensed after a measurement: the condition shown is that measured, and an enabled class counts. -/
theorem sense_measured {s u : State} {c : Nat} (hc : c < 7) (hm : Measures s u) (hp : s.aon.powered = true) :
    sameBut [.regs, .aon, .bureau, .evid, .ports] s (sense u c) ∧ measured (sense u c).aon = measured u.aon ∧
      (Registers.wf s = true → classOn s c = true →
        getReg (sense u c) (0x790 + c) = wd (min (regN s (0x790 + c) + 1) 0xFFFFF)) := by
  have hs := sense_sensed u c
  refine ⟨sameBut_trans (sameBut_mono hm.frame (by decide)) hs.frame, hs.measured, fun hw hon => ?_⟩
  rw [getReg_sense hc (hm.powered.trans hp) ((hm.classOn c).trans hon) (hm.rwf hw), regN, hm.regs, ← regN]

theorem cond_of_measured {a b : Aon} (h : measured a = measured b) : a.cond = b.cond :=
  congrArg (fun m : Nat × Nat × BitVec 7 × Option Nat × Int × List Nat × Option Nat => m.2.2.1) h

theorem tempC_of_measured {a b : Aon} (h : measured a = measured b) : a.tempC = b.tempC :=
  congrArg (fun m : Nat × Nat × BitVec 7 × Option Nat × Int × List Nat × Option Nat => m.2.2.2.2.1) h

theorem slowBack_of_measured {a b : Aon} (h : measured a = measured b) : a.slowBack = b.slowBack :=
  congrArg (fun m : Nat × Nat × BitVec 7 × Option Nat × Int × List Nat × Option Nat => m.2.2.2.1) h

theorem loops_of_measured {a b : Aon} (h : measured a = measured b) : a.loop0 = b.loop0 ∧ a.loop1 = b.loop1 :=
  ⟨congrArg Prod.fst h,
    congrArg (fun m : Nat × Nat × BitVec 7 × Option Nat × Int × List Nat × Option Nat => m.2.1) h⟩

/-! ### The loops -/

/-- The state of loop `l`. -/
def loopSt (a : Aon) (l : Bool) : Nat := if l then a.loop1 else a.loop0

/-- A test has left loop `l` in state `p` with a run of normal tests. -/
def loopTested (s : State) (l : Bool) (p : Nat × Nat) : State :=
  setCond { s with aon :=
    if l then { s.aon with loop1 := p.1, normal1 := p.2 } else { s.aon with loop0 := p.1, normal0 := p.2 } }
    (b2n l) (decide (p.1 ≠ 0))

theorem loopTestOp_selected {s : State} {l : Bool} {ohms : Nat} {p : Nat × Nat} (now : Nat) (hp : s.aon.powered = true)
    (hl : loopSelected s l = true)
    (hnext : loopNext (loopSt s.aon l) (if l then s.aon.normal1 else s.aon.normal0) ohms = p) :
    loopTestOp s l ohms now =
      if loopSt s.aon l = 0 ∧ p.1 ≠ 0 then sense (loopTested (atOsc s now) l p) (b2n l) else loopTested (atOsc s now) l p := by
  rw [loopTestOp, if_neg (by simp [hp, hl]), ← hnext]
  rfl

theorem loopTested_measures (s : State) (now : Nat) (l : Bool) (p : Nat × Nat) :
    Measures s (loopTested (atOsc s now) l p) where
  frame := sameBut_trans (atOsc_frame s now) (sameBut_aon (atOsc s now) _)
  powered := by cases l <;> rfl
  regs := fun _ => by cases l <;> rfl
  rwf := fun h => by cases l <;> exact h

theorem loopSt_loopTested (s : State) (l : Bool) (p : Nat × Nat) : loopSt (loopTested s l p).aon l = p.1 := by
  cases l <;> rfl

theorem time_loopTested (s : State) (l : Bool) (p : Nat × Nat) : (loopTested s l p).aon.time = s.aon.time := by
  cases l <;> rfl

theorem b2n_lt_seven (l : Bool) : b2n l < 7 := by cases l <;> decide

theorem loopSt_of_measured {a b : Aon} (h : measured a = measured b) (l : Bool) : loopSt a l = loopSt b l := by
  obtain ⟨h0, h1⟩ := loops_of_measured h
  cases l
  · exact h0
  · exact h1

theorem loopTest_opens {s : State} {l : Bool} {ohms : Nat} (now : Nat) (hw : Registers.wf s = true)
    (hp : s.aon.powered = true) (hl : loopSelected s l = true) (ho : 40000 < ohms) (hst : loopSt s.aon l = 0)
    (hon : classOn s (b2n l) = true) :
    let t := loopTestOp s l ohms now
    loopSt t.aon l = 1 ∧ t.aon.cond.getLsbD (b2n l) = true ∧
      getReg t (0x790 + b2n l) = wd (min (regN s (0x790 + b2n l) + 1) 0xFFFFF) ∧
      sameBut [.regs, .aon, .bureau, .evid, .ports] s t := by
  have heq := loopTestOp_selected (p := (1, 0)) now hp hl (if_pos ho)
  rw [if_pos ⟨hst, by decide⟩] at heq
  obtain ⟨hf, hm, hc⟩ := sense_measured (b2n_lt_seven l) (loopTested_measures s now l (1, 0)) hp
  dsimp only
  rw [heq]
  refine ⟨?_, ?_, hc hw hon, hf⟩
  · rw [loopSt_of_measured hm, loopSt_loopTested]
  · rw [cond_of_measured hm]
    exact getLsbD_setCond _ (b2n_lt_seven l) true

theorem loopTest_normal {s : State} {l : Bool} {ohms : Nat} (now : Nat) (hp : s.aon.powered = true)
    (hl : loopSelected s l = true) (hlo : 3000 ≤ ohms) (hhi : ohms ≤ 30000)
    (hn : 1 ≤ (if l then s.aon.normal1 else s.aon.normal0)) :
    let t := loopTestOp s l ohms now
    loopSt t.aon l = 0 ∧ t.aon.cond.getLsbD (b2n l) = false ∧ t.aon.time = max s.aon.time (now * 125) ∧
      sameBut [.aon] s t := by
  have hnext : loopNext (loopSt s.aon l) (if l then s.aon.normal1 else s.aon.normal0) ohms = (0, 2) := by
    rw [loopNext, if_neg (by omega), if_neg (by omega), if_pos ⟨hlo, hhi⟩, if_pos hn]
  have heq := loopTestOp_selected now hp hl hnext
  rw [if_neg (fun h => h.2 rfl)] at heq
  dsimp only
  rw [heq]
  refine ⟨loopSt_loopTested _ l _, getLsbD_setCond _ (b2n_lt_seven l) false, ?_, (loopTested_measures s now l (0, 2)).frame⟩
  rw [time_loopTested]
  rfl

/-! ### The cell -/

/-- The cell is gone, VBC at 0. -/
def cellGone (s : State) (now : Nat) : State :=
  { setVbc (atOsc s now) 0 with power := { (setVbc (atOsc s now) 0).power with vbcFell := none } }

theorem cellOp_taken {s : State} {now : Nat} (hp : s.aon.powered = true) (hc : cellStood (atOsc s now) = true) :
    cellOp s now =
      if (cellGone s now).aon.powered then sense (setCond (cellGone s now) 2 true) 2 else cellGone s now := by
  rw [cellOp]
  dsimp only
  rw [if_pos (by simp [hp, hc])]
  rfl

theorem cellOp_rests {s : State} {now : Nat} (h : s.aon.powered = false ∨ cellStood (atOsc s now) = false) :
    cellOp s now = s := by
  rw [cellOp]
  dsimp only
  rw [if_neg]
  rcases h with h | h <;> simp [h]

/-- VBC has fallen to 0, before PD0 follows its sources. -/
def vbcFallen (s : State) : State :=
  { s with power := { s.power with
    vbc := 0, vbcOk := false, vbcFell := if s.power.vbcOk then some s.aon.time else s.power.vbcFell
    aonSrc := aonSource s.power.vres s.power.vauxValid 0 } }

theorem setVbc_zero (s : State) : setVbc s 0 = aonFollow (raiseIf s.power.vbcOk srcVbcLow (vbcFallen s)) := by
  rw [setVbc]
  simp [vbcFallen]

theorem setVbc_zero_power (s : State) : (setVbc s 0).power = (vbcFallen s).power := by
  rw [setVbc_zero, aonFollow_power, raiseIf_power]

theorem setVbc_zero_frame (s : State) : sameBut [.power, .regs, .bureau, .aon] s (setVbc s 0) := by
  rw [setVbc_zero]
  refine sameBut_trans (sameBut_mono (sameBut_power s (vbcFallen s).power) (by decide)) ?_
  exact sameBut_trans (sameBut_mono (raiseIf_frame s.power.vbcOk (vbcFallen s) (by decide)) (by decide))
    (sameBut_mono (aonFollow_frame _) (by decide))

/-- With another source left PD0 goes on. -/
theorem setVbc_zero_fed {s : State} (hp : s.aon.powered = true) (h : aonSource s.power.vres s.power.vauxValid 0 ≠ .none) :
    setVbc s 0 = raiseIf s.power.vbcOk srcVbcLow (vbcFallen s) := by
  rw [setVbc_zero]
  have haon : (raiseIf s.power.vbcOk srcVbcLow (vbcFallen s)).aon = s.aon :=
    raiseIf_frame s.power.vbcOk (vbcFallen s) (src := srcVbcLow) (by decide) .aon (by decide)
  have hsrc : (vbcFallen s).power.aonSrc ≠ .none := h
  rw [aonFollow, if_neg (by simp [hsrc]), if_neg (by simp [haon, hp])]

/-- The cell that was the only source takes PD0 with it. -/
theorem setVbc_zero_unfed {s : State} (hp : s.aon.powered = true) (h : aonSource s.power.vres s.power.vauxValid 0 = .none) :
    (setVbc s 0).aon = { Aon.reset with powered := false } := by
  rw [setVbc_zero]
  have haon : (raiseIf s.power.vbcOk srcVbcLow (vbcFallen s)).aon = s.aon :=
    raiseIf_frame s.power.vbcOk (vbcFallen s) (src := srcVbcLow) (by decide) .aon (by decide)
  have hsrc : (vbcFallen s).power.aonSrc = .none := h
  rw [aonFollow, if_pos (by simp [hsrc, haon, hp])]
  rfl

theorem qualifies_cell (s : State) : qualifies s 2 = true := if_pos (Or.inl rfl)

theorem sense_cell_keys {s : State} (hp : s.aon.powered = true) (hon : classOn s 2 = true)
    (harm : bitAt (getReg s 0x781) 2 = true) : (sense s 2).aon.key0 = none ∧ (sense s 2).aon.key1 = none := by
  have hreg : getReg (sensedOnly s 2) 0x781 = getReg s 0x781 :=
    ((sensedOnly_after s 2).regs 0x781 (by decide)).trans (getReg_setReg_other s _ _ _ (by decide))
  rw [sense_senses hp hon, if_pos (qualifies_cell _)]
  exact qualify_armed_keys (by rw [hreg]; exact harm)

/-- What the loss of the cell leaves of the supplies. -/
theorem cellGone_effect (s : State) (now : Nat) :
    (cellGone s now).power.vbc = 0 ∧ (cellGone s now).power.vbcFell = none ∧
      sameBut [.power, .regs, .bureau, .aon] s (cellGone s now) := by
  have hp := setVbc_zero_power (atOsc s now)
  refine ⟨(congrArg Power.vbc hp :), rfl, ?_⟩
  refine sameBut_trans (sameBut_mono (atOsc_frame s now) (by decide)) ?_
  exact sameBut_trans (setVbc_zero_frame (atOsc s now)) (sameBut_mono (sameBut_power _ _) (by decide))

/-- With PD0 fed by another source the loss of the cell is shown, and no register but VBC_LOW's has changed yet. -/
theorem cellGone_fed {s : State} (now : Nat) (hp : s.aon.powered = true)
    (h : aonSource s.power.vres s.power.vauxValid 0 ≠ .none) :
    (cellGone s now).aon.powered = true ∧ (∀ n, n ≠ srcVbcLow / 20 → getReg (cellGone s now) n = getReg s n) ∧
      (Registers.wf s = true → Registers.wf (cellGone s now) = true) := by
  have heq := setVbc_zero_fed (s := atOsc s now) hp h
  have haon : (raiseIf (atOsc s now).power.vbcOk srcVbcLow (vbcFallen (atOsc s now))).aon = (atOsc s now).aon :=
    raiseIf_frame (atOsc s now).power.vbcOk (vbcFallen (atOsc s now)) (src := srcVbcLow) (by decide) .aon (by decide)
  refine ⟨?_, fun n hn => ?_, fun hw => ?_⟩
  · show (setVbc (atOsc s now) 0).aon.powered = true
    rw [heq, haon]
    exact hp
  · show getReg (setVbc (atOsc s now) 0) n = getReg s n
    rw [heq, getReg_raiseIf_other _ _ hn]
    rfl
  · show Registers.wf (setVbc (atOsc s now) 0) = true
    rw [heq]
    exact raiseIf_rwf _ _ (s := vbcFallen (atOsc s now)) hw

theorem cell_taken {s : State} {now : Nat} (hw : Registers.wf s = true) (hp : s.aon.powered = true)
    (hc : cellStood (atOsc s now) = true) :
    let t := cellOp s now
    t.power.vbc = 0 ∧ t.power.vbcFell = none ∧ sameBut [.power, .regs, .aon, .bureau, .evid, .ports] s t ∧
      (aonSource s.power.vres s.power.vauxValid 0 = .none →
        t.aon.powered = false ∧ t.aon.key0 = none ∧ t.aon.key1 = none) ∧
      (aonSource s.power.vres s.power.vauxValid 0 ≠ .none → t.aon.cond.getLsbD 2 = true ∧
        (classOn s 2 = true → getReg t 0x792 = wd (min (regN s 0x792 + 1) 0xFFFFF) ∧
          (bitAt (getReg s 0x781) 2 = true → t.aon.key0 = none ∧ t.aon.key1 = none))) := by
  have heq := cellOp_taken hp hc
  obtain ⟨hvbc, hfell, hframe⟩ := cellGone_effect s now
  dsimp only
  by_cases hsrc : aonSource s.power.vres s.power.vauxValid 0 = .none
  · have haon : (cellGone s now).aon = { Aon.reset with powered := false } := setVbc_zero_unfed (s := atOsc s now) hp hsrc
    rw [if_neg (by rw [haon]; decide)] at heq
    rw [heq]
    exact ⟨hvbc, hfell, sameBut_mono hframe (by decide), fun _ => by rw [haon]; exact ⟨rfl, rfl, rfl⟩,
      fun h => absurd hsrc h⟩
  · obtain ⟨hpow, hregs, hwf⟩ := cellGone_fed now hp hsrc
    rw [if_pos hpow] at heq
    rw [heq]
    generalize cellGone s now = v at hvbc hfell hframe hpow hregs hwf
    have hshown : Measures v (setCond v 2 true) := ⟨setCond_frame v 2 true, rfl, fun _ => rfl, id⟩
    obtain ⟨hf, hm, hcount⟩ := sense_measured (c := 2) (by decide) hshown hpow
    have hpower : (sense (setCond v 2 true) 2).power = v.power := hf .power (by decide)
    have hclass : classOn v 2 = classOn s 2 := by rw [classOn, hregs _ (by decide), ← classOn]
    refine ⟨?_, ?_, sameBut_trans (sameBut_mono hframe (by decide)) (sameBut_mono hf (by decide)),
      fun h => absurd h hsrc, fun _ => ⟨?_, fun hon => ⟨?_, fun harm => ?_⟩⟩⟩
    · rw [hpower, hvbc]
    · rw [hpower, hfell]
    · rw [cond_of_measured hm]
      exact getLsbD_setCond v (by decide) true
    · rw [hcount (hwf hw) (hclass.trans hon), regN, hregs _ (by decide), ← regN]
    · exact sense_cell_keys hpow (hclass.trans hon) ((congrArg (bitAt · 2) (hregs 0x781 (by decide))).trans harm)

/-! ### Glitches, excursions, temperature -/

theorem atOsc_measures (s : State) (now : Nat) : Measures s (atOsc s now) := ⟨atOsc_frame s now, rfl, fun _ => rfl, id⟩

/-- The excursion that begins is shown. -/
def slowBegun (s : State) : State :=
  { setCond s 4 true with aon := { (setCond s 4 true).aon with slowBack := none } }

theorem slowBegun_measures (s : State) (now : Nat) : Measures s (slowBegun (atOsc s now)) :=
  ⟨sameBut_trans (atOsc_frame s now) (sameBut_aon (atOsc s now) _), rfl, fun _ => rfl, id⟩

theorem slowOp_begins {s : State} (now : Nat) (hp : s.aon.powered = true) (hup : portsUp s = true)
    (hc : s.aon.cond.getLsbD 4 = false) : slowOp s now = sense (slowBegun (atOsc s now)) 4 := by
  rw [slowOp, hp, fastClasses, hup, hc]
  rfl

/-- The reading `tc` has been taken. -/
def tempTaken (s : State) (tc : Int) : State :=
  { s with aon := { s.aon with tempC := tc, tempOut := decide (tc < -45) || decide (tc > 95) } }

theorem tempShown_measures (s : State) (now : Nat) (tc : Int) (b : Bool) :
    Measures s (setCond (tempTaken (atOsc s now) tc) 5 b) :=
  ⟨sameBut_trans (atOsc_frame s now) (sameBut_aon (atOsc s now) _), rfl, fun _ => rfl, id⟩

theorem tempReadOp_out {s : State} {tc : Int} (now : Nat) (hp : s.aon.powered = true)
    (hc : s.aon.cond.getLsbD 5 = false) (hprev : s.aon.tempOut = true) (hout : tc < -45 ∨ 95 < tc) :
    tempReadOp s tc now = sense (setCond (tempTaken (atOsc s now) tc) 5 true) 5 := by
  have ho : (decide (tc < -45) || decide (tc > 95)) = true := by simpa using hout
  have hstood : (atOsc s now).aon.cond.getLsbD 5 = false := hc
  have htwice : (atOsc s now).aon.tempOut = true := hprev
  rw [tempReadOp, if_neg (by simp [hp])]
  dsimp only
  rw [hstood, htwice, tempTaken, ho]
  rfl

theorem tempReadOp_back {s : State} {tc : Int} (now : Nat) (hp : s.aon.powered = true)
    (hc : s.aon.cond.getLsbD 5 = true) (hlo : -42 ≤ tc) (hhi : tc ≤ 92) :
    tempReadOp s tc now = setCond (tempTaken (atOsc s now) tc) 5 false := by
  have hstood : (atOsc s now).aon.cond.getLsbD 5 = true := hc
  rw [tempReadOp, if_neg (by simp [hp])]
  dsimp only
  rw [if_pos hstood, if_pos ⟨hlo, hhi⟩]
  rfl

/-! ### The comparison of shadows -/

theorem compareRegs_agree {s : State} (h : ∀ n ∈ shadowed, sget shadowReset s.aon.regShadow n = ~~~(getReg s n)) :
    shadowed.foldl compareOne s = s := by
  refine List.foldlRecOn (motive := fun t => t = s) _ _ rfl ?_
  intro t ht n hn
  rw [ht]
  exact if_pos (h n hn)

/-- A disagreement is named in TAMP_SHADOW, and the shadow of the flags is written anew. -/
def flagsNamed (s : State) : State :=
  { setReg s 0x786 0x208 with aon := { (setReg s 0x786 0x208).aon with flagShadow := ~~~(authFlags s) } }

def historyNamed (s : State) : State :=
  { setReg s 0x786 0xFFF with aon := { (setReg s 0x786 0xFFF).aon with failShadow := inverse s.aon.fails } }

theorem compareFlags_agree {s : State} (h : s.aon.flagShadow = ~~~(authFlags s)) : compareFlags s = s := if_pos h

theorem compareFlags_differ {s : State} (h : s.aon.flagShadow ≠ ~~~(authFlags s)) :
    compareFlags s = sense (flagsNamed s) 6 := if_neg h

theorem compareHistory_agree {s : State} (h : s.aon.failShadow = inverse s.aon.fails) : compareHistory s = s := if_pos h

theorem compareHistory_differ {s : State} (h : s.aon.failShadow ≠ inverse s.aon.fails) :
    compareHistory s = sense (historyNamed s) 6 := if_neg h

theorem setReg_tampShadow (s : State) (v : Word) :
    setReg s 0x786 v = { s with aon := { s.aon with regs := sset regReset s.aon.regs 0x786 v } } := if_pos (by decide)

theorem flagsNamed_effect {s : State} (hw : Registers.wf s = true) :
    sameBut [.aon] s (flagsNamed s) ∧ getReg (flagsNamed s) 0x786 = 0x208 ∧
      (flagsNamed s).aon.flagShadow = ~~~(authFlags (flagsNamed s)) ∧
      (s.aon.failShadow = inverse s.aon.fails → (flagsNamed s).aon.failShadow = inverse (flagsNamed s).aon.fails) := by
  refine ⟨?_, getReg_setReg (s := s) 0x786 0x208 hw, ?_, fun h => ?_⟩
  · exact sameBut_trans (setReg_frame_retained s 0x208 (by decide)) (sameBut_aon _ _)
  · rw [flagsNamed, setReg_tampShadow]
    rfl
  · rw [flagsNamed, setReg_tampShadow]
    exact h

theorem historyNamed_effect {s : State} (hw : Registers.wf s = true) :
    sameBut [.aon] s (historyNamed s) ∧ getReg (historyNamed s) 0x786 = 0xFFF ∧
      (historyNamed s).aon.failShadow = inverse (historyNamed s).aon.fails := by
  refine ⟨?_, getReg_setReg (s := s) 0x786 0xFFF hw, ?_⟩
  · exact sameBut_trans (setReg_frame_retained s 0xFFF (by decide)) (sameBut_aon _ _)
  · rw [historyNamed, setReg_tampShadow]

theorem shadowCompareOp_registers_agree {s : State} (now : Nat) (hp : s.aon.powered = true) (hup : portsUp s = true)
    (h : ∀ n ∈ shadowed, sget shadowReset s.aon.regShadow n = ~~~(getReg s n)) :
    shadowCompareOp s now = compareHistory (compareFlags (atOsc s now)) := by
  rw [shadowCompareOp, if_pos (by simp [hp, fastClasses, hup]), compareRegs_agree (s := atOsc s now) h]

/-- Settles O50: what senses, what stops sensing, and the comparison of shadows. -/
theorem tamperSensesAndShadows : Obligations.TamperSensesAndShadows := by
  refine ⟨fun l ohms now tc s hw => ⟨fun hp hl => ⟨fun ho hst hon => ?_, fun hlo hhi hn => ?_⟩,
    fun hp => ⟨fun hc => ?_, fun hc => ?_⟩, fun hp hup => ⟨fun hon => ?_, fun hc => ?_, fun hc => ?_⟩,
    fun hp => ⟨fun hc hprev hout => ?_, fun hc hlo hhi => ?_⟩, fun hp => ?_⟩,
    fun now s hp hup hregs => ⟨fun hf hh => ?_, fun hf hh hw => ?_, fun hf hh hw => ?_⟩⟩
  · exact ⟨_, rfl, loopTest_opens now hw hp hl ho hst hon⟩
  · exact ⟨_, rfl, loopTest_normal now hp hl hlo hhi hn⟩
  · exact congrArg Host.Outcome.next (cellOp_rests (Or.inr hc))
  · exact ⟨_, rfl, cell_taken hw hp hc⟩
  · obtain ⟨hf, -, hcount⟩ := sense_measured (c := 3) (by decide) (atOsc_measures s now) hp
    exact ⟨_, congrArg Host.Outcome.next (if_pos (by simp [hp, fastClasses, hup])), hcount hw hon, hf⟩
  · exact congrArg Host.Outcome.next (if_neg (by simp [hc]))
  · obtain ⟨hf, hm, hcount⟩ := sense_measured (c := 4) (by decide) (slowBegun_measures s now) hp
    refine ⟨_, congrArg Host.Outcome.next (slowOp_begins now hp hup hc), ?_, slowBack_of_measured hm, hf, hcount hw⟩
    rw [cond_of_measured hm]
    exact getLsbD_setCond (atOsc s now) (by decide) true
  · obtain ⟨hf, hm, hcount⟩ := sense_measured (c := 5) (by decide) (tempShown_measures s now tc true) hp
    refine ⟨_, congrArg Host.Outcome.next (tempReadOp_out now hp hc hprev hout), ?_, tempC_of_measured hm, hf, hcount hw⟩
    rw [cond_of_measured hm]
    exact getLsbD_setCond _ (by decide) true
  · exact ⟨_, congrArg Host.Outcome.next (tempReadOp_back now hp hc hlo hhi), getLsbD_setCond _ (by decide) false, rfl,
      (tempShown_measures s now tc false).frame⟩
  · exact ⟨congrArg Host.Outcome.next (if_pos (by simp [hp])), congrArg Host.Outcome.next (cellOp_rests (Or.inl hp)),
      congrArg Host.Outcome.next (if_neg (by simp [hp])), congrArg Host.Outcome.next (if_neg (by simp [hp])),
      congrArg Host.Outcome.next (if_pos (by simp [hp]))⟩
  · refine congrArg Host.Outcome.next ?_
    rw [shadowCompareOp_registers_agree now hp hup hregs, compareFlags_agree (s := atOsc s now) hf, compareHistory_agree (s := atOsc s now) hh]
  · obtain ⟨hframe, hname, hflags, hhist⟩ := flagsNamed_effect (s := atOsc s now) hw
    have hs := sense_sensed (flagsNamed (atOsc s now)) 6
    have hop := shadowCompareOp_registers_agree now hp hup hregs
    rw [compareFlags_differ (s := atOsc s now) hf, compareHistory_agree (hs.history (hhist hh))] at hop
    refine ⟨_, congrArg Host.Outcome.next hop, (hs.regs 0x786 (by decide) (by decide)).trans hname, hs.flags hflags, ?_⟩
    exact sameBut_trans (sameBut_mono (atOsc_frame s now) (by decide))
      (sameBut_trans (sameBut_mono hframe (by decide)) hs.frame)
  · obtain ⟨hframe, hname, hhist⟩ := historyNamed_effect (s := atOsc s now) hw
    have hs := sense_sensed (historyNamed (atOsc s now)) 6
    have hop := shadowCompareOp_registers_agree now hp hup hregs
    rw [compareFlags_agree (s := atOsc s now) hf, compareHistory_differ (s := atOsc s now) hh] at hop
    refine ⟨_, congrArg Host.Outcome.next hop, (hs.regs 0x786 (by decide) (by decide)).trans hname, hs.history hhist, ?_⟩
    exact sameBut_trans (sameBut_mono (atOsc_frame s now) (by decide))
      (sameBut_trans (sameBut_mono hframe (by decide)) hs.frame)

end Sys2Proof.Machine

/-!
CFG_SAVE's end while an operation of the same port waits for the NVM (04 R90, 11 R245; O51).
-/

namespace Sys2Proof.Machine

/-- The host's CFG_SAVE, and a read of the host's that the NVM holds back. -/
def savingWait : Waiting := { land := { port := .host, tag := 1, noreply := false }, opc := 0x21, way := none }
def readingWait : Waiting := { land := { port := .host, tag := 2, noreply := false }, opc := 0x08, way := none }

/-- RUN with the save of copy 0 in progress, and the read of byte 0 of NVM waiting for its end. -/
def savingHeld : State :=
  { State.reset with
    seq := { State.reset.seq with st := .run }
    nvm := { State.reset.nvm with op := some (.cfgSave 0 1 [] savingWait) }
    bureau := { State.reset.bureau with chgDone := [true, true, true] }
    ports := { State.reset.ports with
      host := { State.reset.ports.host with busy := [savingWait, readingWait] }
      held := [.port readingWait { kind := .read, pa := 0x820000, count := 1, data := [], op1 := 0, op2 := 0 } 4 0 0 1] } }

/-- Both have ended. -/
theorem cfgSaveDone_ends_both : (portOf (cfgSaveDoneOp savingHeld) .host).busy = [] := by decide +kernel

theorem busy_savingHeld : (portOf savingHeld .host).busy.erase savingWait = [readingWait] := by decide

/-- Refutes O51: where an operation of the same port is held back by the NVM, it goes on as CFG_SAVE ends and ends too, so
that the port is busy with neither, while the statement leaves it busy with the other. -/
theorem not_evidenceSavesAndSeals : ¬ Obligations.EvidenceSavesAndSeals := by
  unfold Obligations.EvidenceSavesAndSeals
  intro h
  obtain ⟨hsave, -⟩ := h.2 savingWait savingHeld (by decide) rfl
  obtain ⟨t, hnext, -, hbusy, -⟩ := hsave 0 1 [] rfl (by decide)
  have ht : cfgSaveDoneOp savingHeld = t := Host.Outcome.next.inj hnext
  rw [← ht] at hbusy
  exact absurd (cfgSaveDone_ends_both.symm.trans (hbusy.trans busy_savingHeld)) (by decide)

end Sys2Proof.Machine

/-!
The step and the reset state (00 R8, 03 R53; O1, O55).
-/

namespace Sys2Proof.Machine

/-- Settles O1: a step is `exec` of the front of the queue. -/
theorem stepTakesTheFront : Obligations.StepTakesTheFront := by
  refine ⟨fun c rest s h => ?_, fun s h => ?_⟩ <;> rw [step, h]

theorem getReg_reset (n : Nat) : getReg State.reset n = regReset n := by
  rw [getReg]
  split <;> rfl

/-- Settles O55: nothing is stored, so that every register reads its reset value and every line zeros. -/
theorem resetState : Obligations.ResetState :=
  ⟨rfl, rfl, rfl, getReg_reset, fun _ => rfl, rfl, rfl, rfl, fun _ => rfl, by decide +kernel⟩

end Sys2Proof.Machine

/-!
The tick boundary (03 R62, 02 R39; O28).
-/

namespace Sys2Proof.Machine

/-! ### What the boundary in GASP leaves alone -/

/-- The sequencer's state and PD0's time stand, and no grant is given. -/
structure GaspGoes (s t : State) : Prop where
  st : t.seq.st = s.seq.st
  time : t.aon.time = s.aon.time
  granted : ∀ c, c < 10 → t.power.granted.getLsbD c = true → s.power.granted.getLsbD c = true

namespace GaspGoes

theorem refl (s : State) : GaspGoes s s := ⟨rfl, rfl, fun _ _ h => h⟩

theorem trans {s t u : State} (h : GaspGoes s t) (k : GaspGoes t u) : GaspGoes s u :=
  ⟨k.st.trans h.st, k.time.trans h.time, fun c hc h' => h.granted c hc (k.granted c hc h')⟩

/-- A change of other parts. -/
theorem of_frame {s t : State} {ps : List Part} (h : sameBut ps s t)
    (hps : Part.seq ∉ ps ∧ Part.aon ∉ ps ∧ Part.power ∉ ps := by decide) : GaspGoes s t := by
  obtain ⟨hseq, haon, hpow⟩ := hps
  have hs : t.seq = s.seq := h .seq hseq
  have ha : t.aon = s.aon := h .aon haon
  have hp : t.power = s.power := h .power hpow
  exact ⟨by rw [hs], by rw [ha], fun c _ hc => by rw [← hp]; exact hc⟩

/-- A change of other parts, of the state's record. -/
theorem of_eq {s t : State} (hs : t.seq = s.seq) (ha : t.aon = s.aon) (hp : t.power = s.power) : GaspGoes s t :=
  ⟨by rw [hs], by rw [ha], fun c _ hc => by rw [← hp]; exact hc⟩

/-- A step that follows a change of other parts. -/
theorem after {s v t : State} (k : GaspGoes v t) (hs : v.seq = s.seq) (ha : v.aon = s.aon) (hp : v.power = s.power) :
    GaspGoes s t :=
  (of_eq hs ha hp).trans k

theorem raise (s : State) {src : Nat} (hr : isRetained (src / 20) = false) : GaspGoes s (raise s src) :=
  .of_frame (raise_frame s hr)

theorem setReg (s : State) {n : Nat} (v : Word) (hr : isRetained n = false) : GaspGoes s (setReg s n v) :=
  .of_frame (setReg_frame_regs s v hr)

theorem foldl {α : Type} {f : State → α → State} (h : ∀ t a, GaspGoes t (f t a)) (l : List α) (s : State) :
    GaspGoes s (l.foldl f s) :=
  List.foldlRecOn (motive := GaspGoes s) _ _ (.refl s) fun t ht a _ => ht.trans (h t a)

end GaspGoes

theorem dropGrant_gasp (s : State) (c : Nat) : GaspGoes s (dropGrant s c) := by
  have hparts : (dropGrant s c).seq = s.seq ∧ (dropGrant s c).aon = s.aon := by
    unfold dropGrant
    split
    · exact ⟨raise_seq _ _, raise_aon_core (by decide) _⟩
    · exact ⟨rfl, rfl⟩
  obtain ⟨hs, ha⟩ := hparts
  refine ⟨by rw [hs], by rw [ha], fun k hk h => ?_⟩
  rw [dropGrant_granted s c hk] at h
  exact (Bool.and_eq_true_iff.1 h).1

/-! ### The clocks -/

theorem guardTick_gasp (s : State) (c : Nat) (xs : List Int) : GaspGoes s (guardTick s c xs) := by
  have hhit : ∀ (t : State) g, GaspGoes t (guardHit t g) := fun t g =>
    .trans (.of_frame (sameBut_cap t { t.cap with peakSeen := true }))
      (.trans (.setReg _ (n := 0x2FF) _ (by decide)) (.raise _ (by decide)))
  unfold guardTick
  split
  · exact .refl s
  · split
    · dsimp only
      split
      · exact .trans (.of_frame (sameBut_streams s _)) (hhit _ _)
      · exact .of_frame (sameBut_streams s _)
    · exact .refl s

theorem frontsTick_gasp (s : State) (bits : List (BitVec 512)) : GaspGoes s (frontsTick s bits) := by
  refine .foldl (fun t c => ?_) _ s
  dsimp only
  split
  · exact .trans (.of_frame (sameBut_streams t _)) (guardTick_gasp _ c _)
  · exact .refl t

theorem settlingEnd_gasp (s : State) (n : Nat) : GaspGoes s (settlingEnd s n) := by
  unfold settlingEnd
  split
  · exact ⟨rfl, rfl, fun _ _ h => h⟩
  · exact .refl s

theorem settlingTick_gasp (s : State) : GaspGoes s (settlingTick s) :=
  .trans (.foldl settlingEnd_gasp _ s) (.of_frame (sameBut_streams _ _))

theorem dcBlocksTick_gasp (s : State) : GaspGoes s (dcBlocksTick s) := by
  refine .foldl (fun t c => ?_) _ s
  dsimp only
  split
  · split
    · exact .trans (.of_frame (sameBut_streams t _)) (.trans (.setReg _ (n := 0x2F7) _ (by decide)) (.raise _ (by decide)))
    · exact .of_frame (sameBut_streams t _)
  · exact .refl t

/-- The samples and the clocks of a tick: the oscillator goes on. -/
theorem clocksTick_gasp (s : State) (bits : List (BitVec 512)) :
    (clocksTick s bits).seq.st = s.seq.st ∧
      (clocksTick s bits).aon.time = s.aon.time + (if s.seq.slow then 2048 else 512) := by
  have h := (frontsTick_gasp s bits).trans (settlingTick_gasp _)
  unfold clocksTick
  dsimp only
  generalize settlingTick (frontsTick s bits) = t at h ⊢
  exact ⟨h.st, by rw [h.time]⟩

/-! ### Links that are no longer driven -/

theorem capDrop_gasp (s : State) (cause : Nat) : GaspGoes s (capDrop s cause) :=
  .trans (.of_frame (sameBut_cap s _)) (.trans (.of_frame (withdrawReq_frame _ 0)) (.of_frame (dropEngine_frame _ _)))

theorem capFault_gasp (s : State) (cause : Nat) : GaspGoes s (capFault s cause) :=
  (capDrop_gasp s cause).trans (.trans (.of_frame (sameBut_cap _ _)) (.raise _ (by decide)))

theorem harmFault_gasp (s : State) (cause : Nat) : GaspGoes s (harmFault s cause) :=
  .trans (.setReg s (n := 0x502) _ (by decide)) (.raise _ (by decide))

theorem putHutch_gasp (s : State) (h : Hutch) : GaspGoes s (putHutch s h) := .of_frame (putHutch_frame s h)

theorem PanelOnly.gasp {s t : State} (h : PanelOnly s t) (hp : t.power = s.power) : GaspGoes s t :=
  .of_eq (h.1 .seq (by decide)) (h.1 .aon (by decide)) hp

theorem failRow_gasp (s : State) (y : Nat) : GaspGoes s (failRow s y) := by
  refine .trans (t := clearRow s y) ?_ (.trans (.setReg _ (n := 0x80F) _ (by decide)) (.raise _ (by decide)))
  exact putHutch_gasp s _

theorem recLost_gasp (s : State) : GaspGoes s (recLost s) :=
  .trans (.setReg s (n := 0x70C) _ (by decide)) (.raise _ (by decide))

theorem loseToStage_gasp (s : State) : GaspGoes s (loseToStage s) :=
  .trans (.of_frame (sameBut_bureau s _)) (.foldl (fun t _ => recLost_gasp t) _ _)

theorem stageMore_gasp (s : State) : GaspGoes s (stageMore s) := by
  obtain ⟨m, h⟩ := stageMore_mem s
  rw [h]
  exact .of_frame (sameBut_mem s m)

theorem engineFail_gasp (s : State) (e : Engine) (cause : Nat) : GaspGoes s (engineFail s e cause) := by
  have hrect : GaspGoes s (match s.hutch.copying with | some i => rectError s i | none => s) := by
    split
    · exact (rectError_only s _).1.gasp (rectError_only s _).2
    · exact .refl s
  cases e with
  | capture =>
    unfold engineFail
    dsimp only
    split
    · exact capFault_gasp s 2
    · exact .of_frame (sameBut_cap s _)
  | harmonic => exact .after (harmFault_gasp _ cause) rfl rfl rfl
  | row => exact (failRow_gasp s _).trans (putHutch_gasp _ _)
  | rectRead => exact hrect
  | rectWrite => exact hrect
  | stage => exact .after ((loseToStage_gasp _).trans (stageMore_gasp _)) rfl rfl rfl
  | fetch => exact .after ((recLost_gasp _).trans ((loseToStage_gasp _).trans (stageMore_gasp _))) rfl rfl rfl

/-- A remote operation that its link takes with it. -/
theorem endRemote_down_gasp (s : State) (q : Remote) : GaspGoes s (endRemote s q stChainDown 0 []) := by
  rw [endRemote]
  dsimp only
  split
  · exact .after (.of_frame (finishAt_frame _ _ _ _ (by decide))) rfl rfl rfl
  · exact .after (engineFail_gasp _ _ _) rfl rfl rfl

theorem linkTo_gasp (s : State) (d : Side) (st : Nat) (held : Bool) : GaspGoes s (linkTo s d st held) := by
  have hfwd : ∀ t : State, GaspGoes t (dropForwards t d) := fun t =>
    .after (.foldl (fun v f => .of_frame (answerAt_frame v _ _ _ _ _ _ (by decide))) _ _) rfl rfl rfl
  have hdown : ∀ t : State, GaspGoes t (finishEnum t stChainDown []) := fun t => by
    unfold finishEnum
    split
    · exact .after (.of_frame (finishAt_frame _ _ _ (st := stChainDown) _ (by decide))) rfl rfl rfl
    · exact .refl t
  have henum : ∀ t : State, GaspGoes t (dropEnum t d) := fun t => by
    have hif : ∀ b : Bool, GaspGoes t (if b then finishEnum t stChainDown [] else t) := fun b => by
      cases b
      · exact .refl t
      · exact hdown t
    unfold dropEnum
    split
    · cases d <;> exact hif _
    · exact .refl t
  unfold linkTo
  dsimp only
  split
  · refine .trans ?_ (henum _)
    refine .trans ?_ (.foldl endRemote_down_gasp _ _)
    refine .trans ?_ (hfwd _)
    refine .trans ?_ (.raise _ (by decide))
    refine .trans ?_ (.setReg _ _ (linkErr_stored d))
    cases d <;> exact .of_eq rfl rfl rfl
  · exact .of_frame (putLink_frame s d _)

theorem linksFollow_gasp (s : State) : GaspGoes s (linksFollow s) := by
  refine .foldl (fun t d => ?_) _ s
  split
  · exact .refl t
  · unfold linkDownOp
    split
    · exact linkTo_gasp t d _ _
    · exact .refl t

/-! ### Grants and domains go -/

theorem flDrop_gasp (s : State) : GaspGoes s (flDrop s) := by
  refine ⟨rfl, rfl, fun c hc h => ?_⟩
  have hbit : (setBit10 s.power.granted 8 false).getLsbD c = true := h
  rw [getLsbD_setBit10 _ hc] at hbit
  split at hbit
  · cases hbit
  · exact hbit

theorem startDischarge_gasp (s : State) (st after : Nat) : GaspGoes s (startDischarge s st after) := by
  have hfree : GaspGoes s (freeRects s) := (freeRects_only s).1.gasp (freeRects_only s).2
  refine hfree.trans ((flDrop_gasp _).trans ?_)
  exact .trans (putHutch_gasp _ _) (.trans (.of_frame (withdrawReq_frame _ 2)) (.of_frame (dropEngine_frame _ _)))

theorem grantEffects_gasp (old : BitVec 10) (s : State) : GaspGoes s (grantEffects old s) := by
  unfold grantEffects
  extract_lets lost s1 s2 ps s3 t
  have h1 : GaspGoes s s1 := by
    unfold s1
    split
    · exact (putHutch_gasp s _).trans (.of_frame (flRaise_frame _))
    · exact .refl s
  have h2 : GaspGoes s1 s2 := by
    unfold s2
    split
    · exact linksFollow_gasp s1
    · exact .refl s1
  have h3 : GaspGoes s2 s3 := by
    unfold s3
    split
    · exact .of_frame (sameBut_ports s2 _)
    · exact .refl s2
  refine h1.trans (h2.trans (h3.trans ?_))
  split
  · split
    · exact putHutch_gasp s3 _
    · exact (putHutch_gasp s3 _).trans (startDischarge_gasp _ _ _)
  · exact .refl s3

theorem domainDown_gasp (s : State) (d : Nat) : GaspGoes s (domainDown s d) := by
  have hcarry : ∀ b : Prop, [Decidable b] → GaspGoes s (if b then carryBroken s else s) := fun b _ => by
    split
    · unfold carryBroken
      split
      · exact .after (.raise _ (by decide)) rfl rfl rfl
      · exact .refl s
    · exact .refl s
  have hbank : ∀ (t : State) b, GaspGoes t (bankPowerDown t b) := fun t b => .of_eq rfl rfl rfl
  unfold domainDown
  dsimp only
  refine (hcarry (d = 5)).trans ?_
  generalize (if d = 5 then carryBroken s else s) = u
  have hoff : GaspGoes u { u with power := { u.power with
      on := setBit12 u.power.on d false, working := setBit12 u.power.working d false
      ramping := setBit12 u.power.ramping d false } } := ⟨rfl, rfl, fun _ _ h => h⟩
  refine hoff.trans ?_
  split
  · exact .of_frame (sameBut_streams _ _)
  · split
    · exact .of_frame (sameBut_proc _ _)
    · split
      · exact hbank _ 0
      · split
        · exact hbank _ 1
        · split
          · exact .trans (putHutch_gasp _ _) (.trans (.of_frame (dropCopy_frame _)) (flDrop_gasp _))
          · exact .refl _

/-- The consumers whose grants the boundary in GASP revokes. -/
theorem gaspGrants_gone (s : State) {c : Nat} (hc : c ∈ [9, 8, 7, 5, 4, 2, 1, 0]) :
    ([9, 8, 7, 5, 4, 2, 1, 0].foldl dropGrant s).power.granted.getLsbD c = false := by
  have hlt : c < 10 := by
    simp only [List.mem_cons, List.not_mem_nil, or_false] at hc
    omega
  have h := dropGrants_granted (fun _ => true) [9, 8, 7, 5, 4, 2, 1, 0] s hlt
  simp only [if_true] at h
  rw [h, decide_eq_true hc]
  simp

theorem gaspBoundary_effect (s : State) (e : TickIn) :
    (gaspBoundary s e).seq.st = s.seq.st ∧
      (gaspBoundary s e).aon.time = s.aon.time + (if s.seq.slow then 2048 else 512) ∧
      (gaspBoundary s e).power.granted &&& 0x3B7 = 0 := by
  obtain ⟨hst, htime⟩ := clocksTick_gasp s e.bits
  unfold gaspBoundary
  dsimp only
  generalize clocksTick s e.bits = t at hst htime
  have hgone := fun c hc => gaspGrants_gone t (c := c) hc
  have hdrop : GaspGoes t ([9, 8, 7, 5, 4, 2, 1, 0].foldl dropGrant t) := .foldl dropGrant_gasp _ t
  generalize [9, 8, 7, 5, 4, 2, 1, 0].foldl dropGrant t = v at hgone hdrop
  have hrest : GaspGoes v (dcBlocksTick ([3, 4, 5, 6, 8].foldl
      (fun v d => if domOn v d || v.power.ramping.getLsbD d then domainDown v d else v)
      (grantEffects t.power.granted v))) := by
    refine (grantEffects_gasp _ v).trans (.trans (.foldl (fun w d => ?_) _ _) (dcBlocksTick_gasp _))
    split
    · exact domainDown_gasp w d
    · exact .refl w
  refine ⟨(hdrop.trans hrest).st.trans hst, (hdrop.trans hrest).time.trans htime, ?_⟩
  refine BitVec.eq_of_getLsbD_eq fun c hc => ?_
  have hzero : (0 : BitVec 10).getLsbD c = false := BitVec.getLsbD_zero
  rw [BitVec.getLsbD_and, hzero]
  by_cases hmem : c ∈ [9, 8, 7, 5, 4, 2, 1, 0]
  · have hnot := mt (hrest.granted c hc) (by rw [hgone c hmem]; decide)
    rw [Bool.eq_false_iff.2 hnot, Bool.false_and]
  · have hcase : c = 3 ∨ c = 6 := by
      simp only [List.mem_cons, List.not_mem_nil, or_false, not_or] at hmem
      omega
    rcases hcase with rfl | rfl <;> exact Bool.and_false _

theorem fullBoundary_plain {s : State} {e : TickIn} (h : loadOver (endTick s e) = false) :
    fullBoundary s e = plainBoundary (endTick s e) := by
  simp only [fullBoundary, h, Bool.false_eq_true, if_false]

theorem plainBoundary_steps (a : State) : plainBoundary a =
    (let c := stateStep (countStep (sealedCompare (compareStep (snapshotStep (domainStep (grantStep (modeStep (commitStep a))))))))
     newTick a (running c && !running a) (a.seq.commitMask.getLsbD 2) c) := by
  simp only [plainBoundary, middleSteps]

/-- Settles O28: the boundary's steps in their order, the boundary in GASP, none with PD2 off. -/
theorem boundaryInItsOrder : Obligations.BoundaryInItsOrder := by
  intro e s
  refine ⟨fun hoff hgasp hent => ?_, fun hgasp => ?_, fun hoff => ?_⟩
  · intro a hload
    have hover : loadOver a = false := by simp [loadOver, hload]
    have hrow : tickBoundaryOp s e = fullBoundary s e := by
      unfold tickBoundaryOp
      split
      · contradiction
      · contradiction
      · exact if_neg (by simp [hent])
    refine congrArg Host.Outcome.next (hrow.trans ?_)
    show fullBoundary s e = _
    rw [fullBoundary_plain hover, plainBoundary_steps]
  · obtain ⟨hst, htime, hgr⟩ := gaspBoundary_effect s e
    have hrow : tickBoundaryOp s e = gaspBoundary s e := by rw [tickBoundaryOp, hgasp]
    exact ⟨_, congrArg Host.Outcome.next hrow, hst.trans hgasp, htime, hgr⟩
  · refine congrArg Host.Outcome.next ?_
    rw [tickBoundaryOp, hoff]

end Sys2Proof.Machine

/-!
The panel's rails and frames (14 R310, R311, R322, R326, R330; O52).
-/

namespace Sys2Proof.Machine

/-! ### What a frame start, a row and a rectangle leave as it stands -/

/-- The panel's state, number of the frame, bank, settings and rails: the panel without its rectangles, windows, driven
levels and frontlight. -/
def panelCore (h : Hutch) : Hutch :=
  { h with
    rects := [], levels := [], pols := [], blinkWait := [], blinkOff := [], copying := none, flReq := false, flMa := 0
    flDuty := 0, flOn := false }

/-- The panel takes `h`'s state and settings; the buffers' registers, capture memory and the parts beside it keep. -/
structure PanelBecomes (h : Hutch) (s t : State) : Prop where
  frame : sameBut [.hutch, .mem, .chain, .regs, .bureau] s t
  data : t.mem.data = s.mem.data
  cur : getReg t 0x806 = getReg s 0x806
  prev : getReg t 0x807 = getReg s 0x807
  core : panelCore t.hutch = panelCore h

/-- The panel stands as it is. -/
abbrev PanelStands (s t : State) : Prop := PanelBecomes s.hutch s t

theorem PanelBecomes.put (s : State) (h : Hutch) : PanelBecomes h s (putHutch s h) :=
  ⟨sameBut_mono (putHutch_frame s h) (by decide), rfl, rfl, rfl, rfl⟩

/-- A change, then another that builds on what it made. -/
theorem PanelBecomes.trans {h k : Hutch} {s t u : State} (a : PanelBecomes h s t)
    (b : PanelBecomes k t u) : PanelBecomes k s u :=
  ⟨sameBut_trans a.frame b.frame, b.data.trans a.data, b.cur.trans a.cur, b.prev.trans a.prev, b.core⟩

/-- What follows leaves the panel as it is. -/
theorem PanelBecomes.stands {h : Hutch} {s t u : State} (a : PanelBecomes h s t) (b : PanelStands t u) : PanelBecomes h s u :=
  { a.trans b with core := b.core.trans a.core }

namespace PanelStands

theorem refl (s : State) : PanelStands s s := ⟨sameBut_refl _ s, rfl, rfl, rfl, rfl⟩

/-- A change of rectangles, windows, levels or frontlight. -/
theorem put (s : State) {h : Hutch} (hc : panelCore h = panelCore s.hutch) : PanelStands s (putHutch s h) :=
  { PanelBecomes.put s h with core := hc }

/-- A write of a register of the stored part, other than the buffers'. -/
theorem setReg (s : State) {n : Nat} (v : Word) (hr : isRetained n = false) (hc : n ≠ 0x806) (hp : n ≠ 0x807) :
    PanelStands s (setReg s n v) := by
  have hframe := setReg_frame_regs s v hr
  have hm : (Machine.setReg s n v).mem = s.mem := hframe .mem (by decide)
  have hh : (Machine.setReg s n v).hutch = s.hutch := hframe .hutch (by decide)
  exact ⟨sameBut_mono hframe (by decide), by rw [hm], getReg_setReg_other s n _ v hc.symm, getReg_setReg_other s n _ v hp.symm,
    by rw [hh]⟩

/-- An event told with its bit. -/
theorem raise (s : State) {src : Nat} (hr : isRetained (src / 20) = false) (hc : src / 20 ≠ 0x806) (hp : src / 20 ≠ 0x807) :
    PanelStands s (raise s src) := by
  have hframe := raise_frame s hr
  have hm : (Machine.raise s src).mem = s.mem := hframe .mem (by decide)
  have hh : (Machine.raise s src).hutch = s.hutch := hframe .hutch (by decide)
  exact ⟨sameBut_mono hframe (by decide), by rw [hm], getReg_raise_other s _ _ hc.symm, getReg_raise_other s _ _ hp.symm,
    by rw [hh]⟩

theorem foldl {α : Type} {f : State → α → State} (h : ∀ t a, PanelStands t (f t a)) (l : List α) (s : State) :
    PanelStands s (l.foldl f s) :=
  List.foldlRecOn (motive := PanelStands s) _ _ (.refl s) fun t ht a _ => ht.stands (h t a)

theorem withdrawn (s : State) (r : Nat) : PanelStands s (withdrawReq s r) :=
  ⟨sameBut_mono (withdrawReq_frame s r) (by decide), rfl, rfl, rfl, rfl⟩

theorem engineDropped (s : State) (es : List Engine) : PanelStands s (dropEngine s es) :=
  ⟨sameBut_mono (dropEngine_frame s es) (by decide), rfl, rfl, rfl, rfl⟩

end PanelStands

theorem dropCopy_stands (s : State) : PanelStands s (dropCopy s) :=
  (PanelStands.put s (h := { s.hutch with copying := none }) rfl).stands
    ((PanelStands.withdrawn _ 3).stands (.engineDropped _ _))

theorem rectError_stands (s : State) (i : Nat) : PanelStands s (rectError s i) := by
  have hcopy : ∀ t : State, PanelStands t (if t.hutch.copying = some i then dropCopy t else t) := fun t => by
    split
    · exact dropCopy_stands t
    · exact .refl t
  exact (PanelStands.put s (h := { s.hutch with rects := setNth s.hutch.rects i freeRect }) rfl).stands
    ((hcopy _).stands ((PanelStands.setReg _ (n := 0x80E) _ (by decide) (by decide) (by decide)).stands
      (.raise _ (src := srcDispErr) (by decide) (by decide) (by decide))))

theorem freeRects_stands (s : State) : PanelStands s (freeRects s) := by
  refine .foldl (fun t i => ?_) _ s
  split
  · exact .refl t
  · exact rectError_stands t i

theorem isRetained_of_blink {n : Nat} (h : 0x820 ≤ n) : isRetained n = false := by
  simp only [isRetained, Bool.or_eq_false_iff, Bool.and_eq_false_iff, beq_eq_false_iff_ne, decide_eq_false_iff_not]
  omega

/-- Registers of the blink windows and above are written. -/
theorem setRegs_stands (vs : List Word) : ∀ (s : State) {n : Nat}, 0x820 ≤ n → PanelStands s (setRegs s n vs) := by
  induction vs with
  | nil => exact fun s _ _ => .refl s
  | cons v vs ih =>
    intro s n hn
    exact (PanelStands.setReg s v (isRetained_of_blink hn) (by omega) (by omega)).stands (ih _ (by omega))

theorem blkTake_stands (s : State) (w : Nat) : PanelStands s (blkTake s w) := by
  unfold blkTake
  split
  · exact .refl s
  · exact (setRegs_stands _ s (by omega)).stands (.put _ rfl)

theorem blkFit_stands (s : State) (w : Nat) : PanelStands s (blkFit s w) := by
  unfold blkFit
  dsimp only
  split
  · exact .setReg s _ (isRetained_of_blink (by omega)) (by omega) (by omega)
  · exact .refl s

theorem blkPast_stands (s : State) (w : Nat) : PanelStands s (blkPast s w) := by
  unfold blkPast
  split
  · exact .put s rfl
  · exact .refl s

theorem flRaise_stands (s : State) : PanelStands s (flRaise s) := by
  unfold flRaise
  dsimp only
  split
  · exact .put s rfl
  · exact .refl s

theorem failRow_stands (s : State) (y : Nat) : PanelStands s (failRow s y) := by
  have hclear : PanelStands s (clearRow s y) := .put s rfl
  exact hclear.stands ((PanelStands.setReg _ (n := 0x80F) _ (by decide) (by decide) (by decide)).stands
    (.raise _ (src := srcDispErr) (by decide) (by decide) (by decide)))

/-- A row of the frame before that is still being read fails, and the panel goes on to the next row. -/
theorem rowLate_becomes (s : State) : ∃ r, PanelBecomes { s.hutch with row := r } s (rowLate s) := by
  unfold rowLate
  split
  · have hlow : PanelStands s (failRow (dropEngine (withdrawReq s 2) [.row]) s.hutch.row) :=
      (PanelStands.withdrawn s 2).stands ((PanelStands.engineDropped _ _).stands (failRow_stands _ _))
    generalize failRow (dropEngine (withdrawReq s 2) [.row]) s.hutch.row = t at hlow
    refine ⟨t.hutch.row + 1, { hlow.trans (PanelBecomes.put t _) with core := ?_ }⟩
    exact congrArg (fun h : Hutch => { h with row := t.hutch.row + 1 }) hlow.core
  · exact ⟨s.hutch.row, PanelStands.refl s⟩

/-! ### A new frame -/

/-- The settings that the coming frame takes: the buffers, the rails and, where it is valid, the timing. -/
def frameTaken (s : State) : Hutch :=
  let bufs : Hutch := { s.hutch with bufCur := getReg s 0x806, bufPrev := getReg s 0x807, railSet := getReg s 0x805 }
  if storedTimingOk s then
    { bufs with
      timBad := false, ctrl := getReg s 0x800, size := getReg s 0x801, clk := getReg s 0x802
      htim := getReg s 0x803, vtim := getReg s 0x804 }
  else { bufs with timBad := true }

theorem frameSettings_becomes (s : State) : PanelBecomes (frameTaken s) s (frameSettings s) := by
  show PanelBecomes (frameTaken s) s (if (frameTaken s).size ≠ s.hutch.size ∨
      bppOf (frameTaken s).ctrl ≠ bppOf s.hutch.ctrl ∨ (frameTaken s).bufCur ≠ s.hutch.bufCur ∨
      (frameTaken s).bufPrev ≠ s.hutch.bufPrev then (upto 4).foldl blkFit (freeRects (putHutch s (frameTaken s)))
    else putHutch s (frameTaken s))
  split
  · exact (PanelBecomes.put s _).stands ((freeRects_stands _).stands (.foldl blkFit_stands _ _))
  · exact .put s _

/-- What a frame shows of itself: state, number, row, bank, XDIS, the clearing frame, the discharge. -/
def frameFace (h : Hutch) : Nat × BitVec 20 × Nat × Nat × Bool × Bool × Bool :=
  (h.st, h.frame, h.row, h.bank, h.xdis, h.clearing, h.discharging)

theorem frameFace_core {h k : Hutch} (e : panelCore h = panelCore k) : frameFace h = frameFace k :=
  (congrArg frameFace e :)

/-- The settings taken leave what the frame shows, and the buffers are those of the registers. -/
theorem frameTaken_face (s : State) :
    frameFace (frameTaken s) = frameFace s.hutch ∧ (frameTaken s).bufCur = getReg s 0x806 ∧
      (frameTaken s).bufPrev = getReg s 0x807 := by
  unfold frameTaken
  dsimp only
  split <;> exact ⟨rfl, rfl, rfl⟩

/-- A frame that shows what `h` does, its buffers taken from the registers. -/
structure FrameBegun (h : Hutch) (s t : State) : Prop where
  frame : sameBut [.hutch, .mem, .chain, .regs, .bureau] s t
  data : t.mem.data = s.mem.data
  face : frameFace t.hutch = frameFace h
  cur : t.hutch.bufCur = getReg s 0x806
  prev : t.hutch.bufPrev = getReg s 0x807

/-- The settings taken of a panel that has become `h`. -/
theorem frameSettings_begun {h : Hutch} {s t : State} (k : PanelBecomes h s t) : FrameBegun h s (frameSettings t) := by
  have hset := frameSettings_becomes t
  obtain ⟨hface, hcur, hprev⟩ := frameTaken_face t
  exact
    { frame := sameBut_trans k.frame hset.frame
      data := hset.data.trans k.data
      face := (frameFace_core hset.core).trans (hface.trans (frameFace_core k.core))
      cur := (congrArg Hutch.bufCur hset.core :).trans (hcur.trans k.cur)
      prev := (congrArg Hutch.bufPrev hset.core :).trans (hprev.trans k.prev) }

/-- The panel of the next frame, before its settings are taken. -/
def nextFrame (h : Hutch) : Hutch := { h with frame := h.frame + 1, row := 0, bank := h.bankNext }

theorem nextFrame_core {h k : Hutch} (e : panelCore h = panelCore k) : panelCore (nextFrame h) = panelCore (nextFrame k) :=
  (congrArg nextFrame e :)

theorem newFrame_begun {s t : State} {h : Hutch} (k : PanelBecomes h s t) : FrameBegun (nextFrame h) s (newFrame t) := by
  have hpast : PanelBecomes h s ((upto 4).foldl blkPast t) := k.stands (.foldl blkPast_stands _ t)
  unfold newFrame
  dsimp only
  generalize (upto 4).foldl blkPast t = u at hpast
  have hput : PanelBecomes (nextFrame h) s (putHutch u (nextFrame u.hutch)) :=
    { hpast.trans (PanelBecomes.put u _) with core := nextFrame_core hpast.core }
  exact frameSettings_begun (hput.stands (.foldl blkTake_stands _ _))

/-- What follows a new frame leaves it as it is. -/
theorem FrameBegun.stands {h : Hutch} {s t u : State} (a : FrameBegun h s t) (b : PanelStands t u) : FrameBegun h s u :=
  { frame := sameBut_trans a.frame b.frame
    data := b.data.trans a.data
    face := (frameFace_core b.core).trans a.face
    cur := (congrArg Hutch.bufCur b.core :).trans a.cur
    prev := (congrArg Hutch.bufPrev b.core :).trans a.prev }

/-! ### The frame start in each state of the panel -/

section
variable {h : Hutch} {s t : State}

theorem PanelBecomes.st (k : PanelBecomes h s t) : t.hutch.st = h.st := (congrArg Hutch.st k.core :)
theorem PanelBecomes.discharging (k : PanelBecomes h s t) : t.hutch.discharging = h.discharging :=
  (congrArg Hutch.discharging k.core :)
theorem PanelBecomes.clearing (k : PanelBecomes h s t) : t.hutch.clearing = h.clearing := (congrArg Hutch.clearing k.core :)
theorem PanelBecomes.domOn (k : PanelBecomes h s t) (d : Nat) : domOn t d = domOn s d := by
  have hp : t.power = s.power := k.frame .power (by decide)
  rw [Machine.domOn, Machine.domOn, hp]

/-- In FALLING the first frame start begins the clearing frame. -/
theorem frameStartOp_clears (k : PanelBecomes h s t) (hon : domOn s 10 = true) (hst : h.st = 4)
    (hdis : h.discharging = false) (hcl : h.clearing = false) :
    FrameBegun { nextFrame h with clearing := true } s (frameStartOp t) := by
  have hnew := newFrame_begun k
  have hrow : frameStartOp t = putHutch (newFrame t) { (newFrame t).hutch with clearing := true } := by
    unfold frameStartOp
    rw [if_neg (by rw [k.domOn, hon]; decide), if_pos (k.st.trans hst), if_neg (by rw [k.discharging, hdis]; decide),
      if_neg (by rw [k.clearing, hcl]; decide)]
  rw [hrow]
  generalize newFrame t = u at hnew
  have hput := PanelBecomes.put u { u.hutch with clearing := true }
  have hface : frameFace { u.hutch with clearing := true } = frameFace { nextFrame h with clearing := true } := by
    have := hnew.face
    simp only [frameFace, Prod.mk.injEq] at this ⊢
    obtain ⟨h1, h2, h3, h4, h5, -, h7⟩ := this
    exact ⟨h1, h2, h3, h4, h5, trivial, h7⟩
  exact
    { frame := sameBut_trans hnew.frame hput.frame
      data := hput.data.trans hnew.data
      face := hface
      cur := hnew.cur
      prev := hnew.prev }

/-- In FALLING the frame start after the clearing frame begins the discharge. -/
theorem frameStartOp_discharges (k : PanelBecomes h s t) (hon : domOn s 10 = true) (hst : h.st = 4)
    (hdis : h.discharging = false) (hcl : h.clearing = true) :
    frameStartOp t = startDischarge t 4 t.hutch.after := by
  unfold frameStartOp
  rw [if_neg (by rw [k.domOn, hon]; decide), if_pos (k.st.trans hst), if_neg (by rw [k.discharging, hdis]; decide),
    if_pos (k.clearing.trans hcl)]

/-- The panel of the next frame of CLEARING or RUN. -/
def runFrame (h : Hutch) : Hutch := { nextFrame h with st := if h.st = 2 ∧ h.frame = 1 then 3 else h.st }

/-- The frame's start of CLEARING and RUN: the third of CLEARING is the first of RUN. -/
theorem frameStartOp_runs (k : PanelBecomes h s t) (hon : domOn s 10 = true) (hst : h.st = 2 ∨ h.st = 3) :
    FrameBegun (runFrame h) s (frameStartOp t) := by
  have hnew := newFrame_begun k
  have hne : ¬ t.hutch.st = 4 := by rw [k.st]; omega
  unfold frameStartOp
  rw [if_neg (by rw [k.domOn, hon]; decide), if_neg hne, if_pos (by rw [k.st]; exact hst)]
  dsimp only
  generalize newFrame t = u at hnew
  have hrects : FrameBegun (nextFrame h) s
      (putHutch u { u.hutch with rects := (upto 4).map (rectFrame u u.hutch) }) := hnew.stands (.put u rfl)
  generalize putHutch u { u.hutch with rects := (upto 4).map (rectFrame u u.hutch) } = v at hrects
  have hface := hrects.face
  simp only [frameFace, Prod.mk.injEq] at hface
  obtain ⟨h1, h2, h3, h4, h5, h6, h7⟩ := hface
  have hcond : (v.hutch.st = 2 ∧ v.hutch.frame = 2) ↔ (h.st = 2 ∧ h.frame = 1) := by
    rw [h1, h2]
    show h.st = 2 ∧ h.frame + 1 = 2 ↔ _
    bv_omega
  by_cases hfirst : h.st = 2 ∧ h.frame = 1
  · rw [if_pos (hcond.2 hfirst), runFrame, if_pos hfirst]
    have hput := PanelBecomes.put v { v.hutch with st := 3 }
    have hrun : FrameBegun { nextFrame h with st := 3 } s (putHutch v { v.hutch with st := 3 }) :=
      { frame := sameBut_trans hrects.frame hput.frame
        data := hput.data.trans hrects.data
        face := by
          simp only [frameFace, Prod.mk.injEq]
          exact ⟨rfl, h2, h3, h4, h5, h6, h7⟩
        cur := hrects.cur
        prev := hrects.prev }
    exact (hrun.stands (.raise _ (by decide) (by decide) (by decide))).stands (flRaise_stands _)
  · rw [if_neg (mt hcond.1 hfirst), runFrame, if_neg hfirst]
    exact hrects

end

/-! ### The statement's parts -/

theorem frameStartRow_becomes {s : State} :
    ∃ t r, PanelBecomes { s.hutch with row := r } s t ∧ frameStartRow s = frameStartOp t := by
  unfold frameStartRow
  split
  · obtain ⟨r, h⟩ := rowLate_becomes s
    exact ⟨_, r, h, rfl⟩
  · exact ⟨s, s.hutch.row, PanelStands.refl s, rfl⟩

theorem panelStartOp_begun {s : State} (hon : domOn s 10 = true) (hst : s.hutch.st = 1) (hp : s.hutch.phase = 4) :
    FrameBegun { s.hutch with
      st := 2, xdis := true, frame := 0, row := 0, bank := s.hutch.bankNext, levels := [], pols := [] } s (panelStartOp s) := by
  have hrow : (domOn s 10 && s.hutch.st == 1 && s.hutch.phase == 4) = true := by rw [hon, hst, hp]; rfl
  unfold panelStartOp
  rw [if_pos hrow]
  exact frameSettings_begun ((PanelBecomes.put s _).stands (.foldl blkTake_stands _ _))

/-- Settles O52: the rails in their order, the frames of each state. -/
theorem railsAndFrames : Obligations.RailsAndFrames := by
  refine ⟨fun s hon hst => ⟨fun hp => ?_, fun hp => ?_, fun hp => ?_, fun hp => ?_, fun hp => ?_, fun hp => ?_, fun hp => ?_,
    fun hp => ?_, fun hp => ?_, fun hp => ?_⟩, fun s hon => ?_⟩
  · exact ⟨_, congrArg Host.Outcome.next (by simp [pavddOnOp, hon, hst, hp]), rfl, putHutch_frame s _⟩
  · exact ⟨_, congrArg Host.Outcome.next (by simp [vglOnOp, hon, hst, hp]), rfl, putHutch_frame s _⟩
  · exact ⟨_, congrArg Host.Outcome.next (by simp [vghOnOp, hon, hst, hp]), rfl, putHutch_frame s _⟩
  · exact ⟨_, congrArg Host.Outcome.next (by simp [vcomOnOp, hon, hst, hp]), rfl, putHutch_frame s _⟩
  · have hb := panelStartOp_begun hon hst hp
    have hface := hb.face
    simp only [frameFace, Prod.mk.injEq] at hface
    obtain ⟨h1, h2, h3, h4, h5, -, -⟩ := hface
    exact ⟨_, rfl, h1, h2, h3, h5, h4, hb.frame, hb.data⟩
  · exact congrArg Host.Outcome.next (by simp [pavddOnOp, hp])
  · exact congrArg Host.Outcome.next (by simp [vglOnOp, hp])
  · exact congrArg Host.Outcome.next (by simp [vghOnOp, hp])
  · exact congrArg Host.Outcome.next (by simp [vcomOnOp, hp])
  · exact congrArg Host.Outcome.next (by simp [panelStartOp, hp])
  · obtain ⟨t, r, k, hrow⟩ := frameStartRow_becomes (s := s)
    have hex : exec .frameStart s = .next (frameStartOp t) := congrArg Host.Outcome.next hrow
    refine ⟨fun hst => ?_, fun hst => ?_, fun hst hdis hcl => ?_, fun hst hdis hcl => ?_⟩
    · have hb := frameStartOp_runs k hon (.inr hst)
      have hface := hb.face
      simp only [frameFace, Prod.mk.injEq] at hface
      obtain ⟨h1, h2, h3, h4, -, -, -⟩ := hface
      exact ⟨_, hex, h1.trans (by simp [runFrame, hst]), h2, h3, h4, hb.cur, hb.prev, hb.frame⟩
    · have hb := frameStartOp_runs k hon (.inl hst)
      have hface := hb.face
      simp only [frameFace, Prod.mk.injEq] at hface
      obtain ⟨h1, h2, h3, h4, -, -, -⟩ := hface
      exact ⟨_, hex, h2, h3, h4, hb.cur, hb.prev, h1.trans (by simp [runFrame, hst]), hb.frame⟩
    · have hb := frameStartOp_clears k hon hst hdis hcl
      have hface := hb.face
      simp only [frameFace, Prod.mk.injEq] at hface
      obtain ⟨h1, h2, h3, h4, -, h6, h7⟩ := hface
      exact ⟨_, hex, h1.trans hst, h6, h7.trans hdis, h2, h3, h4, hb.cur, hb.prev, hb.frame⟩
    · rw [hex, frameStartOp_discharges k hon hst hdis hcl]
      exact ⟨_, rfl, rfl, rfl, rfl,
        sameBut_trans (sameBut_mono k.frame (by decide)) (sameBut_mono (startDischarge_only t 4 _).1 (by decide))⟩

end Sys2Proof.Machine

/-!
What ends the panel, the frontlight and the panel temperature (14 R314, R326 to R331; O54).
-/

namespace Sys2Proof.Machine

/-! ### A panel that is given up -/

theorem PanelBecomes.crack {h : Hutch} {s t : State} (k : PanelBecomes h s t) : t.hutch.crack = h.crack :=
  (congrArg Hutch.crack k.core :)

theorem getLsbD_flDrop (s : State) : (flDrop s).power.granted.getLsbD 8 = false := by
  show (setBit10 s.power.granted 8 false).getLsbD 8 = false
  rw [getLsbD_setBit10 _ (by decide), if_pos rfl]

theorem startDischarge_hutch (s : State) (st after : Nat) : (startDischarge s st after).hutch =
    { (freeRects s).hutch with
      flReq := false, flOn := false, st := st, after := after, clearing := false, discharging := true, vcom := false
      xdis := false } := by
  unfold startDischarge
  generalize freeRects s = u
  rfl

theorem hutchDown_hutch (s : State) (after : Nat) : (hutchDown s after).hutch =
    { (freeRects s).hutch with
      flReq := false, flOn := false, st := 4, after := after, clearing := false, discharging := false } := by
  unfold hutchDown
  generalize freeRects s = u
  rfl

theorem startDischarge_effect {s t : State} {st after : Nat} (h : startDischarge s st after = t) :
    t.hutch.st = st ∧ t.hutch.after = after ∧ t.hutch.discharging = true ∧ t.hutch.vcom = false ∧ t.hutch.flReq = false ∧
      t.power.granted.getLsbD 8 = false ∧ sameBut [.hutch, .mem, .chain, .power, .regs, .bureau] s t := by
  have hgr : (startDischarge s st after).power.granted.getLsbD 8 = false := by
    rw [startDischarge_power]
    exact getLsbD_flDrop s
  have hf : sameBut [.hutch, .mem, .chain, .power, .regs, .bureau] s (startDischarge s st after) :=
    sameBut_mono (startDischarge_only s st after).1 (by decide)
  have hh := startDischarge_hutch s st after
  rw [h] at hgr hf hh
  refine ⟨?_, ?_, ?_, ?_, ?_, hgr, hf⟩ <;> rw [hh]

theorem hutchDown_effect {s t : State} {after : Nat} (h : hutchDown s after = t) :
    t.hutch.st = 4 ∧ t.hutch.crack = s.hutch.crack ∧ t.hutch.after = after ∧ t.hutch.discharging = false ∧
      sameBut [.hutch, .mem, .chain, .power, .regs, .bureau] s t := by
  have hh := hutchDown_hutch s after
  have hf : sameBut [.hutch, .mem, .chain, .power, .regs, .bureau] s (hutchDown s after) :=
    sameBut_mono (hutchDown_only s after).1 (by decide)
  rw [h] at hf hh
  refine ⟨?_, ?_, ?_, ?_, hf⟩ <;> rw [hh]
  exact (freeRects_stands s).crack

/-! ### The rails and the crack test -/

theorem railFaultOp_good {s : State} {rail : Nat} {mv : Int} (h : railGood s.hutch rail mv = true) :
    railFaultOp s rail mv = s := by
  simp [railFaultOp, h]

/-- A rail that is up, outside its good range, ends the panel: in RUN with cause 7, in the power-up with its own. -/
theorem railFaultOp_bad {s : State} {rail : Nat} {mv : Int} (hon : domOn s 10 = true)
    (h : railGood s.hutch rail mv = false) (hpavdd : s.hutch.pavdd = true) (hvgl : s.hutch.vgl = true)
    (hvgh : s.hutch.vgh = true) (hvcom : s.hutch.vcom = true) :
    (s.hutch.st = 3 → railFaultOp s rail mv = startDischarge s 6 7) ∧
      (s.hutch.st = 1 → railFaultOp s rail mv = startDischarge s 6 (rail + 1)) := by
  constructor <;> intro hst <;> simp [railFaultOp, hon, h, hpavdd, hvgl, hvgh, hvcom, hst]

/-- The crack test's result. -/
def crackRead (s : State) (ohms : Nat) : State := putHutch s { s.hutch with crack := decide (2000 ≤ ohms) }

theorem crackTestOp_run {s : State} (ohms : Nat) (hon : domOn s 10 = true) (hst : s.hutch.st = 3) :
    crackTestOp s ohms = if 2000 ≤ ohms then hutchDown (crackRead s ohms) 5 else crackRead s ohms := by
  simp [crackTestOp, crackRead, hon, hst]

theorem crackTestOp_rising {s : State} (ohms : Nat) (hon : domOn s 10 = true) (hst : s.hutch.st = 1)
    (hp : s.hutch.phase = 0) :
    crackTestOp s ohms = if 2000 ≤ ohms then hutchFault (crackRead s ohms) 5 else crackRead s ohms := by
  simp [crackTestOp, crackRead, hon, hst, hp]

theorem crackRead_whole (s : State) {ohms : Nat} (h : ohms < 2000) :
    (crackRead s ohms).hutch = { s.hutch with crack := false } ∧ sameBut [.hutch] s (crackRead s ohms) := by
  refine ⟨?_, putHutch_frame s _⟩
  rw [crackRead, decide_eq_false (by omega)]
  rfl

theorem hutchFault_effect (s : State) (cause : Nat) :
    let t := hutchFault s cause
    t.hutch = { s.hutch with st := 5, cause := cause } ∧
      (coreOn s = true → Registers.wf s = true → statusBit t srcDispFault = true) ∧ sameBut [.hutch, .regs, .bureau] s t := by
  refine ⟨(raise_frame _ (by decide)) .hutch (by decide), fun hc hw => ?_, hutchFault_frame s cause⟩
  exact statusBit_raise_wf (by decide) hc hw

/-! ### The end of the discharge -/

/-- The panel after its discharge. -/
def discharged (h : Hutch) : Hutch :=
  { h with
    st := if h.after = 0 then 0 else 5, cause := if h.after = 0 then h.cause else h.after
    discharging := false, clearing := false, pavdd := false, vgl := false, vgh := false, vcom := false }

/-- GASP's stage 3 ends where it has begun. -/
def panelStageEnds (u : State) : State :=
  if u.seq.st = .gasp ∧ u.power.gaspPanelStarted then
    orReg { u with power := { u.power with gaspPanelEnded := true } } 0x118 8
  else u

theorem dischargeEndOp_eq {s : State} (h : s.hutch.discharging = true) : dischargeEndOp s =
    panelStageEnds (raiseIf (decide (s.hutch.after ≠ 0)) srcDispFault (putHutch s (discharged s.hutch))) := by
  unfold dischargeEndOp
  rw [if_pos h]
  rfl

theorem panelStageEnds_effect (u : State) :
    (panelStageEnds u).hutch = u.hutch ∧
      (u.seq.st = .gasp → u.power.gaspPanelStarted = true → (panelStageEnds u).power.gaspPanelEnded = true) ∧
      sameBut [.power, .aon] u (panelStageEnds u) := by
  unfold panelStageEnds
  split
  · refine ⟨rfl, fun _ _ => rfl, ?_⟩
    exact sameBut_trans (sameBut_mono (sameBut_power u _) (by decide)) (sameBut_mono (sameBut_aon _ _) (by decide))
  case isFalse hno => exact ⟨rfl, fun hg hp => absurd ⟨hg, hp⟩ hno, sameBut_refl _ u⟩

theorem dischargeEndOp_effect {s : State} (h : s.hutch.discharging = true) :
    let t := dischargeEndOp s
    t.hutch = discharged s.hutch ∧
      (s.seq.st = .gasp → s.power.gaspPanelStarted = true → t.power.gaspPanelEnded = true) ∧
      sameBut [.hutch, .regs, .bureau, .power, .aon] s t := by
  have hput := putHutch_frame s (discharged s.hutch)
  have htold : sameBut [.regs, .bureau] (putHutch s (discharged s.hutch))
      (raiseIf (decide (s.hutch.after ≠ 0)) srcDispFault (putHutch s (discharged s.hutch))) := by
    unfold raiseIf
    split
    · exact sameBut_mono (raise_frame _ (by decide)) (by decide)
    · exact sameBut_refl _ _
  dsimp only
  rw [dischargeEndOp_eq h]
  generalize raiseIf (decide (s.hutch.after ≠ 0)) srcDispFault (putHutch s (discharged s.hutch)) = u at htold
  obtain ⟨hh, hg, hf⟩ := panelStageEnds_effect u
  have hseq : u.seq = s.seq := htold .seq (by decide)
  have hpow : u.power = s.power := htold .power (by decide)
  have hhut : u.hutch = discharged s.hutch := htold .hutch (by decide)
  exact ⟨hh.trans hhut, fun a b => hg (by rw [hseq]; exact a) (by rw [hpow]; exact b),
    sameBut_trans (sameBut_mono hput (by decide)) (sameBut_trans (sameBut_mono htold (by decide)) (sameBut_mono hf (by decide)))⟩

/-! ### The temperature -/

/-- A warmer panel has reached every threshold that a colder one has. -/
theorem tCount_mono (s : State) {a b : Int} (h : a ≤ b) : tCount s a ≤ tCount s b := by
  unfold tCount
  refine (List.monotone_filter_right _ fun k hk => ?_).length_le
  exact decide_eq_true (le_trans (of_decide_eq_true hk) h)

/-- The bank that a temperature decides, from the present one. -/
def bankNextOf (s : State) (t : Int) : Nat :=
  if tCount s t > s.hutch.bank then tCount s t
  else if tCount s (t + 2) < s.hutch.bank then tCount s (t + 2) else s.hutch.bank

theorem dispTempOp_sensor {s : State} {tc : Int} (hc : coreOn s = true) (hon : domOn s 10 = true)
    (hsrc : bitAt (getReg s 0x808) 4 = false) :
    dispTempOp s tc = putHutch s { s.hutch with temp := tc, bankNext := bankNextOf s tc } := by
  simp [dispTempOp, bankNextOf, hc, hon, hsrc]

/-- Settles O54: rails, crack test, discharge, frontlight, panel temperature. -/
theorem panelsGoDownAndLight : Obligations.PanelsGoDownAndLight := by
  refine ⟨fun rail mv ohms s hon => ⟨fun hgood => ?_, fun hbad hpavdd hvgl hvgh hvcom => ?_, fun hst => ?_, fun hst hp => ?_,
    fun hdis => ?_, fun hdis => ?_⟩, fun tc s hc => ⟨fun hreq hgr => ?_, fun hno => ?_, fun hon hsrc => ?_, fun hoff => ?_⟩⟩
  · exact congrArg Host.Outcome.next (railFaultOp_good hgood)
  · obtain ⟨hrun, hup⟩ := railFaultOp_bad (rail := rail.val) (mv := mv) hon hbad hpavdd hvgl hvgh hvcom
    refine ⟨fun hst => ?_, fun hst => ?_⟩
    · exact ⟨_, congrArg Host.Outcome.next (hrun hst), startDischarge_effect rfl⟩
    · obtain ⟨h1, h2, h3, h4, -, -, h7⟩ := startDischarge_effect (s := s) (st := 6) (after := rail.val + 1) rfl
      exact ⟨_, congrArg Host.Outcome.next (hup hst), h1, h2, h3, h4, h7⟩
  · have hop := crackTestOp_run ohms hon hst
    refine ⟨fun hc => ?_, fun hc => ?_⟩
    · rw [if_pos hc] at hop
      obtain ⟨h1, h2, h3, h4, h5⟩ := hutchDown_effect (s := crackRead s ohms) (after := 5) rfl
      exact ⟨_, congrArg Host.Outcome.next hop, h1, h2.trans (decide_eq_true hc), h3, h4,
        sameBut_trans (sameBut_mono (putHutch_frame s _) (by decide)) h5⟩
    · rw [if_neg (by omega)] at hop
      exact ⟨_, congrArg Host.Outcome.next hop, crackRead_whole s hc⟩
  · have hop := crackTestOp_rising ohms hon hst hp
    refine ⟨fun hc => ?_, fun hc => ?_⟩
    · rw [if_pos hc] at hop
      obtain ⟨h1, h2, h3⟩ := hutchFault_effect (crackRead s ohms) 5
      refine ⟨_, congrArg Host.Outcome.next hop, ?_, ?_, ?_, h2, sameBut_trans (sameBut_mono (putHutch_frame s _) (by decide)) h3⟩
      · rw [h1]
      · rw [h1]
      · rw [h1]
        exact decide_eq_true hc
    · rw [if_neg (by omega)] at hop
      exact ⟨_, congrArg Host.Outcome.next hop, crackRead_whole s hc⟩
  · obtain ⟨hh, hg, hf⟩ := dischargeEndOp_effect hdis
    refine ⟨⟨_, congrArg Host.Outcome.next (if_pos hdis), rfl, putHutch_frame s _⟩, ⟨_, rfl, ?_, ?_, ?_, fun ha => ?_, hg, hf⟩⟩
    · rw [hh, discharged]
    · rw [hh, discharged]
    · rw [hh, discharged]
    · rw [hh, discharged]
      exact if_neg ha
  · exact ⟨congrArg Host.Outcome.next (if_neg (by rw [hdis]; decide)), congrArg Host.Outcome.next (if_neg (by rw [hdis]; decide))⟩
  · exact ⟨_, congrArg Host.Outcome.next (by simp [flOnOp, hc, hreq, hgr]), rfl, putHutch_frame s _⟩
  · refine congrArg Host.Outcome.next ?_
    have hcond : (coreOn s && s.hutch.flReq && s.power.granted.getLsbD 8) = false := by
      rcases hno with h | h
      · rw [h, Bool.and_false, Bool.false_and]
      · rw [h, Bool.and_false]
    exact if_neg (by rw [hcond]; decide)
  · have hle : tCount s tc ≤ tCount s (tc + 2) := tCount_mono s (by omega)
    refine ⟨_, congrArg Host.Outcome.next (dispTempOp_sensor hc hon hsrc), rfl, putHutch_frame s _, fun h => ?_, fun h h' => ?_,
      fun h => ?_⟩
    · exact if_pos h
    · exact (if_neg (by omega)).trans (if_neg (by omega))
    · exact (if_neg (by omega)).trans (if_pos h)
  · exact congrArg Host.Outcome.next (by simp [dispTempOp, hoff])

end Sys2Proof.Machine

/-!
Every opcode row completes (04 R83 to R107; O60).
-/

namespace Sys2Proof.Machine

/-! ### What an answer says and leaves -/

theorem answered.replied {u t : State} {l : Land} {st c k : Nat} {fs : List Field} (h : answered u t l st fs c k)
    (hn : l.noreply = false) : replied t l st :=
  ⟨_, h.trans (if_neg (by simp [hn])), rfl, rfl⟩

/-- The end of a landing with an answer of a quiet status. -/
theorem answered_landing_frame (s v : State) (l : Land) (n c : Nat) {st : Nat} (fs : List Field)
    (hq : st ≠ stBadCrc ∧ st ≠ stBadOpc ∧ st ≠ stBadLen) :
    sameBut [.ports, .regs, .bureau, .chain, .seq] v (afterLanding s l.port n (answer v l c st fs)) := by
  obtain ⟨q, h⟩ := afterLanding_eq s l.port n (answer v l c st fs)
  have ha : sameBut [.ports, .regs, .bureau, .chain] v (answer v l c st fs) := answerAt_frame v _ _ _ _ _ _ hq
  rw [h]
  exact sameBut_trans (sameBut_mono ha (by decide)) (sameBut_trans (sameBut_mono (sameBut_ports _ q) (by decide))
    (sameBut_mono (sameBut_seq _ _) (by decide)))

theorem getReg_congr_parts {s t : State} (hr : t.regs = s.regs) (ha : t.aon = s.aon) (n : Nat) : getReg t n = getReg s n := by
  rw [getReg, getReg, hr, ha]

/-- A reply leaves every register but the host's status. -/
theorem getReg_giveReply {n : Nat} (hn : n ≠ srcHostReply / 20) (s : State) (p : PortId) (r : Reply) :
    getReg (giveReply s p r) n = getReg s n := by
  cases p with
  | host => exact getReg_raiseIf_other _ _ hn
  | maint => rfl
  | chain =>
    match hw : s.ports.chainFrom, hd : (portOf s .chain).due with
    | none, _ => rw [giveReply_chain_of_noWay r hw]; rfl
    | some (d, q, g), none =>
      rw [giveReply_chain_of_idle r hw hd]
      exact getReg_sendFrame _ _ n
    | some (d, q, g), some c => rw [giveReply_chain_of_executing r hw hd]; rfl

/-- So does an answer OK, of any packet; and the answer of a packet under way leaves that too. -/
theorem getReg_answer (s : State) (l : Land) (c n : Nat) (fs : List Field)
    (h : n ≠ srcHostReply / 20 ∨ (portOf s l.port).due.isSome = true) : getReg (answer s l c stOk fs) n = getReg s n := by
  rcases h with hn | hd
  · obtain ⟨q, hq⟩ := setDue_eq s l.port (c + 8)
    unfold answer answerAt
    rw [noteStatus_quiet s _ _ quiet_ok, hq]
    dsimp only
    split
    · rfl
    · exact getReg_giveReply hn _ _ _
  · obtain ⟨q, hq⟩ := answerAt_eq s l.port l.tag l.noreply stOk fs c 8 quiet_ok hd
    exact getReg_congr_parts (by rw [answer, hq]) (by rw [answer, hq]) n

theorem getReg_afterLanding (s : State) (p : PortId) (k : Nat) (v : State) (n : Nat) :
    getReg (afterLanding s p k v) n = getReg v n := by
  obtain ⟨q, h⟩ := afterLanding_eq s p k v
  rw [h]
  rfl

/-- A write of the host's status register leaves the ports. -/
theorem writeReg_hostStatus_ports (s : State) (p : PortId) (v : Word) :
    (writeReg s p (srcHostReply / 20) v).ports = s.ports := by
  obtain ⟨r, hr⟩ : ∃ r, regRow (srcHostReply / 20) = some r := Option.isSome_iff_exists.1 (by decide)
  rw [writeReg_of_row hr (by decide) (by decide) (by decide)]
  have he : ∀ t old new, writeEffect t p (srcHostReply / 20) v old new = t := fun t _ _ => by
    have hsealed : sealedSet.contains 1 = false := by decide
    simp only [writeEffect, srcHostReply, hsealed]
    rfl
  rw [he]
  exact setReg_ports s _ _

section
variable {l : Land} {s : State} (h : takes s l.port = true) (hn : l.noreply = false)
include h hn

/-! ### Registers -/

theorem completes_nop : Completes (.nop l) s (fun t => replied t l stOk) := by
  obtain ⟨⟨t, ht, ha, -⟩, -⟩ := nopAndCommitAnswer l s h
  exact ⟨t, ht, ha.replied hn⟩

theorem completes_commit (g : BitVec 5) : Completes (.commit l g) s (fun t =>
    replied t l stOk ∧ t.seq.commitMask = (landState s l.port).seq.commitMask ||| g) := by
  obtain ⟨-, hc⟩ := nopAndCommitAnswer l s h
  obtain ⟨t, ht, ha, -, hseq⟩ := hc g
  exact ⟨t, ht, ha.replied hn, by rw [hseq]⟩

theorem completes_wr {n : BitVec 12} (v : Word) (hr : regsOk [n] = true) : Completes (.wr l 0 [(n, v)]) s (fun t =>
    replied t l stOk ∧ getReg t n.toNat = getReg (writeReg (landState s l.port) l.port n.toNat v) n.toNat) := by
  obtain ⟨hw, -⟩ := writePacketsWrite l [(n, v)] [] s h
  obtain ⟨t, ht, ha, heq⟩ := hw rfl hr
  have hone : ([(n, v)].filter (fun e => onlyClears e.1) ++ [(n, v)].filter (fun e => !onlyClears e.1)).foldl
      (fun a e => writeReg a l.port e.1.toNat e.2) (landState s l.port) = writeReg (landState s l.port) l.port n.toNat v := by
    cases hc : onlyClears n <;> simp [hc]
  rw [hone] at heq
  refine ⟨t, ht, ha.replied hn, ?_⟩
  rw [heq, getReg_afterLanding]
  refine getReg_answer _ _ _ _ _ ?_
  by_cases hs : n.toNat = srcHostReply / 20
  · right
    rw [hs, portOf_congr _ _ _ (writeReg_hostStatus_ports _ _ _)]
    exact landState_under_way s l.port
  · exact .inl hs

theorem completes_rmw {n : BitVec 12} (a o : Word) (hr : regsOk [n] = true) :
    Completes (.rmw l 0 [(n, a, o)]) s (fun t => replied t l stOk) := by
  obtain ⟨-, hw, -⟩ := writePacketsWrite l [] [(n, a, o)] s h
  obtain ⟨t, ht, ha, -⟩ := hw rfl hr
  exact ⟨t, ht, ha.replied hn⟩

/-! ### The display -/

theorem completes_dispRect {x0 y0 w ht i : Nat} (hok : rectOk (landState s l.port) x0 y0 w ht = true)
    (h3 : (landState s l.port).hutch.st = 3) (hd : domOn (landState s l.port) 10 = true)
    (hi : (upto 4).find? (fun k => (rectAt (landState s l.port).hutch k).st == 0) = some i)
    (hlen : (landState s l.port).hutch.rects.length = 4) :
    Completes (.dispRect l x0 y0 w ht) s (fun t => (rectAt t.hutch i).st = 1 ∧ (rectAt t.hutch i).x0 = x0 ∧
      (replied t l stOk ∨ replied t l stRectWait)) := by
  obtain ⟨hrect, -⟩ := displayOpcodes l x0 y0 w ht [] s h
  obtain ⟨t, ht, hh, ha, -⟩ := hrect i hok h3 hd hi
  have hlt : i < (landState s l.port).hutch.rects.length := by
    rw [hlen]
    exact List.mem_range.1 (List.mem_of_find?_eq_some hi)
  have hslot : ∀ r, rectAt { (landState s l.port).hutch with
      rects := setNth (landState s l.port).hutch.rects i r, ageNext := (landState s l.port).hutch.ageNext + 1 } i = r :=
    fun r => nth_setNth hlt _ _
  refine ⟨t, ht, by rw [hh, hslot], by rw [hh, hslot], ?_⟩
  split at ha
  · exact .inr (ha.replied hn)
  · exact .inl (ha.replied hn)

theorem completes_dispBlink {fs : List Field} (hok : blinkOk (landState s l.port) (fs.map (·.toNat)) = true)
    (hlen : (landState s l.port).hutch.blinkWait.length = 4)
    (hfree : (nth (landState s l.port).hutch.blinkWait (nth (fs.map (·.toNat)) 0 0 % 4) none).isSome = false) :
    Completes (.dispBlink l fs) s (fun t => replied t l stOk ∧
      (nth t.hutch.blinkWait (nth (fs.map (·.toNat)) 0 0 % 4) none).isSome = true) := by
  obtain ⟨-, -, hblink, -⟩ := displayOpcodes l 0 0 0 0 fs s h
  obtain ⟨t, ht, ha, hh, -⟩ := (hblink hok).1 hfree
  have hlt : nth (fs.map (·.toNat)) 0 0 % 4 < (landState s l.port).hutch.blinkWait.length := by omega
  refine ⟨t, ht, ha.replied hn, ?_⟩
  rw [hh]
  exact congrArg Option.isSome (nth_setNth hlt _ _)

theorem completes_dispPowerUp (hd : domOn (landState s l.port) 10 = true) (h0 : (landState s l.port).hutch.st = 0)
    (htim : storedTimingOk (landState s l.port) = true) :
    Completes (.dispPowerUp l) s (fun t => replied t l stOk ∧ t.hutch.st = 1) := by
  obtain ⟨-, -, -, hup, -⟩ := displayOpcodes l 0 0 0 0 [] s h
  refine ⟨_, hup hd (.inl h0), (answered_afterLanding _ _ _ _ _ _ _ quiet_ok).replied hn, ?_⟩
  rw [(answered_landing_frame s _ l 1 _ [] quiet_ok) .hutch (by decide), hutchUp, htim]
  rfl

theorem completes_dispPowerDown (hst : (landState s l.port).hutch.st = 2 ∨ (landState s l.port).hutch.st = 3) :
    Completes (.dispPowerDown l) s (fun t => replied t l stOk ∧ t.hutch.st = 4) := by
  obtain ⟨-, -, -, -, -, -, hdown, -⟩ := displayOpcodes l 0 0 0 0 [] s h
  refine ⟨_, hdown hst, (answered_afterLanding _ _ _ _ _ _ _ quiet_ok).replied hn, ?_⟩
  rw [(answered_landing_frame s _ l 1 _ [] quiet_ok) .hutch (by decide), hutchDown_hutch]

/-! ### Nonces, keys, saves, energy, the chain, the reset -/

theorem completes_authChal : Completes (.authChal l) s (fun t => replied t l stOk ∧
    ∃ n, (portOf t l.port).nonce = some n ∧ n.issued = (landState s l.port).aon.time) := by
  obtain ⟨⟨t, ht, ha, hnonce, -⟩, -⟩ := noncesAndKeys l false 0 0 s h
  exact ⟨t, ht, ha.replied hn, _, hnonce, rfl⟩

theorem completes_keyLoad {slot : Bool} {b : BitVec 144} {nonce : BitVec 72} {old : BitVec 128}
    (hold : keySlot (landState s l.port) slot = some old) (hb : keyBytesOk b = true)
    (hkey : (b >>> 16).setWidth 128 ^^^ keyMask old nonce ≠ 0) :
    Completes (.keyLoad l slot b nonce) s (fun t => replied t l stOk ∧
      ∃ c, (c, slot, (b >>> 16).setWidth 128 ^^^ keyMask old nonce) ∈ t.ports.keysDue) := by
  have hk := noncesAndKeys l slot b nonce s h
  dsimp only at hk
  rw [hold] at hk
  obtain ⟨-, hload, -⟩ := hk
  obtain ⟨t, ht, ha, hdue, -⟩ := hload hb hkey
  refine ⟨t, ht, ha.replied hn, landCycle s + 8, ?_⟩
  rw [hdue]
  exact List.mem_append_right _ (List.mem_singleton.2 rfl)

theorem completes_resetSoft : Completes (.resetSoft l 0x0A55A) s (fun t => replied t l stOk ∧ t.seq.resetReq = true) := by
  obtain ⟨-, hres, -⟩ := savesPresetsAndReset.2 l 0 0 0x0A55A s h
  obtain ⟨t, ht, ha, -, hseq, -⟩ := hres rfl
  exact ⟨t, ht, ha.replied hn, by rw [hseq]⟩

theorem completes_energyPreset {q : BitVec 4} (v : BitVec 60) (hq : q.toNat ≤ 11) (hi : (landState s l.port).seq.item ≤ 9)
    (hw : Registers.wf (landState s l.port) = true) :
    Completes (.energyPreset l q v) s (fun t => replied t l stOk ∧
      getWide t (energyReg q.toNat (bitAt (getReg (landState s l.port) 0x40C) 1)) = v.toNat) := by
  obtain ⟨hpre, -⟩ := savesPresetsAndReset.2 l q v 0 s h
  obtain ⟨t, ht, ha, hwide, -⟩ := hpre hq hi
  exact ⟨t, ht, ha.replied hn, (hwide hw).1⟩

theorem completes_chainEnum (henum : (landState s l.port).chain.enum = none) (hpos : ownPos (landState s l.port) = 0)
    (hup : (landState s l.port).chain.up.st ≠ 2) (hdn : (landState s l.port).chain.dn.st ≠ 2) :
    Completes (.chainEnum l) s (fun t => replied t l stOk) := by
  obtain ⟨-, -, halone, -⟩ := enumerationStarts l s h
  obtain ⟨t, ht, ha, -⟩ := halone henum (by simp [hpos, hup, hdn]) (by simp [hup, hdn])
  exact ⟨t, ht, ha.replied hn⟩

end

theorem completes_saves {l : Land} {s : State} (h : takes s l.port = true) (hfree : nvmBusy (landState s l.port) = false)
    (hstop : (landState s l.port).seq.stopping = false) :
    Completes (.cfgSave l) s (fun t => (∃ w ∈ (portOf t l.port).busy, w.land = l) ∧
        t.nvm.waiting.length = (landState s l.port).nvm.waiting.length + 1) ∧
      Completes (.calSeal l) s (fun t => (∃ w ∈ (portOf t l.port).busy, w.land = l) ∧
        t.nvm.waiting.length = (landState s l.port).nvm.waiting.length + 1) := by
  obtain ⟨-, hsave⟩ := savesPresetsAndReset.1 l s h
  obtain ⟨⟨t, ht, hb, hnvm, -⟩, ⟨v, slot, hv, hb', hnvm', -⟩⟩ := hsave hfree hstop
  refine ⟨⟨t, ht, ⟨_, hb ▸ List.mem_append_right _ (List.mem_singleton.2 rfl), rfl⟩, ?_⟩,
    ⟨v, hv, ⟨_, hb' ▸ List.mem_append_right _ (List.mem_singleton.2 rfl), rfl⟩, ?_⟩⟩
  · rw [hnvm, List.length_append]
    rfl
  · rw [hnvm', List.length_append]
    rfl

/-! ### Memory -/

/-- A request raised where the port has none stands in the Sideboard; the ports are as they were. -/
theorem placeOp_requests {s : State} {r : Nat} {op : MemOp} {a : Access} {c k : Nat}
    (hm : mapCheck a.kind a.pa a.count = (some .capture, k)) (hr : requesting s r = false) :
    requesting (placeOp s r op a c) r = true ∧ (placeOp s r op a c).ports = s.ports := by
  have hu : usesSideboard a = true := by unfold usesSideboard; rw [hm]
  have hop : placeOp s r op a c = raiseAt s r op c := by simp [placeOp, hu, hr]
  rw [hop]
  unfold raiseAt
  rw [if_neg (by rw [hr]; decide)]
  exact ⟨by simp [requesting], rfl⟩

/-- An operation of a port on capture memory of this part. -/
theorem completes_memory {l : Land} {va : BitVec 24} {n : Nat} {d : List Byte} {x y : BitVec 32} {i : Instr} {opc : Nat}
    {a : Access} {s : State} (h : takes s l.port = true) (hn : 1 ≤ n) (hn' : n ≤ 240) (hd : sizeOk d 234 = true)
    (hi : (i = .memRd l va n ∧ opc = 0x08 ∧
        a = { kind := .read, pa := va.toNat, count := n, data := [], op1 := 0, op2 := 0 }) ∨
      (i = .memWr l va d ∧ opc = 0x09 ∧
        a = { kind := .write, pa := va.toNat, count := d.length, data := d, op1 := 0, op2 := 0 }) ∨
      (va.toNat % 4 = 0 ∧ opc = 0x0A ∧
        ((i = .fetchAdd l va x ∧ a = { kind := .fetchAdd, pa := va.toNat, count := 4, data := [], op1 := x, op2 := 0 }) ∨
         (i = .swap l va x ∧ a = { kind := .swap, pa := va.toNat, count := 4, data := [], op1 := x, op2 := 0 }) ∨
         (i = .cmpSwap l va x y ∧
           a = { kind := .cmpSwap, pa := va.toNat, count := 4, data := [], op1 := x, op2 := y }))))
    {pa g c : Nat} (hat : translate (found (landState s l.port) l a) (portReq l.port) a.kind a.pa (a.pa + a.count - 1) =
      .at_ (ownPos (found (landState s l.port) l a)) pa g)
    (hm : mapCheck a.kind pa a.count = (some .capture, c))
    (hreq : requesting (found (landState s l.port) l a) (portReq l.port) = false) :
    Completes i s (fun t => (∃ w ∈ (portOf t l.port).busy, w.land = l) ∧ requesting t (portReq l.port) = true) := by
  obtain ⟨f, hexec, hf⟩ := exec_memory hn hn' hd hi s
  obtain ⟨hstart, -⟩ := hf (landState s l.port) (landCycle s)
  have hrow : ∀ {v}, f (landState s l.port) (landCycle s) = v → exec i s = .next (afterLanding s l.port 0 v) :=
    fun hv => hexec.trans (next_opcodeRow 0 h hv)
  generalize landState s l.port = u at *
  have hnot : a.kind = .read → regsAt u (portReq l.port) a.pa a.count = none := fun hk => by
    have hlook := translate_lookupTime u (portReq l.port) (a.pa / 16) (portReq l.port) .read a.pa (a.pa + a.count - 1)
    rw [regsAt_of_at (by rw [← hlook, ← hk]; exact hat), ← hk, hm, if_neg (by simp)]
  have hmem : (setBusy (found u l a) (waitOf u l opc)).mem = (found u l a).mem := setBusy_frame _ _ .mem (by decide)
  obtain ⟨hq, hp⟩ := placeOp_requests (s := setBusy (found u l a) (waitOf u l opc)) (r := portReq l.port)
    (op := .port (waitOf u l opc) { a with pa := pa } (portReq l.port) a.pa g (lookCycles u l a)) (a := { a with pa := pa })
    (c := min (found u l a).seq.cycle 6143 + lookCycles u l a - 1) hm (by rw [requesting, hmem]; exact hreq)
  refine ⟨_, hrow ((hstart hnot).trans (memStart_placed hat hm)), ⟨waitOf u l opc, ?_, rfl⟩, ?_⟩
  · have hbusy := waits_port (s := s) (l := l) (w := waitOf u l opc) rfl hp 0
    rw [hbusy]
    exact List.mem_append_right _ (List.mem_singleton.2 rfl)
  · obtain ⟨q, hq'⟩ := afterLanding_eq s l.port 0 (placeOp (setBusy (found u l a) (waitOf u l opc)) (portReq l.port)
      (.port (waitOf u l opc) { a with pa := pa } (portReq l.port) a.pa g (lookCycles u l a)) { a with pa := pa }
      (min (found u l a).seq.cycle 6143 + lookCycles u l a - 1))
    rw [hq']
    exact hq

end Sys2Proof.Machine

/-!
Every register row completes (00 R8, 02, 03, 08 to 14; O60).
-/

namespace Sys2Proof.Machine

/-! ### Bits of a register -/

/-- The bits that a write stores are those written. -/
theorem and_stored (a v m : Word) : ((a &&& ~~~m) ||| (v &&& m)) &&& m = v &&& m := by
  ext i hi
  simp only [BitVec.getElem_and, BitVec.getElem_or, BitVec.getElem_not]
  cases m[i] <;> simp

/-- A field says what its bits do. -/
theorem fld_congr {a b : Word} (lo n : Nat) (h : ∀ i, lo ≤ i → i < lo + n → bitAt a i = bitAt b i) : fld a lo n = fld b lo n := by
  refine Nat.eq_of_testBit_eq fun i => ?_
  simp only [fld, bitsOf, Nat.testBit_mod_two_pow, Nat.testBit_shiftRight]
  by_cases hi : i < n
  · rw [decide_eq_true hi, Bool.true_and, Bool.true_and]
    exact h (lo + i) (by omega) (by omega)
  · rw [decide_eq_false hi, Bool.false_and, Bool.false_and]

/-- FL_CTRL keeps DUTY and EN as written, whatever MA is. -/
theorem bitAt_flCtrl (v : Word) {i : Nat} (hi : 6 ≤ i) : bitAt (adjust 0x810 v) i = bitAt v i := by
  have hdiv : (capField v 0 6 40 40).toNat / 2 ^ 6 = v.toNat / 2 ^ 6 := by
    have hv := v.isLt
    unfold capField
    split
    · simp only [setFld, fld, bitsOf, wd, BitVec.toNat_ofNat, Nat.shiftRight_zero, Nat.pow_zero, Nat.mul_one]
      omega
    · rfl
  show (capField v 0 6 40 40).toNat.testBit i = v.toNat.testBit i
  obtain ⟨j, rfl⟩ := Nat.exists_eq_add_of_le' hi
  rw [← Nat.testBit_div_two_pow, hdiv, Nat.testBit_div_two_pow]

/-- A writable bit stores what is written; no row's writable bits clear by ones. -/
theorem bitAt_merged (r : RegRow) (n : Nat) (old v : Word) {i : Nat} (hi : i < 20)
    (hm : (r.rw ||| r.sn ||| r.sh).testBit i = true) (hc : r.w1c.testBit i = false) :
    bitAt (merged r n old v) i = bitAt (adjust n v) i := by
  have hwd : ∀ m : Nat, (wd m).getLsbD i = m.testBit i := fun m => by
    rw [wd, BitVec.getLsbD_ofNat, decide_eq_true hi, Bool.true_and]
  simp only [merged, bitAt, BitVec.getLsbD_or, BitVec.getLsbD_and, BitVec.getLsbD_not, hwd, hm, hc,
    Bool.not_true, Bool.and_false, Bool.and_true, Bool.false_and, Bool.false_or, Bool.or_false]

theorem regRows_clear_apart : ∀ r ∈ regRows, (r.rw ||| r.sn ||| r.sh) &&& r.w1c = 0 := by decide +kernel

theorem mem_of_findRow {n : Nat} {r : RegRow} {l : List RegRow} (h : findRow n l = some r) : r ∈ l := by
  induction l with
  | nil => cases h
  | cons x xs ih =>
    rw [findRow] at h
    split at h
    · cases h
      exact List.mem_cons_self
    · exact List.mem_cons_of_mem _ (ih h)

/-- A register of no other effect stores its writable bits. -/
theorem writeEffect_quiet {n : Nat} (h : quietWrite n = true) (s : State) (p : PortId) (v old new : Word) :
    writeEffect s p n v old new = s := by
  simp only [quietWrite, Bool.and_eq_true, Bool.not_eq_true', List.contains_eq_mem, decide_eq_false_iff_not, List.mem_cons,
    List.not_mem_nil, or_false, not_or] at h
  obtain ⟨hn, hs⟩ := h
  have hseal : sealedSet.contains n = false := by simpa using hs
  unfold writeEffect
  iterate 14 rw [if_neg (by omega)]
  rw [hseal]
  rfl

/-- FL_CTRL's row. -/
theorem flCtrl_row : (regRow 0x810).any (fun r => r.rw == 0x1FF3F && r.w1c == 0) = true := by decide +kernel

/-! ### The rows -/

section
variable {s : State} (p : PortId) (v : Word) (h : portsUp s = true)
include h

theorem completes_recStageCfg : Completes (.recStageCfg p v) s (fun t => t.bureau.stageFault = false) := by
  refine ⟨_, congrArg Host.Outcome.next (portWrite_of_row (n := 0x703) rfl (by decide) (by decide) (by decide) h p v), ?_⟩
  generalize setReg s 0x703 _ = u
  show (stageSettings { u with bureau := { u.bureau with stageFault := false } }).bureau.stageFault = false
  unfold stageSettings
  split <;> rfl

variable (hw : Registers.wf s = true)
include hw

theorem completes_flEn (hv : bitAt v 16 = true) (hst : s.hutch.st = 3) (hreq : s.hutch.flReq = false) :
    Completes (.flEn p v) s (fun t => t.hutch.flReq = true ∧ t.hutch.flDuty = fld v 8 8) := by
  obtain ⟨r, hrow, hr⟩ := (Option.any_eq_true _ _).1 flCtrl_row
  obtain ⟨hrw, hclear⟩ : r.rw = 0x1FF3F ∧ r.w1c = 0 := by simpa using hr
  refine ⟨_, congrArg Host.Outcome.next (portWrite_of_row hrow (by decide) (by decide) (by decide) h p v), ?_⟩
  have hbit : ∀ i, 8 ≤ i → i < 17 → bitAt (merged r 0x810 (getReg s 0x810) v) i = bitAt v i := fun i hi hi' => by
    have hrwi : r.rw.testBit i = true := by
      rw [hrw]
      interval_cases i <;> decide
    have hmask : (r.rw ||| r.sn ||| r.sh).testBit i = true := by rw [Nat.testBit_or, Nat.testBit_or, hrwi]; rfl
    exact (bitAt_merged _ _ _ _ (by omega) hmask (by rw [hclear]; exact Nat.zero_testBit i)).trans (bitAt_flCtrl v (by omega))
  generalize merged _ 0x810 (getReg s 0x810) v = w at hbit
  have hreg : getReg (setReg s 0x810 w) 0x810 = w := getReg_setReg _ w hw
  have hh : (setReg s 0x810 w).hutch = s.hutch := setReg_frame_regs s w (by decide) .hutch (by decide)
  show (flFollow (setReg s 0x810 w)).hutch.flReq = true ∧ (flFollow (setReg s 0x810 w)).hutch.flDuty = fld v 8 8
  have hon : bitAt w 16 = true := (hbit 16 (by omega) (by omega)).trans hv
  have hraise : flFollow (setReg s 0x810 w) = putHutch (setReg s 0x810 w)
      { s.hutch with flReq := true, flMa := fld w 0 6, flDuty := fld w 8 8 } := by
    simp only [flFollow, flRaise, hreg, hon, hh, hst, hreq, if_true, decide_true, Bool.and_self, Bool.not_false]
  rw [hraise]
  exact ⟨rfl, fld_congr 8 8 fun i hi hi' => hbit i hi (by omega)⟩

theorem completes_chainCtrl (hup : s.chain.up.st = 0) (hdn : s.chain.dn.st = 0) :
    Completes (.chainCtrl p v) s (fun t => getReg t 0x690 &&& 3 = v &&& 3) := by
  refine ⟨_, congrArg Host.Outcome.next (portWrite_of_row (n := 0x690) rfl (by decide) (by decide) (by decide) h p v), ?_⟩
  have hm : merged { lo := 0x690, hi := 0x690, rw := 3 } 0x690 (getReg s 0x690) v &&& 3 = v &&& 3 := by
    rw [merged_of_plain rfl]
    exact and_stored _ _ _
  generalize merged _ 0x690 (getReg s 0x690) v = w at hm
  have hc : (setReg s 0x690 w).chain = s.chain := setReg_chain s _ w
  show getReg (linksFollow (setReg s 0x690 w)) 0x690 &&& 3 = _
  rw [linksFollow_off (by rw [hc]; exact hup) (by rw [hc]; exact hdn), getReg_setReg _ _ hw]
  exact hm

theorem completes_auxCtrl (hvaux : s.power.vauxValid = true) (hv : bitAt v 1 = true) :
    Completes (.auxCtrl p v) s (fun t => t.power.loadAux = true ∧ getReg t 0x116 &&& 0x33 = v &&& 0x33) := by
  refine ⟨_, congrArg Host.Outcome.next (portWrite_of_row (n := 0x116) rfl (by decide) (by decide) (by decide) h p v), ?_⟩
  have hm : merged { lo := 0x116, hi := 0x116, rw := 0x33, reset := 0x23 } 0x116 (getReg s 0x116) v &&& 0x33 = v &&& 0x33 := by
    rw [merged_of_plain rfl]
    exact and_stored _ _ _
  have hbit : bitAt (merged { lo := 0x116, hi := 0x116, rw := 0x33, reset := 0x23 } 0x116 (getReg s 0x116) v) 1 = true :=
    (bitAt_merged _ _ _ _ (by decide) (by decide) (by decide)).trans hv
  generalize merged _ 0x116 (getReg s 0x116) v = w at hm hbit
  have hreg : getReg (setReg s 0x116 w) 0x116 = w := getReg_setReg _ w hw
  have hload : (chooseLoad (setReg s 0x116 w)).power.loadAux = true := by
    show ((setReg s 0x116 w).power.vauxValid && bitAt (getReg (setReg s 0x116 w) 0x116) 1) = true
    rw [hreg, hbit, setReg_power, hvaux]
    rfl
  show (releaseHeldOff (chooseLoad (setReg s 0x116 w))).power.loadAux = true ∧
    getReg (releaseHeldOff (chooseLoad (setReg s 0x116 w))) 0x116 &&& 0x33 = v &&& 0x33
  have hstays : releaseHeldOff (chooseLoad (setReg s 0x116 w)) = chooseLoad (setReg s 0x116 w) := if_pos hload
  rw [hstays]
  refine ⟨hload, ?_⟩
  show getReg (setReg s 0x116 w) 0x116 &&& 0x33 = v &&& 0x33
  rw [hreg]
  exact hm

theorem completes_registerWrite {n : BitVec 12} {r : RegRow} (hr : regRow n.toNat = some r)
    (hq : quietWrite n.toNat = true) : Completes (.registerWrite p n v) s (fun t => ∀ i, i < 20 → r.rw.testBit i = true →
      bitAt (getReg t n.toNat) i = bitAt (adjust n.toNat v) i) := by
  have hnot : ¬(0x681 ≤ n.toNat ∧ n.toNat ≤ 0x684) ∧ n.toNat ≠ 0x705 ∧ n.toNat ≠ 0x620 := by
    simp only [quietWrite, Bool.and_eq_true, Bool.not_eq_true', List.contains_eq_mem, decide_eq_false_iff_not, List.mem_cons,
      List.not_mem_nil, or_false, not_or] at hq
    omega
  obtain ⟨hseg, hcur, hfre⟩ := hnot
  refine ⟨_, congrArg Host.Outcome.next (portWrite_of_row hr hseg hcur hfre h p v), fun i hi hm => ?_⟩
  rw [writeEffect_quiet hq, getReg_setReg _ _ hw]
  have hmask : (r.rw ||| r.sn ||| r.sh).testBit i = true := by
    rw [Nat.testBit_or, Nat.testBit_or, hm]
    rfl
  refine bitAt_merged r _ _ _ hi hmask ?_
  have hap := congrArg (·.testBit i) (regRows_clear_apart r (mem_of_findRow hr))
  simpa [Nat.testBit_and, hmask] using hap

end

end Sys2Proof.Machine

/-!
The rows of the ports and of the chain complete (04 R82 to R105, 11 R244 to R257; O60).
-/

namespace Sys2Proof.Machine

/-- A reply of a status that is told, as it stands in the port. -/
theorem replySaid {q : Port} {tag : Byte} {st : Nat} {r : Reply} (h : q.reply = some r) (ht : r.tag = tag)
    (hs : r.status = st) : ∃ r, q.reply = some r ∧ r.tag = tag ∧ r.status = st := ⟨r, h, ht, hs⟩

/-! ### The ports -/

theorem portsListen_of_portsUp {s : State} (h : portsUp s = true) : portsListen s = true := by
  unfold portsUp running at h
  unfold portsListen coreOn
  cases hs : s.seq.st <;> rw [hs] at h <;> first | rfl | cases h

theorem completes_hostPacketWrite {cyc : Nat} {b : List Byte} {s : State} (hup : portsUp (portsBy s cyc) = true)
    (hfree : portExec (portsBy s cyc) .host = false) (hwhole : wholePacket b = true)
    (hpass : checksPass (passedCrc (portsBy s cyc) .host) .host (parsePacket b) = true)
    (hauth : authSlot (passedCrc (portsBy s cyc) .host) (parsePacket b) = none) :
    Completes (.hostPacketWrite cyc b) s (fun t => ∃ e, (portOf t .host).exec = some e ∧ e.pkt = parsePacket b ∧ e.wait = 1) := by
  have hlen : 4 ≤ b.length := by
    simp only [wholePacket, Bool.and_eq_true, decide_eq_true_eq] at hwhole
    exact hwhole.1.1.1
  obtain ⟨-, hchecks⟩ := hostPacketsAreChecked cyc b s (portsListen_of_portsUp hup)
  obtain ⟨-, -, -, -, -, htaken⟩ := hchecks hfree hlen
  obtain ⟨t, e, ht, he, hk, -, hwait, -⟩ := (htaken hwhole hpass).1 hauth
  exact ⟨t, ht, e, he, hk, hwait⟩

theorem completes_maintFrame {cyc : Nat} {chars : List (BitVec 144)} {stops : List (BitVec 16)} {s : State} {b : List Byte}
    (hb : unescape (chars.map uartByte) = b) (hon : mrxOn (portsBy s cyc) = true) (hstop : stops.any uartBadStop = false)
    (hne : chars ≠ []) (hlen : b.length ≤ 254) (hfree : portExec (portsBy s cyc) .maint = false)
    (hwhole : wholePacket b = true) (hsize : b.length = packetLen (lenOf b) (nth b 3 0))
    (hpass : checksPass (passedCrc (delimiterAt (portsBy s cyc) cyc) .maint) .maint (parsePacket b) = true)
    (hauth : authSlot (passedCrc (delimiterAt (portsBy s cyc) cyc) .maint) (parsePacket b) = none) :
    Completes (.maintFrame cyc chars stops) s
      (fun t => ∃ e, (portOf t .maint).exec = some e ∧ e.pkt = parsePacket b ∧ e.wait = 1) := by
  subst hb
  obtain ⟨-, hframe, -⟩ := maintenanceFramesAreChecked cyc chars stops s
  obtain ⟨-, hchecks⟩ := hframe hon hne
  obtain ⟨-, -, -, htaken⟩ := hchecks hstop hlen hfree
  obtain ⟨t, e, ht, he, hk, -, hwait, -⟩ := htaken hwhole hsize hpass hauth
  exact ⟨t, ht, e, he, hk, hwait⟩

theorem refusalNoted_ports (s : State) (e : Exec) : (refusalNoted s e).ports = s.ports := by
  have hfail : ∀ t : State, (authFailure t).ports = t.ports := fun t => by
    unfold authFailure
    dsimp only
    split
    · rw [raise_ports]
      exact setReg_ports t _ _
    · exact setReg_ports t _ _
  unfold refusalNoted
  split
  · rw [hfail, raise_ports]
  · rw [raise_ports]

theorem quiet_denied : stDenied ≠ stBadCrc ∧ stDenied ≠ stBadOpc ∧ stDenied ≠ stBadLen := by decide

theorem completes_deniedReply {p : PortId} {s : State} {e : Exec} (hup : portsUp s = true) (hp : p ≠ .chain)
    (he : (portOf s p).exec = some e) (hdue : refusalDue e = true) :
    Completes (.deniedReply p) s (fun t => (portOf t p).exec = none ∧
      ∃ r, (portOf t p).reply = some r ∧ r.tag = e.pkt.tag ∧ r.status = stDenied) := by
  refine ⟨_, congrArg Host.Outcome.next (deniedReply_port hup hp he hdue), ?_⟩
  have hnoted : (portOf (refusalNoted (putPort s p { portOf s p with exec := none }) e) p).exec = none := by
    rw [portOf_congr _ _ p (refusalNoted_ports _ e), portOf_putPort_self]
  have hrefuse : refuse (putPort s p { portOf s p with exec := none }) p none e =
      answerAt (refusalNoted (putPort s p { portOf s p with exec := none }) e) p e.pkt.tag false stDenied [] e.cyc 0 := by
    rw [refuse_eq]
    cases p with
    | chain => exact absurd rfl hp
    | host => rfl
    | maint => rfl
  rw [hrefuse]
  generalize refusalNoted (putPort s p { portOf s p with exec := none }) e = u at hnoted
  exact ⟨((answerAt_keeps u p _ _ _ _ _ _).port p).exec.trans hnoted,
    replySaid ((answerAt_reply u p _ _ _ _ _ _ quiet_denied).trans (if_neg (by simp))) rfl rfl⟩

theorem completes_forwardTimeout {p : PortId} {s : State} {w : Forward}
    (hw : s.ports.forwards.find? (fun v => v.port == p && v.ticks == 0) = some w) :
    Completes (.forwardTimeout p) s (fun t => ∃ r, (portOf t p).reply = some r ∧ r.tag = w.tag ∧ r.status = stTimeout) := by
  exact ⟨_, congrArg Host.Outcome.next (forwardTimeout_due hw),
    replySaid ((answerAt_reply (unforward s w) p _ _ _ _ _ _ quiet_timeout).trans (if_neg (by simp))) rfl rfl⟩

/-! ### The chain -/

theorem mem_sendFrame {s : State} {x : TxFrame} (f : TxFrame) (h : x ∈ s.chain.sent) : x ∈ (sendFrame s f).chain.sent := by
  unfold sendFrame
  split
  · exact List.mem_append_left _ h
  · exact h

theorem completes_passedOn {cyc : Nat} {f : RxFrame} {s : State} (h : receives s f.side = true) (hc : f.crcOk = true)
    (hd : f.dest ≠ ownPos s) (hl : linkReady s (sideTo s f.dest) = true) {i : Instr} {type : Nat}
    (hi : (i = .pktFrame cyc f ∧ type = 1) ∨ (i = .rplFrame f ∧ type = 2) ∨ (i = .mrqFrame f ∧ type = 3) ∨
      (i = .mrsFrame f ∧ type = 4) ∨ (i = .enumRspFrame f ∧ type = 6)) :
    Completes i s (fun t => t.chain.sent = s.chain.sent ++ [{ side := sideTo s f.dest, type := type, dest := f.dest
                                                              src := f.src, ltag := f.ltag, payload := f.payload }]) := by
  obtain ⟨-, hpass, -⟩ := chainFramesArriveAndPass cyc f .host s h
  obtain ⟨hpkt, hrpl⟩ := hpass hc hd hl
  obtain ⟨-, -, hpeer⟩ := framesAndPeers.1 f s
  obtain ⟨⟨t3, h3, hs3, -⟩, ⟨t4, h4, hs4, -⟩, ⟨t6, h6, hs6, -⟩⟩ := hpeer h hc hd hl
  have hup : (linkOf s (sideTo s f.dest)).st = 2 := by
    simp only [linkReady, Bool.and_eq_true, decide_eq_true_eq] at hl
    exact hl.2
  rcases hi with ⟨rfl, rfl⟩ | ⟨rfl, rfl⟩ | ⟨rfl, rfl⟩ | ⟨rfl, rfl⟩ | ⟨rfl, rfl⟩
  · exact ⟨_, hpkt, sendFrame_sent hup⟩
  · exact ⟨_, hrpl, sendFrame_sent hup⟩
  · exact ⟨t3, h3, hs3⟩
  · exact ⟨t4, h4, hs4⟩
  · exact ⟨t6, h6, hs6⟩

/-- The ENUM_RSP frame that answers an ENUM frame (11 R257). -/
def enumAnswer (s : State) (f : RxFrame) : TxFrame :=
  { side := f.side, type := 6, dest := f.src, src := ownPos s, ltag := f.ltag
    payload := beBytes (regN s 0xF01) 3 ++ [BitVec.ofNat 8 (b2n (linkReady s (otherSide f.side)))] }

theorem completes_enumFrame {f : RxFrame} {s : State} (h : receives s f.side = true) (hc : f.crcOk = true) :
    Completes (.enumFrame f) s (fun t => ∃ x ∈ t.chain.sent, x.side = f.side ∧ x.type = 6 ∧ x.dest = f.src ∧ x.ltag = f.ltag) := by
  refine ⟨enumFrameOp s f, rfl, enumAnswer s f, ?_, rfl, rfl, rfl, rfl⟩
  unfold enumFrameOp
  rw [h, hc]
  dsimp only [Bool.not_true, Bool.false_eq_true]
  rw [if_neg (by decide), if_neg (by decide)]
  split
  · refine mem_sendFrame _ ?_
    rw [sendFrame_sent (linkOf_of_receives h)]
    exact List.mem_append_right _ (List.mem_singleton.2 rfl)
  · rw [sendFrame_sent (linkOf_of_receives h)]
    exact List.mem_append_right _ (List.mem_singleton.2 rfl)

/-- The MRQ frame of an operation sent again (11 R252). -/
def mrqAgain (s : State) (q : Remote) : TxFrame :=
  { side := q.side, type := 3, dest := q.chip, src := ownPos s, ltag := q.ltag, payload := mrqPayload q.acc }

theorem completes_mrqBusyRetry {s : State} {q : Remote} (hq : s.chain.remote.find? (fun q => q.retry) = some q)
    (hup : (linkOf s q.side).st = 2) :
    Completes .mrqBusyRetry s (fun t => ∃ x ∈ t.chain.sent, x.type = 3 ∧ x.dest = q.chip ∧ x.ltag = q.ltag) := by
  refine ⟨mrqBusyRetryOp s, rfl, mrqAgain s q, ?_, rfl, rfl, rfl⟩
  unfold mrqBusyRetryOp
  rw [hq]
  dsimp only
  rw [sendFrame_sent (by cases hs : q.side <;> rw [hs] at hup <;> exact hup)]
  exact List.mem_append_right _ (List.mem_singleton.2 rfl)

theorem completes_remoteTimeout {s : State} {q : Remote} (hq : s.chain.remote.find? (fun q => q.ticks == 0) = some q) :
    Completes .remoteTimeout s (fun t => t = endRemote s q stTimeout 0 []) := by
  refine ⟨remoteTimeoutOp s, rfl, ?_⟩
  rw [remoteTimeoutOp, hq]

theorem completes_enumTimeout {s : State} {e : EnumRun} (he : s.chain.enum = some e) (ht : e.ticks = 0) :
    Completes .enumTimeout s (fun t => t.chain.enum = none ∧
      ∃ r, (portOf t e.wait.land.port).reply = some r ∧ r.status = 12) := by
  refine ⟨enumTimeoutOp s, rfl, ?_⟩
  have hop : enumTimeoutOp s =
      finishAt { s with chain := { s.chain with enum := none } } e.wait (min s.seq.cycle 6143) stTimeout [] := by
    rw [enumTimeoutOp, he]
    simp only [ht, if_true, finishEnum, he, finish]
  obtain ⟨q, hq⟩ := finishAt_ports { s with chain := { s.chain with enum := none } } e.wait (min s.seq.cycle 6143) []
    quiet_timeout
  rw [hop]
  obtain ⟨r, hr, -, hst⟩ := replySaid
    ((finishAt_reply _ e.wait _ [] quiet_timeout).trans (if_neg (fun h => absurd h.2 (by decide)))) rfl rfl
  exact ⟨by rw [hq], r, hr, hst⟩

end Sys2Proof.Machine

/-!
The rows of NVM, of the harmonic engine and of the memory side complete (08 R186, R187; 09 R196; 10 R220 to R233;
13 R300 to R306; O60).
-/

namespace Sys2Proof.Machine

/-! ### What the end of an NVM operation leaves -/

/-- NVM's bytes, the energy and the evidence are as the operation has left them. -/
theorem nvmEnded_keeps (v : State) :
    (nvmEnded v).nvm.data = v.nvm.data ∧ (nvmEnded v).energy = v.energy ∧ (nvmEnded v).evid = v.evid := by
  refine ⟨(nvmEnded_program v).data, ?_⟩
  by_cases hg : v.seq.st = .gasp
  · rw [nvmEnded_gasp hg]
    exact ⟨setReg_energy (nvmFree v) _ _, setReg_evid (nvmFree v) _ _⟩
  · exact ⟨(nvmEnded_served hg).energy, (nvmEnded_served hg).evid⟩

/-! ### Energy -/

/-- Slot `k` of the energy store has been programmed and verified. -/
def energyStored (t : State) (k : Nat) : State :=
  { t with energy := { t.energy with
      slot := k, seq := t.energy.seqNext, seqNext := (t.energy.seqNext + 1) % 1048576, nextSlot := (k + 1) % 16, units := 0 } }

theorem energySaveDoneOp_stored {s : State} {k : Nat} {b : List Byte} (ho : s.nvm.op = some (.energyProg k b)) :
    energySaveDoneOp s true =
      let u := raise (energyStored (nvmPut s (energySlotAt k) b) k) srcEsaveDone
      if k % 4 = 0 then nvmFollow u (.energyErase ((k / 4 + 1) % 4)) else nvmEnded u := by
  rw [energySaveDoneOp, ho, show nvmPut s (energySlotAt k) b = programmed s (energySlotAt k) b true from rfl]
  dsimp only
  generalize programmed s (energySlotAt k) b true = t
  rfl

theorem completes_energySaveDone {s : State} {k : Nat} {b : List Byte} (ho : s.nvm.op = some (.energyProg k b))
    (hg : s.seq.st ≠ .gasp) : Completes (.energySaveDone true) s (fun t => t.energy.slot = k ∧
      t.nvm.data = sputs erasedByte s.nvm.data (energySlotAt k) b) := by
  refine ⟨_, congrArg Host.Outcome.next (energySaveDoneOp_stored ho), ?_⟩
  have hdata : (nvmPut s (energySlotAt k) b).nvm.data = sputs erasedByte s.nvm.data (energySlotAt k) b := rfl
  have hseq : (nvmPut s (energySlotAt k) b).seq = s.seq := rfl
  generalize nvmPut s (energySlotAt k) b = v at hdata hseq
  have hslot : (raise (energyStored v k) srcEsaveDone).energy.slot = k := by rw [raise_energy]; rfl
  have hnvm : (raise (energyStored v k) srcEsaveDone).nvm.data = v.nvm.data := by rw [raise_nvm]; rfl
  have hst : (raise (energyStored v k) srcEsaveDone).seq.st ≠ .gasp := by
    rw [raise_seq]
    show v.seq.st ≠ _
    rw [hseq]
    exact hg
  dsimp only
  generalize raise (energyStored v k) srcEsaveDone = u at hslot hnvm hst
  split
  · rw [nvmFollow_awake _ hst]
    exact ⟨hslot, hnvm.trans hdata⟩
  · obtain ⟨hd, he, -⟩ := nvmEnded_keeps u
    exact ⟨(congrArg Energy.slot he).trans hslot, hd.trans (hnvm.trans hdata)⟩

theorem completes_energyErased {s : State} {k : Nat} (ho : s.nvm.op = some (.energyErase k)) :
    Completes .energySectorEraseDone s (fun t => t.energy.erasing = false ∧
      ∀ i, energySlotAt (4 * k) ≤ i → i < energySlotAt (4 * k) + 1024 → sget erasedByte t.nvm.data i = 0xFF) := by
  have hop : energyEraseDoneOp s = nvmEnded { nvmErase s (energySlotAt (4 * k)) 1024 with
      energy := { (nvmErase s (energySlotAt (4 * k)) 1024).energy with erasing := false } } := by
    rw [energyEraseDoneOp, ho]
  refine ⟨_, congrArg Host.Outcome.next hop, ?_⟩
  obtain ⟨hd, he, -⟩ := nvmEnded_keeps { nvmErase s (energySlotAt (4 * k)) 1024 with
    energy := { (nvmErase s (energySlotAt (4 * k)) 1024).energy with erasing := false } }
  refine ⟨congrArg Energy.erasing he, fun i hlo hhi => ?_⟩
  rw [hd]
  exact (sget_nvmErase s _ _ i).trans (if_pos ⟨hlo, hhi⟩)

theorem completes_periodicSave {s : State} (h : periodicDue s = true) :
    Completes .periodicSave s (fun t => t.energy.saveReq = true) :=
  ⟨_, congrArg Host.Outcome.next (if_pos h), rfl⟩

/-! ### Evidence, CFG_SAVE, CAL_SEAL -/

/-- The entry of slot `k` has been programmed: the chain goes on from its last word. -/
def evidenceMade (t : State) (k : Nat) (b : List Byte) : State :=
  { t with evid := { t.evid with writing := false, next := k + 1, chain := BitVec.ofNat 32 (ofLe (b.drop 12)) } }

/-- The oldest entry that waits has left the queue. -/
def evidenceTaken (t : State) : State := { t with aon := { t.aon with evQueue := t.aon.evQueue.drop 1 } }

theorem evidenceDoneOp_made {s : State} {k : Nat} {b : List Byte} (ho : s.nvm.op = some (.evidProg k b)) (hk : k < 254) :
    evidenceDoneOp s true =
      nvmEnded (evidenceTaken (raise (evidenceMade (nvmPut s (evidAt k) b) k b) srcEvidence)) := by
  have hopen : decide (k = 254) = false := decide_eq_false (by omega)
  have htaken : k < 255 ∧ True := ⟨by omega, trivial⟩
  rw [evidenceDoneOp, ho]
  dsimp only
  simp only [hopen, Bool.false_and, if_true, Bool.false_eq_true, if_false, true_or]
  rw [if_pos htaken]
  rfl

theorem completes_evidenceDone {s : State} {k : Nat} {b : List Byte} (ho : s.nvm.op = some (.evidProg k b)) (hk : k < 254) :
    Completes (.evidenceProgramDone true) s (fun t => t.evid.next = k + 1 ∧
      t.nvm.data = sputs erasedByte s.nvm.data (evidAt k) b) := by
  refine ⟨_, congrArg Host.Outcome.next (evidenceDoneOp_made ho hk), ?_⟩
  have hdata : (nvmPut s (evidAt k) b).nvm.data = sputs erasedByte s.nvm.data (evidAt k) b := rfl
  generalize nvmPut s (evidAt k) b = v at hdata
  obtain ⟨hd, -, he⟩ := nvmEnded_keeps (evidenceTaken (raise (evidenceMade v k b) srcEvidence))
  have hevid : (raise (evidenceMade v k b) srcEvidence).evid = (evidenceMade v k b).evid := raise_evid _ _
  have hnvm : (raise (evidenceMade v k b) srcEvidence).nvm = v.nvm := raise_nvm _ _
  exact ⟨(congrArg Evidence.next he).trans (congrArg Evidence.next hevid), hd.trans ((congrArg Nvm.data hnvm).trans hdata)⟩

/-- The image of copy `copy` stands, and the event is delivered. -/
def imageSaved (t : State) (copy gen : Nat) (w : Waiting) : State :=
  deliver { t with seq := { t.seq with image := some (copy, gen) } } (bEvent 7 1 gen copy (portCode w.land.port))

theorem cfgSaveDoneOp_saved {s : State} {copy gen : Nat} {image : List Byte} {w : Waiting}
    (ho : s.nvm.op = some (.cfgSave copy gen image w)) : cfgSaveDoneOp s =
      finish (nvmEnded (imageSaved (nvmPut (nvmErase s (copyAt copy) 8192) (copyAt copy) image) copy gen w)) w stOk
        [BitVec.ofNat 24 gen, BitVec.ofNat 24 copy] := by
  rw [cfgSaveDoneOp, ho]
  dsimp only
  generalize nvmPut (nvmErase s (copyAt copy) 8192) (copyAt copy) image = t
  rfl

/-- An operation of a port of this part ends OK: its reply, the rest as it was. -/
theorem finish_ok (u : State) {w : Waiting} (hn : w.land.noreply = false) (fs : List Field) :
    (finish u w stOk fs).seq = u.seq ∧ (finish u w stOk fs).evid = u.evid ∧ replied (finish u w stOk fs) w.land stOk := by
  obtain ⟨q, hq⟩ := finishAt_ports u w (min u.seq.cycle 6143) fs quiet_ok
  refine ⟨by rw [finish, hq], by rw [finish, hq], ?_⟩
  exact replySaid ((finishAt_reply u w (min u.seq.cycle 6143) fs quiet_ok).trans (if_neg (by simp [hn]))) rfl rfl

theorem completes_cfgSaveDone {s : State} {copy gen : Nat} {image : List Byte} {w : Waiting}
    (ho : s.nvm.op = some (.cfgSave copy gen image w)) (hg : s.seq.st ≠ .gasp) (hn : w.land.noreply = false) :
    Completes .cfgSaveDone s (fun t => t.seq.image = some (copy, gen) ∧ replied t w.land stOk) := by
  refine ⟨_, congrArg Host.Outcome.next (cfgSaveDoneOp_saved ho), ?_⟩
  have hst : (nvmPut (nvmErase s (copyAt copy) 8192) (copyAt copy) image).seq = s.seq := rfl
  generalize nvmPut (nvmErase s (copyAt copy) 8192) (copyAt copy) image = t at hst
  have hseq : (imageSaved t copy gen w).seq = { t.seq with image := some (copy, gen) } := deliver_seq _ _
  have hawake : (imageSaved t copy gen w).seq.st ≠ .gasp := by
    rw [hseq, hst]
    exact hg
  obtain ⟨hs, -, hr⟩ := finish_ok (nvmEnded (imageSaved t copy gen w)) hn [BitVec.ofNat 24 gen, BitVec.ofNat 24 copy]
  have hkept : (nvmEnded (imageSaved t copy gen w)).seq = (imageSaved t copy gen w).seq := (nvmEnded_served hawake).seq
  exact ⟨congrArg Seq.image (hs.trans (hkept.trans hseq)), hr⟩

/-- The seal record of count `cnt` stands, and its event and its entry are told. -/
def sealMade (t : State) (cnt : Nat) (w : Waiting) : State :=
  let v := deliver (setSeal { t with evid := { t.evid with sealCnt := cnt } } 1) (bEvent 8 2 cnt (portCode w.land.port) 0)
  queueEvidence v (evidEntry v 8 2 cnt false)

theorem calSealDoneOp_made {s : State} {cnt slot : Nat} {b : List Byte} {w : Waiting}
    (ho : s.nvm.op = some (.calSeal cnt slot b false w)) (hg : s.seq.st ≠ .gasp) : calSealDoneOp s =
      finish (nvmEnded (sealMade (nvmPut s (sealAt slot) b) cnt w)) w stOk [BitVec.ofNat 24 cnt] := by
  have hawake : inGasp s = false := decide_eq_false hg
  rw [calSealDoneOp, ho]
  dsimp only
  rw [hawake, if_neg (by decide), if_neg (by decide)]
  generalize nvmPut s (sealAt slot) b = t
  rfl

theorem completes_calSealDone {s : State} {cnt slot : Nat} {b : List Byte} {w : Waiting}
    (ho : s.nvm.op = some (.calSeal cnt slot b false w)) (hg : s.seq.st ≠ .gasp) (hn : w.land.noreply = false) :
    Completes .calSealDone s (fun t => t.evid.sealSt = 1 ∧ replied t w.land stOk) := by
  refine ⟨_, congrArg Host.Outcome.next (calSealDoneOp_made ho hg), ?_⟩
  generalize nvmPut s (sealAt slot) b = t
  have hseal : (sealMade t cnt w).evid.sealSt = 1 := by
    rw [sealMade]
    dsimp only
    rw [queueEvidence_sealSt, deliver_evid]
    rfl
  obtain ⟨-, he, hr⟩ := finish_ok (nvmEnded (sealMade t cnt w)) hn [BitVec.ofNat 24 cnt]
  obtain ⟨-, -, hkept⟩ := nvmEnded_keeps (sealMade t cnt w)
  exact ⟨(congrArg Evidence.sealSt (he.trans hkept)).trans hseal, hr⟩

theorem decideSeal_checkDue (s : State) : (decideSeal s).evid.checkDue = s.evid.checkDue := by
  have hqueue : ∀ (t : State) e, (queueEvidence t e).evid.checkDue = t.evid.checkDue := fun t e => by
    unfold queueEvidence
    split
    · unfold loseEvidence
      dsimp only
      split <;> simp
    · rfl
  have hbreak : ∀ (t : State) n p, (breakSeal t n p).evid.checkDue = t.evid.checkDue := fun t n p => by
    rw [breakSeal]
    rw [hqueue, deliver_evid]
    rfl
  unfold decideSeal
  split
  · rfl
  · dsimp only
    split
    · rfl
    · split
      · rfl
      · exact hbreak _ _ _

theorem completes_sealCheck {s : State} (hd : s.evid.checkDue = true) (hup : portsUp s = true) :
    Completes .sealCheck s (fun t => t.evid.checkDue = false) := by
  refine ⟨_, congrArg Host.Outcome.next (if_pos (by rw [hd, hup]; rfl)), ?_⟩
  exact decideSeal_checkDue _

/-! ### The harmonic engine -/

theorem applyPub_harm (s : State) (q : Pub) : (applyPub s q).harm = s.harm := by
  cases q with
  | set n v => exact setReg_harm s n v
  | or n m => exact setReg_harm s n _
  | clear n m => exact setReg_harm s n _
  | add n k => exact setReg_harm s n _
  | incMod n => exact setReg_harm s n _
  | irq src => exact raise_harm s src

theorem applyPubs_harm (s : State) : (applyPubs s).harm = s.harm := by
  have hbase : ({ s with seq := { s.seq with pub := [] } } : State).harm = s.harm := rfl
  unfold applyPubs
  generalize ({ s with seq := { s.seq with pub := [] } } : State) = u at hbase
  exact List.foldlRecOn (motive := fun t : State => t.harm = s.harm) _ _ hbase fun t ht q _ => (applyPub_harm t q).trans ht

theorem showWide_harm (s : State) (n v : Nat) : (showWide s n v).harm = s.harm := by
  unfold showWide
  split
  · rfl
  · rw [putWide, setReg_harm, setReg_harm, setReg_harm]

/-- Both registers of quantity `q` shown. -/
def energyShown (e : Energy) (t : State) (q : Nat) : State :=
  showWide (showWide t (energyReg q false) (nth e.imp q 0)) (energyReg q true) (nth e.exp q 0)

theorem energyShown_harm (e : Energy) (t : State) (q : Nat) : (energyShown e t q).harm = t.harm := by
  rw [energyShown, showWide_harm, showWide_harm]

theorem publishEnergy_harm (s : State) : (publishEnergy s).harm = s.harm := by
  have hall : ((upto 12).foldl (energyShown s.energy) s).harm = s.harm := by
    generalize upto 12 = qs
    exact List.foldlRecOn (motive := fun t : State => t.harm = s.harm) _ _ rfl
      fun t ht q _ => (energyShown_harm s.energy t q).trans ht
  show (if s.energy.wrapImp = 0 ∧ s.energy.wrapExp = 0 then (upto 12).foldl (energyShown s.energy) s
    else raise (orReg (orReg ((upto 12).foldl (energyShown s.energy) s) 0x410 s.energy.wrapImp) 0x411 s.energy.wrapExp)
      srcEnergyWrap).harm = s.harm
  split
  · exact hall
  · rw [raise_harm, orReg_harm, orReg_harm]
    exact hall

/-- A window that is ready is published. -/
theorem did_harmPublish {s : State} {j : HarmJob} (hj : s.harm.job = some j) (hr : j.ready = true) :
    did (harmPublish s) .harmPub = true := by
  rw [harmPublish, hj]
  dsimp only
  rw [hr, if_neg (by decide)]
  exact did_mark_self _ _

theorem completes_harmonicPublication {s : State} {j : HarmJob} (hrun : running s = true) (hi : s.seq.item = 16)
    (hnot : did s .harmPub = false) (hj : s.harm.job = some j) (hr : j.ready = true) :
    Completes .harmonicPublication s (fun t => t.seq.item = 17) := by
  have hended : ∀ t : State, did (procEnded t) .harmPub = did t .harmPub := fun t => by
    unfold procEnded
    split <;> rfl
  have hdid : did (runItem s 16) .harmPub = true := by
    show did (procEnded (harmPublish (publishEnergy { applyPubs s with cap := { (applyPubs s).cap with
      detSeen := (applyPubs s).cap.detSeen || s.seq.pub.contains (.irq srcDetHit) } }))) .harmPub = true
    rw [hended]
    refine did_harmPublish (j := j) ?_ hr
    rw [publishEnergy_harm]
    exact (congrArg Harm.job (applyPubs_harm s)).trans hj
  exact ⟨_, congrArg Host.Outcome.next (itemEvent_next hrun hi hnot hdid), rfl⟩

/-- Item 15 after a window that has run out of its time. -/
theorem item15_after (s : State) : ∃ h, item15 s = { harmDeadline s with harm := h } ∧ h.job = (harmDeadline s).harm.job := by
  unfold item15
  dsimp only
  split
  · exact ⟨_, rfl, rfl⟩
  · exact ⟨_, rfl, rfl⟩

theorem completes_bgShort {s : State} {j : HarmJob} (hrun : running s = true) (hi : s.seq.item = 15)
    (hnot : did s .bgShort = false) (hend : windowEndsNow s = true) (hj : s.harm.job = some j) (hr : j.ready = false)
    (hw : Registers.wf s = true) :
    Completes .bgShort s (fun t => t.harm.job = none ∧ statusBit t srcBgShort = true) := by
  have hgone : harmDeadline s = mark (raise (incReg { s with harm := { s.harm with job := none } } 0x194) srcBgShort) .bgShort := by
    rw [harmDeadline, hj]
    dsimp only
    rw [hend, hr, hnot]
    rfl
  have hon : coreOn s = true := coreOn_of_portsUp (by rw [portsUp, hrun]; rfl)
  obtain ⟨h, hitem, hjob⟩ := item15_after s
  have hdid : did (runItem s 15) .bgShort = true := by
    show did (item15 s) .bgShort = true
    rw [hitem, hgone]
    exact did_mark_self _ _
  refine ⟨_, congrArg Host.Outcome.next (itemEvent_next hrun hi hnot hdid), ?_⟩
  show (item15 s).harm.job = none ∧ statusBit (item15 s) srcBgShort = true
  rw [hitem]
  refine ⟨hjob.trans ?_, ?_⟩
  · rw [hgone]
    show (raise (incReg { s with harm := { s.harm with job := none } } 0x194) srcBgShort).harm.job = none
    rw [raise_harm, incReg_harm]
  · show statusBit (harmDeadline s) srcBgShort = true
    rw [hgone]
    refine statusBit_raise_wf (s := incReg { s with harm := { s.harm with job := none } } 0x194) (by decide) ?_ ?_
    · rw [coreOn, incReg_seq]
      exact hon
    · exact setReg_rwf _ _ hw

end Sys2Proof.Machine

/-!
The rows of the memory side complete (09 R206; 10 R213, R220 to R233; O60).
-/

namespace Sys2Proof.Machine

/-! ### Requests, banks, the capture -/

theorem completes_arbStarve {s : State} {r : Fin 8} (hlim : regN s 0x622 ≠ 0) (hf : frozen s = false)
    (hw : Registers.wf s = true) (hq : ∃ q ∈ s.mem.reqs, q.r = r.val ∧ q.gone = false ∧ q.reported = false ∧
      regN s 0x622 < q.starve + (idleCycles s - (q.at_ - s.mem.busy))) :
    Completes (.arbStarve r) s (fun t => bitAt (getReg t 0x623) r.val = true) := by
  obtain ⟨q, hmem, hr, hgone, hrep, hwait⟩ := hq
  have hany : s.mem.reqs.any (fun q => q.r == r.val && !q.gone && !q.reported &&
      decide (q.starve + (idleCycles s - (q.at_ - s.mem.busy)) > regN s 0x622)) = true :=
    List.any_eq_true.2 ⟨q, hmem, by simp [hr, hgone, hrep, hwait]⟩
  refine ⟨starveCheck s r.val (idleCycles s), rfl, ?_⟩
  unfold starveCheck
  dsimp only
  rw [if_pos (by rw [hf, hany]; simp [hlim]), getReg_raise_other _ _ _ (by decide)]
  exact bitAt_orReg 0x623 (by omega) hw

theorem completes_bankInitDone {s : State} {k : Fin 2} (h : bankInitDue s k.val = true) :
    Completes (.bankInitDone k) s (fun t => bankReady t k.val = true) := by
  refine ⟨_, congrArg Host.Outcome.next (if_pos h), ?_⟩
  show (s.mem.ready ||| BitVec.ofNat 2 (2 ^ k.val)).getLsbD k.val = true
  rw [BitVec.getLsbD_or]
  have hbit : ∀ j : Fin 2, (BitVec.ofNat 2 (2 ^ j.val)).getLsbD j.val = true := by decide
  rw [hbit k, Bool.or_true]

theorem completes_capDone {s : State} (hw : s.cap.written = true) (hst : s.cap.st = 2) :
    Completes .capDone s (fun t => t.cap.st = 3) := by
  refine ⟨_, congrArg Host.Outcome.next (if_pos (by rw [hw, hst]; rfl)), ?_⟩
  exact congrArg Capture.st (raise_cap _ _)

/-! ### The scrub engine -/

/-- Where the walk stands, what is due and what waits. -/
def scrubWalk (m : Mem) : Nat × Nat × Nat := (m.scrubPos, m.scrubDue, m.backlog)

theorem starveCheck_walk (s : State) (r slack : Nat) : scrubWalk (starveCheck s r slack).mem = scrubWalk s.mem := by
  unfold starveCheck
  dsimp only
  split
  · rw [raise_mem, orReg_mem]
    rfl
  · rfl

theorem noteWait_mem (s : State) (q : Req) : (noteWait s q).mem = s.mem := by
  unfold noteWait
  split
  · exact setReg_mem s _ _
  · rfl

theorem boardTo_walk (s : State) (c : Nat) : scrubWalk (boardTo s c).mem = scrubWalk s.mem := by
  by_cases hc : c ≤ s.mem.busy
  · rw [boardTo, if_pos hc]
  · rw [boardTo_later (by omega)]
    refine List.foldlRecOn (motive := fun u : State => scrubWalk u.mem = scrubWalk s.mem) _ _ ?_
      fun u hu r _ => (starveCheck_walk u r 0).trans hu
    exact List.foldlRecOn (motive := fun u : State => scrubWalk u.mem = scrubWalk s.mem) _ _ rfl
      fun u hu q _ => (congrArg scrubWalk (noteWait_mem u q)).trans hu

theorem boardTo_rwf {s : State} (c : Nat) (hw : Registers.wf s = true) : Registers.wf (boardTo s c) = true := by
  have hnote : ∀ (u : State) q, Registers.wf u = true → Registers.wf (noteWait u q) = true := fun u q hu => by
    unfold noteWait
    split
    · exact setReg_rwf _ _ hu
    · exact hu
  have hcheck : ∀ (u : State) r, Registers.wf u = true → Registers.wf (starveCheck u r 0) = true := fun u r hu => by
    unfold starveCheck
    dsimp only
    split
    · exact raise_rwf _ (setReg_rwf _ _ hu)
    · exact hu
  by_cases hc : c ≤ s.mem.busy
  · rw [boardTo, if_pos hc]
    exact hw
  · rw [boardTo_later (by omega)]
    refine List.foldlRecOn (motive := fun u : State => Registers.wf u = true) _ _ ?_ fun u hu r _ => hcheck u r hu
    exact List.foldlRecOn (motive := fun u : State => Registers.wf u = true) _ _ hw fun u hu q _ => hnote u q hu

/-- A register below those of the requests' waits stands as the Sideboard comes to a cycle. -/
theorem getReg_boardTo (s : State) (c : Nat) {n : Nat} (h : n < 0x628) (h3 : n ≠ 0x623) (hs : n ≠ srcArbStarve / 20) :
    getReg (boardTo s c) n = getReg s n := by
  by_cases hc : c ≤ s.mem.busy
  · rw [boardTo, if_pos hc]
  · exact (boardTo_waits (by omega)).regs n h h3 hs

theorem noteRead_mem (s : State) (req line : Nat) (r : LineRead) : (noteRead s req line r).mem = s.mem := by
  unfold noteRead
  dsimp only
  split
  · rfl
  · split
    · simp [incReg, addReg]
    · split
      · simp [incReg, addReg]
      · split <;> simp [incReg, addReg]

/-- A line of a bank that is ready is read, and the walk goes on. -/
theorem scrubTake_pos {s : State} (hpos : s.mem.scrubPos < 65535) : (scrubTake s).mem.scrubPos = s.mem.scrubPos + 1 := by
  have hadv : ∀ t : State, t.mem.scrubPos < 65535 → (scrubAdvance t).mem.scrubPos = t.mem.scrubPos + 1 := fun t ht => by
    unfold scrubAdvance
    dsimp only
    rw [if_neg (by omega)]
  have hread : ∀ r, (boardTo (noteRead s 7 s.mem.scrubPos r) (s.mem.busy + 1)).mem.scrubPos = s.mem.scrubPos := fun r => by
    have hwalk := boardTo_walk (noteRead s 7 s.mem.scrubPos r) (s.mem.busy + 1)
    rw [noteRead_mem] at hwalk
    exact congrArg Prod.fst hwalk
  unfold scrubTake
  dsimp only
  split
  · rw [hadv _ (by rw [hread]; exact hpos), hread]
  · exact hadv s hpos

theorem completes_scrubStep {s : State} (hup : boardUp s = true) (hf : frozen s = false)
    (hwin : ∀ q c, winner s = some (q, c) → s.mem.busy < c) (hbusy : s.mem.busy < 6144) (hpoi : s.mem.poison = none)
    (hback : s.mem.writeBack = none) (hlog : 0 < s.mem.backlog) (hint : scrubInt s ≠ 0) (hpos : s.mem.scrubPos < 65535) :
    Completes .scrubStep s (fun t => t.mem.scrubPos = s.mem.scrubPos + 1) := by
  have hwork : scrubWork s = true := by simp [scrubWork, hlog, hint]
  have hcycle : scrubCycle s = scrubTake s := by simp only [scrubCycle, hpoi, hback]
  have hstep : scrubStepOp s = scrubTake s := by
    cases hq : winner s with
    | none => simp [scrubStepOp, hq, hup, hf, hbusy, hwork, hcycle]
    | some q =>
      have hlater := hwin q.1 q.2 hq
      simp [scrubStepOp, hq, hup, hf, hbusy, hwork, hcycle, hlater]
  exact ⟨_, congrArg Host.Outcome.next hstep, scrubTake_pos hpos⟩

/-- Frozen, the scrub engine does nothing as the Sideboard comes to a cycle. -/
theorem idleTo_frozen {s : State} (hf : frozen s = true) (c : Nat) : idleTo s c = boardTo s c := by
  rw [idleTo, scrubRun, if_neg (by rw [hf]; simp)]

theorem completes_scrubYield {s : State} (hnot : did s .scrubYield = false) (hf : frozen s = true)
    (hdue : 0 < s.mem.scrubDue) (hle : s.mem.scrubDue ≤ s.mem.backlog) (hw : Registers.wf s = true) :
    Completes .scrubYield s (fun t => getReg t 0x60B = wd (min (regN s 0x60B + s.mem.scrubDue) 0xFFFFF)) := by
  have hwalk := boardTo_walk s 6144
  have hd : (boardTo s 6144).mem.scrubDue = s.mem.scrubDue := congrArg (fun w => w.2.1) hwalk
  have hb : (boardTo s 6144).mem.backlog = s.mem.backlog := congrArg (fun w => w.2.2) hwalk
  have hend : scrubTickEnd s = mark (addReg (boardTo s 6144) 0x60B s.mem.scrubDue) .scrubYield := by
    unfold scrubTickEnd
    dsimp only
    rw [if_neg (by rw [hnot]; decide), idleTo_frozen hf, hd, hb, Nat.min_eq_left hle, if_neg (by omega)]
  have hstep : scrubYieldOp s = mark (addReg (boardTo s 6144) 0x60B s.mem.scrubDue) .scrubYield := by
    unfold scrubYieldOp
    dsimp only
    rw [if_neg (by rw [hnot]; decide), hend, if_pos (did_mark_self _ _)]
  refine ⟨_, congrArg Host.Outcome.next hstep, ?_⟩
  have hreg : getReg (boardTo s 6144) 0x60B = getReg s 0x60B := getReg_boardTo s _ (by decide) (by decide) (by decide)
  show getReg (addReg (boardTo s 6144) 0x60B s.mem.scrubDue) 0x60B = _
  rw [addReg, getReg_setReg _ _ (boardTo_rwf _ hw), regN, regN, hreg]

/-! ### Grants -/

/-- With nothing of the Sideboard to be carried out without a grant, the best request is granted. -/
theorem serveIf_winner {s : State} {r c : Nat} {q : Req} (haway : serveAway s = none) (hw : winner s = some (q, c))
    (hr : q.r = r) : serveIf s r = grantReq s q c := by
  rw [serveIf, haway]
  simp only [Option.getD_none, hw, hr, if_true]

end Sys2Proof.Machine

/-!
Rows on memory, of a cycle's publication, of the Sideboard and of the panel complete (04 R101, 08 R180, 10, 14; O60).
-/

namespace Sys2Proof.Machine

/-- A row completes with what its next state is known to say. -/
theorem Completes.of {i : Instr} {s : State} {P Q : State → Prop} (h : ∃ t, exec i s = .next t ∧ Q t)
    (hp : ∀ t, Q t → P t) : Completes i s P := by
  obtain ⟨t, ht, hq⟩ := h
  exact ⟨t, ht, hp t hq⟩

/-- The operations on capture memory, as O60 names them. -/
theorem completes_memoryRow {l : Land} {s : State} (h : takes s l.port = true) {va : BitVec 24} {n : Nat} {d : List Byte}
    {x y : BitVec 32} {i : Instr} {k : AccKind} {m pa g c : Nat}
    (hi : (i = .memRd l va n ∧ k = .read ∧ m = n ∧ 1 ≤ n ∧ n ≤ 240) ∨
      (i = .memWr l va d ∧ k = .write ∧ m = d.length ∧ sizeOk d 234 = true) ∨
      (va.toNat % 4 = 0 ∧ m = 4 ∧ ((i = .fetchAdd l va x ∧ k = .fetchAdd) ∨ (i = .swap l va x ∧ k = .swap) ∨
        (i = .cmpSwap l va x y ∧ k = .cmpSwap))))
    (hat : translate (lookupTime (landState s l.port) (portReq l.port) (va.toNat / 16)).1 (portReq l.port) k va.toNat
      (va.toNat + m - 1) = .at_ (ownPos (lookupTime (landState s l.port) (portReq l.port) (va.toNat / 16)).1) pa g)
    (hm : mapCheck k pa m = (some .capture, c))
    (hreq : requesting (lookupTime (landState s l.port) (portReq l.port) (va.toNat / 16)).1 (portReq l.port) = false) :
    Completes i s (fun t => (∃ w ∈ (portOf t l.port).busy, w.land = l) ∧ requesting t (portReq l.port) = true) := by
  have h0 : sizeOk [0] 234 = true := by decide
  rcases hi with ⟨rfl, rfl, rfl, hn, hn'⟩ | ⟨rfl, rfl, rfl, hd⟩ | ⟨hva, rfl, ⟨rfl, rfl⟩ | ⟨rfl, rfl⟩ | ⟨rfl, rfl⟩⟩
  · exact completes_memory (d := [0]) (x := 0) (y := 0) h hn hn' h0 (.inl ⟨rfl, rfl, rfl⟩) hat hm hreq
  · exact completes_memory (x := 0) (y := 0) h le_rfl (by decide : (1 : Nat) ≤ 240) hd (.inr (.inl ⟨rfl, rfl, rfl⟩)) hat hm hreq
  · exact completes_memory (d := [0]) (x := x) (y := 0) h le_rfl (by decide : (1 : Nat) ≤ 240) h0
      (.inr (.inr ⟨hva, rfl, .inl ⟨rfl, rfl⟩⟩)) hat hm hreq
  · exact completes_memory (d := [0]) (x := x) (y := 0) h le_rfl (by decide : (1 : Nat) ≤ 240) h0
      (.inr (.inr ⟨hva, rfl, .inr (.inl ⟨rfl, rfl⟩)⟩)) hat hm hreq
  · exact completes_memory (d := [0]) (x := x) (y := y) h le_rfl (by decide : (1 : Nat) ≤ 240) h0
      (.inr (.inr ⟨hva, rfl, .inr (.inr ⟨rfl, rfl⟩)⟩)) hat hm hreq

/-! ### The publication of a cycle, with any results -/

theorem regsTake_line (s : State) (es : List (Nat × Word)) : (regsTake s es).line = s.line := by
  induction es generalizing s with
  | nil => rfl
  | cons e es ih => exact (ih _).trans (setReg_line s e.1 e.2)

theorem publishCycle_line {s : State} {t : Tail} (h : s.line.tail = some t) :
    (publishCycle s).line = { s.line with tail := none, sSum := t.sSum } := by
  rw [publishCycle_eq h, (satTold_published _ _).frame .line (by decide), (windowCounted_published _ _).frame .line (by decide),
    (cycleCounted_published _).frame .line (by decide), (periodTaken_published _ _).frame .line (by decide), tailTaken,
    regsTake_line]

theorem completes_cyclePublication {s : State} (h : cyclePublicationDue (runAll s) = true) :
    Completes .cyclePublication s (fun t => t.line.tail = none) := by
  have hrow : cyclePublicationOp s = publishCycle (runAll s) := if_pos h
  refine ⟨_, congrArg Host.Outcome.next hrow, ?_⟩
  cases ht : (runAll s).line.tail with
  | none => simp [cyclePublicationDue, ht] at h
  | some t => rw [publishCycle_line ht]

/-! ### Rows of the Sideboard and of the panel -/

/-- A row that serves its requester grants what the Sideboard has decided for it. -/
theorem completes_granted {i : Instr} {s : State} {r c : Nat} {q : Req} (hrow : exec i s = .next (serveIf s r))
    (haway : serveAway s = none) (hw : winner s = some (q, c)) (hr : q.r = r) :
    Completes i s (fun t => t = grantReq s q c) := ⟨_, hrow, serveIf_winner haway hw hr⟩

theorem completes_recordStage {s : State} {q : Req} {c : Nat} (hup : boardUp s = true) (haway : serveAway s = none)
    (hmore : stageMore s = s) (hw : winner s = some (q, c)) (hr : q.r = 7) :
    Completes .recordStage s (fun t => t = grantReq s q c) := by
  have hrow : recordStageOp s = serveIf s 7 := by rw [recordStageOp, if_pos hup, hmore]
  exact completes_granted (congrArg Host.Outcome.next hrow) haway hw hr

theorem completes_rectCopyStep {s : State} {q : Req} {c : Nat} (hup : boardUp s = true) (hon : domOn s 10 = true)
    (hst : s.hutch.st = 3) (hreq : requesting s 3 = true) (haway : serveAway s = none) (hw : winner s = some (q, c))
    (hr : q.r = 3) : Completes .rectCopyStep s (fun t => t = grantReq s q c) := by
  have hrow : rectCopyStepOp s = serveIf s 3 := by simp [rectCopyStepOp, hup, hon, hst, hreq]
  exact completes_granted (congrArg Host.Outcome.next hrow) haway hw hr

/-- In CLEARING a row is driven at the level of its phase, and the next one comes. -/
theorem completes_rowRefresh {s : State} (hup : boardUp s = true) (hon : domOn s 10 = true) (hreq : requesting s 2 = false)
    (haway : engineAway s 2 = false) (hst : s.hutch.st = 2) (hrow : s.hutch.row < heightOf s.hutch.size) :
    Completes .rowRefresh s (fun t => t.hutch.row = s.hutch.row + 1 ∧
      t.hutch.levels = List.replicate (widthOf s.hutch.size) (clrLevel s.hutch)) := by
  have hop : rowRefreshOp s = nextRow (clearRow s s.hutch.row) := by
    simp [rowRefreshOp, rowLate, hup, hon, hreq, haway, hst, Nat.not_le.mpr hrow]
  exact ⟨_, congrArg Host.Outcome.next hop, rfl, rfl⟩

theorem completes_coalesceTimeout {s : State} (h : coalesceDue (runAll s) = true) :
    Completes .coalesceTimeout s (fun t => t.bureau.open_ = none) := by
  refine ⟨_, coalesceRow rfl h, ?_⟩
  obtain ⟨hopen, -⟩ := closeOpen_bureau (runAll s)
  exact hopen

theorem completes_memoryRequest {s : State} {r : Fin 8} {q : Req} {c : Nat} (hup : boardUp s = true)
    (haway : serveAway s = none) (hw : winner s = some (q, c)) (hr : q.r = r.val) :
    Completes (.memoryRequest r) s (fun t => t = grantReq s q c) := by
  have hrow : memoryRequestOp s r.val = serveIf s r.val := if_pos hup
  exact completes_granted (congrArg Host.Outcome.next hrow) haway hw hr

theorem completes_capQueueDrain {s : State} {q : Req} {c : Nat} (hup : boardUp s = true)
    (haway : serveAway s = none) (hw : winner s = some (q, c)) (hr : q.r = 0) :
    Completes .capQueueDrain s (fun t => t = grantReq s q c) := by
  have hrow : capQueueDrainOp s = serveIf s 0 := if_pos hup
  exact completes_granted (congrArg Host.Outcome.next hrow) haway hw hr

end Sys2Proof.Machine

/-!
Every row completes (00, 02 to 15; O60).
-/

namespace Sys2Proof.Machine

/-- Settles O60, row by row: what each statement of a family says of its rows gives the row's completion. -/
theorem rowsComplete : Obligations.RowsComplete := by
  refine ⟨?opcodes, ?writes, ?ports, ?power, ?sequencer, ?cycles, ?units, ?memory, ?tamper, ?display⟩
  case opcodes =>
    exact fun l s h hn => ⟨completes_nop h hn, completes_commit h hn, fun _ v hr => completes_wr h hn v hr,
      fun _ a o hr => completes_rmw h hn a o hr,
      fun _ _ _ _ _ _ _ _ _ _ _ hi hat hm hreq => completes_memoryRow h hi hat hm hreq,
      fun _ _ _ _ _ hok h3 hd hi hlen => completes_dispRect h hn hok h3 hd hi hlen,
      fun _ hok hlen hfree => completes_dispBlink h hn hok hlen hfree,
      fun hd h0 htim => completes_dispPowerUp h hn hd h0 htim, fun hst => completes_dispPowerDown h hn hst,
      completes_authChal h hn, fun _ _ _ _ hold hb hkey => completes_keyLoad h hn hold hb hkey,
      fun hfree hstop => completes_saves h hfree hstop, fun _ v hq hi hw => completes_energyPreset h hn v hq hi hw,
      fun henum hpos hup hdn => completes_chainEnum h hn henum hpos hup hdn, completes_resetSoft h hn⟩
  case writes =>
    intro p v s hup hw
    obtain ⟨hhalt, hgo, hsave, harm, hforce, hstop⟩ := actionsWait p s hup
    obtain ⟨-, hwake, hcursor, hlow, hceil, hdomain, hproc⟩ := storedSettings p v false s hup hw
    refine ⟨.of hhalt fun t ⟨h, _⟩ => by rw [h], .of hgo fun t ⟨h, _⟩ => by rw [h],
      fun hs => .of hsave fun t ⟨h, _⟩ => by rw [h, hs]; rfl, .of harm fun t ⟨h, _⟩ => by rw [h],
      .of hforce fun t ⟨h, _⟩ => by rw [h], .of hstop fun t ⟨h, _⟩ => by rw [h]; exact ⟨rfl, rfl⟩, fun on hm => ?_,
      .of hwake fun t ⟨h, hl, _⟩ => ⟨by rw [h, and_stored], hl⟩, .of hcursor fun t ⟨h, _⟩ => h,
      .of hlow fun t ⟨h, _⟩ => by rw [h, and_stored], .of hceil fun t ⟨h, _⟩ => h,
      .of hdomain fun t ⟨h, _⟩ => by rw [h, and_stored], .of hproc fun t ⟨h, _⟩ => by rw [h, and_stored], fun a => ?_,
      fun k r hk hr => ?_, completes_recStageCfg p v hup, completes_flEn p v hup hw, completes_chainCtrl p v hup hw,
      completes_auxCtrl p v hup hw, fun n r hr hq => completes_registerWrite p v hup hw hr hq⟩
    · obtain ⟨hfreeze, -⟩ := storedSettings p v on s hup hw
      exact .of (hfreeze hm) fun t ⟨h, hd, _⟩ => ⟨h, by rw [hd]⟩
    · obtain ⟨htamp, -⟩ := guardedSettings p a v 0 s hup hw
      exact .of htamp fun t ⟨h, _⟩ => by rw [h, and_stored]
    · obtain ⟨-, hsealed⟩ := guardedSettings p false v k s hup hw
      obtain ⟨t, r', hr', ht, h, -⟩ := hsealed hk
      exact ⟨t, ht, Option.some.inj (hr'.symm.trans hr) ▸ h⟩
  case ports =>
    intro cyc n now b chars stops f p s
    obtain ⟨-, -, hgap, -⟩ := maintenanceFramesAreChecked cyc chars stops s
    obtain ⟨hread, -, htransmit, hsent, hrelease⟩ := repliesLeaveAndNoncesEnd.1 n s
    obtain ⟨-, -, hnonce, hlock⟩ := repliesLeaveAndNoncesEnd.2 p now s
    obtain ⟨-, hserve, -⟩ := framesAndPeers.2 f s
    refine ⟨fun hup hfree hwhole hpass hauth => completes_hostPacketWrite hup hfree hwhole hpass hauth,
      fun hon hstop hne hlen hfree hwhole hsize hpass hauth =>
        completes_maintFrame rfl hon hstop hne hlen hfree hwhole hsize hpass hauth,
      fun hon => ⟨_, hgap hon, rfl⟩, fun h hc hd hl _ _ hi => completes_passedOn h hc hd hl hi,
      fun h hc => completes_enumFrame h hc, fun _ hw => completes_forwardTimeout hw,
      fun r hr hl hn => .of (hread r hr hl hn) fun t ⟨h, _⟩ => h,
      fun _ hup hp he hdue => completes_deniedReply hup hp he hdue,
      fun x hx hx' => .of ((hnonce x hx).1 hx') fun t ⟨h, _⟩ => h,
      fun x hx hx' => .of ((hlock x hx).1 hx') fun t ⟨h, _⟩ => h,
      fun h => ⟨_, htransmit h, rfl⟩, fun h => .of (hsent h) fun t ⟨hr, hs, _⟩ => ⟨hs, hr⟩,
      fun k hk hk' hr => ⟨_, hrelease k hk hk' hr, rfl⟩, fun h => ⟨_, hserve h, rfl⟩,
      fun _ hq hup => completes_mrqBusyRetry hq hup, fun _ hq => completes_remoteTimeout hq,
      fun _ he ht => completes_enumTimeout he ht, fun wired hon hnot => ?_, fun d x hon hg h5 h2 h4 hst => ?_,
      fun d hcore h1 h64 hrx hpos hheld hdriven => ?_, fun d hcore h1 => ?_⟩
    · obtain ⟨htest, -⟩ := linksComeAndGo .up 0 s
      obtain ⟨hopen, hwired⟩ := htest hon hnot
      cases wired with
      | false => exact .of hopen fun t ⟨h, hw, _⟩ => ⟨h, hw⟩
      | true => exact .of hwired fun t ⟨h, hw, _⟩ => ⟨h, hw⟩
    · obtain ⟨-, hidle, -⟩ := linksComeAndGo d x s
      exact .of ((hidle hon hg).2 h5 h2 h4 hst) fun t ⟨h, _⟩ => h
    · obtain ⟨-, -, hup, -⟩ := linksComeAndGo d 0 s
      exact .of (hup hcore h1 h64 hrx hpos hheld hdriven) fun t ⟨h, _⟩ => h
    · obtain ⟨-, -, -, hdown, -⟩ := linksComeAndGo d 0 s
      exact .of (hdown hcore h1) fun t ⟨h, _⟩ => h
  case power =>
    intro mv vaux vbc d s
    obtain ⟨hpd1, hcold, -, hshunt, hvaux⟩ := suppliesComeAndSink.1 mv vaux s
    obtain ⟨hlow, hauto, -, hdown⟩ := suppliesComeAndSink.2 mv s
    obtain ⟨-, -, hvbc, -⟩ := suppliesComeAndSink.2 vbc s
    obtain ⟨hpfail, -, hoff, -, hlost⟩ := suppliesFail mv s
    obtain ⟨hreset, hramp, hpd0, -⟩ := domainsStart d 0 0 s
    obtain ⟨-, -, -, hsource⟩ := domainsStart d mv vbc s
    refine ⟨fun h hmv => .of (hpd1 h (.inl hmv)) fun t ⟨h, _, _, _, _, h1, _⟩ => ⟨h, h1⟩,
      fun h hc hs hmv => .of (hcold h hc hs hmv) fun t ⟨h, _⟩ => h,
      fun h ht => .of (hreset h ht).1 fun t ⟨h, hp, _⟩ => ⟨by rw [h]; rfl, hp⟩,
      fun h hmv hc hg ha => .of (hpfail h hmv (.inl hc) hg ha) fun t ⟨h, _⟩ => h,
      fun h hmv ha => .of (hoff h hmv ha) fun t ⟨h, _, hon, _⟩ => ⟨h, hon⟩,
      .of hlost fun t ⟨h, _, _, hp, _⟩ => ⟨h, hp⟩, fun h hs hmv => .of (hshunt h hs hmv) fun t ⟨h, _⟩ => h,
      fun h hb hmv => .of (hlow h hb hmv) fun t ⟨h, _⟩ => h, fun h ha hmv => .of (hauto h ha hmv) fun t ⟨h, _⟩ => h,
      fun h hv hmv => .of (hvaux h hv hmv) fun t ⟨h, _⟩ => h, fun hv hmv => .of (hdown hv hmv) fun t ⟨h, _⟩ => h,
      fun hv hmv => .of (hvbc hv hmv) fun t ⟨_, h, _⟩ => h, fun hc hg ⟨c, h4, h9, hmv, hgr⟩ => ?_,
      fun h => .of (hramp h) fun t ⟨h, _⟩ => h, fun h => ⟨_, hpd0 h, rfl⟩,
      .of hsource fun t ⟨hv, hb, _⟩ => ⟨hv, hb⟩, fun hg hop => ?_⟩
    · obtain ⟨-, hrevoke, -⟩ := floorsRevoke mv s hc hg
      exact ⟨_, hrevoke ⟨c, by simp [h4, h9, hmv], hgr⟩, rfl⟩
    · obtain ⟨hbureau, henergy, hpanel, hend⟩ := gaspStages mv s hg hop
      exact ⟨fun r hb ho hblank => .of ((hbureau hb).2 r ho hblank) fun t ⟨ho, he, _⟩ => ⟨he, ho⟩,
        fun hb he hr hblank => .of ((henergy hb he).2 hr hblank) fun t ⟨he, hs, _⟩ => ⟨he, hs⟩,
        fun hs he hl => ⟨_, hpanel hs he hl, rfl⟩,
        fun hb he hp => .of (hend hb he hp) fun t ⟨hst, _, hon, _⟩ => ⟨hst, hon⟩⟩
  case sequencer =>
    intro e s
    obtain ⟨hboundary, -⟩ := boundaryInItsOrder e s
    obtain ⟨hcold, hload, hrestore, hstop, hreset⟩ := sequencerMovesAndWakes.1 s
    obtain ⟨hwake, hmism⟩ := sequencerMovesAndWakes.2 s
    refine ⟨fun hoff hg hd hl => ⟨_, hboundary hoff hg hd hl, rfl⟩, fun hst ht hd htrim => ?_, fun hst hd hr hf hok => ?_,
      fun hst hr hd => .of (hrestore hst hr hd) fun t ⟨h, _⟩ => h,
      fun hr hrun hs => .of (hstop hr hrun hs) fun t ⟨h, ho, _⟩ => ⟨h, ho⟩,
      fun h => .of (hreset h) fun t ⟨h, hs, _⟩ => ⟨h, hs⟩,
      fun hc hg hw k hk hp hm => .of (hmism hc hg hw k hk hp hm) fun t ⟨h, _⟩ => h,
      fun hrun hu ht hd hl hw => .of (hwake hrun hu ht hd hl hw) fun t ⟨_, h, _⟩ => h⟩
    · exact .of (hcold hst ht hd) fun t ⟨_, h, _⟩ => (h htrim).1
    · obtain ⟨-, -, hend⟩ := hload hst hd
      exact .of (hend hr hf) fun t ⟨_, h⟩ => (h hok).2
  case cycles =>
    intro x s
    obtain ⟨hhalf, -⟩ := crossingsAndCycles.2 s
    refine ⟨fun hrun hi hsched hon hent href hraw => ?_,
      fun hrun hi hon hd hcross => .of (hhalf hrun hi hon hd (.inl hcross)) fun t ⟨hp, hn, _⟩ => ⟨hp, hn⟩,
      completes_cyclePublication, fun _ hrun hi hd hj hr => completes_harmonicPublication hrun hi hd hj hr,
      fun _ hrun hi hd hend hj hr hw => completes_bgShort hrun hi hd hend hj hr hw, completes_periodicSave,
      fun _ _ ho hg _ _ => completes_energySaveDone ho hg, fun _ ho => completes_energyErased ho, fun hrun hon hlen => ?_⟩
    · obtain ⟨hfly, -, hnominal, hacquire⟩ := crossingsAndCycles.1 s hrun hi hsched hon hent href hraw
      exact ⟨fun hst he hd => .of (hfly hst he hd) fun t ⟨h, _, hl, _⟩ => ⟨h, hl⟩,
        fun hst he hd => .of (hnominal hst he hd) fun t ⟨_, hl, he, _⟩ => ⟨hl, he⟩,
        fun hst hp he hd => .of (hacquire hst hp he hd) fun t ⟨h, _⟩ => h⟩
    · obtain ⟨hstart, hend⟩ := (pulsesStartAndEnd x s).1 hrun hon hlen
      exact ⟨fun i hi hnot => .of (hstart i hi hnot) fun t ⟨h, _⟩ => h, fun he => .of (hend he) fun t ⟨h, _⟩ => h⟩
  case units =>
    intro c g d n neg x s
    obtain ⟨hstep, hrotation⟩ := stoolStepsAndSwitches.1 s
    obtain ⟨htake, hhand⟩ := stoolStepsAndSwitches.2 s
    obtain ⟨hover, -, hpeak, -⟩ := convertersAndDetectors.1 c neg g x s
    obtain ⟨hdet, hsettle⟩ := convertersAndDetectors.2 d c s
    obtain ⟨htimer, hdelay, -⟩ := processWindows.1 false 0 s
    obtain ⟨hfixed, hpwm, hline, -⟩ := processWindows.2.1 0 false 0 0 0 false s
    obtain ⟨hpark, -⟩ := processWindows.2.2 n s
    refine ⟨⟨fun hdue => .of (hstep hdue) fun t ⟨h, _⟩ => h, fun hd hnot => .of (hrotation hd hnot) fun t ⟨h, _⟩ => h,
        fun hdue hb => .of ((htake hdue).1 hb) fun t ⟨hc, hst, _⟩ => ⟨hc, hst⟩,
        fun hdue ho _ => .of ((htake hdue).2.2 ho) fun t ⟨_, hd, hc, _⟩ => ⟨hd, hc⟩,
        fun hdue hb ht hlen => .of ((hhand hdue).1 hb ht hlen) fun t ⟨h, _⟩ => h,
        fun hdue ho hs => .of ((hhand hdue).2 ho hs) fun t ⟨h, hc, _⟩ => ⟨h, hc⟩,
        fun hon hsel hper hu hd hb => ⟨_, (htimer hon hsel hper hu hd).2 hb, rfl⟩,
        fun hc h1 hlen hd => .of (hsettle hc h1 hlen hd) fun t ⟨h, _⟩ => h⟩,
      fun hc hw hlen => .of (hover hc hw hlen) fun t ⟨ho, hy, _⟩ => ⟨ho, hy⟩,
      fun hc hg hw hd hq => .of (hpeak hc hg hw hd hq) fun t ⟨h, _⟩ => h,
      fun hrun hi hd hon hlen ha hn => .of (hdet hrun hi hd hon hlen ha hn) fun t ⟨h, _, _, hp, _⟩ => ⟨h, hp⟩,
      fun h => .of (hdelay h) fun t ⟨h, _⟩ => h, fun cyc rising hu hseen hon hb he hw hm => ?_,
      fun h => ⟨_, hfixed h, rfl⟩, fun h => ⟨_, hpwm h, rfl⟩,
      fun m k r hdue he hon hb ho hm => ⟨_, (hline m k r hdue he hon hb).1 ho hm, rfl⟩, fun pair b net rd w sat v hv => ?_,
      fun hp hl => .of (hpark hp hl) fun t ⟨h, _⟩ => h⟩
    · obtain ⟨-, -, htrig, -⟩ := processWindows.1 rising cyc s
      exact .of (((htrig hu hseen hon).1 hb he).1 hw hm) fun t ⟨h, _⟩ => h
    · obtain ⟨-, -, -, -, hend⟩ := processWindows.2.1 pair b net rd w sat s
      exact .of (hend v hv) fun t ⟨h, _⟩ => by rw [h, List.length_append]; rfl
  case memory =>
    intro r k s
    obtain ⟨hclose, hhour⟩ := bureauClosesAndPrograms.1 s
    refine ⟨fun hup haway => ⟨fun _ _ hw hr => completes_memoryRequest hup haway hw hr,
        fun _ _ hw hr => completes_capQueueDrain hup haway hw hr,
        fun _ _ hmore hw hr => completes_recordStage hup haway hmore hw hr⟩,
      completes_capDone, fun hlim hf _ hw hq => completes_arbStarve hlim hf hw hq, fun h _ => completes_bankInitDone h,
      fun hup hf hwin hbusy hpoi hback hlog hint hpos _ _ =>
        completes_scrubStep hup hf hwin hbusy hpoi hback hlog hint hpos,
      completes_scrubYield, completes_coalesceTimeout,
      fun hr hd => .of (hhour hr hd) fun t ⟨h, _⟩ => h, fun m e rest ho hq hg => ?_, fun m ho => ?_, fun m b ho => ?_,
      fun m ho => ?_, fun _ _ ho hm => completes_evidenceDone ho hm, completes_sealCheck,
      fun w _ hn hg => ⟨fun _ _ _ ho => completes_cfgSaveDone ho hg hn, fun _ _ _ ho => completes_calSealDone ho hg hn⟩⟩
    · obtain ⟨hrecord, -⟩ := bureauClosesAndPrograms.2 m s
      exact .of (hrecord e rest ho hq hg).1 fun t ⟨hqueue, _, _, hdata, _⟩ => ⟨hqueue, hdata⟩
    · obtain ⟨-, herase, -⟩ := bureauClosesAndPrograms.2 m s
      exact .of (herase ho) fun t ⟨h, _⟩ => h
    · obtain ⟨-, -, hentry, -⟩ := bureauClosesAndPrograms.2 m s
      exact .of (hentry b ho).1 fun t ⟨hnext, _, _, hdata, _⟩ => ⟨hnext, hdata⟩
    · obtain ⟨-, -, -, herase⟩ := bureauClosesAndPrograms.2 m s
      exact .of (herase ho) fun t ⟨_, hdata⟩ i hlo hhi => (hdata i).trans (if_pos ⟨hlo, hhi⟩)
  case tamper =>
    intro l ohms now tc s hw hpow
    obtain ⟨hloop, hcell, hsense, htemp, -⟩ := tamperSensesAndShadows.1 l ohms now tc s hw
    refine ⟨fun hsel hohms h0 hon => ?_, fun hstood hsrc hon => ?_, fun hup hon => .of ((hsense hpow hup).1 hon) fun t ⟨h, _⟩ => h,
      fun hup hon hc => ?_, fun hc ho htc => .of ((htemp hpow).1 hc ho htc) fun t ⟨hcond, ht, _⟩ => ⟨hcond, ht⟩,
      fun hup hregs hflags hfails => ⟨_, (tamperSensesAndShadows.2 now s hpow hup hregs).1 hflags hfails, rfl⟩⟩
    · exact .of ((hloop hpow hsel).1 hohms h0 hon) fun t ⟨_, hcond, hcount, _⟩ => ⟨hcond, hcount⟩
    · refine .of ((hcell hpow).2 hstood) fun t ⟨_, _, _, _, h⟩ => ?_
      obtain ⟨hcond, hcount⟩ := h hsrc
      exact ⟨hcond, (hcount hon).1⟩
    · obtain ⟨-, -, hslow⟩ := hsense hpow hup
      exact .of (hslow hc) fun t ⟨hcond, _, _, hcount⟩ => ⟨hcond, hcount hon⟩
  case display =>
    intro rail mv tc ohms s hon
    obtain ⟨hframe, -⟩ := railsAndFrames.2 s hon
    obtain ⟨-, hfault, hcrack, -, hdischarge, -⟩ := panelsGoDownAndLight.1 rail mv ohms s hon
    refine ⟨fun hst => ?_, fun hst => .of (hframe hst) fun t ⟨h, hf, hr, _⟩ => ⟨h, hf, hr⟩,
      fun hup hreq haway hst hrow => completes_rowRefresh hup hon hreq haway hst hrow,
      fun hup hst hreq haway q c hw hr => completes_rectCopyStep hup hon hst hreq haway hw hr,
      fun hbad hp hgl hgh hv hst => .of ((hfault hbad hp hgl hgh hv).1 hst) fun t ⟨h, _, hd, _⟩ => ⟨h, hd⟩,
      fun hst hohms => .of ((hcrack hst).1 hohms) fun t ⟨h, hc, _⟩ => ⟨h, hc⟩, fun hd => ?_, fun hc hreq hg => ?_,
      fun hc hsrc => ?_⟩
    · obtain ⟨hpavdd, hvgl, hvgh, hvcom, hstart, -⟩ := railsAndFrames.1 s hon hst
      exact ⟨fun h => .of (hpavdd h) fun t ⟨h, _⟩ => by rw [h]; exact ⟨rfl, rfl⟩,
        fun h => .of (hvgl h) fun t ⟨h, _⟩ => by rw [h]; exact ⟨rfl, rfl⟩,
        fun h => .of (hvgh h) fun t ⟨h, _⟩ => by rw [h]; exact ⟨rfl, rfl⟩,
        fun h => .of (hvcom h) fun t ⟨h, _⟩ => by rw [h]; exact ⟨rfl, rfl⟩,
        fun h => .of (hstart h) fun t ⟨h, hf, _, hx, _⟩ => ⟨h, hf, hx⟩⟩
    · obtain ⟨hoff, hend⟩ := hdischarge hd
      exact ⟨.of hoff fun t ⟨h, _⟩ => by rw [h]; exact ⟨rfl, rfl, rfl⟩, .of hend fun t ⟨h, _, hst, _⟩ => ⟨h, hst⟩⟩
    · obtain ⟨hlight, -⟩ := panelsGoDownAndLight.2 tc s hc
      exact .of (hlight hreq hg) fun t ⟨h, _⟩ => by rw [h]
    · obtain ⟨-, -, htemp, -⟩ := panelsGoDownAndLight.2 tc s hc
      exact .of (htemp hon hsrc) fun t ⟨h, _⟩ => h

end Sys2Proof.Machine
